-- ==== Sys2Proof/Word.lean ====
section
/-! DEFINITION. Bytes, bit fields, signed numbers, byte order (R357), the check codes of R456 and R457, and the small name types
(ports, images, links, doors, feeds) that every other file uses. -/

namespace Sys2Proof

/-- A byte of a frame, record or door command. -/
abbrev Byte := BitVec 8

/-- Downstream port index: variant port p of R4 is index p - 1. -/
abbrev Port := Fin 16

/-- Image number (R11). -/
abbrev Image := Fin 4

/-- Wyhelen link number (R68). -/
abbrev Link := Fin 4

/-- Facet index, or membership slot (R90). -/
abbrev Slot := Fin 16

/-- Reservoir stream number (R178). -/
abbrev Stream := Fin 256

/-- Breaker channel: 0 and 1 the feeds, 2 the collector, 3 to 18 the ports (R286). -/
abbrev Channel := Fin 19

/-- The five doors (R359). -/
inductive Door
  | can | upa | upb | loc | ring
  deriving DecidableEq, Repr

/-- The door number d used throughout the manual. -/
def Door.num : Door → Nat
  | .can => 0
  | .upa => 1
  | .upb => 2
  | .loc => 3
  | .ring => 4

/-- The door with a given number. -/
def doorOf : Nat → Option Door
  | 0 => some .can
  | 1 => some .upa
  | 2 => some .upb
  | 3 => some .loc
  | 4 => some .ring
  | _ => none

/-- The two feeds (R286). -/
inductive Feed
  | A | B
  deriving DecidableEq, Repr

/-- Feed number: 0 for A, 1 for B. -/
def Feed.num : Feed → Nat
  | .A => 0
  | .B => 1

/-- The other feed. -/
def Feed.other : Feed → Feed
  | .A => .B
  | .B => .A

/-- The two upstream ports (R3). -/
inductive Upstream
  | UA | UB
  deriving DecidableEq, Repr

/-- Upstream number: 0 for UA, 1 for UB. -/
def Upstream.num : Upstream → Nat
  | .UA => 0
  | .UB => 1

/-- What fuses and bonding fix at manufacture (R1, R2, R4, R9): no command changes it. -/
structure Ident where
  ports      : Nat
  wyhelen    : Bool
  dram       : Bool
  stepping   : Nat
  uniqueId   : Nat
  powerDieId : Nat
  deriving DecidableEq, Repr

/-- `VariantCode` (R2). -/
def Ident.variantCode (v : Ident) : Nat :=
  v.ports * 256 + (if v.wyhelen then 2 else 0) + (if v.dram then 1 else 0)

/-- `PackageCode` (R1, R9): FCBGA-784 for 16 and 12 ports, FCBGA-484 for 8 and 4. -/
def Ident.packageCode (v : Ident) : Nat := if 12 ≤ v.ports then 1 else 2

/-- `DomainState` with every domain that the variant has in state on (R310, R312): two bits per domain, 2 for on. DNA is absent
on the variants of 8 and 4 ports, RING on those without Wyhelen. -/
def Ident.domainsOn (v : Ident) : Nat :=
  0x8A2A + (if 8 < v.ports then 0x80 else 0) + (if v.wyhelen then 0x2000 else 0)

/-! ### Bits and fields -/

/-- Bit `i` of `n` set to `b`. -/
def setBit (n i : Nat) (b : Bool) : Nat :=
  if b then n ||| 2 ^ i else if n.testBit i then n - 2 ^ i else n

/-- Field [hi:lo] of a number. -/
def bitField (n hi lo : Nat) : Nat := n / 2 ^ lo % 2 ^ (hi + 1 - lo)

/-- A number with field [hi:lo] replaced. -/
def putBits (n hi lo x : Nat) : Nat :=
  n - bitField n hi lo * 2 ^ lo + x % 2 ^ (hi + 1 - lo) * 2 ^ lo

/-- The signed value of a two's complement number of `bits` bits (R357). -/
def signedOf (bits n : Nat) : Int :=
  if n < 2 ^ (bits - 1) then (n : Int) else (n : Int) - (2 ^ bits : Nat)

/-- The two's complement number of `bits` bits of a signed value. -/
def ofSigned (bits : Nat) (x : Int) : Nat := (x % (2 ^ bits : Nat)).toNat

/-- One for true. -/
def boolNat (b : Bool) : Nat := if b then 1 else 0

/-- How many of the first `n` bits are set. -/
def bitCount (n x : Nat) : Nat := ((List.range n).filter fun k => x.testBit k).length

/-! ### Byte order: most significant byte first on the UPA, UPB, LOC and RING doors (R357) -/

/-- The low byte of a number. -/
def byteOf (n : Nat) : Byte := BitVec.ofNat 8 n

/-- `n` bytes of a number, most significant first: the byte at place j stands for the multiples of 256 ^ (n − 1 − j). -/
def bytesBe (n x : Nat) : List Byte := (List.range n).map fun j => byteOf (x / 256 ^ (n - 1 - j))

/-- `n` bytes of a number, least significant first. -/
def bytesLe (n x : Nat) : List Byte := (bytesBe n x).reverse

/-- The number that bytes spell, most significant first. -/
def ofBytesBe (bs : List Byte) : Nat := bs.foldl (fun high b => 256 * high + b.toNat) 0

/-- The number that bytes spell, least significant first. -/
def ofBytesLe (bs : List Byte) : Nat := ofBytesBe bs.reverse

/-- The bytes of an ISO 646 string (R357). -/
def textBytes (t : String) : List Byte := t.toList.map fun c => byteOf c.toNat

/-- The byte at an offset, 0 past the end. -/
def byteAt (bs : List Byte) (k : Nat) : Nat := ((bs[k]?).getD 0).toNat

/-- The number in the `n` bytes from offset `k`, most significant first. -/
def fieldAt (bs : List Byte) (k n : Nat) : Nat := ofBytesBe ((bs.drop k).take n)

/-! ### Check codes -/

/-- Reverses the low `n` bits of a number. -/
def reflect : Nat → Nat → Nat
  | 0, _ => 0
  | n + 1, x => (x % 2) * 2 ^ n + reflect n (x / 2)

/-- `n` shifts of the reflected CRC-32 register. -/
def crc32Shift : Nat → Nat → Nat
  | 0, c => c
  | n + 1, c => crc32Shift n (if c % 2 = 1 then (c / 2) ^^^ 0xEDB88320 else c / 2)

/-- CRC-32 of R456: polynomial 0x04C11DB7 taken reflected, initial value and final XOR 0xFFFFFFFF. -/
def crc32 (bs : List Byte) : Nat :=
  (bs.foldl (fun c b => crc32Shift 8 (c ^^^ b.toNat)) 0xFFFFFFFF) ^^^ 0xFFFFFFFF

/-- `n` shifts of the CRC-16 register. -/
def crc16Shift : Nat → Nat → Nat
  | 0, c => c
  | n + 1, c => crc16Shift n (if c.testBit 15 then (c * 2 % 65536) ^^^ 0x1021 else c * 2 % 65536)

/-- CRC-16 of R457: polynomial 0x1021, initial value 0xFFFF, not reflected, no final XOR. -/
def crc16 (bs : List Byte) : Nat :=
  bs.foldl (fun c b => crc16Shift 8 (c ^^^ (b.toNat * 256))) 0xFFFF

/-- `n` shifts of the token CRC register (USB 2.0 token CRC, polynomial 0x05, sent reflected). -/
def crc5Shift : Nat → Nat → Nat → Nat
  | 0, _, c => c
  | n + 1, x, c =>
    crc5Shift n (x / 2) (if (x % 2) ^^^ (c / 16) = 1 then (c * 2 % 32) ^^^ 0x05 else c * 2 % 32)

/-- CRC5 of a token's address and endpoint, in the order its bits are sent (R49) (PRESUMED, log 24). -/
def crc5 (addr ep : Nat) : Nat := crc5Shift 11 (addr + 128 * ep) 0x1F ^^^ 0x1F

/-! ### Tables: sparse data by key, in one canonical form -/

/-- A table: a list of keys and values. A key that is not listed holds the default that `Table.get` names. -/
abbrev Table (κ α : Type) := List (κ × α)

/-- The value at a key. -/
def Table.get {κ α : Type} [DecidableEq κ] (d : α) (t : Table κ α) (k : κ) : α :=
  match t with
  | [] => d
  | (k', v) :: r => if k' = k then v else Table.get d r k

/-- Places a pair before the first key of higher order. -/
def Table.place {κ α : Type} (ord : κ → Nat) (k : κ) (v : α) : Table κ α → Table κ α
  | [] => [(k, v)]
  | (k', v') :: r => if ord k < ord k' then (k, v) :: (k', v') :: r else (k', v') :: Table.place ord k v r

/-- A table without a key. -/
def Table.drop {κ α : Type} [DecidableEq κ] (t : Table κ α) (k : κ) : Table κ α := t.filter fun e => decide (e.1 ≠ k)

/-- A table with a key set: a value equal to the default is not listed, so that equal tables are equal data. -/
def Table.put {κ α : Type} [DecidableEq κ] [DecidableEq α] (ord : κ → Nat) (d : α) (t : Table κ α) (k : κ) (v : α) :
    Table κ α :=
  if v = d then t.drop k else Table.place ord k v (t.drop k)

end Sys2Proof
end

