-- ==== Sys2Proof/Syntax.lean ====
section
/-! DEFINITION. The commands of the block: one constructor of `Instr` for each row of the table of operations and events, and
the small types of their operands. An operand carries what the world outside the facet decides (what a host, a device, a
partner, a peer facet or the board sends); everything else a command does is read from the state. -/

namespace Sys2Proof

/-- Which of the facet's own USB functions a request addresses (R25, R30, R159). -/
inductive Fn
  | hub (i : Image)
  | emb (i : Image)
  | standby (u : Upstream)
  deriving DecidableEq, Repr

/-- Recipient of GET_STATUS (R32). -/
inductive Recipient
  | device | iface | endpoint
  deriving DecidableEq, Repr

/-- Target of a control request: one of the facet's functions, or the device at a host address of an image. For address 0, `m` is
the logical port whose device answers. -/
inductive CtlTarget
  | fn (f : Fn)
  | dev (i : Image) (addr m : Nat)
  deriving DecidableEq, Repr

/-- How a control transfer is cut short before its status stage, if it is (R34). -/
inductive Cut
  | whole | reset | setup
  deriving DecidableEq, Repr

/-- Outcome of the downstream high-speed detection handshake (R39). -/
inductive Chirp
  | completed | absent | malformed
  deriving DecidableEq, Repr

/-- What a device answers to one transaction (R64, R65). -/
inductive DevAnswer
  | data (bytes : List Byte) (toggle : Bool)
  | ack | nak | nyet | stall | crcError | badPid
  deriving DecidableEq, Repr

/-- Token kinds a host sends (R49, R65); `ext` is the LPM extended token. -/
inductive TokPid
  | out | input | setup | ping | ext
  deriving DecidableEq, Repr

/-- A host token with the data PID and payload that follow it (R49, R50). `port` is the logical port whose device answers a token to
address 0, 0 where nothing tells it. -/
structure Token where
  pid    : TokPid
  addr   : Nat
  ep     : Nat
  crcOk  : Bool
  pidOk  : Bool
  toggle : Bool
  data   : List Byte
  port   : Nat := 0
  deriving DecidableEq, Repr

/-- A start- or complete-split (R57, R125, R126): the port it names, the full- or low-speed transaction, and the host's micro-frame
count (frame × 8 + micro-frame). `external` is none for a split addressed to the hub function; otherwise it is the host address of the
external hub that the split is addressed to, and what that hub answers, if anything (R54). -/
structure Split where
  port     : Nat
  addr     : Nat
  ep       : Nat
  dirIn    : Bool
  setup    : Bool
  periodic : Bool
  iso      : Bool
  micro    : Nat
  toggle   : Bool
  data     : List Byte
  external : Option (Nat × Option DevAnswer)
  deriving DecidableEq, Repr

/-- What a DOOR frame carries (R362, R369, R370): a command, an answer, or a notification that a peer forwards. -/
inductive DoorBody
  | command (bytes : List Byte)
  | answer (bytes : List Byte)
  | notice (bytes : List Byte)
  deriving DecidableEq, Repr

/-- The bytes carried. -/
def DoorBody.bytes : DoorBody → List Byte
  | .command b => b
  | .answer b => b
  | .notice b => b

/-- The structured VDMs of the Wyhelen entry exchange (R70), with the fields of the Mode VDO that matter (R71). -/
inductive VdmCmd
  | cableIdentity | identity | svids | modes | enterMode
  deriving DecidableEq, Repr

/-- The identity a partner sends in its TS2 groups (R78). -/
structure Ts2 where
  uid         : Nat
  prismId     : Nat
  epoch       : Nat
  link        : Nat
  memberState : Nat
  version     : Nat
  rate        : Nat
  origin      : Nat
  deriving DecidableEq, Repr

/-- What the link layer finds wrong with a received frame, if anything (R84, R85, R110). -/
inductive FrameFault
  | good | symbol | header | crc | stomped | noCredit | shape
  deriving DecidableEq, Repr

/-- The header fields of a received frame that its receiver acts on (R82). -/
structure FrameHdr where
  src      : Nat
  dst      : Nat
  bcast    : Bool
  provoked : Bool
  image    : Nat
  linkSeq  : Nat
  ackSeq   : Nat
  hopsLeft : Nat
  length   : Nat
  tag      : Nat
  epoch    : Nat
  fault    : FrameFault
  deriving DecidableEq, Repr

/-- One link of a link-state frame (R83). -/
structure LinkInfo where
  partner     : Nat
  partnerLink : Nat
  state       : Nat
  latency     : Nat
  deriving DecidableEq, Repr

/-- A link-state frame (R83, R97): the originator's unique ID, its sequence number and its link table. -/
structure LsfBody where
  uid   : Nat
  seq   : Nat
  links : List LinkInfo
  deriving DecidableEq, Repr

/-- What a SYNC frame carries (R47, R51, R61, R143, R148, R170, R174, R230). -/
inductive SyncBody
  | frame (i : Image) (frame micro time : Nat)
  | xlate (i : Image) (addr word pairs : Nat)
  | wakeK (i : Image) (m : Nat)
  | record (i : Image) (m : Nat) (bytes : List Byte)
  | arm (i : Image) (v : Bool)
  | holdEntry (i : Image) (cause time lastSof count : Nat)
  | holdState (i : Image) (state : Nat)
  | held (i : Image) (m : Nat) (v : Bool)
  | holdInfo (i : Image) (values : List Nat)
  | upstream (i : Image) (mirror v : Bool)
  | recordFetch (adopting : Nat)
  | anchor (bytes : List Byte)
  deriving DecidableEq, Repr

/-- A write to one dictionary entry. -/
structure RegWrite where
  index  : Nat
  sub    : Nat
  offset : Nat
  data   : List Byte
  deriving DecidableEq, Repr

/-- A lock request as the keeper sees it (R105). -/
structure LockReq where
  facet : Nat
  door  : Door
  tag   : Nat
  deriving DecidableEq, Repr

/-- What a LOCK frame tells a member (R105, R106). -/
inductive LockBody
  | grant (q : LockReq) (expiry : Nat)
  | renew (expiry : Nat)
  | lost
  | lapse
  | release
  deriving DecidableEq, Repr

/-- What PREPARE says of the prism that forms: its epoch, its ID and whether its set is the automatic one (R107, R119). -/
structure PrismTag where
  epoch  : Nat
  prism  : Nat
  origin : Nat
  deriving DecidableEq, Repr

/-- The relay header of R124. -/
structure RelayHdr where
  kind      : Nat
  localPort : Nat
  devAddr   : Nat
  setup     : Bool
  epType    : Nat
  dirIn     : Bool
  ep        : Nat
  maxPacket : Nat
  count     : Nat
  result    : Nat
  seq       : Nat
  length    : Nat
  stamp     : Nat
  deriving DecidableEq, Repr

/-- The contents of a PORT_STATUS record (R123). -/
structure PortStatusBody where
  status : Nat
  change : Nat
  state  : Nat
  speed  : Nat
  deriving DecidableEq, Repr

/-- A hub-class port request, direct or carried to the owning facet (R32, R123). A reset brings the adopting facet's
`AdoptResetAbsorbLimit` (R164, R174). -/
inductive PortReq
  | power (v : Bool)
  | reset (limit : Nat)
  | suspend (v : Bool)
  | disable
  | test (sel : Nat)
  | clearChange (bit : Nat)
  | upstreamReset
  | ttClear (addr ep : Nat)
  | ttReset
  | ttStop
  deriving DecidableEq, Repr

/-- An ECHO frame's payload (R217). Stamps count 2⁻¹⁶ ns. -/
structure EchoBody where
  seq           : Nat
  txPrev        : Nat
  rxLast        : Nat
  rxSeq         : Nat
  focalId       : Nat
  focalPriority : Nat
  focalPps      : Bool
  steps         : Nat
  deriving DecidableEq, Repr

/-- What an uncorrectable error of the on-chip SRAM damages (R194, R348): data of a stream at a byte offset of its region, a packet
cell of a relayed endpoint, the endpoint table of a host address, a translator's split, the Lens buffer, the steward's memory, a
staged value, an adoption record, or nothing in use. -/
inductive SramHit
  | stream (n : Stream) (off : Nat)
  | cell (i : Image) (addr ep : Nat) (dirIn : Bool)
  | table (i : Image) (addr : Nat)
  | split (p : Port) (addr ep : Nat) (dirIn : Bool)
  | lens
  | steward
  | staged (index sub : Nat)
  | record (i : Image) (m : Nat)
  | other
  deriving DecidableEq, Repr

/-- Where a staged prism-wide write comes from: a door of this facet, or a COMMIT frame (R104). -/
inductive StageSrc
  | door (d : Door)
  | frame (k : Link) (h : FrameHdr)
  deriving DecidableEq, Repr

/-- What a port's CC pins show when the attach debounce ends (R244): Rd on one pin (`pin2`: on CC2) with or without Ra on the other,
Rd on both, or Ra on both; `first` is a connection that has just been seen, whose debounce starts (R248). -/
inductive CcSeen
  | first
  | rd (pin2 ra : Bool)
  | rdBoth
  | raBoth
  deriving DecidableEq, Repr

/-- A received PD message as the hub acts on it: its Specification Revision (0 is 1.0, 1 is 2.0, 2 is 3.x) and MessageID (R254, R281), the
partner's Rp level as a Sink port reads it then (R284), whether the message crosses a transmission of the hub that has no GoodCRC yet
(R275), and the version of a structured VDM (0 is 1.0, 1 is 2.0, R277). -/
structure PdHdr where
  rev     : Nat
  id      : Nat
  rp      : Nat  := 0
  crossed : Bool := false
  svdm    : Nat  := 1
  deriving DecidableEq, Repr

/-- What the watch of the last 5 ms of an insertion delay sampled (R293): COLL_SNS at its first and last sample, in mV, and the most current
that the feed channel carried forward, in mA. -/
structure CollWatch where
  first : Nat
  last  : Nat
  most  : Nat
  deriving DecidableEq, Repr

/-- A cable's answer on SOP′ (R252, R257): ACK or NAK, and its MessageID. -/
structure CableAnswer where
  ack : Bool
  id  : Nat
  deriving DecidableEq, Repr

/-- PD messages without a service (R259, R281). -/
inductive PdOther
  | extended | unstructuredVdm | unknown | unchunked | vdmUnknown (cmd svid : Nat)
  deriving DecidableEq, Repr

/-- Messages that are recorded without an answer (R259). -/
inductive PdNotice
  | notSupported | reject | alert
  deriving DecidableEq, Repr

/-- What a poll of a port regulator finds (R265, R266): whether the write was ACKed and STATUS_WORD is clear, the measured VBUS in mV
and its current in mA, and whether the regulator limits current. -/
structure RegPoll where
  good  : Bool
  mv    : Nat
  ma    : Nat
  limit : Bool
  deriving DecidableEq, Repr

/-- A wake source that fires in the same cycle (R328): its code and detail (R322, R329). -/
structure WakeSeen where
  source : Nat
  detail : Nat
  deriving DecidableEq, Repr

/-- What a sleeping downstream port shows (R322). -/
inductive PortWake
  | remoteWake | connect | disconnect | tcAttach | tcDetach
  deriving DecidableEq, Repr

/-- What a sleeping upstream shows (R322). -/
inductive UpWake
  | resume | reset | vbus
  deriving DecidableEq, Repr

/-- The commands of the table of operations and events (spec/opcode_table.json), one constructor for each row, in its order. -/
inductive Instr
  /-- R17. The PLL loses lock: only XO and AON run, the time counter steps in 40 ns from XO, and the PD message layer stops. -/
  | pllUnlock
  /-- R210. The PLL relocks: the time counter returns to TIME edges without a step, and the servo, stamps and launches resume. -/
  | pllRelock
  /-- R21. A free HS engine context is granted to waiting work in the order hold-over, launches, then relay round-robin. -/
  | hsEngineContextGrant
  /-- R35. Reset on an image's active upstream returns the hub function to Default; ports power off (unarmed) or are kept (armed). -/
  | upstreamReset (u : Upstream) (midControl : Bool) (hs : Bool)
  /-- R32. A standard GET_STATUS to the hub function is answered with its device, interface or endpoint status. -/
  | getStatus (f : Fn) (r : Recipient) (ep : Nat)
  /-- R32. Enables remote wake-up of the hub function. -/
  | setFeatureDeviceRemoteWakeup (f : Fn)
  /-- R32. Disables remote wake-up of the hub function. -/
  | clearFeatureDeviceRemoteWakeup (f : Fn)
  /-- R32. Halts EP1 IN of the hub function. -/
  | setFeatureEndpointHalt (t : CtlTarget) (ep : Nat)
  /-- R32. Clears the halt of EP1 IN and resets its toggle to DATA0. -/
  | clearFeatureEndpointHalt (t : CtlTarget) (ep : Nat)
  /-- R32. Enters a test mode on the upstream port after the status stage. -/
  | setFeatureTestMode (i : Image) (sel : Nat)
  /-- R49. Applies a new address after the status stage and creates a translation entry for the port that answered at address 0. -/
  | setAddress (t : CtlTarget) (addr : Nat) (cut : Cut)
  /-- R32. Returns a device, configuration, other-speed, qualifier, string, BOS or hub descriptor. -/
  | getDescriptor (t : CtlTarget) (kind : Nat) (index : Nat) (answer : List Byte)
  /-- R32. Returns the hub function's configuration value. -/
  | getConfiguration (f : Fn)
  /-- R32. Sets configuration 0 or 1; 0 returns the hub to the Address state. -/
  | setConfiguration (t : CtlTarget) (value : Nat) (cut : Cut)
  /-- R32. Returns the hub interface's alternate setting. -/
  | getInterface (f : Fn)
  /-- R56. Selects single-TT or multi-TT operation for the image. -/
  | setInterface (t : CtlTarget) (iface : Nat) (alt : Nat)
  /-- R32. Returns the hub status and change bits. -/
  | getHubStatus (i : Image)
  /-- R32. Clears C_HUB_LOCAL_POWER or C_HUB_OVER_CURRENT. -/
  | clearHubFeature (i : Image) (feature : Nat)
  /-- R36. Returns wPortStatus and wPortChange of a logical port. -/
  | getPortStatus (i : Image) (m : Nat)
  /-- R42. Grants the port permission to source VBUS, and re-arms a tripped breaker when PortRearmByHost is TRUE. -/
  | setPortFeaturePortPower (i : Image) (m : Nat)
  /-- R39. Starts a port reset with the high-speed detection handshake, or absorbs it on a held port. -/
  | setPortFeaturePortReset (i : Image) (m : Nat)
  /-- R58. Suspends the port at the next micro-frame boundary and discards its buffered splits. -/
  | setPortFeaturePortSuspend (i : Image) (m : Nat)
  /-- R33. Puts an eligible port into a test mode, or STALLs. -/
  | setPortFeaturePortTest (i : Image) (m : Nat) (sel : Nat)
  /-- R37. Disables the port and abandons a running resume. -/
  | clearPortFeaturePortEnable (i : Image) (m : Nat)
  /-- R42. Ends any contract, switches VBUS off with discharge, removes VCONN and sends the port to Powered-off. -/
  | clearPortFeaturePortPower (i : Image) (m : Nat)
  /-- R60. Starts a 20 ms resume of a selectively suspended port. -/
  | clearPortFeaturePortSuspend (i : Image) (m : Nat)
  /-- R32. Clears a port change bit. -/
  | clearPortFeatureCPort (i : Image) (m : Nat) (bit : Nat)
  /-- R57. Frees the TT buffer that holds the named device and endpoint. -/
  | clearTtBuffer (i : Image) (m : Nat) (addr : Nat) (ep : Nat)
  /-- R57. Discards every buffer and pipeline of the port's TT and ends the stopped state. -/
  | resetTt (i : Image) (m : Nat)
  /-- R57. Makes the TT answer every split with NAK until RESET_TT. -/
  | stopTt (i : Image) (m : Nat)
  /-- R32. A request that is unsupported or out of range is answered with STALL. -/
  | stalledRequest (f : Fn)
  /-- R38. A pull-up seen for 2.5 µs with VBUS in window reports a connection and moves the port to Disabled. -/
  | deviceConnect (p : Port) (lowSpeed : Bool)
  /-- R37. Type-C detach or a pull-up lost for 2.5 µs moves the port to Disconnected and invalidates its translation entries. -/
  | deviceDisconnect (p : Port)
  /-- R39. The reset time elapses: the port is enabled at the detected speed and C_PORT_RESET is set. -/
  | portResetComplete (p : Port) (chirp : Chirp)
  /-- R65. A device transmits past EOF2 or the FS EOF point: the port is disabled. -/
  | deviceBabble (p : Port)
  /-- R60. 20 ms of K and an EOP end a resume: PORT_SUSPEND clears and C_PORT_SUSPEND is set. -/
  | portResumeComplete (p : Port)
  /-- R61. A suspended device's K is judged and propagated as remote wake, or ignored as early. -/
  | deviceRemoteWake (p : Port)
  /-- R60. Resume signalled on the upstream is repeated to every globally suspended port of the image. -/
  | hostResume (u : Upstream)
  /-- R46. A host SOF locks the micro-frame timer and is repeated to the image's HS ports. -/
  | hostSof (u : Upstream) (frame : Nat) (micro : Nat)
  /-- R46. A micro-frame passes without SOF: SofMissCount increments while the upstream is configured and not suspended. -/
  | microframeWithoutSof (u : Upstream)
  /-- R59. An upstream idle for 3 ms suspends an unarmed or intent-declared image and stops its SOF on every facet. -/
  | upstreamIdleSuspend (u : Upstream)
  /-- R48. At each 1 ms frame a TT sends a full-speed SOF or an LS keep-alive on its port. -/
  | ttFrameSof (p : Port)
  /-- R49. A host token is routed to a port by the translation table, rewritten and its CRC5 recomputed. -/
  | hostToken (u : Upstream) (t : Token) (a : DevAnswer) (acked : Bool)
  /-- R57. A start-split is accepted into the TT pipeline or buffers, NAKed, dropped, or carried to a remote TT. -/
  | hostStartSplit (u : Upstream) (x : Split)
  /-- R126. A complete-split is answered with the result, NYET or ERR. -/
  | hostCompleteSplit (u : Upstream) (x : Split)
  /-- R126. A TT's full-speed transaction ends and its result is stored or returned as SPLIT_RESULT. -/
  | ttFsTransactionDone (p : Port) (answer : DevAnswer)
  /-- R64. No response within 816 HS bit times counts as an error of the engine transaction. -/
  | hsEngineResponseTimeout (n : Fin 4)
  /-- R64. An engine transaction ends with data, ACK, NAK, STALL or error, and the result and toggle go back to the requester. -/
  | hsEngineTransactionEnd (n : Fin 4) (answer : DevAnswer)
  /-- R70. 50 ms after an explicit contract the initiator starts the Wyhelen discovery exchange of structured VDMs. -/
  | wyhelenEntryStart (p : Port)
  /-- R277. A Discover Identity on SOP is answered with the ID Header, Cert Stat, Product and DFP VDOs. -/
  | discoverIdentitySop (p : Port) (h : PdHdr)
  /-- R278. Discover SVIDs is ACKed with 0x3A5D where Wyhelen is offered and NAKed elsewhere. -/
  | discoverSvids (p : Port) (h : PdHdr)
  /-- R278. Discover Modes for SVID 0x3A5D is ACKed with the Mode VDO; other SVIDs are NAKed. -/
  | discoverModes (p : Port) (h : PdHdr) (svid : Nat)
  /-- R72. The responder ACKs or NAKs Enter Mode for Wyhelen and records the reason for a refusal. -/
  | enterMode (p : Port) (h : PdHdr) (svid : Nat) (position : Nat)
  /-- R73. On the ACK both sides drop D+/D− terminations, switch the pairs to the SerDes and start training. -/
  | enterModeAck (p : Port)
  /-- R73. Exit Mode ends Wyhelen mode, takes the link down and sends the port to Disconnected. -/
  | exitMode (p : Port) (h : PdHdr)
  /-- R278. A received Attention VDM is ignored. -/
  | attention (p : Port) (h : PdHdr)
  /-- R78. Training starts with TS1 on both lanes, at the Enter Mode ACK or when RING turns on for a fixed link. -/
  | linkTrainingStart (k : Link)
  /-- R78. Training completes with 16 error-free IDL blocks each way and the link is up. -/
  | linkUp (k : Link) (g : Ts2) (laneMap : Nat)
  /-- R79. Training does not reach step 6 within 10 ms; the attempt fails and, after three failures, the link reads failed. -/
  | linkTrainTimeout (k : Link)
  /-- R79. A new training attempt starts 100 ms, or 1 s, after a failure. -/
  | linkTrainRetry (k : Link)
  /-- R80. Errors reach LinkErrorThreshold within 1 ms and the link retrains. -/
  | linkErrorThreshold (k : Link)
  /-- R80. TS1 from the partner on an up link starts a retrain. -/
  | ts1Received (k : Link)
  /-- R80. A retrain not complete within 1 ms, or a third retrain within 1 s, declares the link down. -/
  | retrainTimeout (k : Link)
  /-- R99. 1 µs without a valid block takes the link out of routing, floods an LSF and raises RING_LINKk. -/
  | linkSignalLoss (k : Link)
  /-- R86. A LINK frame delivers acknowledgements, NAKs and credits; a NAK starts a replay. -/
  | linkFrame (k : Link) (h : FrameHdr) (nak : Option Nat) (credits : List Nat)
  /-- R86. No acknowledgement 4 µs after a transmission replays from the oldest unacknowledged frame. -/
  | replayTimeout (k : Link)
  /-- R86. A LINK frame is sent at least every 2 µs while something is to be acknowledged. -/
  | linkAckDue (k : Link)
  /-- R77. A SKP block is sent between frames at least once every 1024 blocks. -/
  | skpDue (k : Link)
  /-- R97. A received LSF is forwarded and, if newer, updates the topology and switches routes. -/
  | lsf (k : Link) (h : FrameHdr) (b : LsfBody)
  /-- R97. A facet floods its LSF every 100 ms. -/
  | lsfPeriodic
  /-- R83. A SYNC frame delivers frame numbers, translation-table copies, remote-wake K, adoption records or arming. -/
  | syncFrame (k : Link) (h : FrameHdr) (b : SyncBody)
  /-- R91. The provisional set stays unchanged for FormationSettleTime and the lowest-ID facet commits the membership. -/
  | formationSettle
  /-- R94. A Syncing facet has fetched and stored the newer configuration and returns to Member. -/
  | syncingComplete (epoch : Nat) (values : List RegWrite)
  /-- R102. A write of 1 to FacetWithdraw broadcasts WITHDRAW and starts a 20 µs forwarding period. -/
  | facetWithdraw (d : Door)
  /-- R102. After 20 µs the withdrawing facet stops transit and image traffic and reads Withdrawn. -/
  | withdrawForwardEnd
  /-- R102. A write of 2 to FacetWithdraw returns the facet to routing by an LSF flood. -/
  | facetReturn (d : Door)
  /-- R102. A received WITHDRAW frame reroutes around the sender. -/
  | withdraw (k : Link) (h : FrameHdr)
  /-- R105. A non-zero write to PrismLockRequest sends a lock request to the keeper. -/
  | prismLockRequest (d : Door) (tag : Nat)
  /-- R105. A write of 0 to PrismLockRequest releases a held lock or withdraws a pending request. -/
  | prismLockRelease (d : Door)
  /-- R105. The keeper grants a free lock to the first request and broadcasts the grant; losers are told. -/
  | lockRequestAtKeeper (requests : List LockReq)
  /-- R105. A lock grant, loss or lapse frame received updates the member's lock state and lease record. -/
  | lockGrant (k : Link) (h : FrameHdr) (b : LockBody)
  /-- R105. After a lost request's back-off the steward retries, or gives up after eight losses. -/
  | lockBackoffExpiry
  /-- R106. The lock facet's steward renews the 50 ms lease every 20 ms. -/
  | lockRenew
  /-- R106. Prism time passes the lease expiry: staged prism-wide values are discarded and PRISM_LEASE is raised. -/
  | leaseLapse
  /-- R106. The holding door is idle for PrismLockIdleLimit and the steward stops renewing. -/
  | lockIdleLimit
  /-- R104. A staged write to a prism-wide entry from the holding door is broadcast in COMMIT frames. -/
  | prismStagingWrite (src : StageSrc) (w : RegWrite)
  /-- R107. A write of 1 to PrismCommit broadcasts PREPARE with the staged-set digest. -/
  | prismCommit (d : Door)
  /-- R107. A write of 2 to PrismCommit discards the staged prism-wide set. -/
  | prismCommitDiscard (d : Door)
  /-- R119. A member checks the digest and the staged set and answers READY or REFUSE. -/
  | prepare (k : Link) (h : FrameHdr) (digest : Nat) (prism : PrismTag)
  /-- R107. The lock facet collects READY; at the last one it renews the lease and broadcasts APPLY with time T. -/
  | ready (k : Link) (h : FrameHdr)
  /-- R107. A REFUSE makes the lock facet broadcast ABORT and record the refusal. -/
  | refuse (k : Link) (h : FrameHdr) (reason : Nat) (detail : Nat)
  /-- R107. A member does not answer within 5 ms and the commit is aborted. -/
  | commitAnswerTimeout
  /-- R107. A received ABORT keeps the staged set and ends the commit as refused. -/
  | abort (k : Link) (h : FrameHdr)
  /-- R107. A received APPLY records the apply time T. -/
  | apply (k : Link) (h : FrameHdr) (time : Nat)
  /-- R121. At T every member holding APPLY switches to the staged set and the new epoch, and images change. -/
  | prismApplyTime
  /-- R107. The two-copy flash store of a prism commit completes and the result reads applied. -/
  | prismStoreDone (ok : Bool)
  /-- R120. A write of 1 to ImageDefaultMap stages the default map of the image. -/
  | imageDefaultMap (d : Door) (i : Image)
  /-- R123. The entry facet takes an owning facet's PORT_STATUS record into its copy of the port status. -/
  | portStatus (k : Link) (h : FrameHdr) (r : RelayHdr) (b : PortStatusBody)
  /-- R123. The owning facet applies a port request carried from the entry facet and answers with PORT_STATUS. -/
  | portReq (k : Link) (h : FrameHdr) (r : RelayHdr) (q : PortReq)
  /-- R129. A host HS IN on a relayed port is answered from held data or NAKed, with an XACT_REQ sent. -/
  | hostHsInRelayed (i : Image) (addr : Nat) (ep : Nat) (acked : Bool)
  /-- R130. A host HS OUT on a relayed port is stored and answered ACK, NYET or NAK. -/
  | hostHsOutRelayed (i : Image) (addr : Nat) (ep : Nat) (toggle : Bool) (data : List Byte)
  /-- R130. A host PING on a relayed port is answered ACK or NAK by the room in the store. -/
  | hostPingRelayed (i : Image) (addr : Nat) (ep : Nat)
  /-- R131. A SETUP to a relayed HS device is ACKed at once and sent on in an XACT_REQ. -/
  | hostSetupRelayed (i : Image) (addr : Nat) (ep : Nat) (data : List Byte)
  /-- R129. The owning facet performs the requested transactions through its HS engine, or answers from its last result. -/
  | xactReq (k : Link) (h : FrameHdr) (r : RelayHdr) (data : List Byte)
  /-- R129. The entry facet stores returned IN data or retires stored OUT packets, and handles STALL and errors. -/
  | xactRsp (k : Link) (h : FrameHdr) (r : RelayHdr) (data : List Byte)
  /-- R131. A CANCEL record discards a pending control transfer on the owning side. -/
  | cancel (k : Link) (h : FrameHdr) (r : RelayHdr) (data : List Byte)
  /-- R126. The owning TT queues a split carried from the entry facet. -/
  | splitStart (k : Link) (h : FrameHdr) (r : RelayHdr) (data : List Byte)
  /-- R125. A split result reaches the entry facet and is held for the complete-split, or discarded if late. -/
  | splitResult (k : Link) (h : FrameHdr) (r : RelayHdr) (data : List Byte)
  /-- R134. An XACT_REQ unanswered within RelayTimeout is sent again, and counts as an error after four retries. -/
  | relayTimeout (i : Image) (addr : Nat) (ep : Nat) (dirIn : Bool)
  /-- R143. A write of HoldoverArm arms or disarms an image and is copied to every member. -/
  | holdoverArm (d : Door) (i : Image) (v : Bool)
  /-- R144. A write of 1 declares suspend intent and opens the intent window; 0 withdraws it. -/
  | holdoverSuspendIntent (d : Door) (i : Image) (v : Bool)
  /-- R144. The intent window ends with the upstream active and the intent lapses. -/
  | suspendIntentWindowEnd (i : Image)
  /-- R145. Upstream VBUS below its window for 10 µs is cause 1 of hold-over. -/
  | upstreamVbusLoss (u : Upstream)
  /-- R279. Rp absent on both CC pins for 15 ms detaches the upstream: cause 2 of hold-over. -/
  | upstreamDetach (u : Upstream)
  /-- R145. 502 µs after the last SOF of a configured HS image without intent, cause 3 is declared. -/
  | sofLossDeclaration (i : Image)
  /-- R145. HoldoverCommand = 1 sends the image into hold-over by cause 4. -/
  | holdoverCommandEnter (d : Door) (i : Image)
  /-- R160. HoldoverCommand = 2 starts adoption through the mirror, or is refused with a reason. -/
  | holdoverCommandAdopt (d : Door) (i : Image)
  /-- R147. HoldoverCommand = 3 abandons hold-over and treats held ports as for an unarmed reset. -/
  | holdoverCommandAbandon (d : Door) (i : Image)
  /-- R147. HoldoverCommand = 4 resumes a dormant image's held ports and enters active hold-over. -/
  | holdoverCommandWake (d : Door) (i : Image)
  /-- R149. At each boundary of the hold-over grid each facet sends SOF on its held ports. -/
  | holdoverSofBoundary (i : Image)
  /-- R151. A write of 1 checks the shadow slot table and schedules the swap, or refuses it. -/
  | holdoverTableSwap (d : Door)
  /-- R151. An image switches to the new slot table at its next frame boundary; the last switch completes the swap. -/
  | tableSwitchBoundary (i : Image)
  /-- R155. A due active slot runs its action through the HS engine, or pauses for room, or is skipped. -/
  | slotOccurrence (j : Fin 256)
  /-- R156. An entry action runs at the start of active hold-over and is retried each micro-frame on NAK. -/
  | entryAction (j : Fin 256)
  /-- R156. An entry action still NAKed after 8 ms is abandoned and counted. -/
  | entryActionTimeout (j : Fin 256)
  /-- R160. AdoptAutoDelay passes in hold-over and the mirror's facet starts adoption. -/
  | adoptAutoDelayExpiry (i : Image)
  /-- R161. 10 ms after adoption starts, the mirror attaches as the image's hub function and becomes the entry facet. -/
  | adoptMirrorAttach (i : Image)
  /-- R164. An absorbed reset of a held port completes after PortResetTime and any 20 ms resume. -/
  | absorbedResetComplete (i : Image) (m : Nat)
  /-- R163. AdoptDeviceTimeout passes after SET_ADDRESS and the device's adoption completes as divergent. -/
  | adoptDeviceTimeout (i : Image) (m : Nat)
  /-- R169. At H the image steps to the adopting host's frame timing, ports are decided again and roles exchange. -/
  | imageStep (i : Image)
  /-- R169. AdoptImageTimeout passes and the image step is made. -/
  | adoptImageTimeout (i : Image)
  /-- R176. DRAM training ends ready, or failed with DRAM_TRAIN raised. -/
  | dramTrainingDone (size : Nat) (ok : Bool)
  /-- R177. 64 µs after the last write a partial tail burst spills to DRAM. -/
  | tailPartialSpill (n : Stream)
  /-- R184. A write of 1 to SessionOpen opens a read session on the named facet's streams, or is refused. -/
  | sessionOpen (d : Door)
  /-- R184. A write of 0 to SessionOpen closes the session. -/
  | sessionClose (d : Door)
  /-- R186. A host IN on EP1 delivers a record, a door answer, an IDLE record or NAK. -/
  | hostEp1In (u : Upstream) (acked : Bool) (remote : List Byte)
  /-- R187. A read of SessionData returns whole records, or pieces of one, up to the door's limit. -/
  | sessionDataRead (d : Door) (len : Nat) (remote : List Byte)
  /-- R189. StreamCommand 1 sets the mark at the read pointer. -/
  | streamMark (d : Door) (n : Stream)
  /-- R189. StreamCommand 2 moves the read pointer back to the mark or release pointer. -/
  | streamRewind (d : Door) (n : Stream)
  /-- R189. StreamCommand 3 moves the release pointer to the read pointer and frees space. -/
  | streamRelease (d : Door) (n : Stream)
  /-- R191. StreamCommand 4 discards everything in the stream. -/
  | streamFlush (d : Door) (n : Stream)
  /-- R193. A corrected DRAM ECC error is counted and raises DRAM_CE. -/
  | dramCorrectedError (addr : Nat)
  /-- R194. An uncorrectable DRAM error is counted, raises DRAM_UE and marks the damaged data. -/
  | dramUncorrectableError (addr : Nat)
  /-- R193. A corrected SRAM ECC error is counted per bank and raises SRAM_CE. -/
  | sramCorrectedError (bank : Fin 22)
  /-- R348. An uncorrectable SRAM error raises SRAM_UE and is treated by the bank it hits. -/
  | sramUncorrectableError (bank : Fin 22) (hit : SramHit)
  /-- R195. The scrubber reads a 64-byte burst and writes back a corrected one. -/
  | scrubBurst (addr : Nat) (corrected : Bool)
  /-- R195. A scrub pass completes and is counted. -/
  | scrubPassComplete
  /-- R197. At the last beat of a grant the arbiter picks the next requester and starts back-offs for losers. -/
  | arbDecision (asks : Nat) (cycles : Nat)
  /-- R197. A losing requester's back-off ends and it requests again. -/
  | arbBackoffEnd (n : Fin 11)
  /-- R197. A requester's wait reaches its limit and it becomes forced. -/
  | arbWaitLimit (n : Fin 11)
  /-- R198. A wait reaches the limit plus 384 cycles and ARB_STARVE is raised. -/
  | arbStarve (n : Fin 11)
  /-- R199. A write of 1 to ArbFreeze stops new grants and drains the write queue. -/
  | arbFreeze (d : Door)
  /-- R199. A write of 0 to ArbFreeze resumes arbitration. -/
  | arbResume (d : Door)
  /-- R199. The grant in progress and the write queue have drained and the freeze reads drained. -/
  | arbDrained
  /-- R212. The nanosecond counter wraps: the wrap count increments and TIME_WRAP is raised. -/
  | timeWrap
  /-- R237. A read of TimeNow returns the counter and latches the fraction. -/
  | timeNowRead (d : Door)
  /-- R212. A read of TimeExtended returns the wrap count and counter latched together. -/
  | timeExtendedRead (d : Door)
  /-- R217. At each millisecond boundary an ECHO frame is sent on each up link and stamped as it leaves. -/
  | echoSend
  /-- R219. An ECHO is stamped; offset, mean path and LinkLatency are computed and the focal choice updated. -/
  | echoReceive (k : Link) (b : EchoBody) (rx : Nat)
  /-- R219. A boundary's echo exchange does not complete and is counted. -/
  | echoMiss (k : Link)
  /-- R214. A focal announcement not repeated for 3 ms lapses and the focal is chosen again. -/
  | focalAnnounceLapse (k : Link)
  /-- R221. No offset for 3 ms with no other route to the focal: the servo holds its frequency. -/
  | servoReferenceLost
  /-- R222. After 10 minutes locked, and hourly after, the steward stores F as TimeStoredFreq. -/
  | storedFreqSave
  /-- R224. A PPS_IN rising edge is stamped, qualifies the input or steers a focal. -/
  | ppsInEdge
  /-- R225. A second passes with no usable edge; three misses make PPS_IN invalid. -/
  | ppsInMiss
  /-- R226. The counter passes PpsOutNext: PPS_OUT rises and PpsOutNext advances by the period. -/
  | ppsOutEdge
  /-- R226. PpsOutWidth elapses and PPS_OUT falls. -/
  | ppsOutWidthEnd
  /-- R226. A write of PpsOutNext is accepted if less than 2.1 s ahead. -/
  | ppsOutNextWrite (d : Door) (v : Nat)
  /-- R230. A write of TimeCivilAnchor is copied to every member. -/
  | timeCivilAnchorWrite (d : Door) (offset : Nat) (data : List Byte)
  /-- R230. A TIME producer sends the TIME message at each multiple of CanTimePeriod. -/
  | canTimeSend (late : Nat)
  /-- R230. A TIME consumer rewrites the anchor from a received TIME message. -/
  | canTimeReceive (ms : Nat) (days : Nat)
  /-- R231. The counter passes CanSyncPhase and a SYNC producer sends SYNC and advances the phase. -/
  | canSyncSend
  /-- R231. A received SYNC is stamped and counted. -/
  | canSyncReceive
  /-- R231. A write of CanSyncPhase is accepted if less than 2.1 s ahead. -/
  | canSyncPhaseWrite (d : Door) (v : Nat)
  /-- R233. An 80-byte write queues a timed launch or is refused with a reason. -/
  | launchSubmit (d : Door) (data : List Byte)
  /-- R233. A write of a Tag removes an unstarted launch with result 6. -/
  | launchCancel (d : Door) (tag : Nat)
  /-- R234. A due launch starts its OUT transaction at the first instant its port allows. -/
  | launchStart (tag : Nat)
  /-- R235. A launch ends and writes its result record. -/
  | launchEnd (tag : Nat) (answer : DevAnswer)
  /-- R234. A launch's window ends unstarted or still NAKed, ending it late or failed. -/
  | launchWindowEnd (tag : Nat)
  /-- R244. Rd on one CC pin for 150 ms with VBUS at vSafe0V completes the attach debounce and starts the moisture check. -/
  | ccSourceAttach (p : Port) (cc : CcSeen) (safe : Bool)
  /-- R249. The moisture result after an attach debounce confirms the attach, resolves orientation and applies VCONN and VBUS, or declares
  the port wet. -/
  | attachMoistureResult (p : Port) (z : List Nat)
  /-- R245. Rp for 150 ms with partner VBUS above 4 V attaches a dual-role port as Sink/UFP. -/
  | ccSinkAttach (p : Port) (pin2 : Bool) (rp : Nat)
  /-- R246. No Rd for 15 ms detaches a Source port: VBUS and VCONN off and the contract ends. -/
  | sourceDetach (p : Port)
  /-- R246. VBUS below 3.67 V or Rp absent for 15 ms detaches a Sink port. -/
  | sinkDetach (p : Port)
  /-- R247. 60 ms after an Rp advertisement is lowered, the lower allocation counts. -/
  | rpLowerAllocation (p : Port)
  /-- R249. Every 2 s an unattached or wet port starts a 10 ms impedance measurement. -/
  | moistureCheck (p : Port)
  /-- R250. A measurement ends and the port is judged wet, or dries after three dry results. -/
  | moistureResult (p : Port) (z : List Nat)
  /-- R250. A port wet for 10 minutes sets Corroded. -/
  | corrosionTimeout (p : Port)
  /-- R251. VCONN above 240 mA for 100 µs is switched off and the cable limit falls to 3 A. -/
  | vconnOverload (p : Port)
  /-- R256. Source_Capabilities is sent 150 ms after VBUS is in window, at each resend, and at re-offers. -/
  | sourceCapabilitiesSend (p : Port)
  /-- R257. Discover Identity on SOP′ is sent to find the cable's current rating. -/
  | cableDiscoveryAttempt (p : Port)
  /-- R257. A cable's answer on SOP′ sets the cable limit and is stored. -/
  | cableIdentity (p : Port) (ack : CableAnswer) (vdo : Nat)
  /-- R258. A partner Request is accepted and a transition scheduled, or rejected. -/
  | request (p : Port) (h : PdHdr) (rdo : Nat)
  /-- R259. Get_Source_Cap starts a new negotiation with Source_Capabilities. -/
  | getSourceCap (p : Port) (h : PdHdr)
  /-- R259. Get_Sink_Cap is answered with Sink_Capabilities or Not_Supported. -/
  | getSinkCap (p : Port) (h : PdHdr)
  /-- R260. The partner's Sink_Capabilities answering the hub's Get_Sink_Cap is recorded. -/
  | sinkCapabilities (p : Port) (h : PdHdr) (objects : List Nat)
  /-- R269. DR_Swap is always rejected and recorded. -/
  | drSwap (p : Port) (h : PdHdr)
  /-- R270. PR_Swap is accepted and the swap begun, or rejected with a refusal code. -/
  | prSwap (p : Port) (h : PdHdr)
  /-- R272. VCONN_Swap is accepted and VCONN handed over or taken. -/
  | vconnSwap (p : Port) (h : PdHdr)
  /-- R269. FR_Swap is answered with Not_Supported. -/
  | frSwap (p : Port) (h : PdHdr)
  /-- R259. A received Soft_Reset is accepted, MessageIDs reset and Source_Capabilities follows. -/
  | pdSoftReset (p : Port) (h : PdHdr)
  /-- R259. Get_Status is answered with temperature and thermal warning status. -/
  | pdGetStatus (p : Port) (h : PdHdr)
  /-- R259. Get_PPS_Status is answered with measured output in a PPS contract, or Not_Supported. -/
  | getPpsStatus (p : Port) (h : PdHdr)
  /-- R254. Get_Revision is answered with Revision 3.1, version 1.8. -/
  | getRevision (p : Port) (h : PdHdr)
  /-- R259. Get_Source_Info is answered with managed capability and PDP figures. -/
  | getSourceInfo (p : Port) (h : PdHdr)
  /-- R281. Other extended requests, unstructured VDMs and unknown messages are answered Not_Supported or Reject. -/
  | pdUnsupportedMessage (p : Port) (h : PdHdr) (kind : PdOther)
  /-- R259. BIST Carrier Mode is served at 5 V and ignored otherwise. -/
  | bistCarrierMode (p : Port) (h : PdHdr)
  /-- R259. BIST Test Data is served at 5 V and ignored otherwise. -/
  | bistTestData (p : Port) (h : PdHdr)
  /-- R259. A received Not_Supported, Reject or Alert is recorded without answer. -/
  | pdPartnerNotice (p : Port) (h : PdHdr) (kind : PdNotice)
  /-- R271. After a swap, the partner's Source_Capabilities is answered with a Request for 5 V at 10 mA. -/
  | sourceCapabilitiesReceived (p : Port) (h : PdHdr) (objects : List Nat)
  /-- R271. The partner's PS_RDY during a PR_Swap or VCONN_Swap advances the swap. -/
  | psRdyReceived (p : Port) (h : PdHdr)
  /-- R273. A Hard Reset sent or received abandons transitions and swaps and starts the Hard Reset sequence. -/
  | hardReset (p : Port)
  /-- R252. A received Cable Reset has no effect on the port. -/
  | cableReset (p : Port)
  /-- R281. A message with bad CRC, bad symbol or too many objects is discarded without GoodCRC. -/
  | pdRxError (p : Port)
  /-- R281. tReceive expires without GoodCRC; the message is retried, and after the retries a Soft_Reset or resend follows. -/
  | goodcrcTimeout (p : Port)
  /-- R281. No Request within tSenderResponse leads to a Hard Reset or non-PD fallback. -/
  | senderResponseTimeout (p : Port)
  /-- R263. A still exceeds B after PdShedDelay and ports are shed. -/
  | shedDelayExpiry
  /-- R264. B − A stays at least 2.5 W for 1 s and shed ports are restored and re-offered. -/
  | budgetRestore
  /-- R266. 30 ms after Accept the current limit and VOUT_COMMAND are written to the port regulator. -/
  | transitionStart (p : Port) (nacked : Bool)
  /-- R266. Every 1 ms STATUS_WORD is read and VBUS measured; acknowledgement sends PS_RDY. -/
  | regulatorPoll (p : Port) (r : RegPoll)
  /-- R267. No acknowledgement within PdRegTimeout fails the transition and starts a Hard Reset. -/
  | regulatorTimeout (p : Port)
  /-- R267. VBUS outside its window for 10 ms outside a transition fails the contract. -/
  | vbusOutOfWindow (p : Port)
  /-- R267. In error recovery the regulator is commanded to 5 V again every 1 s. -/
  | errorRecoveryRetry (p : Port)
  /-- R268. A PPS sink silent for tPPSTimeout gets a Hard Reset. -/
  | ppsTimeout (p : Port)
  /-- R271. 30 ms after Accept VBUS switches off with discharge. -/
  | prSwapVbusOff (p : Port)
  /-- R271. VBUS reaches vSafe0V: Rp is replaced by Rd and PS_RDY is sent. -/
  | prSwapVsafe0v (p : Port)
  /-- R271. The partner's PS_RDY does not come within 450 ms and the port enters error recovery. -/
  | prSwapSourceTimeout (p : Port)
  /-- R271. 10 ms after the partner's PS_RDY disconnect detection resumes. -/
  | prSwapDetectResume (p : Port) (pullup : Bool)
  /-- R272. No PS_RDY within 100 ms during a VCONN_Swap leads to a Hard Reset. -/
  | vconnSwapTimeout (p : Port)
  /-- R273. 30 ms into a Hard Reset VBUS and VCONN go off and the regulator returns to 5 V. -/
  | hardResetVbusOff (p : Port)
  /-- R273. 800 ms after vSafe0V the port restores Source/DFP, Rp, VBUS at 5 V and VCONN. -/
  | hardResetRecover (p : Port) (regulator : Bool)
  /-- R274. tSinkTx after setting SinkTxNG the hub starts its own AMS. -/
  | sinkTxWindowEnd (p : Port)
  /-- R279. VBUS in window with Rp on one CC pin for 10 ms attaches an upstream port. -/
  | upstreamAttach (u : Upstream) (rp : Nat)
  /-- R280. VAON below 3.0 V switches AON to VBUS_AON and raises SUPPLY_MON. -/
  | vaonLow
  /-- R280. VAON at or above 3.1 V for 1 ms returns AON to VAON. -/
  | vaonRestored
  /-- R287. FEEDx_EN falls: the feed's switches open; both low toggles the collector. -/
  | feedEnFall (x : Feed)
  /-- R298. FEEDx_EN rises: it re-arms a tripped feed and lets the feed start. -/
  | feedEnRise (x : Feed)
  /-- R287. A feed below FeedUvFall for 20 µs leaves its window and its switches open. -/
  | feedUndervoltage (x : Feed) (mv : Nat)
  /-- R287. A feed above FeedOvRise leaves its window within 1 µs and its switches open. -/
  | feedOvervoltage (x : Feed) (mv : Nat)
  /-- R287. A feed enters its window and the insertion delay can start. -/
  | feedWindowEntry (x : Feed) (mv : Nat)
  /-- R288. The insertion delay elapses; the drain-source check runs and the diode gate is driven. -/
  | insertionDelayExpiry (x : Feed) (w : CollWatch)
  /-- R290. The diode gate passes 4.5 V and pre-charge starts. -/
  | diodeGateReady (x : Feed)
  /-- R290. The collector reaches 95 % of the feed and the main FET ramp starts. -/
  | prechargeComplete (x : Feed)
  /-- R291. Pre-charge not complete within PrechargeTimeout trips the feed. -/
  | prechargeTimeout (x : Feed)
  /-- R290. The main FET is enhanced, pre-charge opens and the feed is on. -/
  | rampComplete (x : Feed)
  /-- R292. A ramp or soft-start not complete within BrkRampTime trips the channel. -/
  | rampTimeout (c : Channel) (mA : Nat)
  /-- R293. A gate not above 4.5 V within 5 ms of its ramp trips the channel as a damaged pass device. -/
  | gateFailure (c : Channel)
  /-- R289. The ideal-diode voltage reaches −60 mV; the FET is turned off hard and the feed's switches open. -/
  | fastReverseTurnOff (x : Feed)
  /-- R289. 1 s after a fast reverse turn-off with the feed in window the insertion delay starts. -/
  | reverseHoldExpiry (x : Feed)
  /-- R293. An unattached port's VBUS above 0.8 V for 100 ms with the pair off trips it. -/
  | portPairShort (p : Port)
  /-- R296. A channel's heat reaches 1 and it trips on its curve. -/
  | curveTrip (c : Channel) (mA : Nat)
  /-- R297. Current above BrkInstLevel trips the channel within 1 µs. -/
  | instantaneousTrip (c : Channel) (mA : Nat)
  /-- R298. A write of 1 to BrkRearm clears a channel's latch and restarts it. -/
  | brkRearm (d : Door) (c : Channel)
  /-- R300. A channel's conditions hold for 1 ms without a fault timer and its power-good rises. -/
  | powerGoodRise (c : Channel) (mv : Nat) (mA : Nat)
  /-- R301. A port's soft-start ends and the breaker curve takes over. -/
  | softStartComplete (p : Port)
  /-- R301. Port VBUS falls below 0.8 V and the discharge resistor is released. -/
  | portDischargeComplete (p : Port)
  /-- R301. VBUS not below 0.8 V within 650 ms trips the port. -/
  | dischargeTimeout (p : Port)
  /-- R303. The steward writes every channel's energy to flash each EnergyCheckpointPeriod. -/
  | energyCheckpoint
  /-- R319. DomainCommand Target 0 turns the named domains off, at once or armed. -/
  | domainCommandOff (d : Door) (word : Nat)
  /-- R319. DomainCommand Target 1 sends the named domains to retention, at once or armed. -/
  | domainCommandRetention (d : Door) (word : Nat)
  /-- R326. DomainCommand Target 2 wakes the named domains by command. -/
  | domainCommandOn (d : Door) (word : Nat)
  /-- R317. DomainCommand Target 3 cancels the armed command. -/
  | domainCommandCancel (d : Door) (word : Nat)
  /-- R317. An armed domain command's trigger fires and the command is checked and applied. -/
  | domainTrigger (wakes : List WakeSeen)
  /-- R314. The core regulator acknowledges a VDD_CORE command and a sleep completes. -/
  | coreRegAck
  /-- R315. A command to lower VDD_CORE is NACKed three times and VDD_CORE stays. -/
  | coreRegLowerFail
  /-- R322. Remote wake, connect, disconnect or Type-C attach on a sleeping port starts a wake. -/
  | wakeDownstreamPort (p : Port) (how : PortWake) (also : List WakeSeen)
  /-- R322. Resume, reset or VBUS rise on an upstream starts a wake. -/
  | wakeUpstream (u : Upstream) (how : UpWake) (also : List WakeSeen)
  /-- R322. Signal on a sleeping link's receive lanes starts a wake. -/
  | wakeLink (k : Link) (also : List WakeSeen)
  /-- R322. A CAN wake-up pattern starts a wake. -/
  | wakeCanWup (also : List WakeSeen)
  /-- R323. The LOC address seen while HUB is not on starts a wake without acknowledging. -/
  | wakeLocAddressMatch (addr : Nat) (also : List WakeSeen)
  /-- R325. WakeTimer counts down to 0 and starts a wake. -/
  | wakeTimerExpiry (also : List WakeSeen)
  /-- R322. A feed entering or leaving state 6 starts a wake. -/
  | wakeFeedChange (also : List WakeSeen)
  /-- R325. A write of n to WakeTimer starts an n ms countdown; 0 stops it. -/
  | wakeTimerWrite (d : Door) (n : Nat)
  /-- R326. A wake step becomes ready and the next step, or the domain's on state, follows. -/
  | wakeStepReady (d : Nat) (bad : Nat)
  /-- R327. A wake step is not ready in time; it is undone and retried, or fails after four attempts. -/
  | wakeStepTimeout (d : Nat) (reason : Nat)
  /-- R327. 1 ms after a failed attempt the wake step is tried again. -/
  | wakeStepRetry (d : Nat)
  /-- R334. A reaction's last action completes, the window opens and merged higher sources run. -/
  | faultReactionComplete
  /-- R343. FaultReactionWindow ends and merged sources still live are raised again. -/
  | reactionWindowEnd
  /-- R345. FaultPulseWidth ends and FAULT_N returns to FaultNControl. -/
  | faultPulseEnd
  /-- R346. A queued EMCY message is sent when the inhibit time allows and the services run. -/
  | emcySend
  /-- R335. A write of a source number releases the unit its S2 reaction holds. -/
  | faultUnitRelease (d : Door) (source : Nat)
  /-- R338. A write of 0xA5 ends fail-safe and starts the logic die as from power-on. -/
  | faultSafeRelease (d : Door)
  /-- R332. A write to FaultSoftRaise raises SOFT_EVENT with its detail. -/
  | faultSoftRaise (d : Door) (detail : Nat)
  /-- R345. A write of FaultNControl drives FAULT_N low or releases it outside a pulse. -/
  | faultNControl (d : Door) (v : Nat)
  /-- R340. Clearing FIRST with the current sequence number empties the first-source latch. -/
  | faultLatchClear (d : Door) (seq : Nat)
  /-- R332. The steward watchdog expires and raises STEWARD_WDT. -/
  | stewardWatchdogExpiry
  /-- R371. The CAN controller enters bus-off and raises CAN_BUSOFF. -/
  | canBusOff (errors : Nat)
  /-- R371. After 128 occurrences of 11 recessive bits the controller recovers and sends its EMCY. -/
  | busOffRecovery
  /-- R455. Every 1 ms a die sensor converts and THERM_WARN or THERM_CRIT is judged. -/
  | temperatureConversion (power : Bool) (reading : Int)
  /-- R332. VDDIO, VDDQ or VSERDES outside ±5 % for 10 µs raises SUPPLY_MON. -/
  | supplyMonitorExcursion (n : Fin 3)
  /-- R332. CORE_PG falls while VDD_CORE is commanded and acknowledged: REG_PG_LOSS. -/
  | corePgFall
  /-- R332. The clock monitor sees no XO edge for 2 µs and raises XO_FAIL. -/
  | xoLoss
  /-- R352. The last-gasp page program completes. -/
  | lastGaspProgramDone
  /-- R350. A two-copy configuration store is written and read back, or fails with FLASH_ERR. -/
  | configStoreDone (ok : Bool)
  /-- R364. A door read command is checked and answered with the entry's value. -/
  | doorRead (d : Door) (facet : Nat) (tag : Nat) (idx : Nat) (sub : Nat) (staged : Bool) (offset : Nat) (len : Nat) (remote : List Byte)
  /-- R364. A door write command is checked and applied, posted or refused. -/
  | doorWrite (d : Door) (facet : Nat) (tag : Nat) (w : RegWrite)
  /-- R368. An SMBus Block Write with code 0x01 delivers one command to the LOC door. -/
  | locBlockWrite (b : List Byte) (pecOk : Bool)
  /-- R368. An SMBus Block Read with code 0x02 returns the oldest unread answer or 0xFE. -/
  | locBlockRead
  /-- R369. A DOOR frame from a peer executes a command on the RING door, or replays a duplicate's answer. -/
  | door (k : Link) (h : FrameHdr) (origin : Door) (body : DoorBody) (remote : List Byte)
  /-- R362. A forwarded command's target is not reached within 5 ms and status 0x0B is answered. -/
  | doorForwardTimeout (d : Door)
  /-- R370. A host IN on EP2 takes one queued 16-byte notification, or NAK. -/
  | notificationEp2In (u : Upstream) (acked : Bool)
  /-- R371. An SDO upload request reads an entry, expedited or segmented. -/
  | sdoUpload (idx : Nat) (sub : Nat) (remote : List Byte)
  /-- R371. An SDO download request writes an entry, expedited or segmented. -/
  | sdoDownload (idx : Nat) (sub : Nat) (expedited : Option (List Byte))
  /-- R371. A segment of a segmented SDO transfer is taken or sent. -/
  | sdoSegment (toggle : Bool) (seg : Option (List Byte × Bool))
  /-- R371. No next segment within 1 s aborts the SDO with 0x05040000. -/
  | sdoSegmentTimeout
  /-- R371. A client's SDO abort ends the transfer in progress. -/
  | sdoAbort
  /-- R371. NMT Start remote node enters Operational. -/
  | nmtStart (node : Nat)
  /-- R371. NMT Stop remote node enters Stopped. -/
  | nmtStop (node : Nat)
  /-- R371. NMT Enter pre-operational enters Pre-operational. -/
  | nmtEnterPreOperational (node : Nat)
  /-- R371. NMT Reset node restarts the CANopen services and the CAN controller and sends boot-up. -/
  | nmtResetNode (node : Nat)
  /-- R371. NMT Reset communication applies rates and node ID and sends boot-up. -/
  | nmtResetCommunication (node : Nat)
  /-- R371. A received RPDO writes its mapped entries, each checked as a write. -/
  | rpdoReceive (r : Fin 4) (b : List Byte)
  /-- R371. A TPDO is sent by its transmission type, event timer or SYNC. -/
  | tpdoSend (t : Fin 8)
  /-- R371. The producer heartbeat is sent every producer heartbeat time. -/
  | heartbeatSend
  /-- R372. A write to an object 1000h–1FFFh applies at once and sets its staged value. -/
  | communicationObjectWrite (d : Door) (idx : Nat) (sub : Nat) (data : List Byte)
  /-- R373. A far domain applies a posted write and its busy bit clears. -/
  | postedWriteApply (d : Nat)
  /-- R375. A write to an RS entry clears named flags if its sequence number is current, else counts a stale clear. -/
  | eventFlagClear (d : Door) (idx : Nat) (sub : Nat) (v : Nat)
  /-- R377. A write to a local commit-class entry changes its staged value and claims the staged set. -/
  | configStagingWrite (d : Door) (w : RegWrite)
  /-- R377. The owner is idle for ConfigStageIdleLimit and the staged values return to live. -/
  | stageOwnershipLapse
  /-- R379. ConfigCommit 1 checks, applies and stores the staged set. -/
  | configCommit (d : Door)
  /-- R378. ConfigCommit 2 returns the staged values to live and ends ownership. -/
  | configDiscard (d : Door)
  /-- R378. ConfigCommit 3 stages the values of the stored copy. -/
  | configReload (d : Door)
  /-- R378. ConfigCommit 4 stages the defaults except LOC's rights. -/
  | configDefaults (d : Door)
  /-- R383. Every 1 ms a pass computes ConfigCrcLive and decides Match or Mismatch. -/
  | configCrcPass
  /-- R384. A write of ConfigCrcReference makes the next full pass deciding. -/
  | configCrcReferenceWrite (d : Door) (v : Nat)
  /-- R363. A write to an entry with no behaviour of its own is checked and stored. -/
  | registerWrite (d : Door) (w : RegWrite)
  /-- R429. LensCommand 1 restarts trace writing after a stop. -/
  | lensRestart (d : Door)
  /-- R429. LensCommand 2 discards all trace records. -/
  | lensDiscard (d : Door)
  /-- R430. A read of LensData returns whole records and advances the read pointer. -/
  | lensDataRead (d : Door) (len : Nat)
  /-- R430. A write of LensReadPtr within the valid span moves the read pointer. -/
  | lensReadPtrWrite (d : Door) (v : Nat)
  /-- R397. A write of 1 latches all 512 counters in one cycle. -/
  | lensCounterSnapshot (d : Door)
  /-- R397. A write of 1 sets all 512 counters to 0 in one cycle. -/
  | lensCounterClear (d : Door)
  /-- R432. A write of 1 to ProvokeArm arms provocation or is refused. -/
  | provokeArm (d : Door)
  /-- R433. A write of 0 to ProvokeArm disarms provocation. -/
  | provokeDisarm (d : Door)
  /-- R433. ProvokeRemaining reaches 0 and provocation disarms. -/
  | provokeRunTimeEnd
  /-- R433. INJ_EN low for 1 µs disarms provocation. -/
  | injEnLow (stays : Bool)
  /-- R422. FwUpdateCommand 1 erases the bank not running. -/
  | fwErase (d : Door)
  /-- R422. The erase of the bank completes and update writes are accepted. -/
  | fwEraseDone
  /-- R422. A write to FwUpdateData programs image pages into the bank. -/
  | fwUpdateData (d : Door) (offset : Nat) (data : List Byte)
  /-- R422. FwUpdateCommand 2 checks the written image under R416. -/
  | fwVerify (d : Door)
  /-- R422. FwUpdateCommand 3 writes the boot record selecting the new bank on trial. -/
  | fwSelect (d : Door)
  /-- R422. FwUpdateCommand 4 cancels the update and leaves the bank invalid. -/
  | fwCancel (d : Door)
  /-- R423. 100 ms after a select the steward restarts into the new bank with HUB running. -/
  | fwSelectRestart
  /-- R417. 30 s of running without watchdog expiry clears the bank's failed-start count and Trial. -/
  | fwGoodStart
  /-- R404. The power die's supply rises and it starts its protection functions with defaults. -/
  | powerDieStart
  /-- R406. VAON above 3.1 V for 1 ms with RESET_N high starts the logic die from step 1. -/
  | powerOn
  /-- R408. RESET_N low holds every logic-die domain in reset and switches port VBUS off. -/
  | resetNLow
  /-- R406. A rising edge of RESET_N starts the logic die from step 1. -/
  | resetNRise
  /-- R407. XO is not stable within 10 ms of a start and XO_FAIL is raised. -/
  | xoStartTimeout
  /-- R418. The ROM chooses, loads and checks a firmware bank, or runs the recovery loader: `banks` says whether A and B pass, `sfdp` what
  the flash tells of itself. -/
  | stewardBoot (banks : Bool × Bool) (sfdp : Option (Nat × Nat))
  /-- R420. The steward loads the newer valid stored configuration, or the defaults. -/
  | configLoad (aOk : Bool) (bOk : Bool)
  /-- R409. Once membership is settled the image upstream connects its pull-up and the host sees the hub. -/
  | upstreamPullupConnect
  /-- R121. After the 10 ms soft-detach of a re-presentation or an automatic merge, the active upstream attaches again with the new map. -/
  | softDetachEnd (i : Image)
  /-- R70. The initiator receives the partner's ACK or NAK to Discover Identity, Discover SVIDs, Discover Modes or Enter Mode and goes on
  with or ends the Wyhelen exchange. -/
  | structuredVdmAnswer (p : Port) (h : PdHdr) (cmd : VdmCmd) (ack : Bool) (vdos : List Nat)
  /-- R281. A partner's Accept arrives, answering the hub's Soft_Reset or a Sink port's Request. -/
  | acceptReceived (p : Port) (h : PdHdr)
  /-- R281. No answer to the hub's Soft_Reset arrives in time and the hub sends a Hard Reset. -/
  | softResetResponseTimeout (p : Port)
  /-- R243. An unattached dual-role port alternates Rp and Rd every half of its 75 ms period, and runs the Try.SRC timer tDRPTry. -/
  | drpToggle (p : Port)
  /-- R248. The 25 ms of Type-C error recovery end and the port returns to Unattached to attach afresh. -/
  | errorRecoveryEnd (p : Port)
  /-- R332. The clock monitor sees XO edges again and XO_FAIL stops being live, with its EMCY 0x0000 and end notification. -/
  | xoReturn
  /-- R333. VDDIO, VDDQ or VSERDES returns within ±5 % and SUPPLY_MON stops being live. -/
  | supplyMonitorReturn (n : Fin 3)
  /-- R332. CORE_PG rises again after a loss and REG_PG_LOSS stops being live. -/
  | corePgRise
  /-- R310. VAON and VBUS_AON are both absent, so AON and every logic-die domain go off and the reservoir, latch and trace are lost. -/
  | powerRemoval
  /-- R451. SCL held low for 30 ms makes the LOC target reset. -/
  | locBusTimeout
  /-- R393. An RPDO's event-timer deadline passes without the RPDO being received. -/
  | rpdoEventTimerExpiry (r : Fin 4)
  deriving DecidableEq, Repr

end Sys2Proof
end

