-- ==== Sys2Proof/Decode.lean ====
section
/-! DEFINITION. Reading a command from a word. The table of operations and events gives no row any bits: the commands are happenings at the
facet's pins, buses and timers, and there is no word that spells one. -/

namespace Sys2Proof

/-- The command that a word spells by the table's bits: none, as the table has none (DESIGN CHOICE, log 3). -/
def decodeTableWord (_nbits _w : Nat) : Option Instr := none

end Sys2Proof
end

