-- ==== Sys2Proof/Config.lean ====
section
/-! DEFINITION. The values the spec leaves open: constants without a body, so that nothing can be proved about which value they
take. -/

namespace Sys2Proof

/-- `PortCount` of the facet with a given unique ID (R118, R120), as the number of fours beyond the first: R1 has variants with 4, 8, 12 and
16 ports. It is a peer's own, which no frame to this facet carries. (DESIGN CHOICE, log 6) -/
opaque Config.peerPorts : Nat → Fin 4

/-- Payload of a frame whose layout the spec does not give (R81, R83), by its type and its content as numbers (DESIGN CHOICE, log 5). -/
opaque Config.payload : Nat → List Nat → List Byte

/-- The exponent of a regulator's linear16 voltages: at p + 1 what that of port p reports in VOUT_MODE (R265), at 0 the core regulator's
(PRESUMED, log 48). -/
opaque Config.voutMode : Nat → BitVec 5

/-- The credit of each class that a facet advertises in its LINK frames (R86) (DESIGN CHOICE, log 13). -/
opaque Config.credit : Nat → Nat

/-- The payload byte that provocation inverts, by the frame's LinkSeq (R434) (DESIGN CHOICE, log 103). -/
opaque Config.inverted : Nat → Nat

end Sys2Proof
end

