-- ==== Sys2Proof/Machine/Reg.lean ====
section
/-! DEFINITION. The object dictionary (R357, R390 to R403): one constructor of `Reg` for every entry that is stored, its
address, width and default, and for every index and sub-index of R392 its type, access and range. The lists follow the
dictionary maps of the chapters entry by entry. -/

namespace Sys2Proof.Machine

/-- The types of R357. -/
inductive EType
  | boolean | u8 | u16 | u32 | u64 | i32 | str | domain
  deriving DecidableEq, Repr

/-- The access codes of "Camtur CT48 Resilient Hub: Scope and Family"; `rwc` is the commit-class RW-C. -/
inductive Access
  | ro | rw | rs | wo | rwc
  deriving DecidableEq, Repr

/-- The values an entry (or each element of a DOMAIN) accepts (the Meaning columns; R363 check 8). `mask m`: bits outside `m`
must be 0. -/
inductive Range
  | any
  | between (lo hi : Nat)
  | oneOf (values : List Nat)
  | mask (m : Nat)
  | signed (lo hi : Int)
  deriving DecidableEq, Repr

/-- Whether a value of `bits` bits lies in the range. -/
def Range.ok (bits : Nat) (x : Nat) : Range → Bool
  | .any => true
  | .between lo hi => decide (lo ≤ x) && decide (x ≤ hi)
  | .oneOf vs => vs.contains x
  | .mask m => x &&& m == x
  | .signed lo hi => decide (lo ≤ signedOf bits x) && decide (signedOf bits x ≤ hi)

/-- Default curve points of R295, packed as in R294: current in mA, then time in µs, each 32 bits; unused points are 0. -/
def curveDefault (c k : Nat) : Nat :=
  if c < 3 then
    match k with
    | 0 => 10000 * 2 ^ 32 + 10000000
    | 1 => 12000 * 2 ^ 32 + 2000000
    | 2 => 15000 * 2 ^ 32 + 500000
    | 3 => 20000 * 2 ^ 32 + 100000
    | 4 => 25000 * 2 ^ 32 + 20000
    | _ => 0
  else
    match k with
    | 0 => 5500 * 2 ^ 32 + 2000000
    | 1 => 6000 * 2 ^ 32 + 500000
    | 2 => 7000 * 2 ^ 32 + 100000
    | 3 => 8000 * 2 ^ 32 + 20000
    | 4 => 10000 * 2 ^ 32 + 2000
    | _ => 0

/-- Default severities of the table of R332. -/
def severityDefault (n : Nat) : Nat :=
  if n = 22 ∨ n = 37 ∨ n = 38 ∨ n = 46 ∨ n = 48 ∨ n = 50 ∨ n = 52 ∨ 60 ≤ n then 0
  else if n = 25 then 4 else if n = 30 then 5 else if n = 54 ∨ n = 58 then 3 else 1

/-- Hub core, facet-wide (R66). -/
inductive HubReg
  | portPowerGoodTime
  | portResetTime
  | portRearmByHost
  | upstreamSpeed
  | singleTtImages
  | badPidCount
  | tokenCrcErrorCount
  | unroutedTokenCount
  | hsEngineTimeoutCount
  | lpmTokenIgnoredCount
  | hsEngineWaitCount
  | remoteWakeMergedCount
  | controlAbortByResetCount
  | splitBadPortCount
  | deviceToggleMismatchCount
  | sofMissCount
  | earlyWakeCount
  | hubEvents
  deriving DecidableEq, Repr

/-- Port p (R41). -/
inductive PortReg
  | portState
  | portSpeed
  | portDeviceAddress
  | portResetCount
  | portBabbleCount
  | portChirpFailCount
  | portTtErrorCount
  | portTestMode
  deriving DecidableEq, Repr

/-- Address translation of image i (R51). -/
inductive XlateReg
  | xlateEpPairs (m : Fin 508)
  deriving DecidableEq, Repr

/-- Prism lock and commit (R111). -/
inductive LockReg
  | prismLockRequest
  | prismLockOwner
  | prismLockIdleLimit
  | prismLockLossCount
  | prismLeaseLapseCount
  | prismCommit
  | prismCommitResult
  | prismCommitRefusal
  | prismCommitApplyTime
  | prismMembershipStaged (m : Fin 16)
  | prismJoinAuto
  deriving DecidableEq, Repr

/-- Image i (R116). -/
inductive ImageReg
  | imageEnable
  | imagePrimary
  | imageMirror
  | imagePortCount
  | imagePortMap (m : Fin 255)
  | imageAperture
  | imageDefaultMap
  | relayInReadAhead
  | relayOutDepth
  | relayTimeout
  | imageApertureOut
  deriving DecidableEq, Repr

/-- Relay counters (R141). -/
inductive RelayReg
  | relayReqCount
  | relayDeferredStallCount
  | relayOutDropBytes
  | relayErrorCount
  | relayRetryCount
  | relayIsoRefusedCount
  | relaySplitLateCount
  | relayPoolExhaustCount
  | relayReadAheadDiscardBytes
  | apertureExceedCount
  | relayEvents
  | relayDupOutCount
  | relayStaleRspCount
  | relayHostErrorCount
  deriving DecidableEq, Repr

/-- Hold-over, facet-wide (R173). -/
inductive HoldReg
  | holdoverTableShadow (m : Fin 256)
  | holdoverPayloadShadow (m : Fin 4096)
  | holdoverTableSwap
  | holdoverTableStatus
  | holdoverTableActive
  | holdoverPollCount
  | holdoverSlotSkipCount
  | holdoverPauseCount
  | holdoverEntryActionFailCount
  | holdoverSlotInactiveCount
  | holdoverDiscardBytes
  | adoptAddr0ConflictCount
  | adoptResetDrivenCount
  | adoptSeamlessFallbackCount
  | suspendIntentLapseCount
  | holdoverEvents
  deriving DecidableEq, Repr

/-- Hold-over and adoption of image i (R174). -/
inductive HoldImageReg
  | holdoverArm
  | holdoverSuspendIntent
  | holdoverCommand
  | holdoverState
  | holdoverEntryCause
  | holdoverEntryTime
  | holdoverHeldPorts
  | adoptAuto
  | adoptAutoDelay
  | holdoverRecall
  | seamlessPorts
  | suspendIntentWindow
  | adoptDeviceTimeout
  | adoptImageTimeout
  | adoptResetAbsorbLimit
  | adoptResult
  | adoptRefusal
  | adoptDivergentPorts
  | holdoverRolesSwapped
  | holdoverCount
  | adoptCount
  | adoptFailCount
  deriving DecidableEq, Repr

/-- Reservoir, facet-wide (R201). -/
inductive ResReg
  | reservoirDramSize
  | reservoirDramGeometry
  | reservoirDramState
  | resIdleRecord
  | resConfigRefusal
  | dramCeCount
  | dramUeCount
  | dramUeAddress
  | sramCeCount (m : Fin 22)
  | sramUeCount (m : Fin 22)
  | scrubPassTime
  | scrubPassCount
  | lostRecordCount
  | resEvents
  deriving DecidableEq, Repr

/-- DRAM arbiter (R202). -/
inductive ArbReg
  | arbFreeze
  | arbFreezeState
  | arbWaitLimit (m : Fin 11)
  | arbForcedWinCount (m : Fin 11)
  | arbGrantCount (m : Fin 11)
  | arbMaxWait (m : Fin 11)
  | arbParkedOwner
  deriving DecidableEq, Repr

/-- Read session of door d (R203). -/
inductive SessionReg
  | sessionStreams
  | sessionFacet
  | sessionOpen
  | sessionState
  | sessionRecords
  deriving DecidableEq, Repr

/-- Stream n (R204). -/
inductive StreamReg
  | streamEnable
  | streamBase
  | streamSize
  | streamPriority
  | streamRecordBytes
  | streamAutoRelease
  | streamWritePtr
  | streamReadPtr
  | streamReleasePtr
  | streamMarkPtr
  | streamRecordsWritten
  | streamRecordsDelivered
  | streamOverrunItems
  | streamCommand
  | streamStallCount
  | streamXactErrorCount
  | streamEvents
  | flushDropWords
  | streamBadRecordCount
  deriving DecidableEq, Repr

/-- Ring, facet-wide (R112). -/
inductive RingReg
  | ringMemberState
  | facetIndex
  | prismId
  | prismEpoch
  | prismOrigin
  | prismMembership (m : Fin 16)
  | memberPresence
  | topologyKind
  | quorumState
  | formationSettleTime
  | facetWithdraw
  | healCount
  | lastHealTime
  | hopExpiredCount
  | unknownDestCount
  | ringEvents
  | healDropFrameCount
  deriving DecidableEq, Repr

/-- Link k (R113). -/
inductive LinkReg
  | linkMode
  | linkState
  | linkPartnerId
  | linkPartnerLink
  | linkLatency
  | linkRefusal
  | linkErrorThreshold
  | linkSymbolErrorCount
  | linkFrameErrorCount
  | linkReplayCount
  | linkRetrainCount
  | linkDownCount
  | linkTrainFailCount
  | linkLaneMap
  | linkViolationCount
  | linkReplayStallCount
  deriving DecidableEq, Repr

/-- Counter, focal, servo (R237). -/
inductive TimeReg
  | timeWrapCount
  | timeFreqAdj
  | timeStoredFreq
  | servoKp
  | servoKi
  | timeStepThreshold
  | servoState
  | servoOffset
  | timeParentLink
  | timeStepCount
  | timeLastStep
  | focalPriority
  | focalId
  | focalIndex
  | focalStepsRemoved
  | focalChangeCount
  | timeFocalTrim
  | timeEvents
  | timeCivilAnchor
  deriving DecidableEq, Repr

/-- PPS_IN and PPS_OUT (R238). -/
inductive PpsReg
  | ppsInEnable
  | ppsInOffset
  | ppsInState
  | ppsInLastStamp
  | ppsInError
  | ppsInMissCount
  | ppsKp
  | ppsKi
  | ppsOutEnable
  | ppsOutNext
  | ppsOutPeriod
  | ppsOutWidth
  deriving DecidableEq, Repr

/-- CAN time and PD stamps (R239). -/
inductive CanTimeReg
  | canTimePeriod
  | canTimeTxStamp
  | canTimeLateCount
  | canSyncPhase
  | canSyncStamp
  | canSyncCount
  | pdRxStamp (m : Fin 16)
  deriving DecidableEq, Repr

/-- Echo of link k (R240). -/
inductive EchoReg
  | echoTxDelay
  | echoRxDelay
  | echoAsymmetry
  | echoOffset
  | echoMeanPath
  | echoMissCount
  deriving DecidableEq, Repr

/-- SOF time table and launch queue (R241). -/
inductive LaunchReg
  | sofStepLogIndex
  | launchCancel
  | launchResultIndex
  | launchDoneCount
  | launchLateCount
  | launchRefusedCount
  | launchFailCount
  | launchRefusal
  deriving DecidableEq, Repr

/-- Type-C and PD, facet-wide (R282). -/
inductive PdReg
  | pdBudgetBoard
  | pdBudgetFeedLimit
  | pdShedPorts
  | pdShedDelay
  | pdMinPdoCurrent
  | pdRegTimeout
  | pdRegPec
  | moistureEnable
  | moistureThreshold
  | pdUnconstrained
  | tcVbusAonEnable
  | tcUpstreamRp
  | pdReofferCount
  | pdEvents
  deriving DecidableEq, Repr

/-- Type-C and PD of port p (R283). -/
inductive TcReg
  | tcRoleMode
  | pdPortPriority
  | pdPortMaxPower
  | pdPpsEnable
  | pdPrSwapAccept
  | pdRegAddress
  | tcState
  | pdContractState
  | pdRdo
  | pdAllocation
  | pdOfferPower
  | pdCableVdo
  | pdSwapRefusal
  | pdHardResetCount
  | pdSoftResetCount
  | pdRxErrorCount
  | pdTxFailCount
  | pdRejectCount
  | pdNotSupportedCount
  | pdCollisionCount
  | pdRegFailCount
  | moistureWetCount
  | moistureImpedance (m : Fin 4)
  | pdViolationCount
  | vconnFaultCount
  | tcUnsupportedCount
  deriving DecidableEq, Repr

/-- Power path, facet-wide (R306). -/
inductive PowerReg
  | powerPathState
  | boardReservePower
  | portRegEfficiency
  | collectorPowerLimit
  | energyCheckpointPeriod
  | energyCheckpointTime
  | powerEvents
  | passDevChannel
  | powerGood
  | brkTripped
  | energyCheckpointCount
  | powerConfigRefusal
  | portSoftStartTime
  deriving DecidableEq, Repr

/-- Feed x (R307). -/
inductive FeedReg
  | feedEnable
  | feedState
  | feedUvRise
  | feedUvFall
  | feedOvRise
  | feedOvFall
  | feedInsertDelay
  | prechargeTimeout
  | gateSlew
  | feedPowerLimit
  | idealRevCount
  | feedStartCount
  | feedWindowExitCount
  deriving DecidableEq, Repr

/-- Breaker channel c (R308). -/
inductive ChanReg
  | brkCurve (m : Fin 8)
  | brkInstLevel
  | brkRampTime
  | brkCoolTau
  | brkShunt
  | brkState
  | brkTripCause
  | brkHeat
  | brkTripCount
  | brkRearm
  | chanCurrent
  | chanVoltage
  | chanPower
  | chanEnergy
  | brkLastTripTime
  | brkLastTripCurrent
  deriving DecidableEq, Repr

/-- Domains, clocks, wake (R330). -/
inductive DomainReg
  | domainState
  | domainCommand
  | domainArmed
  | domainTriggerTime
  | domainCmdRefusal
  | retainBanks
  | wakeSourceEnable
  | wakeLinkPorts
  | wakeDomains
  | lastWakeRecord
  | wakeCount
  | sleepAbandonCount
  | domainWakeFailCount
  | domainWakeFailRecord
  | coreRegAddress
  | coreRegPec
  | coreRegState
  | clockStatus
  | pllUnlockCount
  | domainEvents
  | canStbyInSleep
  deriving DecidableEq, Repr

/-- Faults (R355). -/
inductive FaultReg
  | faultFirstSource
  | faultFirstTime
  | faultFirstDetail
  | faultFirstSeverity
  | faultStatus
  | faultLatched
  | faultLive
  | faultMerged
  | faultSeverity (m : Fin 64)
  | faultSourceCount (m : Fin 64)
  | faultLatchLevel
  | faultPulseLevel
  | faultPulseWidth
  | faultNControl
  | faultReactionWindow
  | faultUnitRelease
  | faultSafeRelease
  | faultSoftRaise
  | faultEscalateCount
  | faultMergedCount
  | faultUnitsDisabled
  | lastGaspRecord
  | lastGaspCount
  | faultSafeState
  | dieTemperature
  | thermWarnLevel
  | thermCritLevel
  | emcyLostCount
  deriving DecidableEq, Repr

/-- Lens trace (R395). -/
inductive LensReg
  | lensEnable
  | lensSourceMask
  | lensPortMask
  | lensRecordSize
  | lensMode
  | lensExtBase
  | lensExtSize
  | lensWritePtr
  | lensReadPtr
  | lensCommand
  | lensDroppedCount
  | lensEvents
  deriving DecidableEq, Repr

/-- Lens counters (R397). -/
inductive LensCntReg
  | lensCounterSnapshot
  | lensCounterClear
  | lensSnapshotTime
  deriving DecidableEq, Repr

/-- Provocation (R398). -/
inductive ProvokeReg
  | provokeArm
  | provokeState
  | provokeRunTime
  | provokeTargets
  | provokeRates (m : Fin 7)
  | provokeSeed
  | provokeCount (m : Fin 7)
  deriving DecidableEq, Repr

/-- Commit and configuration check (R385). -/
inductive CommitReg
  | configCommit
  | configCommitResult
  | configCommitRefusal
  | configStageOwner
  | configStageIdleLimit
  | configCrcLive
  | configCrcReference
  | configCrcState
  | configStoreSeq
  | configStoreCount
  deriving DecidableEq, Repr

/-- Doors (R386). -/
inductive DoorsReg
  | doorRights (m : Fin 5)
  | staleClearCount
  | doorDeniedCount (m : Fin 5)
  | doorBusyCount (m : Fin 5)
  | doorEvents
  | doorCommandCount (m : Fin 5)
  | notifyLostCount
  deriving DecidableEq, Repr

/-- Firmware (R399). -/
inductive FwReg
  | fwRunningBank
  | fwVersion (m : Fin 2)
  | fwFailedStarts
  | fwUpdateCommand
  | fwUpdateState
  | fwRollbackCount
  deriving DecidableEq, Repr

/-- CAN (R387). -/
inductive CanReg
  | canNodeId
  | canNodeIdActive
  | canNominalRate
  | canDataRate
  | sdoDomainOffset
  | canRpdoRefusedCount
  | canSdoAbortCount
  | canBusOffCount
  | canState
  | sdoReadStaged
  deriving DecidableEq, Repr

/-- LOC (R388). -/
inductive LocReg
  | locAddress
  | locPec
  | locPecErrorCount
  deriving DecidableEq, Repr

/-- Straps and fuses (R400). -/
inductive StrapReg
  | sramRepairBank
  | resetCause
  deriving DecidableEq, Repr

/-- Communication objects with one value (R393). -/
inductive CommReg
  | deviceType
  | errorRegister
  | cobIdSync
  | commCyclePeriod
  | cobIdTime
  | cobIdEmcy
  | inhibitEmcy
  | heartbeatTime
  deriving DecidableEq, Repr

/-- RPDO n: communication (page 0) and mapping (page 1) objects (R393). -/
inductive RpdoReg
  | cobId
  | transType
  | eventTimer
  | mapCount
  | mapEntry (m : Fin 16)
  deriving DecidableEq, Repr

/-- TPDO n: communication (page 0) and mapping (page 1) objects (R393). -/
inductive TpdoReg
  | cobId
  | transType
  | inhibitTime
  | eventTimer
  | mapCount
  | mapEntry (m : Fin 16)
  deriving DecidableEq, Repr

/-- Every stored register of the dictionary, by index block (R392) and entry. -/
inductive Reg
  | hub (r : HubReg)
  | port (p : Port) (r : PortReg)
  | xlate (i : Image) (r : XlateReg)
  | lock (r : LockReg)
  | image (i : Image) (r : ImageReg)
  | relay (r : RelayReg)
  | hold (r : HoldReg)
  | hold4 (i : Image) (r : HoldImageReg)
  | res (r : ResReg)
  | arb (r : ArbReg)
  | session (d : Door) (r : SessionReg)
  | stream (n : Stream) (r : StreamReg)
  | ring (r : RingReg)
  | link (k : Link) (r : LinkReg)
  | time (r : TimeReg)
  | pps (r : PpsReg)
  | canTime (r : CanTimeReg)
  | echo (k : Link) (r : EchoReg)
  | launch (r : LaunchReg)
  | pd (r : PdReg)
  | tc (p : Port) (r : TcReg)
  | power (r : PowerReg)
  | feed (x : Feed) (r : FeedReg)
  | chan (c : Channel) (r : ChanReg)
  | domain (r : DomainReg)
  | fault (r : FaultReg)
  | lens (r : LensReg)
  | lensCnt (r : LensCntReg)
  | provoke (r : ProvokeReg)
  | commit (r : CommitReg)
  | doors (r : DoorsReg)
  | fw (r : FwReg)
  | can (r : CanReg)
  | loc (r : LocReg)
  | strap (r : StrapReg)
  | comm (r : CommReg)
  | rpdo (n : Fin 4) (r : RpdoReg)
  | tpdo (n : Fin 8) (r : TpdoReg)
  deriving DecidableEq, Repr

/-- One entry of the dictionary (R357): its type, access, the registers that hold its elements (none for an entry that is
computed when it is read or has a data path of its own), the bytes of one element (for such an entry, its whole length, 0 when
that varies), the range of each element, and whether it is a bitmap whose bit n lies in byte n / 8. -/
structure Entry where
  typ    : EType
  access : Access
  regs   : List Reg
  width  : Nat
  range  : Range
  bitmap : Bool
  deriving DecidableEq, Repr

/-- Sub-index and element of each register (Hub core, facet-wide (R66)). -/
def hubRegSub : HubReg → Nat × Nat
  | .portPowerGoodTime => (1, 0)
  | .portResetTime => (2, 0)
  | .portRearmByHost => (3, 0)
  | .upstreamSpeed => (5, 0)
  | .singleTtImages => (6, 0)
  | .badPidCount => (7, 0)
  | .tokenCrcErrorCount => (8, 0)
  | .unroutedTokenCount => (9, 0)
  | .hsEngineTimeoutCount => (10, 0)
  | .lpmTokenIgnoredCount => (11, 0)
  | .hsEngineWaitCount => (12, 0)
  | .remoteWakeMergedCount => (13, 0)
  | .controlAbortByResetCount => (14, 0)
  | .splitBadPortCount => (15, 0)
  | .deviceToggleMismatchCount => (16, 0)
  | .sofMissCount => (17, 0)
  | .earlyWakeCount => (18, 0)
  | .hubEvents => (19, 0)

/-- Width in bits (Hub core, facet-wide (R66)). -/
def hubRegBits : HubReg → Nat
  | .portPowerGoodTime => 8
  | .portResetTime => 8
  | .portRearmByHost => 8
  | .upstreamSpeed => 8
  | .singleTtImages => 8
  | _ => 32

/-- Default (Hub core, facet-wide (R66)). -/
def hubRegDefault (_ : Ident) : HubReg → Nat
  | .portPowerGoodTime => 50
  | .portResetTime => 15
  | .portRearmByHost => 1
  | .singleTtImages => 0x0F
  | _ => 0

/-- Sub-index and element of each register (Port p (R41)). -/
def portRegSub : PortReg → Nat × Nat
  | .portState => (1, 0)
  | .portSpeed => (2, 0)
  | .portDeviceAddress => (3, 0)
  | .portResetCount => (4, 0)
  | .portBabbleCount => (5, 0)
  | .portChirpFailCount => (6, 0)
  | .portTtErrorCount => (7, 0)
  | .portTestMode => (8, 0)

/-- Width in bits (Port p (R41)). -/
def portRegBits : PortReg → Nat
  | .portState => 8
  | .portSpeed => 8
  | .portDeviceAddress => 8
  | .portTestMode => 8
  | _ => 32

/-- Default (Port p (R41)). -/
def portRegDefault (_ : Ident) (_ : Port) : PortReg → Nat
  | _ => 0

/-- Sub-index and element of each register (Address translation of image i (R51)). -/
def xlateRegSub : XlateReg → Nat × Nat
  | .xlateEpPairs m => (3, m.val)

/-- Width in bits (Address translation of image i (R51)). -/
def xlateRegBits : XlateReg → Nat
  | .xlateEpPairs _ => 8

/-- Default (Address translation of image i (R51)). -/
def xlateRegDefault (_ : Ident) (_ : Image) : XlateReg → Nat
  | _ => 0

/-- Sub-index and element of each register (Prism lock and commit (R111)). -/
def lockRegSub : LockReg → Nat × Nat
  | .prismLockRequest => (1, 0)
  | .prismLockOwner => (3, 0)
  | .prismLockIdleLimit => (4, 0)
  | .prismLockLossCount => (5, 0)
  | .prismLeaseLapseCount => (6, 0)
  | .prismCommit => (7, 0)
  | .prismCommitResult => (8, 0)
  | .prismCommitRefusal => (9, 0)
  | .prismCommitApplyTime => (10, 0)
  | .prismMembershipStaged m => (11, m.val)
  | .prismJoinAuto => (12, 0)

/-- Width in bits (Prism lock and commit (R111)). -/
def lockRegBits : LockReg → Nat
  | .prismLockRequest => 16
  | .prismLockIdleLimit => 16
  | .prismCommit => 8
  | .prismCommitResult => 8
  | .prismMembershipStaged _ => 64
  | .prismJoinAuto => 8
  | _ => 32

/-- Default (Prism lock and commit (R111)). -/
def lockRegDefault (v : Ident) : LockReg → Nat
  | .prismLockIdleLimit => 10
  | .prismMembershipStaged m => if m.val = 0 then v.uniqueId else 0
  | _ => 0

/-- Sub-index and element of each register (Image i (R116)). -/
def imageRegSub : ImageReg → Nat × Nat
  | .imageEnable => (1, 0)
  | .imagePrimary => (2, 0)
  | .imageMirror => (3, 0)
  | .imagePortCount => (4, 0)
  | .imagePortMap m => (5, m.val)
  | .imageAperture => (6, 0)
  | .imageDefaultMap => (7, 0)
  | .relayInReadAhead => (8, 0)
  | .relayOutDepth => (9, 0)
  | .relayTimeout => (10, 0)
  | .imageApertureOut => (13, 0)

/-- Width in bits (Image i (R116)). -/
def imageRegBits : ImageReg → Nat
  | .imageEnable => 8
  | .imagePrimary => 8
  | .imageMirror => 8
  | .imagePortCount => 8
  | .imagePortMap _ => 16
  | .imageAperture => 8
  | .imageDefaultMap => 8
  | .relayInReadAhead => 8
  | .relayOutDepth => 8
  | .relayTimeout => 16
  | .imageApertureOut => 256

/-- Default (Image i (R116)). -/
def imageRegDefault (v : Ident) (i : Image) : ImageReg → Nat
  | .imageEnable => if i = 0 then 1 else 0
  | .imagePrimary => if i = 0 then 0x80 else 0
  | .imageMirror => if i = 0 then 0x90 else 0
  | .imagePortCount => if i = 0 then v.ports + 1 else 1
  | .imagePortMap m =>
      if i = 0 then (if m.val < v.ports then 0x1000 + m.val + 1 else if m.val = v.ports then 0x2000 else 0) else if m.val = 0 then 0x2000 else 0
  | .imageAperture => 30
  | .relayInReadAhead => 2
  | .relayOutDepth => 2
  | .relayTimeout => 500
  | _ => 0

/-- Sub-index and element of each register (Relay counters (R141)). -/
def relayRegSub : RelayReg → Nat × Nat
  | .relayReqCount => (1, 0)
  | .relayDeferredStallCount => (2, 0)
  | .relayOutDropBytes => (3, 0)
  | .relayErrorCount => (4, 0)
  | .relayRetryCount => (5, 0)
  | .relayIsoRefusedCount => (6, 0)
  | .relaySplitLateCount => (7, 0)
  | .relayPoolExhaustCount => (8, 0)
  | .relayReadAheadDiscardBytes => (10, 0)
  | .apertureExceedCount => (11, 0)
  | .relayEvents => (12, 0)
  | .relayDupOutCount => (13, 0)
  | .relayStaleRspCount => (14, 0)
  | .relayHostErrorCount => (15, 0)

/-- Width in bits (Relay counters (R141)). -/
def relayRegBits : RelayReg → Nat
  | _ => 32

/-- Default (Relay counters (R141)). -/
def relayRegDefault (_ : Ident) : RelayReg → Nat
  | _ => 0

/-- Sub-index and element of each register (Hold-over, facet-wide (R173)). -/
def holdRegSub : HoldReg → Nat × Nat
  | .holdoverTableShadow m => (1, m.val)
  | .holdoverPayloadShadow m => (2, m.val)
  | .holdoverTableSwap => (4, 0)
  | .holdoverTableStatus => (5, 0)
  | .holdoverTableActive => (6, 0)
  | .holdoverPollCount => (7, 0)
  | .holdoverSlotSkipCount => (8, 0)
  | .holdoverPauseCount => (9, 0)
  | .holdoverEntryActionFailCount => (10, 0)
  | .holdoverSlotInactiveCount => (11, 0)
  | .holdoverDiscardBytes => (12, 0)
  | .adoptAddr0ConflictCount => (13, 0)
  | .adoptResetDrivenCount => (14, 0)
  | .adoptSeamlessFallbackCount => (15, 0)
  | .suspendIntentLapseCount => (16, 0)
  | .holdoverEvents => (17, 0)

/-- Width in bits (Hold-over, facet-wide (R173)). -/
def holdRegBits : HoldReg → Nat
  | .holdoverTableShadow _ => 64
  | .holdoverPayloadShadow _ => 8
  | .holdoverTableSwap => 8
  | .holdoverTableActive => 8
  | _ => 32

/-- Default (Hold-over, facet-wide (R173)). -/
def holdRegDefault (_ : Ident) : HoldReg → Nat
  | _ => 0

/-- Sub-index and element of each register (Hold-over and adoption of image i (R174)). -/
def holdImageRegSub : HoldImageReg → Nat × Nat
  | .holdoverArm => (1, 0)
  | .holdoverSuspendIntent => (2, 0)
  | .holdoverCommand => (3, 0)
  | .holdoverState => (4, 0)
  | .holdoverEntryCause => (5, 0)
  | .holdoverEntryTime => (6, 0)
  | .holdoverHeldPorts => (7, 0)
  | .adoptAuto => (8, 0)
  | .adoptAutoDelay => (9, 0)
  | .holdoverRecall => (10, 0)
  | .seamlessPorts => (11, 0)
  | .suspendIntentWindow => (12, 0)
  | .adoptDeviceTimeout => (13, 0)
  | .adoptImageTimeout => (14, 0)
  | .adoptResetAbsorbLimit => (15, 0)
  | .adoptResult => (17, 0)
  | .adoptRefusal => (18, 0)
  | .adoptDivergentPorts => (19, 0)
  | .holdoverRolesSwapped => (20, 0)
  | .holdoverCount => (21, 0)
  | .adoptCount => (22, 0)
  | .adoptFailCount => (23, 0)

/-- Width in bits (Hold-over and adoption of image i (R174)). -/
def holdImageRegBits : HoldImageReg → Nat
  | .holdoverArm => 8
  | .holdoverSuspendIntent => 8
  | .holdoverCommand => 8
  | .holdoverState => 8
  | .holdoverEntryCause => 8
  | .holdoverHeldPorts => 256
  | .adoptAuto => 8
  | .adoptAutoDelay => 16
  | .holdoverRecall => 8
  | .seamlessPorts => 256
  | .suspendIntentWindow => 16
  | .adoptDeviceTimeout => 16
  | .adoptImageTimeout => 16
  | .adoptResetAbsorbLimit => 8
  | .adoptResult => 8
  | .adoptRefusal => 8
  | .adoptDivergentPorts => 256
  | .holdoverRolesSwapped => 8
  | _ => 32

/-- Default (Hold-over and adoption of image i (R174)). -/
def holdImageRegDefault (_ : Ident) (_ : Image) : HoldImageReg → Nat
  | .adoptAutoDelay => 50
  | .suspendIntentWindow => 1000
  | .adoptDeviceTimeout => 10
  | .adoptImageTimeout => 30
  | .adoptResetAbsorbLimit => 3
  | _ => 0

/-- Sub-index and element of each register (Reservoir, facet-wide (R201)). -/
def resRegSub : ResReg → Nat × Nat
  | .reservoirDramSize => (1, 0)
  | .reservoirDramGeometry => (2, 0)
  | .reservoirDramState => (3, 0)
  | .resIdleRecord => (4, 0)
  | .resConfigRefusal => (5, 0)
  | .dramCeCount => (6, 0)
  | .dramUeCount => (7, 0)
  | .dramUeAddress => (8, 0)
  | .sramCeCount m => (9, m.val)
  | .sramUeCount m => (10, m.val)
  | .scrubPassTime => (11, 0)
  | .scrubPassCount => (12, 0)
  | .lostRecordCount => (13, 0)
  | .resEvents => (14, 0)

/-- Width in bits (Reservoir, facet-wide (R201)). -/
def resRegBits : ResReg → Nat
  | .reservoirDramGeometry => 8
  | .reservoirDramState => 8
  | .resIdleRecord => 8
  | .scrubPassTime => 16
  | _ => 32

/-- Default (Reservoir, facet-wide (R201)). -/
def resRegDefault (_ : Ident) : ResReg → Nat
  | .scrubPassTime => 3600
  | _ => 0

/-- Sub-index and element of each register (DRAM arbiter (R202)). -/
def arbRegSub : ArbReg → Nat × Nat
  | .arbFreeze => (1, 0)
  | .arbFreezeState => (2, 0)
  | .arbWaitLimit m => (3, m.val)
  | .arbForcedWinCount m => (4, m.val)
  | .arbGrantCount m => (5, m.val)
  | .arbMaxWait m => (6, m.val)
  | .arbParkedOwner => (7, 0)

/-- Width in bits (DRAM arbiter (R202)). -/
def arbRegBits : ArbReg → Nat
  | .arbFreeze => 8
  | .arbFreezeState => 8
  | .arbWaitLimit _ => 16
  | .arbMaxWait _ => 16
  | .arbParkedOwner => 8
  | _ => 32

/-- Default (DRAM arbiter (R202)). -/
def arbRegDefault (_ : Ident) : ArbReg → Nat
  | .arbWaitLimit m => if m.val < 6 then 64 else if m.val = 6 then 128 else if m.val = 7 then 256
      else if m.val = 8 then 1024 else if m.val = 9 then 512 else 4096
  | .arbParkedOwner => 10
  | _ => 0

/-- Sub-index and element of each register (Read session of door d (R203)). -/
def sessionRegSub : SessionReg → Nat × Nat
  | .sessionStreams => (1, 0)
  | .sessionFacet => (2, 0)
  | .sessionOpen => (3, 0)
  | .sessionState => (4, 0)
  | .sessionRecords => (6, 0)

/-- Width in bits (Read session of door d (R203)). -/
def sessionRegBits : SessionReg → Nat
  | .sessionStreams => 256
  | .sessionFacet => 8
  | .sessionOpen => 8
  | .sessionState => 8
  | _ => 32

/-- Default (Read session of door d (R203)). -/
def sessionRegDefault (_ : Ident) (_ : Door) : SessionReg → Nat
  | .sessionFacet => 0xFF
  | _ => 0

/-- Sub-index and element of each register (Stream n (R204)). -/
def streamRegSub : StreamReg → Nat × Nat
  | .streamEnable => (1, 0)
  | .streamBase => (2, 0)
  | .streamSize => (3, 0)
  | .streamPriority => (4, 0)
  | .streamRecordBytes => (5, 0)
  | .streamAutoRelease => (6, 0)
  | .streamWritePtr => (7, 0)
  | .streamReadPtr => (8, 0)
  | .streamReleasePtr => (9, 0)
  | .streamMarkPtr => (10, 0)
  | .streamRecordsWritten => (13, 0)
  | .streamRecordsDelivered => (14, 0)
  | .streamOverrunItems => (15, 0)
  | .streamCommand => (16, 0)
  | .streamStallCount => (17, 0)
  | .streamXactErrorCount => (18, 0)
  | .streamEvents => (19, 0)
  | .flushDropWords => (20, 0)
  | .streamBadRecordCount => (21, 0)

/-- Width in bits (Stream n (R204)). -/
def streamRegBits : StreamReg → Nat
  | .streamEnable => 8
  | .streamPriority => 8
  | .streamAutoRelease => 8
  | .streamCommand => 8
  | _ => 32

/-- Default (Stream n (R204)). -/
def streamRegDefault (_ : Ident) (_ : Stream) : StreamReg → Nat
  | _ => 0

/-- Sub-index and element of each register (Ring, facet-wide (R112)). -/
def ringRegSub : RingReg → Nat × Nat
  | .ringMemberState => (1, 0)
  | .facetIndex => (2, 0)
  | .prismId => (3, 0)
  | .prismEpoch => (4, 0)
  | .prismOrigin => (5, 0)
  | .prismMembership m => (6, m.val)
  | .memberPresence => (7, 0)
  | .topologyKind => (8, 0)
  | .quorumState => (10, 0)
  | .formationSettleTime => (11, 0)
  | .facetWithdraw => (12, 0)
  | .healCount => (13, 0)
  | .lastHealTime => (14, 0)
  | .hopExpiredCount => (15, 0)
  | .unknownDestCount => (16, 0)
  | .ringEvents => (17, 0)
  | .healDropFrameCount => (19, 0)

/-- Width in bits (Ring, facet-wide (R112)). -/
def ringRegBits : RingReg → Nat
  | .ringMemberState => 8
  | .facetIndex => 8
  | .prismId => 64
  | .prismOrigin => 8
  | .prismMembership _ => 64
  | .memberPresence => 16
  | .topologyKind => 8
  | .quorumState => 8
  | .formationSettleTime => 16
  | .facetWithdraw => 8
  | _ => 32

/-- Default (Ring, facet-wide (R112)). -/
def ringRegDefault (v : Ident) : RingReg → Nat
  | .prismId => v.uniqueId
  | .prismMembership m => if m.val = 0 then v.uniqueId else 0
  | .memberPresence => 0x0001
  | .quorumState => 1
  | .formationSettleTime => 500
  | _ => 0

/-- Sub-index and element of each register (Link k (R113)). -/
def linkRegSub : LinkReg → Nat × Nat
  | .linkMode => (1, 0)
  | .linkState => (2, 0)
  | .linkPartnerId => (3, 0)
  | .linkPartnerLink => (4, 0)
  | .linkLatency => (5, 0)
  | .linkRefusal => (6, 0)
  | .linkErrorThreshold => (7, 0)
  | .linkSymbolErrorCount => (8, 0)
  | .linkFrameErrorCount => (9, 0)
  | .linkReplayCount => (10, 0)
  | .linkRetrainCount => (11, 0)
  | .linkDownCount => (12, 0)
  | .linkTrainFailCount => (13, 0)
  | .linkLaneMap => (14, 0)
  | .linkViolationCount => (15, 0)
  | .linkReplayStallCount => (16, 0)

/-- Width in bits (Link k (R113)). -/
def linkRegBits : LinkReg → Nat
  | .linkMode => 8
  | .linkState => 8
  | .linkPartnerId => 64
  | .linkPartnerLink => 8
  | .linkRefusal => 8
  | .linkErrorThreshold => 16
  | .linkLaneMap => 8
  | _ => 32

/-- Default (Link k (R113)). -/
def linkRegDefault (_ : Ident) (_ : Link) : LinkReg → Nat
  | .linkPartnerLink => 0xFF
  | .linkErrorThreshold => 16
  | _ => 0

/-- Sub-index and element of each register (Counter, focal, servo (R237)). -/
def timeRegSub : TimeReg → Nat × Nat
  | .timeWrapCount => (4, 0)
  | .timeFreqAdj => (6, 0)
  | .timeStoredFreq => (7, 0)
  | .servoKp => (8, 0)
  | .servoKi => (9, 0)
  | .timeStepThreshold => (10, 0)
  | .servoState => (11, 0)
  | .servoOffset => (12, 0)
  | .timeParentLink => (13, 0)
  | .timeStepCount => (14, 0)
  | .timeLastStep => (15, 0)
  | .focalPriority => (16, 0)
  | .focalId => (17, 0)
  | .focalIndex => (18, 0)
  | .focalStepsRemoved => (19, 0)
  | .focalChangeCount => (20, 0)
  | .timeFocalTrim => (21, 0)
  | .timeEvents => (22, 0)
  | .timeCivilAnchor => (23, 0)

/-- Width in bits (Counter, focal, servo (R237)). -/
def timeRegBits : TimeReg → Nat
  | .servoState => 8
  | .timeParentLink => 8
  | .focalPriority => 8
  | .focalId => 64
  | .focalIndex => 8
  | .focalStepsRemoved => 8
  | .timeCivilAnchor => 112
  | _ => 32

/-- Default (Counter, focal, servo (R237)). -/
def timeRegDefault (v : Ident) : TimeReg → Nat
  | .timeStoredFreq => 0x80000000
  | .servoKp => 655360
  | .servoKi => 1638
  | .timeStepThreshold => 1000
  | .timeParentLink => 0xFF
  | .focalPriority => 128
  | .focalId => v.uniqueId
  | _ => 0

/-- Sub-index and element of each register (PPS_IN and PPS_OUT (R238)). -/
def ppsRegSub : PpsReg → Nat × Nat
  | .ppsInEnable => (1, 0)
  | .ppsInOffset => (2, 0)
  | .ppsInState => (3, 0)
  | .ppsInLastStamp => (4, 0)
  | .ppsInError => (5, 0)
  | .ppsInMissCount => (6, 0)
  | .ppsKp => (7, 0)
  | .ppsKi => (8, 0)
  | .ppsOutEnable => (9, 0)
  | .ppsOutNext => (10, 0)
  | .ppsOutPeriod => (11, 0)
  | .ppsOutWidth => (12, 0)

/-- Width in bits (PPS_IN and PPS_OUT (R238)). -/
def ppsRegBits : PpsReg → Nat
  | .ppsInEnable => 8
  | .ppsInState => 8
  | .ppsOutEnable => 8
  | _ => 32

/-- Default (PPS_IN and PPS_OUT (R238)). -/
def ppsRegDefault (_ : Ident) : PpsReg → Nat
  | .ppsKp => 6554
  | .ppsKi => 164
  | .ppsOutPeriod => 1000000000
  | .ppsOutWidth => 100000
  | _ => 0

/-- Sub-index and element of each register (CAN time and PD stamps (R239)). -/
def canTimeRegSub : CanTimeReg → Nat × Nat
  | .canTimePeriod => (1, 0)
  | .canTimeTxStamp => (2, 0)
  | .canTimeLateCount => (3, 0)
  | .canSyncPhase => (4, 0)
  | .canSyncStamp => (5, 0)
  | .canSyncCount => (6, 0)
  | .pdRxStamp m => (1, m.val)

/-- Width in bits (CAN time and PD stamps (R239)). -/
def canTimeRegBits : CanTimeReg → Nat
  | .canTimePeriod => 16
  | _ => 32

/-- Default (CAN time and PD stamps (R239)). -/
def canTimeRegDefault (_ : Ident) : CanTimeReg → Nat
  | .canTimePeriod => 1000
  | _ => 0

/-- Sub-index and element of each register (Echo of link k (R240)). -/
def echoRegSub : EchoReg → Nat × Nat
  | .echoTxDelay => (1, 0)
  | .echoRxDelay => (2, 0)
  | .echoAsymmetry => (3, 0)
  | .echoOffset => (4, 0)
  | .echoMeanPath => (5, 0)
  | .echoMissCount => (6, 0)

/-- Width in bits (Echo of link k (R240)). -/
def echoRegBits : EchoReg → Nat
  | _ => 32

/-- Default (Echo of link k (R240)). -/
def echoRegDefault (_ : Ident) (_ : Link) : EchoReg → Nat
  | _ => 0

/-- Sub-index and element of each register (SOF time table and launch queue (R241)). -/
def launchRegSub : LaunchReg → Nat × Nat
  | .sofStepLogIndex => (3, 0)
  | .launchCancel => (2, 0)
  | .launchResultIndex => (5, 0)
  | .launchDoneCount => (6, 0)
  | .launchLateCount => (7, 0)
  | .launchRefusedCount => (8, 0)
  | .launchFailCount => (9, 0)
  | .launchRefusal => (10, 0)

/-- Width in bits (SOF time table and launch queue (R241)). -/
def launchRegBits : LaunchReg → Nat
  | .sofStepLogIndex => 8
  | .launchCancel => 16
  | .launchResultIndex => 8
  | .launchRefusal => 8
  | _ => 32

/-- Default (SOF time table and launch queue (R241)). -/
def launchRegDefault (_ : Ident) : LaunchReg → Nat
  | _ => 0

/-- Sub-index and element of each register (Type-C and PD, facet-wide (R282)). -/
def pdRegSub : PdReg → Nat × Nat
  | .pdBudgetBoard => (1, 0)
  | .pdBudgetFeedLimit => (2, 0)
  | .pdShedPorts => (5, 0)
  | .pdShedDelay => (6, 0)
  | .pdMinPdoCurrent => (7, 0)
  | .pdRegTimeout => (8, 0)
  | .pdRegPec => (9, 0)
  | .moistureEnable => (10, 0)
  | .moistureThreshold => (11, 0)
  | .pdUnconstrained => (12, 0)
  | .tcVbusAonEnable => (13, 0)
  | .tcUpstreamRp => (14, 0)
  | .pdReofferCount => (15, 0)
  | .pdEvents => (16, 0)

/-- Width in bits (Type-C and PD, facet-wide (R282)). -/
def pdRegBits : PdReg → Nat
  | .pdShedPorts => 16
  | .pdShedDelay => 16
  | .pdMinPdoCurrent => 16
  | .pdRegTimeout => 16
  | .pdRegPec => 8
  | .moistureEnable => 8
  | .pdUnconstrained => 8
  | .tcVbusAonEnable => 8
  | .tcUpstreamRp => 8
  | _ => 32

/-- Default (Type-C and PD, facet-wide (R282)). -/
def pdRegDefault (_ : Ident) : PdReg → Nat
  | .pdBudgetBoard => 40000
  | .pdShedDelay => 200
  | .pdMinPdoCurrent => 1000
  | .pdRegTimeout => 200
  | .pdRegPec => 1
  | .moistureEnable => 1
  | .moistureThreshold => 200000
  | _ => 0

/-- Sub-index and element of each register (Type-C and PD of port p (R283)). -/
def tcRegSub : TcReg → Nat × Nat
  | .tcRoleMode => (1, 0)
  | .pdPortPriority => (2, 0)
  | .pdPortMaxPower => (3, 0)
  | .pdPpsEnable => (4, 0)
  | .pdPrSwapAccept => (5, 0)
  | .pdRegAddress => (6, 0)
  | .tcState => (7, 0)
  | .pdContractState => (9, 0)
  | .pdRdo => (10, 0)
  | .pdAllocation => (11, 0)
  | .pdOfferPower => (12, 0)
  | .pdCableVdo => (13, 0)
  | .pdSwapRefusal => (14, 0)
  | .pdHardResetCount => (15, 0)
  | .pdSoftResetCount => (16, 0)
  | .pdRxErrorCount => (17, 0)
  | .pdTxFailCount => (18, 0)
  | .pdRejectCount => (19, 0)
  | .pdNotSupportedCount => (20, 0)
  | .pdCollisionCount => (21, 0)
  | .pdRegFailCount => (22, 0)
  | .moistureWetCount => (23, 0)
  | .moistureImpedance m => (24, m.val)
  | .pdViolationCount => (25, 0)
  | .vconnFaultCount => (26, 0)
  | .tcUnsupportedCount => (27, 0)

/-- Width in bits (Type-C and PD of port p (R283)). -/
def tcRegBits : TcReg → Nat
  | .tcRoleMode => 8
  | .pdPortPriority => 8
  | .pdPpsEnable => 8
  | .pdPrSwapAccept => 8
  | .pdRegAddress => 8
  | .tcState => 8
  | .pdContractState => 8
  | .pdSwapRefusal => 8
  | _ => 32

/-- Default (Type-C and PD of port p (R283)). -/
def tcRegDefault (v : Ident) (p : Port) : TcReg → Nat
  | .tcRoleMode => if v.wyhelen && v.ports ≤ p.val + 4 && p.val < v.ports then 1 else 0
  | .pdPortPriority => 4
  | .pdPortMaxPower => 100000
  | .pdPpsEnable => 1
  | .pdPrSwapAccept => 1
  | .pdRegAddress => 0x40 + p.val
  | _ => 0

/-- Sub-index and element of each register (Power path, facet-wide (R306)). -/
def powerRegSub : PowerReg → Nat × Nat
  | .powerPathState => (1, 0)
  | .boardReservePower => (2, 0)
  | .portRegEfficiency => (3, 0)
  | .collectorPowerLimit => (4, 0)
  | .energyCheckpointPeriod => (5, 0)
  | .energyCheckpointTime => (6, 0)
  | .powerEvents => (7, 0)
  | .passDevChannel => (8, 0)
  | .powerGood => (9, 0)
  | .brkTripped => (10, 0)
  | .energyCheckpointCount => (11, 0)
  | .powerConfigRefusal => (12, 0)
  | .portSoftStartTime => (13, 0)

/-- Width in bits (Power path, facet-wide (R306)). -/
def powerRegBits : PowerReg → Nat
  | .powerPathState => 8
  | .portRegEfficiency => 16
  | .energyCheckpointPeriod => 16
  | .passDevChannel => 8
  | .portSoftStartTime => 8
  | _ => 32

/-- Default (Power path, facet-wide (R306)). -/
def powerRegDefault (_ : Ident) : PowerReg → Nat
  | .boardReservePower => 5000
  | .portRegEfficiency => 900
  | .collectorPowerLimit => 400000
  | .energyCheckpointPeriod => 60
  | .passDevChannel => 0xFF
  | .portSoftStartTime => 6
  | _ => 0

/-- Sub-index and element of each register (Feed x (R307)). -/
def feedRegSub : FeedReg → Nat × Nat
  | .feedEnable => (1, 0)
  | .feedState => (2, 0)
  | .feedUvRise => (3, 0)
  | .feedUvFall => (4, 0)
  | .feedOvRise => (5, 0)
  | .feedOvFall => (6, 0)
  | .feedInsertDelay => (7, 0)
  | .prechargeTimeout => (8, 0)
  | .gateSlew => (9, 0)
  | .feedPowerLimit => (10, 0)
  | .idealRevCount => (11, 0)
  | .feedStartCount => (12, 0)
  | .feedWindowExitCount => (13, 0)

/-- Width in bits (Feed x (R307)). -/
def feedRegBits : FeedReg → Nat
  | .feedEnable => 8
  | .feedState => 8
  | .feedInsertDelay => 16
  | .prechargeTimeout => 16
  | .gateSlew => 16
  | _ => 32

/-- Default (Feed x (R307)). -/
def feedRegDefault (_ : Ident) (_ : Feed) : FeedReg → Nat
  | .feedEnable => 1
  | .feedUvRise => 11500
  | .feedUvFall => 10800
  | .feedOvRise => 60000
  | .feedOvFall => 58000
  | .feedInsertDelay => 100
  | .prechargeTimeout => 200
  | .gateSlew => 2000
  | .feedPowerLimit => 100000
  | _ => 0

/-- Sub-index and element of each register (Breaker channel c (R308)). -/
def chanRegSub : ChanReg → Nat × Nat
  | .brkCurve m => (1, m.val)
  | .brkInstLevel => (2, 0)
  | .brkRampTime => (3, 0)
  | .brkCoolTau => (4, 0)
  | .brkShunt => (5, 0)
  | .brkState => (6, 0)
  | .brkTripCause => (7, 0)
  | .brkHeat => (8, 0)
  | .brkTripCount => (9, 0)
  | .brkRearm => (10, 0)
  | .chanCurrent => (11, 0)
  | .chanVoltage => (12, 0)
  | .chanPower => (13, 0)
  | .chanEnergy => (14, 0)
  | .brkLastTripTime => (15, 0)
  | .brkLastTripCurrent => (16, 0)

/-- Width in bits (Breaker channel c (R308)). -/
def chanRegBits : ChanReg → Nat
  | .brkCurve _ => 64
  | .brkRampTime => 16
  | .brkState => 8
  | .brkTripCause => 8
  | .brkHeat => 16
  | .brkRearm => 8
  | .chanEnergy => 64
  | _ => 32

/-- Default (Breaker channel c (R308)). -/
def chanRegDefault (_ : Ident) (c : Channel) : ChanReg → Nat
  | .brkCurve m => curveDefault c.val m.val
  | .brkInstLevel => if c.val < 3 then 30000 else 12000
  | .brkRampTime => 20
  | .brkCoolTau => if c.val < 3 then 10000 else 2000
  | .brkShunt => if c.val < 3 then 2000 else 5000
  | _ => 0

/-- Sub-index and element of each register (Domains, clocks, wake (R330)). -/
def domainRegSub : DomainReg → Nat × Nat
  | .domainState => (1, 0)
  | .domainCommand => (2, 0)
  | .domainArmed => (3, 0)
  | .domainTriggerTime => (4, 0)
  | .domainCmdRefusal => (5, 0)
  | .retainBanks => (6, 0)
  | .wakeSourceEnable => (7, 0)
  | .wakeLinkPorts => (8, 0)
  | .wakeDomains => (9, 0)
  | .lastWakeRecord => (11, 0)
  | .wakeCount => (12, 0)
  | .sleepAbandonCount => (13, 0)
  | .domainWakeFailCount => (14, 0)
  | .domainWakeFailRecord => (15, 0)
  | .coreRegAddress => (16, 0)
  | .coreRegPec => (17, 0)
  | .coreRegState => (18, 0)
  | .clockStatus => (19, 0)
  | .pllUnlockCount => (20, 0)
  | .domainEvents => (21, 0)
  | .canStbyInSleep => (22, 0)

/-- Width in bits (Domains, clocks, wake (R330)). -/
def domainRegBits : DomainReg → Nat
  | .domainState => 16
  | .wakeSourceEnable => 8
  | .wakeDomains => 8
  | .lastWakeRecord => 128
  | .domainWakeFailRecord => 64
  | .coreRegAddress => 8
  | .coreRegPec => 8
  | .coreRegState => 8
  | .clockStatus => 8
  | .canStbyInSleep => 8
  | _ => 32

/-- Default (Domains, clocks, wake (R330)). -/
def domainRegDefault (v : Ident) : DomainReg → Nat
  | .domainState => v.domainsOn
  | .retainBanks => 0x001F9FFF
  | .wakeSourceEnable => 0x7F
  | .wakeLinkPorts => 0x003FFFFF
  | .wakeDomains => 0xFE
  | .coreRegAddress => 0x10
  | .coreRegPec => 1
  | .coreRegState => 2
  | .clockStatus => 0x07
  | .canStbyInSleep => 1
  | _ => 0

/-- Sub-index and element of each register (Faults (R355)). -/
def faultRegSub : FaultReg → Nat × Nat
  | .faultFirstSource => (1, 0)
  | .faultFirstTime => (2, 0)
  | .faultFirstDetail => (3, 0)
  | .faultFirstSeverity => (4, 0)
  | .faultStatus => (5, 0)
  | .faultLatched => (6, 0)
  | .faultLive => (7, 0)
  | .faultMerged => (8, 0)
  | .faultSeverity m => (9, m.val)
  | .faultSourceCount m => (10, m.val)
  | .faultLatchLevel => (11, 0)
  | .faultPulseLevel => (12, 0)
  | .faultPulseWidth => (13, 0)
  | .faultNControl => (14, 0)
  | .faultReactionWindow => (15, 0)
  | .faultUnitRelease => (16, 0)
  | .faultSafeRelease => (17, 0)
  | .faultSoftRaise => (18, 0)
  | .faultEscalateCount => (19, 0)
  | .faultMergedCount => (20, 0)
  | .faultUnitsDisabled => (21, 0)
  | .lastGaspRecord => (22, 0)
  | .lastGaspCount => (23, 0)
  | .faultSafeState => (24, 0)
  | .dieTemperature => (25, 0)
  | .thermWarnLevel => (26, 0)
  | .thermCritLevel => (27, 0)
  | .emcyLostCount => (28, 0)

/-- Width in bits (Faults (R355)). -/
def faultRegBits : FaultReg → Nat
  | .faultFirstSource => 8
  | .faultFirstSeverity => 8
  | .faultLatched => 64
  | .faultLive => 64
  | .faultMerged => 64
  | .faultSeverity _ => 8
  | .faultLatchLevel => 8
  | .faultPulseLevel => 8
  | .faultPulseWidth => 16
  | .faultNControl => 8
  | .faultReactionWindow => 16
  | .faultUnitRelease => 8
  | .faultSafeRelease => 8
  | .faultUnitsDisabled => 64
  | .lastGaspRecord => 512
  | .faultSafeState => 8
  | _ => 32

/-- Default (Faults (R355)). -/
def faultRegDefault (_ : Ident) : FaultReg → Nat
  | .faultFirstSource => 0xFF
  | .faultSeverity m => severityDefault m.val
  | .faultLatchLevel => 1
  | .faultPulseLevel => 2
  | .faultPulseWidth => 100
  | .faultReactionWindow => 2000
  | .dieTemperature => 250
  | .thermWarnLevel => 1150
  | .thermCritLevel => 1300
  | _ => 0

/-- Sub-index and element of each register (Lens trace (R395)). -/
def lensRegSub : LensReg → Nat × Nat
  | .lensEnable => (1, 0)
  | .lensSourceMask => (2, 0)
  | .lensPortMask => (3, 0)
  | .lensRecordSize => (4, 0)
  | .lensMode => (5, 0)
  | .lensExtBase => (6, 0)
  | .lensExtSize => (7, 0)
  | .lensWritePtr => (8, 0)
  | .lensReadPtr => (10, 0)
  | .lensCommand => (11, 0)
  | .lensDroppedCount => (12, 0)
  | .lensEvents => (13, 0)

/-- Width in bits (Lens trace (R395)). -/
def lensRegBits : LensReg → Nat
  | .lensEnable => 8
  | .lensRecordSize => 8
  | .lensMode => 8
  | .lensCommand => 8
  | _ => 32

/-- Default (Lens trace (R395)). -/
def lensRegDefault (_ : Ident) : LensReg → Nat
  | .lensSourceMask => 0x0000003F
  | .lensPortMask => 0x003FFFFF
  | .lensRecordSize => 16
  | _ => 0

/-- Sub-index and element of each register (Lens counters (R397)). -/
def lensCntRegSub : LensCntReg → Nat × Nat
  | .lensCounterSnapshot => (2, 0)
  | .lensCounterClear => (3, 0)
  | .lensSnapshotTime => (4, 0)

/-- Width in bits (Lens counters (R397)). -/
def lensCntRegBits : LensCntReg → Nat
  | .lensCounterSnapshot => 8
  | .lensCounterClear => 8
  | _ => 32

/-- Default (Lens counters (R397)). -/
def lensCntRegDefault (_ : Ident) : LensCntReg → Nat
  | _ => 0

/-- Sub-index and element of each register (Provocation (R398)). -/
def provokeRegSub : ProvokeReg → Nat × Nat
  | .provokeArm => (1, 0)
  | .provokeState => (2, 0)
  | .provokeRunTime => (3, 0)
  | .provokeTargets => (5, 0)
  | .provokeRates m => (6, m.val)
  | .provokeSeed => (7, 0)
  | .provokeCount m => (8, m.val)

/-- Width in bits (Provocation (R398)). -/
def provokeRegBits : ProvokeReg → Nat
  | .provokeArm => 8
  | .provokeState => 8
  | .provokeRunTime => 8
  | _ => 32

/-- Default (Provocation (R398)). -/
def provokeRegDefault (_ : Ident) : ProvokeReg → Nat
  | .provokeRunTime => 10
  | .provokeSeed => 1
  | _ => 0

/-- Sub-index and element of each register (Commit and configuration check (R385)). -/
def commitRegSub : CommitReg → Nat × Nat
  | .configCommit => (1, 0)
  | .configCommitResult => (2, 0)
  | .configCommitRefusal => (3, 0)
  | .configStageOwner => (4, 0)
  | .configStageIdleLimit => (5, 0)
  | .configCrcLive => (6, 0)
  | .configCrcReference => (7, 0)
  | .configCrcState => (8, 0)
  | .configStoreSeq => (9, 0)
  | .configStoreCount => (10, 0)

/-- Width in bits (Commit and configuration check (R385)). -/
def commitRegBits : CommitReg → Nat
  | .configCommit => 8
  | .configCommitResult => 8
  | .configStageOwner => 8
  | .configStageIdleLimit => 16
  | .configCrcState => 8
  | _ => 32

/-- Default (Commit and configuration check (R385)). -/
def commitRegDefault (_ : Ident) : CommitReg → Nat
  | .configStageIdleLimit => 10
  | _ => 0

/-- Sub-index and element of each register (Doors (R386)). -/
def doorsRegSub : DoorsReg → Nat × Nat
  | .doorRights m => (1, m.val)
  | .staleClearCount => (4, 0)
  | .doorDeniedCount m => (5, m.val)
  | .doorBusyCount m => (6, m.val)
  | .doorEvents => (7, 0)
  | .doorCommandCount m => (8, m.val)
  | .notifyLostCount => (9, 0)

/-- Width in bits (Doors (R386)). -/
def doorsRegBits : DoorsReg → Nat
  | .doorRights _ => 8
  | _ => 32

/-- Default (Doors (R386)). -/
def doorsRegDefault (_ : Ident) : DoorsReg → Nat
  | .doorRights m => if m.val = 3 then 0x1F else 0x0F
  | _ => 0

/-- Sub-index and element of each register (Firmware (R399)). -/
def fwRegSub : FwReg → Nat × Nat
  | .fwRunningBank => (1, 0)
  | .fwVersion m => (2, m.val)
  | .fwFailedStarts => (3, 0)
  | .fwUpdateCommand => (5, 0)
  | .fwUpdateState => (6, 0)
  | .fwRollbackCount => (7, 0)

/-- Width in bits (Firmware (R399)). -/
def fwRegBits : FwReg → Nat
  | .fwRunningBank => 8
  | .fwFailedStarts => 8
  | .fwUpdateCommand => 8
  | .fwUpdateState => 8
  | _ => 32

/-- Default (Firmware (R399)). -/
def fwRegDefault (_ : Ident) : FwReg → Nat
  | .fwVersion _ => 0xFFFFFFFF
  | _ => 0

/-- Sub-index and element of each register (CAN (R387)). -/
def canRegSub : CanReg → Nat × Nat
  | .canNodeId => (1, 0)
  | .canNodeIdActive => (2, 0)
  | .canNominalRate => (3, 0)
  | .canDataRate => (4, 0)
  | .sdoDomainOffset => (5, 0)
  | .canRpdoRefusedCount => (6, 0)
  | .canSdoAbortCount => (7, 0)
  | .canBusOffCount => (8, 0)
  | .canState => (9, 0)
  | .sdoReadStaged => (10, 0)

/-- Width in bits (CAN (R387)). -/
def canRegBits : CanReg → Nat
  | .canNodeId => 8
  | .canNodeIdActive => 8
  | .canNominalRate => 16
  | .canDataRate => 16
  | .canState => 8
  | .sdoReadStaged => 8
  | _ => 32

/-- Default (CAN (R387)). -/
def canRegDefault (_ : Ident) : CanReg → Nat
  | .canNodeId => 127
  | .canNodeIdActive => 127
  | .canNominalRate => 500
  | .canDataRate => 2000
  | _ => 0

/-- Sub-index and element of each register (LOC (R388)). -/
def locRegSub : LocReg → Nat × Nat
  | .locAddress => (1, 0)
  | .locPec => (2, 0)
  | .locPecErrorCount => (3, 0)

/-- Width in bits (LOC (R388)). -/
def locRegBits : LocReg → Nat
  | .locAddress => 8
  | .locPec => 8
  | _ => 32

/-- Default (LOC (R388)). -/
def locRegDefault (_ : Ident) : LocReg → Nat
  | .locAddress => 0x3A
  | .locPec => 1
  | _ => 0

/-- Sub-index and element of each register (Straps and fuses (R400)). -/
def strapRegSub : StrapReg → Nat × Nat
  | .sramRepairBank => (2, 0)
  | .resetCause => (4, 0)

/-- Width in bits (Straps and fuses (R400)). -/
def strapRegBits : StrapReg → Nat
  | .sramRepairBank => 8
  | .resetCause => 8

/-- Default (Straps and fuses (R400)). -/
def strapRegDefault (_ : Ident) : StrapReg → Nat
  | .sramRepairBank => 0xFF
  | .resetCause => 1

/-- Sub-index and element of each register (Communication objects with one value (R393)). -/
def commRegSub : CommReg → Nat × Nat
  | .deviceType => (0x1000, 0)
  | .errorRegister => (0x1001, 0)
  | .cobIdSync => (0x1005, 0)
  | .commCyclePeriod => (0x1006, 0)
  | .cobIdTime => (0x1012, 0)
  | .cobIdEmcy => (0x1014, 0)
  | .inhibitEmcy => (0x1015, 0)
  | .heartbeatTime => (0x1017, 0)

/-- Width in bits (Communication objects with one value (R393)). -/
def commRegBits : CommReg → Nat
  | .errorRegister => 8
  | .inhibitEmcy => 16
  | .heartbeatTime => 16
  | _ => 32

/-- Default (Communication objects with one value (R393)). -/
def commRegDefault (_ : Ident) : CommReg → Nat
  | .deviceType => 0x00000000
  | .cobIdSync => 0x00000080
  | .cobIdTime => 0x00000100
  | .cobIdEmcy => 0xFF
  | .heartbeatTime => 1000
  | _ => 0

/-- Sub-index and element of each register (RPDO n: communication (page 0) and mapping (page 1) objects (R393)). -/
def rpdoRegSub : RpdoReg → Nat × Nat
  | .cobId => (0, 1)
  | .transType => (0, 2)
  | .eventTimer => (0, 5)
  | .mapCount => (1, 0)
  | .mapEntry m => (1, m.val + 1)

/-- Width in bits (RPDO n: communication (page 0) and mapping (page 1) objects (R393)). -/
def rpdoRegBits : RpdoReg → Nat
  | .transType => 8
  | .eventTimer => 16
  | .mapCount => 8
  | _ => 32

/-- Default (RPDO n: communication (page 0) and mapping (page 1) objects (R393)). -/
def rpdoRegDefault (_ : Ident) (n : Fin 4) : RpdoReg → Nat
  | .cobId => 0x27F + 0x100 * n.val
  | .transType => 255
  | _ => 0

/-- Sub-index and element of each register (TPDO n: communication (page 0) and mapping (page 1) objects (R393)). -/
def tpdoRegSub : TpdoReg → Nat × Nat
  | .cobId => (0, 1)
  | .transType => (0, 2)
  | .inhibitTime => (0, 3)
  | .eventTimer => (0, 5)
  | .mapCount => (1, 0)
  | .mapEntry m => (1, m.val + 1)

/-- Width in bits (TPDO n: communication (page 0) and mapping (page 1) objects (R393)). -/
def tpdoRegBits : TpdoReg → Nat
  | .transType => 8
  | .inhibitTime => 16
  | .eventTimer => 16
  | .mapCount => 8
  | _ => 32

/-- Default (TPDO n: communication (page 0) and mapping (page 1) objects (R393)). -/
def tpdoRegDefault (_ : Ident) (n : Fin 8) : TpdoReg → Nat
  | .cobId => if n.val ≤ 3 then 0x1FF + 0x100 * n.val else 0x80000000
  | .transType => 255
  | _ => 0

/-- The PD stamps lie in index 3404 (R239). -/
def canTimeRegIsPd : CanTimeReg → Bool
  | .pdRxStamp _ => true
  | _ => false

/-- Index, sub-index and element as one number: the order in which the registers are kept. -/
def Reg.addr : Reg → Nat
  | .hub r => ((0x2000) * 2 ^ 8 + (hubRegSub r).1) * 2 ^ 16 + (hubRegSub r).2
  | .port p r => ((0x2011 + p.val) * 2 ^ 8 + (portRegSub r).1) * 2 ^ 16 + (portRegSub r).2
  | .xlate i r => ((0x2040 + i.val) * 2 ^ 8 + (xlateRegSub r).1) * 2 ^ 16 + (xlateRegSub r).2
  | .lock r => ((0x2400) * 2 ^ 8 + (lockRegSub r).1) * 2 ^ 16 + (lockRegSub r).2
  | .image i r => ((0x2410 + i.val) * 2 ^ 8 + (imageRegSub r).1) * 2 ^ 16 + (imageRegSub r).2
  | .relay r => ((0x2430) * 2 ^ 8 + (relayRegSub r).1) * 2 ^ 16 + (relayRegSub r).2
  | .hold r => ((0x2800) * 2 ^ 8 + (holdRegSub r).1) * 2 ^ 16 + (holdRegSub r).2
  | .hold4 i r => ((0x2810 + i.val) * 2 ^ 8 + (holdImageRegSub r).1) * 2 ^ 16 + (holdImageRegSub r).2
  | .res r => ((0x2C00) * 2 ^ 8 + (resRegSub r).1) * 2 ^ 16 + (resRegSub r).2
  | .arb r => ((0x2C01) * 2 ^ 8 + (arbRegSub r).1) * 2 ^ 16 + (arbRegSub r).2
  | .session d r => ((0x2C08 + d.num) * 2 ^ 8 + (sessionRegSub r).1) * 2 ^ 16 + (sessionRegSub r).2
  | .stream n r => ((0x2D00 + n.val) * 2 ^ 8 + (streamRegSub r).1) * 2 ^ 16 + (streamRegSub r).2
  | .ring r => ((0x3000) * 2 ^ 8 + (ringRegSub r).1) * 2 ^ 16 + (ringRegSub r).2
  | .link k r => ((0x3010 + k.val) * 2 ^ 8 + (linkRegSub r).1) * 2 ^ 16 + (linkRegSub r).2
  | .time r => ((0x3400) * 2 ^ 8 + (timeRegSub r).1) * 2 ^ 16 + (timeRegSub r).2
  | .pps r => ((0x3401) * 2 ^ 8 + (ppsRegSub r).1) * 2 ^ 16 + (ppsRegSub r).2
  | .canTime r => ((if canTimeRegIsPd r then 0x3404 else 0x3402) * 2 ^ 8 + (canTimeRegSub r).1) * 2 ^ 16 + (canTimeRegSub r).2
  | .echo k r => ((0x3410 + k.val) * 2 ^ 8 + (echoRegSub r).1) * 2 ^ 16 + (echoRegSub r).2
  | .launch r => ((if r = .sofStepLogIndex then 0x3420 else 0x3430) * 2 ^ 8 + (launchRegSub r).1) * 2 ^ 16
  | .pd r => ((0x3800) * 2 ^ 8 + (pdRegSub r).1) * 2 ^ 16 + (pdRegSub r).2
  | .tc p r => ((0x3811 + p.val) * 2 ^ 8 + (tcRegSub r).1) * 2 ^ 16 + (tcRegSub r).2
  | .power r => ((0x3C00) * 2 ^ 8 + (powerRegSub r).1) * 2 ^ 16 + (powerRegSub r).2
  | .feed x r => ((0x3C01 + x.num) * 2 ^ 8 + (feedRegSub r).1) * 2 ^ 16 + (feedRegSub r).2
  | .chan c r => ((0x3C10 + c.val) * 2 ^ 8 + (chanRegSub r).1) * 2 ^ 16 + (chanRegSub r).2
  | .domain r => ((0x4000) * 2 ^ 8 + (domainRegSub r).1) * 2 ^ 16 + (domainRegSub r).2
  | .fault r => ((0x4400) * 2 ^ 8 + (faultRegSub r).1) * 2 ^ 16 + (faultRegSub r).2
  | .lens r => ((0x4800) * 2 ^ 8 + (lensRegSub r).1) * 2 ^ 16 + (lensRegSub r).2
  | .lensCnt r => ((0x4801) * 2 ^ 8 + (lensCntRegSub r).1) * 2 ^ 16 + (lensCntRegSub r).2
  | .provoke r => ((0x4808) * 2 ^ 8 + (provokeRegSub r).1) * 2 ^ 16 + (provokeRegSub r).2
  | .commit r => ((0x4C01) * 2 ^ 8 + (commitRegSub r).1) * 2 ^ 16 + (commitRegSub r).2
  | .doors r => ((0x4C02) * 2 ^ 8 + (doorsRegSub r).1) * 2 ^ 16 + (doorsRegSub r).2
  | .fw r => ((0x4C03) * 2 ^ 8 + (fwRegSub r).1) * 2 ^ 16 + (fwRegSub r).2
  | .can r => ((0x4C04) * 2 ^ 8 + (canRegSub r).1) * 2 ^ 16 + (canRegSub r).2
  | .loc r => ((0x4C05) * 2 ^ 8 + (locRegSub r).1) * 2 ^ 16 + (locRegSub r).2
  | .strap r => ((0x4C06) * 2 ^ 8 + (strapRegSub r).1) * 2 ^ 16 + (strapRegSub r).2
  | .comm r => ((commRegSub r).1 * 2 ^ 8 + (commRegSub r).2) * 2 ^ 16
  | .rpdo n r => (((if (rpdoRegSub r).1 = 0 then 0x1400 else 0x1600) + n.val) * 2 ^ 8 + (rpdoRegSub r).2) * 2 ^ 16
  | .tpdo n r => (((if (tpdoRegSub r).1 = 0 then 0x1800 else 0x1A00) + n.val) * 2 ^ 8 + (tpdoRegSub r).2) * 2 ^ 16

/-- Width of a register in bits. -/
def Reg.bits : Reg → Nat
  | .hub r => hubRegBits r
  | .port _ r => portRegBits r
  | .xlate _ r => xlateRegBits r
  | .lock r => lockRegBits r
  | .image _ r => imageRegBits r
  | .relay r => relayRegBits r
  | .hold r => holdRegBits r
  | .hold4 _ r => holdImageRegBits r
  | .res r => resRegBits r
  | .arb r => arbRegBits r
  | .session _ r => sessionRegBits r
  | .stream _ r => streamRegBits r
  | .ring r => ringRegBits r
  | .link _ r => linkRegBits r
  | .time r => timeRegBits r
  | .pps r => ppsRegBits r
  | .canTime r => canTimeRegBits r
  | .echo _ r => echoRegBits r
  | .launch r => launchRegBits r
  | .pd r => pdRegBits r
  | .tc _ r => tcRegBits r
  | .power r => powerRegBits r
  | .feed _ r => feedRegBits r
  | .chan _ r => chanRegBits r
  | .domain r => domainRegBits r
  | .fault r => faultRegBits r
  | .lens r => lensRegBits r
  | .lensCnt r => lensCntRegBits r
  | .provoke r => provokeRegBits r
  | .commit r => commitRegBits r
  | .doors r => doorsRegBits r
  | .fw r => fwRegBits r
  | .can r => canRegBits r
  | .loc r => locRegBits r
  | .strap r => strapRegBits r
  | .comm r => commRegBits r
  | .rpdo _ r => rpdoRegBits r
  | .tpdo _ r => tpdoRegBits r

/-- The Default column of the maps (DESIGN CHOICE, log 2). -/
def Reg.default (v : Ident) : Reg → Nat
  | .hub r => hubRegDefault v r
  | .port p r => portRegDefault v p r
  | .xlate i r => xlateRegDefault v i r
  | .lock r => lockRegDefault v r
  | .image i r => imageRegDefault v i r
  | .relay r => relayRegDefault v r
  | .hold r => holdRegDefault v r
  | .hold4 i r => holdImageRegDefault v i r
  | .res r => resRegDefault v r
  | .arb r => arbRegDefault v r
  | .session d r => sessionRegDefault v d r
  | .stream n r => streamRegDefault v n r
  | .ring r => ringRegDefault v r
  | .link k r => linkRegDefault v k r
  | .time r => timeRegDefault v r
  | .pps r => ppsRegDefault v r
  | .canTime r => canTimeRegDefault v r
  | .echo k r => echoRegDefault v k r
  | .launch r => launchRegDefault v r
  | .pd r => pdRegDefault v r
  | .tc p r => tcRegDefault v p r
  | .power r => powerRegDefault v r
  | .feed x r => feedRegDefault v x r
  | .chan c r => chanRegDefault v c r
  | .domain r => domainRegDefault v r
  | .fault r => faultRegDefault v r
  | .lens r => lensRegDefault v r
  | .lensCnt r => lensCntRegDefault v r
  | .provoke r => provokeRegDefault v r
  | .commit r => commitRegDefault v r
  | .doors r => doorsRegDefault v r
  | .fw r => fwRegDefault v r
  | .can r => canRegDefault v r
  | .loc r => locRegDefault v r
  | .strap r => strapRegDefault v r
  | .comm r => commRegDefault v r
  | .rpdo n r => rpdoRegDefault v n r
  | .tpdo n r => tpdoRegDefault v n r

/-- Hub core, facet-wide (R66). -/
def entryHub : Nat → Option Entry
  | 1 => some ⟨.u8, .rwc, [.hub .portPowerGoodTime], 1, .between 1 255, false⟩
  | 2 => some ⟨.u8, .rwc, [.hub .portResetTime], 1, .between 10 20, false⟩
  | 3 => some ⟨.boolean, .rwc, [.hub .portRearmByHost], 1, .between 0 1, false⟩
  | 4 => some ⟨.u8, .ro, [], 1, .any, false⟩
  | 5 => some ⟨.u8, .ro, [.hub .upstreamSpeed], 1, .any, false⟩
  | 6 => some ⟨.u8, .ro, [.hub .singleTtImages], 1, .any, false⟩
  | 7 => some ⟨.u32, .ro, [.hub .badPidCount], 4, .any, false⟩
  | 8 => some ⟨.u32, .ro, [.hub .tokenCrcErrorCount], 4, .any, false⟩
  | 9 => some ⟨.u32, .ro, [.hub .unroutedTokenCount], 4, .any, false⟩
  | 10 => some ⟨.u32, .ro, [.hub .hsEngineTimeoutCount], 4, .any, false⟩
  | 11 => some ⟨.u32, .ro, [.hub .lpmTokenIgnoredCount], 4, .any, false⟩
  | 12 => some ⟨.u32, .ro, [.hub .hsEngineWaitCount], 4, .any, false⟩
  | 13 => some ⟨.u32, .ro, [.hub .remoteWakeMergedCount], 4, .any, false⟩
  | 14 => some ⟨.u32, .ro, [.hub .controlAbortByResetCount], 4, .any, false⟩
  | 15 => some ⟨.u32, .ro, [.hub .splitBadPortCount], 4, .any, false⟩
  | 16 => some ⟨.u32, .ro, [.hub .deviceToggleMismatchCount], 4, .any, false⟩
  | 17 => some ⟨.u32, .ro, [.hub .sofMissCount], 4, .any, false⟩
  | 18 => some ⟨.u32, .ro, [.hub .earlyWakeCount], 4, .any, false⟩
  | 19 => some ⟨.u32, .rs, [.hub .hubEvents], 4, .any, false⟩
  | _ => none

/-- Port p (R41). -/
def entryPort (p : Port) : Nat → Option Entry
  | 1 => some ⟨.u8, .ro, [.port p .portState], 1, .any, false⟩
  | 2 => some ⟨.u8, .ro, [.port p .portSpeed], 1, .any, false⟩
  | 3 => some ⟨.u8, .ro, [.port p .portDeviceAddress], 1, .any, false⟩
  | 4 => some ⟨.u32, .ro, [.port p .portResetCount], 4, .any, false⟩
  | 5 => some ⟨.u32, .ro, [.port p .portBabbleCount], 4, .any, false⟩
  | 6 => some ⟨.u32, .ro, [.port p .portChirpFailCount], 4, .any, false⟩
  | 7 => some ⟨.u32, .ro, [.port p .portTtErrorCount], 4, .any, false⟩
  | 8 => some ⟨.u8, .ro, [.port p .portTestMode], 1, .any, false⟩
  | _ => none

/-- Address translation of image i (R51). -/
def entryXlate (i : Image) : Nat → Option Entry
  | 1 => some ⟨.domain, .ro, [], 508, .any, false⟩
  | 2 => some ⟨.u8, .ro, [], 1, .any, false⟩
  | 3 => some ⟨.domain, .rw, (List.finRange 508).map fun m => .xlate i (.xlateEpPairs m), 1, .any, false⟩
  | _ => none

/-- Prism lock and commit (R111). -/
def entryLock : Nat → Option Entry
  | 1 => some ⟨.u16, .wo, [.lock .prismLockRequest], 2, .any, false⟩
  | 2 => some ⟨.u8, .ro, [], 1, .any, false⟩
  | 3 => some ⟨.u32, .ro, [.lock .prismLockOwner], 4, .any, false⟩
  | 4 => some ⟨.u16, .rwc, [.lock .prismLockIdleLimit], 2, .between 1 3600, false⟩
  | 5 => some ⟨.u32, .ro, [.lock .prismLockLossCount], 4, .any, false⟩
  | 6 => some ⟨.u32, .ro, [.lock .prismLeaseLapseCount], 4, .any, false⟩
  | 7 => some ⟨.u8, .wo, [.lock .prismCommit], 1, .oneOf [1, 2], false⟩
  | 8 => some ⟨.u8, .ro, [.lock .prismCommitResult], 1, .any, false⟩
  | 9 => some ⟨.u32, .ro, [.lock .prismCommitRefusal], 4, .any, false⟩
  | 10 => some ⟨.u32, .ro, [.lock .prismCommitApplyTime], 4, .any, false⟩
  | 11 => some ⟨.domain, .rwc, (List.finRange 16).map fun m => .lock (.prismMembershipStaged m), 8, .any, false⟩
  | 12 => some ⟨.boolean, .rwc, [.lock .prismJoinAuto], 1, .between 0 1, false⟩
  | _ => none

/-- Image i (R116). -/
def entryImage (i : Image) : Nat → Option Entry
  | 1 => some ⟨.boolean, .rwc, [.image i .imageEnable], 1, .between 0 1, false⟩
  | 2 => some ⟨.u8, .rwc, [.image i .imagePrimary], 1, .mask 0x9F, false⟩
  | 3 => some ⟨.u8, .rwc, [.image i .imageMirror], 1, .mask 0x9F, false⟩
  | 4 => some ⟨.u8, .rwc, [.image i .imagePortCount], 1, .between 1 255, false⟩
  | 5 => some ⟨.domain, .rwc, (List.finRange 255).map fun m => .image i (.imagePortMap m), 2, .mask 0x3FFF, false⟩
  | 6 => some ⟨.u8, .rwc, [.image i .imageAperture], 1, .between 1 60, false⟩
  | 7 => some ⟨.u8, .wo, [.image i .imageDefaultMap], 1, .oneOf [1], false⟩
  | 8 => some ⟨.u8, .rwc, [.image i .relayInReadAhead], 1, .between 0 8, false⟩
  | 9 => some ⟨.u8, .rwc, [.image i .relayOutDepth], 1, .between 1 8, false⟩
  | 10 => some ⟨.u16, .rwc, [.image i .relayTimeout], 2, .between 100 10000, false⟩
  | 11 => some ⟨.u8, .ro, [], 1, .any, false⟩
  | 12 => some ⟨.domain, .ro, [], 1020, .any, false⟩
  | 13 => some ⟨.domain, .ro, [.image i .imageApertureOut], 32, .any, true⟩
  | _ => none

/-- Relay counters (R141). -/
def entryRelay : Nat → Option Entry
  | 1 => some ⟨.u32, .ro, [.relay .relayReqCount], 4, .any, false⟩
  | 2 => some ⟨.u32, .ro, [.relay .relayDeferredStallCount], 4, .any, false⟩
  | 3 => some ⟨.u32, .ro, [.relay .relayOutDropBytes], 4, .any, false⟩
  | 4 => some ⟨.u32, .ro, [.relay .relayErrorCount], 4, .any, false⟩
  | 5 => some ⟨.u32, .ro, [.relay .relayRetryCount], 4, .any, false⟩
  | 6 => some ⟨.u32, .ro, [.relay .relayIsoRefusedCount], 4, .any, false⟩
  | 7 => some ⟨.u32, .ro, [.relay .relaySplitLateCount], 4, .any, false⟩
  | 8 => some ⟨.u32, .ro, [.relay .relayPoolExhaustCount], 4, .any, false⟩
  | 9 => some ⟨.u16, .ro, [], 2, .any, false⟩
  | 10 => some ⟨.u32, .ro, [.relay .relayReadAheadDiscardBytes], 4, .any, false⟩
  | 11 => some ⟨.u32, .ro, [.relay .apertureExceedCount], 4, .any, false⟩
  | 12 => some ⟨.u32, .rs, [.relay .relayEvents], 4, .any, false⟩
  | 13 => some ⟨.u32, .ro, [.relay .relayDupOutCount], 4, .any, false⟩
  | 14 => some ⟨.u32, .ro, [.relay .relayStaleRspCount], 4, .any, false⟩
  | 15 => some ⟨.u32, .ro, [.relay .relayHostErrorCount], 4, .any, false⟩
  | _ => none

/-- Hold-over, facet-wide (R173). -/
def entryHold : Nat → Option Entry
  | 1 => some ⟨.domain, .rw, (List.finRange 256).map fun m => .hold (.holdoverTableShadow m), 8, .any, false⟩
  | 2 => some ⟨.domain, .rw, (List.finRange 4096).map fun m => .hold (.holdoverPayloadShadow m), 1, .any, false⟩
  | 3 => some ⟨.domain, .ro, [], 2048, .any, false⟩
  | 4 => some ⟨.u8, .wo, [.hold .holdoverTableSwap], 1, .oneOf [1], false⟩
  | 5 => some ⟨.u32, .ro, [.hold .holdoverTableStatus], 4, .any, false⟩
  | 6 => some ⟨.u8, .ro, [.hold .holdoverTableActive], 1, .any, false⟩
  | 7 => some ⟨.u32, .ro, [.hold .holdoverPollCount], 4, .any, false⟩
  | 8 => some ⟨.u32, .ro, [.hold .holdoverSlotSkipCount], 4, .any, false⟩
  | 9 => some ⟨.u32, .ro, [.hold .holdoverPauseCount], 4, .any, false⟩
  | 10 => some ⟨.u32, .ro, [.hold .holdoverEntryActionFailCount], 4, .any, false⟩
  | 11 => some ⟨.u32, .ro, [.hold .holdoverSlotInactiveCount], 4, .any, false⟩
  | 12 => some ⟨.u32, .ro, [.hold .holdoverDiscardBytes], 4, .any, false⟩
  | 13 => some ⟨.u32, .ro, [.hold .adoptAddr0ConflictCount], 4, .any, false⟩
  | 14 => some ⟨.u32, .ro, [.hold .adoptResetDrivenCount], 4, .any, false⟩
  | 15 => some ⟨.u32, .ro, [.hold .adoptSeamlessFallbackCount], 4, .any, false⟩
  | 16 => some ⟨.u32, .ro, [.hold .suspendIntentLapseCount], 4, .any, false⟩
  | 17 => some ⟨.u32, .rs, [.hold .holdoverEvents], 4, .any, false⟩
  | _ => none

/-- Hold-over and adoption of image i (R174). -/
def entryHoldImage (i : Image) : Nat → Option Entry
  | 1 => some ⟨.boolean, .rw, [.hold4 i .holdoverArm], 1, .between 0 1, false⟩
  | 2 => some ⟨.u8, .rw, [.hold4 i .holdoverSuspendIntent], 1, .between 0 1, false⟩
  | 3 => some ⟨.u8, .wo, [.hold4 i .holdoverCommand], 1, .between 1 4, false⟩
  | 4 => some ⟨.u8, .ro, [.hold4 i .holdoverState], 1, .any, false⟩
  | 5 => some ⟨.u8, .ro, [.hold4 i .holdoverEntryCause], 1, .any, false⟩
  | 6 => some ⟨.u32, .ro, [.hold4 i .holdoverEntryTime], 4, .any, false⟩
  | 7 => some ⟨.domain, .ro, [.hold4 i .holdoverHeldPorts], 32, .any, true⟩
  | 8 => some ⟨.boolean, .rwc, [.hold4 i .adoptAuto], 1, .between 0 1, false⟩
  | 9 => some ⟨.u16, .rwc, [.hold4 i .adoptAutoDelay], 2, .between 0 10000, false⟩
  | 10 => some ⟨.boolean, .rwc, [.hold4 i .holdoverRecall], 1, .between 0 1, false⟩
  | 11 => some ⟨.domain, .rwc, [.hold4 i .seamlessPorts], 32, .any, true⟩
  | 12 => some ⟨.u16, .rwc, [.hold4 i .suspendIntentWindow], 2, .between 10 60000, false⟩
  | 13 => some ⟨.u16, .rwc, [.hold4 i .adoptDeviceTimeout], 2, .between 1 600, false⟩
  | 14 => some ⟨.u16, .rwc, [.hold4 i .adoptImageTimeout], 2, .between 1 3600, false⟩
  | 15 => some ⟨.u8, .rwc, [.hold4 i .adoptResetAbsorbLimit], 1, .between 1 8, false⟩
  | 16 => some ⟨.domain, .ro, [], 16320, .any, false⟩
  | 17 => some ⟨.u8, .ro, [.hold4 i .adoptResult], 1, .any, false⟩
  | 18 => some ⟨.u8, .ro, [.hold4 i .adoptRefusal], 1, .any, false⟩
  | 19 => some ⟨.domain, .ro, [.hold4 i .adoptDivergentPorts], 32, .any, true⟩
  | 20 => some ⟨.boolean, .ro, [.hold4 i .holdoverRolesSwapped], 1, .between 0 1, false⟩
  | 21 => some ⟨.u32, .ro, [.hold4 i .holdoverCount], 4, .any, false⟩
  | 22 => some ⟨.u32, .ro, [.hold4 i .adoptCount], 4, .any, false⟩
  | 23 => some ⟨.u32, .ro, [.hold4 i .adoptFailCount], 4, .any, false⟩
  | _ => none

/-- Reservoir, facet-wide (R201). -/
def entryRes : Nat → Option Entry
  | 1 => some ⟨.u32, .ro, [.res .reservoirDramSize], 4, .any, false⟩
  | 2 => some ⟨.u8, .rwc, [.res .reservoirDramGeometry], 1, .between 0 5, false⟩
  | 3 => some ⟨.u8, .ro, [.res .reservoirDramState], 1, .any, false⟩
  | 4 => some ⟨.boolean, .rwc, [.res .resIdleRecord], 1, .between 0 1, false⟩
  | 5 => some ⟨.u32, .ro, [.res .resConfigRefusal], 4, .any, false⟩
  | 6 => some ⟨.u32, .ro, [.res .dramCeCount], 4, .any, false⟩
  | 7 => some ⟨.u32, .ro, [.res .dramUeCount], 4, .any, false⟩
  | 8 => some ⟨.u32, .ro, [.res .dramUeAddress], 4, .any, false⟩
  | 9 => some ⟨.domain, .ro, (List.finRange 22).map fun m => .res (.sramCeCount m), 4, .any, false⟩
  | 10 => some ⟨.domain, .ro, (List.finRange 22).map fun m => .res (.sramUeCount m), 4, .any, false⟩
  | 11 => some ⟨.u16, .rwc, [.res .scrubPassTime], 2, .between 60 65535, false⟩
  | 12 => some ⟨.u32, .ro, [.res .scrubPassCount], 4, .any, false⟩
  | 13 => some ⟨.u32, .ro, [.res .lostRecordCount], 4, .any, false⟩
  | 14 => some ⟨.u32, .rs, [.res .resEvents], 4, .any, false⟩
  | _ => none

/-- DRAM arbiter (R202). -/
def entryArb : Nat → Option Entry
  | 1 => some ⟨.u8, .rw, [.arb .arbFreeze], 1, .between 0 1, false⟩
  | 2 => some ⟨.u8, .ro, [.arb .arbFreezeState], 1, .any, false⟩
  | 3 => some ⟨.domain, .rwc, (List.finRange 11).map fun m => .arb (.arbWaitLimit m), 2, .between 16 65535, false⟩
  | 4 => some ⟨.domain, .ro, (List.finRange 11).map fun m => .arb (.arbForcedWinCount m), 4, .any, false⟩
  | 5 => some ⟨.domain, .ro, (List.finRange 11).map fun m => .arb (.arbGrantCount m), 4, .any, false⟩
  | 6 => some ⟨.domain, .ro, (List.finRange 11).map fun m => .arb (.arbMaxWait m), 2, .any, false⟩
  | 7 => some ⟨.u8, .ro, [.arb .arbParkedOwner], 1, .any, false⟩
  | _ => none

/-- Read session of door d (R203). -/
def entrySession (d : Door) : Nat → Option Entry
  | 1 => some ⟨.domain, .rw, [.session d .sessionStreams], 32, .any, true⟩
  | 2 => some ⟨.u8, .rw, [.session d .sessionFacet], 1, .oneOf [0, 1, 2, 3, 4, 5, 6, 7, 8, 9, 10, 11, 12, 13, 14, 15, 0xFF], false⟩
  | 3 => some ⟨.u8, .rw, [.session d .sessionOpen], 1, .between 0 1, false⟩
  | 4 => some ⟨.u8, .ro, [.session d .sessionState], 1, .any, false⟩
  | 5 => some ⟨.domain, .ro, [], 0, .any, false⟩
  | 6 => some ⟨.u32, .ro, [.session d .sessionRecords], 4, .any, false⟩
  | _ => none

/-- Stream n (R204). -/
def entryStream (n : Stream) : Nat → Option Entry
  | 1 => some ⟨.boolean, .rwc, [.stream n .streamEnable], 1, .between 0 1, false⟩
  | 2 => some ⟨.u32, .rwc, [.stream n .streamBase], 4, .any, false⟩
  | 3 => some ⟨.u32, .rwc, [.stream n .streamSize], 4, .any, false⟩
  | 4 => some ⟨.u8, .rwc, [.stream n .streamPriority], 1, .between 0 7, false⟩
  | 5 => some ⟨.u32, .rwc, [.stream n .streamRecordBytes], 4, .any, false⟩
  | 6 => some ⟨.boolean, .rwc, [.stream n .streamAutoRelease], 1, .between 0 1, false⟩
  | 7 => some ⟨.u32, .ro, [.stream n .streamWritePtr], 4, .any, false⟩
  | 8 => some ⟨.u32, .ro, [.stream n .streamReadPtr], 4, .any, false⟩
  | 9 => some ⟨.u32, .ro, [.stream n .streamReleasePtr], 4, .any, false⟩
  | 10 => some ⟨.u32, .ro, [.stream n .streamMarkPtr], 4, .any, false⟩
  | 11 => some ⟨.u32, .ro, [], 4, .any, false⟩
  | 12 => some ⟨.u16, .ro, [], 2, .any, false⟩
  | 13 => some ⟨.u32, .ro, [.stream n .streamRecordsWritten], 4, .any, false⟩
  | 14 => some ⟨.u32, .ro, [.stream n .streamRecordsDelivered], 4, .any, false⟩
  | 15 => some ⟨.u32, .ro, [.stream n .streamOverrunItems], 4, .any, false⟩
  | 16 => some ⟨.u8, .wo, [.stream n .streamCommand], 1, .between 1 4, false⟩
  | 17 => some ⟨.u32, .ro, [.stream n .streamStallCount], 4, .any, false⟩
  | 18 => some ⟨.u32, .ro, [.stream n .streamXactErrorCount], 4, .any, false⟩
  | 19 => some ⟨.u32, .rs, [.stream n .streamEvents], 4, .any, false⟩
  | 20 => some ⟨.u32, .ro, [.stream n .flushDropWords], 4, .any, false⟩
  | 21 => some ⟨.u32, .ro, [.stream n .streamBadRecordCount], 4, .any, false⟩
  | _ => none

/-- Ring, facet-wide (R112). -/
def entryRing : Nat → Option Entry
  | 1 => some ⟨.u8, .ro, [.ring .ringMemberState], 1, .any, false⟩
  | 2 => some ⟨.u8, .ro, [.ring .facetIndex], 1, .any, false⟩
  | 3 => some ⟨.u64, .ro, [.ring .prismId], 8, .any, false⟩
  | 4 => some ⟨.u32, .ro, [.ring .prismEpoch], 4, .any, false⟩
  | 5 => some ⟨.u8, .ro, [.ring .prismOrigin], 1, .any, false⟩
  | 6 => some ⟨.domain, .ro, (List.finRange 16).map fun m => .ring (.prismMembership m), 8, .any, false⟩
  | 7 => some ⟨.u16, .ro, [.ring .memberPresence], 2, .any, false⟩
  | 8 => some ⟨.u8, .ro, [.ring .topologyKind], 1, .any, false⟩
  | 9 => some ⟨.domain, .ro, [], 512, .any, false⟩
  | 10 => some ⟨.boolean, .ro, [.ring .quorumState], 1, .between 0 1, false⟩
  | 11 => some ⟨.u16, .rwc, [.ring .formationSettleTime], 2, .between 100 10000, false⟩
  | 12 => some ⟨.u8, .wo, [.ring .facetWithdraw], 1, .oneOf [1, 2], false⟩
  | 13 => some ⟨.u32, .ro, [.ring .healCount], 4, .any, false⟩
  | 14 => some ⟨.u32, .ro, [.ring .lastHealTime], 4, .any, false⟩
  | 15 => some ⟨.u32, .ro, [.ring .hopExpiredCount], 4, .any, false⟩
  | 16 => some ⟨.u32, .ro, [.ring .unknownDestCount], 4, .any, false⟩
  | 17 => some ⟨.u32, .rs, [.ring .ringEvents], 4, .any, false⟩
  | 18 => some ⟨.domain, .ro, [], 128, .any, false⟩
  | 19 => some ⟨.u32, .ro, [.ring .healDropFrameCount], 4, .any, false⟩
  | _ => none

/-- Link k (R113). -/
def entryLink (k : Link) : Nat → Option Entry
  | 1 => some ⟨.u8, .rwc, [.link k .linkMode], 1, .between 0 2, false⟩
  | 2 => some ⟨.u8, .ro, [.link k .linkState], 1, .any, false⟩
  | 3 => some ⟨.u64, .ro, [.link k .linkPartnerId], 8, .any, false⟩
  | 4 => some ⟨.u8, .ro, [.link k .linkPartnerLink], 1, .any, false⟩
  | 5 => some ⟨.u32, .ro, [.link k .linkLatency], 4, .any, false⟩
  | 6 => some ⟨.u8, .ro, [.link k .linkRefusal], 1, .any, false⟩
  | 7 => some ⟨.u16, .rwc, [.link k .linkErrorThreshold], 2, .between 1 1024, false⟩
  | 8 => some ⟨.u32, .ro, [.link k .linkSymbolErrorCount], 4, .any, false⟩
  | 9 => some ⟨.u32, .ro, [.link k .linkFrameErrorCount], 4, .any, false⟩
  | 10 => some ⟨.u32, .ro, [.link k .linkReplayCount], 4, .any, false⟩
  | 11 => some ⟨.u32, .ro, [.link k .linkRetrainCount], 4, .any, false⟩
  | 12 => some ⟨.u32, .ro, [.link k .linkDownCount], 4, .any, false⟩
  | 13 => some ⟨.u32, .ro, [.link k .linkTrainFailCount], 4, .any, false⟩
  | 14 => some ⟨.u8, .ro, [.link k .linkLaneMap], 1, .any, false⟩
  | 15 => some ⟨.u32, .ro, [.link k .linkViolationCount], 4, .any, false⟩
  | 16 => some ⟨.u32, .ro, [.link k .linkReplayStallCount], 4, .any, false⟩
  | _ => none

/-- Counter, focal, servo (R237). -/
def entryTime : Nat → Option Entry
  | 1 => some ⟨.u32, .ro, [], 4, .any, false⟩
  | 2 => some ⟨.u32, .ro, [], 4, .any, false⟩
  | 3 => some ⟨.u64, .ro, [], 8, .any, false⟩
  | 4 => some ⟨.u32, .ro, [.time .timeWrapCount], 4, .any, false⟩
  | 5 => some ⟨.u64, .ro, [], 8, .any, false⟩
  | 6 => some ⟨.i32, .ro, [.time .timeFreqAdj], 4, .any, false⟩
  | 7 => some ⟨.i32, .ro, [.time .timeStoredFreq], 4, .any, false⟩
  | 8 => some ⟨.u32, .rwc, [.time .servoKp], 4, .any, false⟩
  | 9 => some ⟨.u32, .rwc, [.time .servoKi], 4, .any, false⟩
  | 10 => some ⟨.u32, .rwc, [.time .timeStepThreshold], 4, .between 50 1000000, false⟩
  | 11 => some ⟨.u8, .ro, [.time .servoState], 1, .any, false⟩
  | 12 => some ⟨.i32, .ro, [.time .servoOffset], 4, .any, false⟩
  | 13 => some ⟨.u8, .ro, [.time .timeParentLink], 1, .any, false⟩
  | 14 => some ⟨.u32, .ro, [.time .timeStepCount], 4, .any, false⟩
  | 15 => some ⟨.i32, .ro, [.time .timeLastStep], 4, .any, false⟩
  | 16 => some ⟨.u8, .rwc, [.time .focalPriority], 1, .any, false⟩
  | 17 => some ⟨.u64, .ro, [.time .focalId], 8, .any, false⟩
  | 18 => some ⟨.u8, .ro, [.time .focalIndex], 1, .any, false⟩
  | 19 => some ⟨.u8, .ro, [.time .focalStepsRemoved], 1, .any, false⟩
  | 20 => some ⟨.u32, .ro, [.time .focalChangeCount], 4, .any, false⟩
  | 21 => some ⟨.i32, .rwc, [.time .timeFocalTrim], 4, .signed (-51200000) 51200000, false⟩
  | 22 => some ⟨.u32, .rs, [.time .timeEvents], 4, .any, false⟩
  | 23 => some ⟨.domain, .rw, [.time .timeCivilAnchor], 14, .any, false⟩
  | _ => none

/-- PPS_IN and PPS_OUT (R238). -/
def entryPps : Nat → Option Entry
  | 1 => some ⟨.boolean, .rwc, [.pps .ppsInEnable], 1, .between 0 1, false⟩
  | 2 => some ⟨.i32, .rwc, [.pps .ppsInOffset], 4, .any, false⟩
  | 3 => some ⟨.u8, .ro, [.pps .ppsInState], 1, .any, false⟩
  | 4 => some ⟨.u32, .ro, [.pps .ppsInLastStamp], 4, .any, false⟩
  | 5 => some ⟨.i32, .ro, [.pps .ppsInError], 4, .any, false⟩
  | 6 => some ⟨.u32, .ro, [.pps .ppsInMissCount], 4, .any, false⟩
  | 7 => some ⟨.u32, .rwc, [.pps .ppsKp], 4, .any, false⟩
  | 8 => some ⟨.u32, .rwc, [.pps .ppsKi], 4, .any, false⟩
  | 9 => some ⟨.boolean, .rwc, [.pps .ppsOutEnable], 1, .between 0 1, false⟩
  | 10 => some ⟨.u32, .rw, [.pps .ppsOutNext], 4, .any, false⟩
  | 11 => some ⟨.u32, .rwc, [.pps .ppsOutPeriod], 4, .between 1000000 2000000000, false⟩
  | 12 => some ⟨.u32, .rwc, [.pps .ppsOutWidth], 4, .between 1 1999999, false⟩
  | _ => none

/-- Index 0x3402 (CAN time and PD stamps (R239)). -/
def entry3402 : Nat → Option Entry
  | 1 => some ⟨.u16, .rwc, [.canTime .canTimePeriod], 2, .any, false⟩
  | 2 => some ⟨.u32, .ro, [.canTime .canTimeTxStamp], 4, .any, false⟩
  | 3 => some ⟨.u32, .ro, [.canTime .canTimeLateCount], 4, .any, false⟩
  | 4 => some ⟨.u32, .rw, [.canTime .canSyncPhase], 4, .any, false⟩
  | 5 => some ⟨.u32, .ro, [.canTime .canSyncStamp], 4, .any, false⟩
  | 6 => some ⟨.u32, .ro, [.canTime .canSyncCount], 4, .any, false⟩
  | _ => none

/-- Index 0x3404 (CAN time and PD stamps (R239)). -/
def entry3404 : Nat → Option Entry
  | 1 => some ⟨.domain, .ro, (List.finRange 16).map fun m => .canTime (.pdRxStamp m), 4, .any, false⟩
  | _ => none

/-- Echo of link k (R240). -/
def entryEcho (k : Link) : Nat → Option Entry
  | 1 => some ⟨.i32, .rwc, [.echo k .echoTxDelay], 4, .any, false⟩
  | 2 => some ⟨.i32, .rwc, [.echo k .echoRxDelay], 4, .any, false⟩
  | 3 => some ⟨.i32, .rwc, [.echo k .echoAsymmetry], 4, .any, false⟩
  | 4 => some ⟨.i32, .ro, [.echo k .echoOffset], 4, .any, false⟩
  | 5 => some ⟨.u32, .ro, [.echo k .echoMeanPath], 4, .any, false⟩
  | 6 => some ⟨.u32, .ro, [.echo k .echoMissCount], 4, .any, false⟩
  | _ => none

/-- Index 0x3420 (SOF time table and launch queue (R241)). -/
def entry3420 : Nat → Option Entry
  | 1 => some ⟨.domain, .ro, [], 0, .any, false⟩
  | 2 => some ⟨.domain, .ro, [], 0, .any, false⟩
  | 3 => some ⟨.u8, .ro, [.launch .sofStepLogIndex], 1, .any, false⟩
  | _ => none

/-- Index 0x3430 (SOF time table and launch queue (R241)). -/
def entry3430 : Nat → Option Entry
  | 1 => some ⟨.domain, .wo, [], 80, .any, false⟩
  | 2 => some ⟨.u16, .wo, [.launch .launchCancel], 2, .any, false⟩
  | 3 => some ⟨.u8, .ro, [], 1, .any, false⟩
  | 4 => some ⟨.domain, .ro, [], 0, .any, false⟩
  | 5 => some ⟨.u8, .ro, [.launch .launchResultIndex], 1, .any, false⟩
  | 6 => some ⟨.u32, .ro, [.launch .launchDoneCount], 4, .any, false⟩
  | 7 => some ⟨.u32, .ro, [.launch .launchLateCount], 4, .any, false⟩
  | 8 => some ⟨.u32, .ro, [.launch .launchRefusedCount], 4, .any, false⟩
  | 9 => some ⟨.u32, .ro, [.launch .launchFailCount], 4, .any, false⟩
  | 10 => some ⟨.u8, .ro, [.launch .launchRefusal], 1, .any, false⟩
  | _ => none

/-- Type-C and PD, facet-wide (R282). -/
def entryPd : Nat → Option Entry
  | 1 => some ⟨.u32, .rwc, [.pd .pdBudgetBoard], 4, .between 0 1600000, false⟩
  | 2 => some ⟨.u32, .ro, [.pd .pdBudgetFeedLimit], 4, .any, false⟩
  | 3 => some ⟨.u32, .ro, [], 4, .any, false⟩
  | 4 => some ⟨.u32, .ro, [], 4, .any, false⟩
  | 5 => some ⟨.u16, .ro, [.pd .pdShedPorts], 2, .any, false⟩
  | 6 => some ⟨.u16, .rwc, [.pd .pdShedDelay], 2, .between 50 5000, false⟩
  | 7 => some ⟨.u16, .rwc, [.pd .pdMinPdoCurrent], 2, .between 500 3000, false⟩
  | 8 => some ⟨.u16, .rwc, [.pd .pdRegTimeout], 2, .between 20 400, false⟩
  | 9 => some ⟨.boolean, .rwc, [.pd .pdRegPec], 1, .between 0 1, false⟩
  | 10 => some ⟨.boolean, .rwc, [.pd .moistureEnable], 1, .between 0 1, false⟩
  | 11 => some ⟨.u32, .rwc, [.pd .moistureThreshold], 4, .between 20000 10000000, false⟩
  | 12 => some ⟨.boolean, .rwc, [.pd .pdUnconstrained], 1, .between 0 1, false⟩
  | 13 => some ⟨.boolean, .rwc, [.pd .tcVbusAonEnable], 1, .between 0 1, false⟩
  | 14 => some ⟨.u8, .ro, [.pd .tcUpstreamRp], 1, .any, false⟩
  | 15 => some ⟨.u32, .ro, [.pd .pdReofferCount], 4, .any, false⟩
  | 16 => some ⟨.u32, .rs, [.pd .pdEvents], 4, .any, false⟩
  | _ => none

/-- Type-C and PD of port p (R283). -/
def entryTc (p : Port) : Nat → Option Entry
  | 1 => some ⟨.u8, .rwc, [.tc p .tcRoleMode], 1, .between 0 1, false⟩
  | 2 => some ⟨.u8, .rwc, [.tc p .pdPortPriority], 1, .between 0 7, false⟩
  | 3 => some ⟨.u32, .rwc, [.tc p .pdPortMaxPower], 4, .between 2500 100000, false⟩
  | 4 => some ⟨.boolean, .rwc, [.tc p .pdPpsEnable], 1, .between 0 1, false⟩
  | 5 => some ⟨.boolean, .rwc, [.tc p .pdPrSwapAccept], 1, .between 0 1, false⟩
  | 6 => some ⟨.u8, .rwc, [.tc p .pdRegAddress], 1, .between 8 119, false⟩
  | 7 => some ⟨.u8, .ro, [.tc p .tcState], 1, .any, false⟩
  | 8 => some ⟨.u16, .ro, [], 2, .any, false⟩
  | 9 => some ⟨.u8, .ro, [.tc p .pdContractState], 1, .any, false⟩
  | 10 => some ⟨.u32, .ro, [.tc p .pdRdo], 4, .any, false⟩
  | 11 => some ⟨.u32, .ro, [.tc p .pdAllocation], 4, .any, false⟩
  | 12 => some ⟨.u32, .ro, [.tc p .pdOfferPower], 4, .any, false⟩
  | 13 => some ⟨.u32, .ro, [.tc p .pdCableVdo], 4, .any, false⟩
  | 14 => some ⟨.u8, .ro, [.tc p .pdSwapRefusal], 1, .any, false⟩
  | 15 => some ⟨.u32, .ro, [.tc p .pdHardResetCount], 4, .any, false⟩
  | 16 => some ⟨.u32, .ro, [.tc p .pdSoftResetCount], 4, .any, false⟩
  | 17 => some ⟨.u32, .ro, [.tc p .pdRxErrorCount], 4, .any, false⟩
  | 18 => some ⟨.u32, .ro, [.tc p .pdTxFailCount], 4, .any, false⟩
  | 19 => some ⟨.u32, .ro, [.tc p .pdRejectCount], 4, .any, false⟩
  | 20 => some ⟨.u32, .ro, [.tc p .pdNotSupportedCount], 4, .any, false⟩
  | 21 => some ⟨.u32, .ro, [.tc p .pdCollisionCount], 4, .any, false⟩
  | 22 => some ⟨.u32, .ro, [.tc p .pdRegFailCount], 4, .any, false⟩
  | 23 => some ⟨.u32, .ro, [.tc p .moistureWetCount], 4, .any, false⟩
  | 24 => some ⟨.domain, .ro, (List.finRange 4).map fun m => .tc p (.moistureImpedance m), 4, .any, false⟩
  | 25 => some ⟨.u32, .ro, [.tc p .pdViolationCount], 4, .any, false⟩
  | 26 => some ⟨.u32, .ro, [.tc p .vconnFaultCount], 4, .any, false⟩
  | 27 => some ⟨.u32, .ro, [.tc p .tcUnsupportedCount], 4, .any, false⟩
  | _ => none

/-- Power path, facet-wide (R306). -/
def entryPower : Nat → Option Entry
  | 1 => some ⟨.u8, .ro, [.power .powerPathState], 1, .any, false⟩
  | 2 => some ⟨.u32, .rwc, [.power .boardReservePower], 4, .between 0 200000, false⟩
  | 3 => some ⟨.u16, .rwc, [.power .portRegEfficiency], 2, .between 500 1000, false⟩
  | 4 => some ⟨.u32, .rwc, [.power .collectorPowerLimit], 4, .between 0 3000000, false⟩
  | 5 => some ⟨.u16, .rwc, [.power .energyCheckpointPeriod], 2, .between 10 3600, false⟩
  | 6 => some ⟨.u32, .ro, [.power .energyCheckpointTime], 4, .any, false⟩
  | 7 => some ⟨.u32, .rs, [.power .powerEvents], 4, .any, false⟩
  | 8 => some ⟨.u8, .ro, [.power .passDevChannel], 1, .any, false⟩
  | 9 => some ⟨.u32, .ro, [.power .powerGood], 4, .any, false⟩
  | 10 => some ⟨.u32, .ro, [.power .brkTripped], 4, .any, false⟩
  | 11 => some ⟨.u32, .ro, [.power .energyCheckpointCount], 4, .any, false⟩
  | 12 => some ⟨.u32, .ro, [.power .powerConfigRefusal], 4, .any, false⟩
  | 13 => some ⟨.u8, .rwc, [.power .portSoftStartTime], 1, .between 1 50, false⟩
  | _ => none

/-- Feed x (R307). -/
def entryFeed (x : Feed) : Nat → Option Entry
  | 1 => some ⟨.boolean, .rwc, [.feed x .feedEnable], 1, .between 0 1, false⟩
  | 2 => some ⟨.u8, .ro, [.feed x .feedState], 1, .any, false⟩
  | 3 => some ⟨.u32, .rwc, [.feed x .feedUvRise], 4, .between 10800 60000, false⟩
  | 4 => some ⟨.u32, .rwc, [.feed x .feedUvFall], 4, .between 10800 60000, false⟩
  | 5 => some ⟨.u32, .rwc, [.feed x .feedOvRise], 4, .between 10800 60000, false⟩
  | 6 => some ⟨.u32, .rwc, [.feed x .feedOvFall], 4, .between 10800 60000, false⟩
  | 7 => some ⟨.u16, .rwc, [.feed x .feedInsertDelay], 2, .between 10 10000, false⟩
  | 8 => some ⟨.u16, .rwc, [.feed x .prechargeTimeout], 2, .between 10 2000, false⟩
  | 9 => some ⟨.u16, .rwc, [.feed x .gateSlew], 2, .between 1000 20000, false⟩
  | 10 => some ⟨.u32, .rwc, [.feed x .feedPowerLimit], 4, .between 0 3000000, false⟩
  | 11 => some ⟨.u32, .ro, [.feed x .idealRevCount], 4, .any, false⟩
  | 12 => some ⟨.u32, .ro, [.feed x .feedStartCount], 4, .any, false⟩
  | 13 => some ⟨.u32, .ro, [.feed x .feedWindowExitCount], 4, .any, false⟩
  | _ => none

/-- Breaker channel c (R308). -/
def entryChan (c : Channel) : Nat → Option Entry
  | 1 => some ⟨.domain, .rwc, (List.finRange 8).map fun m => .chan c (.brkCurve m), 8, .any, false⟩
  | 2 => some ⟨.u32, .rwc, [.chan c .brkInstLevel], 4, .any, false⟩
  | 3 => some ⟨.u16, .rwc, [.chan c .brkRampTime], 2, .between 1 1000, false⟩
  | 4 => some ⟨.u32, .rwc, [.chan c .brkCoolTau], 4, .between 100 600000, false⟩
  | 5 => some ⟨.u32, .rwc, [.chan c .brkShunt], 4, .between 100 100000, false⟩
  | 6 => some ⟨.u8, .ro, [.chan c .brkState], 1, .any, false⟩
  | 7 => some ⟨.u8, .ro, [.chan c .brkTripCause], 1, .any, false⟩
  | 8 => some ⟨.u16, .ro, [.chan c .brkHeat], 2, .any, false⟩
  | 9 => some ⟨.u32, .ro, [.chan c .brkTripCount], 4, .any, false⟩
  | 10 => some ⟨.u8, .wo, [.chan c .brkRearm], 1, .oneOf [1], false⟩
  | 11 => some ⟨.i32, .ro, [.chan c .chanCurrent], 4, .any, false⟩
  | 12 => some ⟨.u32, .ro, [.chan c .chanVoltage], 4, .any, false⟩
  | 13 => some ⟨.i32, .ro, [.chan c .chanPower], 4, .any, false⟩
  | 14 => some ⟨.u64, .ro, [.chan c .chanEnergy], 8, .any, false⟩
  | 15 => some ⟨.u32, .ro, [.chan c .brkLastTripTime], 4, .any, false⟩
  | 16 => some ⟨.i32, .ro, [.chan c .brkLastTripCurrent], 4, .any, false⟩
  | _ => none

/-- Domains, clocks, wake (R330). -/
def entryDomain : Nat → Option Entry
  | 1 => some ⟨.u16, .ro, [.domain .domainState], 2, .any, false⟩
  | 2 => some ⟨.u32, .wo, [.domain .domainCommand], 4, .any, false⟩
  | 3 => some ⟨.u32, .ro, [.domain .domainArmed], 4, .any, false⟩
  | 4 => some ⟨.u32, .rw, [.domain .domainTriggerTime], 4, .any, false⟩
  | 5 => some ⟨.u32, .ro, [.domain .domainCmdRefusal], 4, .any, false⟩
  | 6 => some ⟨.u32, .rwc, [.domain .retainBanks], 4, .any, false⟩
  | 7 => some ⟨.u8, .rwc, [.domain .wakeSourceEnable], 1, .mask 0x7F, false⟩
  | 8 => some ⟨.u32, .rwc, [.domain .wakeLinkPorts], 4, .mask 0x3FFFFF, false⟩
  | 9 => some ⟨.u8, .rwc, [.domain .wakeDomains], 1, .any, false⟩
  | 10 => some ⟨.u32, .rw, [], 4, .any, false⟩
  | 11 => some ⟨.domain, .ro, [.domain .lastWakeRecord], 16, .any, false⟩
  | 12 => some ⟨.u32, .ro, [.domain .wakeCount], 4, .any, false⟩
  | 13 => some ⟨.u32, .ro, [.domain .sleepAbandonCount], 4, .any, false⟩
  | 14 => some ⟨.u32, .ro, [.domain .domainWakeFailCount], 4, .any, false⟩
  | 15 => some ⟨.domain, .ro, [.domain .domainWakeFailRecord], 8, .any, false⟩
  | 16 => some ⟨.u8, .rwc, [.domain .coreRegAddress], 1, .between 8 119, false⟩
  | 17 => some ⟨.boolean, .rwc, [.domain .coreRegPec], 1, .between 0 1, false⟩
  | 18 => some ⟨.u8, .ro, [.domain .coreRegState], 1, .any, false⟩
  | 19 => some ⟨.u8, .ro, [.domain .clockStatus], 1, .any, false⟩
  | 20 => some ⟨.u32, .ro, [.domain .pllUnlockCount], 4, .any, false⟩
  | 21 => some ⟨.u32, .rs, [.domain .domainEvents], 4, .any, false⟩
  | 22 => some ⟨.boolean, .rwc, [.domain .canStbyInSleep], 1, .between 0 1, false⟩
  | _ => none

/-- Faults (R355). -/
def entryFault : Nat → Option Entry
  | 1 => some ⟨.u8, .ro, [.fault .faultFirstSource], 1, .any, false⟩
  | 2 => some ⟨.u32, .ro, [.fault .faultFirstTime], 4, .any, false⟩
  | 3 => some ⟨.u32, .ro, [.fault .faultFirstDetail], 4, .any, false⟩
  | 4 => some ⟨.u8, .ro, [.fault .faultFirstSeverity], 1, .any, false⟩
  | 5 => some ⟨.u32, .rs, [.fault .faultStatus], 4, .any, false⟩
  | 6 => some ⟨.u64, .ro, [.fault .faultLatched], 8, .any, false⟩
  | 7 => some ⟨.u64, .ro, [.fault .faultLive], 8, .any, false⟩
  | 8 => some ⟨.u64, .ro, [.fault .faultMerged], 8, .any, false⟩
  | 9 => some ⟨.domain, .rwc, (List.finRange 64).map fun m => .fault (.faultSeverity m), 1, .between 0 5, false⟩
  | 10 => some ⟨.domain, .ro, (List.finRange 64).map fun m => .fault (.faultSourceCount m), 4, .any, false⟩
  | 11 => some ⟨.u8, .rwc, [.fault .faultLatchLevel], 1, .between 0 5, false⟩
  | 12 => some ⟨.u8, .rwc, [.fault .faultPulseLevel], 1, .between 0 5, false⟩
  | 13 => some ⟨.u16, .rwc, [.fault .faultPulseWidth], 2, .between 20 10000, false⟩
  | 14 => some ⟨.u8, .rw, [.fault .faultNControl], 1, .between 0 1, false⟩
  | 15 => some ⟨.u16, .rwc, [.fault .faultReactionWindow], 2, .between 100 60000, false⟩
  | 16 => some ⟨.u8, .wo, [.fault .faultUnitRelease], 1, .between 0 63, false⟩
  | 17 => some ⟨.u8, .wo, [.fault .faultSafeRelease], 1, .oneOf [0xA5], false⟩
  | 18 => some ⟨.u32, .wo, [.fault .faultSoftRaise], 4, .mask 0xFFFFFF, false⟩
  | 19 => some ⟨.u32, .ro, [.fault .faultEscalateCount], 4, .any, false⟩
  | 20 => some ⟨.u32, .ro, [.fault .faultMergedCount], 4, .any, false⟩
  | 21 => some ⟨.u64, .ro, [.fault .faultUnitsDisabled], 8, .any, false⟩
  | 22 => some ⟨.domain, .ro, [.fault .lastGaspRecord], 64, .any, false⟩
  | 23 => some ⟨.u32, .ro, [.fault .lastGaspCount], 4, .any, false⟩
  | 24 => some ⟨.u8, .ro, [.fault .faultSafeState], 1, .any, false⟩
  | 25 => some ⟨.i32, .ro, [.fault .dieTemperature], 4, .any, false⟩
  | 26 => some ⟨.i32, .rwc, [.fault .thermWarnLevel], 4, .signed 600 1250, false⟩
  | 27 => some ⟨.i32, .rwc, [.fault .thermCritLevel], 4, .signed 1000 1400, false⟩
  | 28 => some ⟨.u32, .ro, [.fault .emcyLostCount], 4, .any, false⟩
  | _ => none

/-- Lens trace (R395). -/
def entryLens : Nat → Option Entry
  | 1 => some ⟨.boolean, .rwc, [.lens .lensEnable], 1, .between 0 1, false⟩
  | 2 => some ⟨.u32, .rwc, [.lens .lensSourceMask], 4, .mask 0x3F, false⟩
  | 3 => some ⟨.u32, .rwc, [.lens .lensPortMask], 4, .mask 0x3FFFFF, false⟩
  | 4 => some ⟨.u8, .rwc, [.lens .lensRecordSize], 1, .oneOf [16, 32], false⟩
  | 5 => some ⟨.u8, .rwc, [.lens .lensMode], 1, .between 0 1, false⟩
  | 6 => some ⟨.u32, .rwc, [.lens .lensExtBase], 4, .any, false⟩
  | 7 => some ⟨.u32, .rwc, [.lens .lensExtSize], 4, .any, false⟩
  | 8 => some ⟨.u32, .ro, [.lens .lensWritePtr], 4, .any, false⟩
  | 9 => some ⟨.domain, .ro, [], 0, .any, false⟩
  | 10 => some ⟨.u32, .rw, [.lens .lensReadPtr], 4, .any, false⟩
  | 11 => some ⟨.u8, .wo, [.lens .lensCommand], 1, .oneOf [1, 2], false⟩
  | 12 => some ⟨.u32, .ro, [.lens .lensDroppedCount], 4, .any, false⟩
  | 13 => some ⟨.u32, .rs, [.lens .lensEvents], 4, .any, false⟩
  | _ => none

/-- Lens counters (R397). -/
def entryLensCnt : Nat → Option Entry
  | 1 => some ⟨.domain, .ro, [], 2048, .any, false⟩
  | 2 => some ⟨.u8, .wo, [.lensCnt .lensCounterSnapshot], 1, .oneOf [1], false⟩
  | 3 => some ⟨.u8, .wo, [.lensCnt .lensCounterClear], 1, .oneOf [1], false⟩
  | 4 => some ⟨.u32, .ro, [.lensCnt .lensSnapshotTime], 4, .any, false⟩
  | _ => none

/-- Provocation (R398). -/
def entryProvoke : Nat → Option Entry
  | 1 => some ⟨.u8, .wo, [.provoke .provokeArm], 1, .between 0 1, false⟩
  | 2 => some ⟨.u8, .ro, [.provoke .provokeState], 1, .any, false⟩
  | 3 => some ⟨.u8, .rw, [.provoke .provokeRunTime], 1, .between 1 60, false⟩
  | 4 => some ⟨.u16, .ro, [], 2, .any, false⟩
  | 5 => some ⟨.u32, .rw, [.provoke .provokeTargets], 4, .mask 0x3FFFFF, false⟩
  | 6 => some ⟨.domain, .rw, (List.finRange 7).map fun m => .provoke (.provokeRates m), 4, .any, false⟩
  | 7 => some ⟨.u32, .rw, [.provoke .provokeSeed], 4, .between 1 0xFFFFFFFF, false⟩
  | 8 => some ⟨.domain, .ro, (List.finRange 7).map fun m => .provoke (.provokeCount m), 4, .any, false⟩
  | _ => none

/-- Identity (R9). -/
def entryIdent : Nat → Option Entry
  | 1 => some ⟨.u16, .ro, [], 2, .any, false⟩
  | 2 => some ⟨.u8, .ro, [], 1, .any, false⟩
  | 3 => some ⟨.u8, .ro, [], 1, .any, false⟩
  | 4 => some ⟨.u8, .ro, [], 1, .any, false⟩
  | 5 => some ⟨.u64, .ro, [], 8, .any, false⟩
  | 6 => some ⟨.str, .ro, [], 0, .any, false⟩
  | _ => none

/-- Commit and configuration check (R385). -/
def entryCommit : Nat → Option Entry
  | 1 => some ⟨.u8, .wo, [.commit .configCommit], 1, .between 1 4, false⟩
  | 2 => some ⟨.u8, .ro, [.commit .configCommitResult], 1, .any, false⟩
  | 3 => some ⟨.u32, .ro, [.commit .configCommitRefusal], 4, .any, false⟩
  | 4 => some ⟨.u8, .ro, [.commit .configStageOwner], 1, .any, false⟩
  | 5 => some ⟨.u16, .rwc, [.commit .configStageIdleLimit], 2, .between 1 3600, false⟩
  | 6 => some ⟨.u32, .ro, [.commit .configCrcLive], 4, .any, false⟩
  | 7 => some ⟨.u32, .rw, [.commit .configCrcReference], 4, .any, false⟩
  | 8 => some ⟨.u8, .ro, [.commit .configCrcState], 1, .any, false⟩
  | 9 => some ⟨.u32, .ro, [.commit .configStoreSeq], 4, .any, false⟩
  | 10 => some ⟨.u32, .ro, [.commit .configStoreCount], 4, .any, false⟩
  | _ => none

/-- Doors (R386). -/
def entryDoors : Nat → Option Entry
  | 1 => some ⟨.domain, .rwc, (List.finRange 5).map fun m => .doors (.doorRights m), 1, .mask 0x1F, false⟩
  | 2 => some ⟨.u8, .ro, [], 1, .any, false⟩
  | 3 => some ⟨.u8, .ro, [], 1, .any, false⟩
  | 4 => some ⟨.u32, .ro, [.doors .staleClearCount], 4, .any, false⟩
  | 5 => some ⟨.domain, .ro, (List.finRange 5).map fun m => .doors (.doorDeniedCount m), 4, .any, false⟩
  | 6 => some ⟨.domain, .ro, (List.finRange 5).map fun m => .doors (.doorBusyCount m), 4, .any, false⟩
  | 7 => some ⟨.u32, .rs, [.doors .doorEvents], 4, .any, false⟩
  | 8 => some ⟨.domain, .ro, (List.finRange 5).map fun m => .doors (.doorCommandCount m), 4, .any, false⟩
  | 9 => some ⟨.u32, .ro, [.doors .notifyLostCount], 4, .any, false⟩
  | _ => none

/-- Firmware (R399). -/
def entryFw : Nat → Option Entry
  | 1 => some ⟨.u8, .ro, [.fw .fwRunningBank], 1, .any, false⟩
  | 2 => some ⟨.domain, .ro, (List.finRange 2).map fun m => .fw (.fwVersion m), 4, .any, false⟩
  | 3 => some ⟨.u8, .ro, [.fw .fwFailedStarts], 1, .any, false⟩
  | 4 => some ⟨.domain, .wo, [], 0, .any, false⟩
  | 5 => some ⟨.u8, .wo, [.fw .fwUpdateCommand], 1, .between 1 4, false⟩
  | 6 => some ⟨.u8, .ro, [.fw .fwUpdateState], 1, .any, false⟩
  | 7 => some ⟨.u32, .ro, [.fw .fwRollbackCount], 4, .any, false⟩
  | 8 => some ⟨.u32, .ro, [], 4, .any, false⟩
  | 9 => some ⟨.u32, .ro, [], 4, .any, false⟩
  | _ => none

/-- CAN (R387). -/
def entryCan : Nat → Option Entry
  | 1 => some ⟨.u8, .rwc, [.can .canNodeId], 1, .between 1 127, false⟩
  | 2 => some ⟨.u8, .ro, [.can .canNodeIdActive], 1, .any, false⟩
  | 3 => some ⟨.u16, .rwc, [.can .canNominalRate], 2, .oneOf [125, 250, 500, 1000], false⟩
  | 4 => some ⟨.u16, .rwc, [.can .canDataRate], 2, .oneOf [0, 1000, 2000, 4000, 5000], false⟩
  | 5 => some ⟨.u32, .rw, [.can .sdoDomainOffset], 4, .any, false⟩
  | 6 => some ⟨.u32, .ro, [.can .canRpdoRefusedCount], 4, .any, false⟩
  | 7 => some ⟨.u32, .ro, [.can .canSdoAbortCount], 4, .any, false⟩
  | 8 => some ⟨.u32, .ro, [.can .canBusOffCount], 4, .any, false⟩
  | 9 => some ⟨.u8, .ro, [.can .canState], 1, .any, false⟩
  | 10 => some ⟨.u8, .rw, [.can .sdoReadStaged], 1, .between 0 1, false⟩
  | _ => none

/-- LOC (R388). -/
def entryLoc : Nat → Option Entry
  | 1 => some ⟨.u8, .rwc, [.loc .locAddress], 1, .between 8 119, false⟩
  | 2 => some ⟨.boolean, .rwc, [.loc .locPec], 1, .between 0 1, false⟩
  | 3 => some ⟨.u32, .ro, [.loc .locPecErrorCount], 4, .any, false⟩
  | _ => none

/-- Straps and fuses (R400). -/
def entryStrap : Nat → Option Entry
  | 1 => some ⟨.u32, .ro, [], 4, .any, false⟩
  | 2 => some ⟨.u8, .ro, [.strap .sramRepairBank], 1, .any, false⟩
  | 3 => some ⟨.u32, .ro, [], 4, .any, false⟩
  | 4 => some ⟨.u8, .ro, [.strap .resetCause], 1, .any, false⟩
  | _ => none

/-- Object 0x1000 (R393). -/
def entryObj1000 : Nat → Option Entry
  | 0 => some ⟨.u32, .ro, [.comm .deviceType], 4, .any, false⟩
  | _ => none

/-- Object 0x1001 (R393). -/
def entryObj1001 : Nat → Option Entry
  | 0 => some ⟨.u8, .ro, [.comm .errorRegister], 1, .any, false⟩
  | _ => none

/-- Object 0x1005 (R393). -/
def entryObj1005 : Nat → Option Entry
  | 0 => some ⟨.u32, .rwc, [.comm .cobIdSync], 4, .any, false⟩
  | _ => none

/-- Object 0x1006 (R393). -/
def entryObj1006 : Nat → Option Entry
  | 0 => some ⟨.u32, .rwc, [.comm .commCyclePeriod], 4, .any, false⟩
  | _ => none

/-- Object 0x1008 (R393). -/
def entryObj1008 : Nat → Option Entry
  | 0 => some ⟨.str, .ro, [], 0, .any, false⟩
  | _ => none

/-- Object 0x100A (R393). -/
def entryObj100A : Nat → Option Entry
  | 0 => some ⟨.str, .ro, [], 0, .any, false⟩
  | _ => none

/-- Object 0x1012 (R393). -/
def entryObj1012 : Nat → Option Entry
  | 0 => some ⟨.u32, .rwc, [.comm .cobIdTime], 4, .any, false⟩
  | _ => none

/-- Object 0x1014 (R393). -/
def entryObj1014 : Nat → Option Entry
  | 0 => some ⟨.u32, .rwc, [.comm .cobIdEmcy], 4, .any, false⟩
  | _ => none

/-- Object 0x1015 (R393). -/
def entryObj1015 : Nat → Option Entry
  | 0 => some ⟨.u16, .rwc, [.comm .inhibitEmcy], 2, .any, false⟩
  | _ => none

/-- Object 0x1017 (R393). -/
def entryObj1017 : Nat → Option Entry
  | 0 => some ⟨.u16, .rwc, [.comm .heartbeatTime], 2, .any, false⟩
  | _ => none

/-- Object 0x1018 (R393). -/
def entryObj1018 : Nat → Option Entry
  | 1 => some ⟨.u32, .ro, [], 4, .any, false⟩
  | 2 => some ⟨.u32, .ro, [], 4, .any, false⟩
  | 3 => some ⟨.u32, .ro, [], 4, .any, false⟩
  | 4 => some ⟨.u32, .ro, [], 4, .any, false⟩
  | _ => none

/-- Object 0x1200 (R393). -/
def entryObj1200 : Nat → Option Entry
  | 1 => some ⟨.u32, .ro, [], 4, .any, false⟩
  | 2 => some ⟨.u32, .ro, [], 4, .any, false⟩
  | _ => none

/-- Communication object of RPDO n (R393). -/
def entryRpdoComm (n : Fin 4) : Nat → Option Entry
  | 1 => some ⟨.u32, .rwc, [.rpdo n .cobId], 4, .any, false⟩
  | 2 => some ⟨.u8, .rwc, [.rpdo n .transType], 1, .oneOf (List.range 241 ++ [254, 255]), false⟩
  | 5 => some ⟨.u16, .rwc, [.rpdo n .eventTimer], 2, .any, false⟩
  | _ => none

/-- Mapping object of RPDO n (R393). -/
def entryRpdoMap (n : Fin 4) : Nat → Option Entry
  | 0 => some ⟨.u8, .rwc, [.rpdo n .mapCount], 1, .between 0 16, false⟩
  | k + 1 => if h : k < 16 then some ⟨.u32, .rwc, [.rpdo n (.mapEntry ⟨k, h⟩)], 4, .any, false⟩ else none

/-- Communication object of TPDO n (R393). -/
def entryTpdoComm (n : Fin 8) : Nat → Option Entry
  | 1 => some ⟨.u32, .rwc, [.tpdo n .cobId], 4, .any, false⟩
  | 2 => some ⟨.u8, .rwc, [.tpdo n .transType], 1, .oneOf (List.range 241 ++ [254, 255]), false⟩
  | 3 => some ⟨.u16, .rwc, [.tpdo n .inhibitTime], 2, .any, false⟩
  | 5 => some ⟨.u16, .rwc, [.tpdo n .eventTimer], 2, .any, false⟩
  | _ => none

/-- Mapping object of TPDO n (R393). -/
def entryTpdoMap (n : Fin 8) : Nat → Option Entry
  | 0 => some ⟨.u8, .rwc, [.tpdo n .mapCount], 1, .between 0 16, false⟩
  | k + 1 => if h : k < 16 then some ⟨.u32, .rwc, [.tpdo n (.mapEntry ⟨k, h⟩)], 4, .any, false⟩ else none

/-- The listed entry at an index and sub-index (R392); sub 00 of the indices from 2000 upward is `highestSub` (R391). -/
def entryAt (idx sub : Nat) : Option Entry :=
  if idx = 0x1000 then entryObj1000 sub else
  if idx = 0x1001 then entryObj1001 sub else
  if idx = 0x1005 then entryObj1005 sub else
  if idx = 0x1006 then entryObj1006 sub else
  if idx = 0x1008 then entryObj1008 sub else
  if idx = 0x100A then entryObj100A sub else
  if idx = 0x1012 then entryObj1012 sub else
  if idx = 0x1014 then entryObj1014 sub else
  if idx = 0x1015 then entryObj1015 sub else
  if idx = 0x1017 then entryObj1017 sub else
  if idx = 0x1018 then entryObj1018 sub else
  if idx = 0x1200 then entryObj1200 sub else
  if 0x1400 ≤ idx ∧ idx ≤ 0x1403 then if h : idx - 0x1400 < 4 then entryRpdoComm ⟨idx - 0x1400, h⟩ sub else none else
  if 0x1600 ≤ idx ∧ idx ≤ 0x1603 then if h : idx - 0x1600 < 4 then entryRpdoMap ⟨idx - 0x1600, h⟩ sub else none else
  if 0x1800 ≤ idx ∧ idx ≤ 0x1807 then if h : idx - 0x1800 < 8 then entryTpdoComm ⟨idx - 0x1800, h⟩ sub else none else
  if 0x1A00 ≤ idx ∧ idx ≤ 0x1A07 then if h : idx - 0x1A00 < 8 then entryTpdoMap ⟨idx - 0x1A00, h⟩ sub else none else
  if idx = 0x2000 then entryHub sub else
  if 0x2011 ≤ idx ∧ idx ≤ 0x2020 then if h : idx - 0x2011 < 16 then entryPort ⟨idx - 0x2011, h⟩ sub else none else
  if 0x2040 ≤ idx ∧ idx ≤ 0x2043 then if h : idx - 0x2040 < 4 then entryXlate ⟨idx - 0x2040, h⟩ sub else none else
  if idx = 0x2400 then entryLock sub else
  if 0x2410 ≤ idx ∧ idx ≤ 0x2413 then if h : idx - 0x2410 < 4 then entryImage ⟨idx - 0x2410, h⟩ sub else none else
  if idx = 0x2430 then entryRelay sub else
  if idx = 0x2800 then entryHold sub else
  if 0x2810 ≤ idx ∧ idx ≤ 0x2813 then if h : idx - 0x2810 < 4 then entryHoldImage ⟨idx - 0x2810, h⟩ sub else none else
  if idx = 0x2C00 then entryRes sub else
  if idx = 0x2C01 then entryArb sub else
  if 0x2C08 ≤ idx ∧ idx ≤ 0x2C0C then (doorOf (idx - 0x2C08)).bind fun d => entrySession d sub else
  if 0x2D00 ≤ idx ∧ idx ≤ 0x2DFF then if h : idx - 0x2D00 < 256 then entryStream ⟨idx - 0x2D00, h⟩ sub else none else
  if idx = 0x3000 then entryRing sub else
  if 0x3010 ≤ idx ∧ idx ≤ 0x3013 then if h : idx - 0x3010 < 4 then entryLink ⟨idx - 0x3010, h⟩ sub else none else
  if idx = 0x3400 then entryTime sub else
  if idx = 0x3401 then entryPps sub else
  if idx = 0x3402 then entry3402 sub else
  if idx = 0x3404 then entry3404 sub else
  if 0x3410 ≤ idx ∧ idx ≤ 0x3413 then if h : idx - 0x3410 < 4 then entryEcho ⟨idx - 0x3410, h⟩ sub else none else
  if idx = 0x3420 then entry3420 sub else
  if idx = 0x3430 then entry3430 sub else
  if idx = 0x3800 then entryPd sub else
  if 0x3811 ≤ idx ∧ idx ≤ 0x3820 then if h : idx - 0x3811 < 16 then entryTc ⟨idx - 0x3811, h⟩ sub else none else
  if idx = 0x3C00 then entryPower sub else
  if 0x3C01 ≤ idx ∧ idx ≤ 0x3C02 then entryFeed (if idx = 0x3C01 then .A else .B) sub else
  if 0x3C10 ≤ idx ∧ idx ≤ 0x3C22 then if h : idx - 0x3C10 < 19 then entryChan ⟨idx - 0x3C10, h⟩ sub else none else
  if idx = 0x4000 then entryDomain sub else
  if idx = 0x4400 then entryFault sub else
  if idx = 0x4800 then entryLens sub else
  if idx = 0x4801 then entryLensCnt sub else
  if idx = 0x4808 then entryProvoke sub else
  if idx = 0x4C00 then entryIdent sub else
  if idx = 0x4C01 then entryCommit sub else
  if idx = 0x4C02 then entryDoors sub else
  if idx = 0x4C03 then entryFw sub else
  if idx = 0x4C04 then entryCan sub else
  if idx = 0x4C05 then entryLoc sub else
  if idx = 0x4C06 then entryStrap sub else
  none

/-- The index blocks of R392, as ranges of indices. -/
def indexBlocks : List (Nat × Nat) :=
  [(0x1000, 0x1000),
   (0x1001, 0x1001),
   (0x1005, 0x1005),
   (0x1006, 0x1006),
   (0x1008, 0x1008),
   (0x100A, 0x100A),
   (0x1012, 0x1012),
   (0x1014, 0x1014),
   (0x1015, 0x1015),
   (0x1017, 0x1017),
   (0x1018, 0x1018),
   (0x1200, 0x1200),
   (0x1400, 0x1403),
   (0x1600, 0x1603),
   (0x1800, 0x1807),
   (0x1A00, 0x1A07),
   (0x2000, 0x2000),
   (0x2011, 0x2020),
   (0x2040, 0x2043),
   (0x2400, 0x2400),
   (0x2410, 0x2413),
   (0x2430, 0x2430),
   (0x2800, 0x2800),
   (0x2810, 0x2813),
   (0x2C00, 0x2C00),
   (0x2C01, 0x2C01),
   (0x2C08, 0x2C0C),
   (0x2D00, 0x2DFF),
   (0x3000, 0x3000),
   (0x3010, 0x3013),
   (0x3400, 0x3400),
   (0x3401, 0x3401),
   (0x3402, 0x3402),
   (0x3404, 0x3404),
   (0x3410, 0x3413),
   (0x3420, 0x3420),
   (0x3430, 0x3430),
   (0x3800, 0x3800),
   (0x3811, 0x3820),
   (0x3C00, 0x3C00),
   (0x3C01, 0x3C02),
   (0x3C10, 0x3C22),
   (0x4000, 0x4000),
   (0x4400, 0x4400),
   (0x4800, 0x4800),
   (0x4801, 0x4801),
   (0x4808, 0x4808),
   (0x4C00, 0x4C00),
   (0x4C01, 0x4C01),
   (0x4C02, 0x4C02),
   (0x4C03, 0x4C03),
   (0x4C04, 0x4C04),
   (0x4C05, 0x4C05),
   (0x4C06, 0x4C06)]

/-- Whether the dictionary holds an index (R390, R392). -/
def indexExists (idx : Nat) : Bool := indexBlocks.any fun b => decide (b.1 ≤ idx) && decide (idx ≤ b.2)

/-- The highest sub-index of an index (R391). -/
def highestSub (idx : Nat) : Nat :=
  (List.range 256).foldl (fun acc s => if (entryAt idx s).isSome then s else acc) 0

end Sys2Proof.Machine
end

