-- ==== Sys2Proof/Machine/Types.lean ====
section
/-! DEFINITION. The data of the block beside its dictionary: what the blocks of R15 hold while they run, and what a command makes
the facet send. Plain data throughout. -/

namespace Sys2Proof.Machine

/-! ### What the facet sends -/

/-- Handshakes and silence toward a host. -/
inductive HostHs
  | ack | nak | nyet | stall | err | silent
  deriving DecidableEq, Repr

/-- Signalling on a downstream port. -/
inductive Line
  | se0 | idle | resumeK | sof (frame micro : Nat) | keepAlive | test (sel : Nat)
  deriving DecidableEq, Repr

/-- Signalling on an upstream port. -/
inductive UpLine
  | pullupOn | pullupOff | rdOff | rdOn | resumeK | test (sel : Nat)
  deriving DecidableEq, Repr

/-- Who asked the HS engine for a transaction (R21, R63). -/
inductive Requester
  | entryAction (j : Nat)
  | slot (j : Nat)
  | launch (tag : Nat)
  | relay (image : Nat) (facet : Nat) (tag : Nat)
  deriving DecidableEq, Repr

/-- One transaction of the HS engine (R63). -/
structure Xact where
  port      : Port
  addr      : Nat
  ep        : Nat
  dirIn     : Bool
  setup     : Bool
  epType    : Nat
  maxPacket : Nat
  toggle    : Bool
  data      : List Byte
  errors    : Nat
  who       : Requester
  ping      : Bool := false
  deriving DecidableEq, Repr

/-- Messages of the lock protocol (R105, R106). -/
inductive LockMsg
  | request (q : LockReq)
  | tell (b : LockBody)
  deriving DecidableEq, Repr

/-- Messages of the commit protocol (R94, R104, R107): beside the epoch, PREPARE tells the prism that the commit makes or keeps, and
its origin (DESIGN CHOICE, log 91). -/
inductive CommitMsg
  | stage (w : RegWrite)
  | prepare (digest epoch prism origin : Nat)
  | ready
  | refuse (reason detail : Nat)
  | apply (time : Nat)
  | abort
  | fetch
  | epochSync (w : RegWrite)
  deriving DecidableEq, Repr

/-- Contents of the frames of R83. -/
inductive RingBody
  | link (ack : Nat) (nak : Option Nat) (credits : List Nat)
  | lsf (b : LsfBody)
  | echo (words : List Nat)
  | sync (b : SyncBody)
  | lock (b : LockMsg)
  | commit (b : CommitMsg)
  | door (origin : Door) (b : DoorBody)
  | relay (r : RelayHdr) (data : List Byte)
  | portReq (r : RelayHdr) (q : PortReq)
  | portStatus (r : RelayHdr) (b : PortStatusBody)
  | withdraw
  deriving DecidableEq, Repr

/-- A frame as it leaves on a link (R82). -/
structure Frame where
  typ      : Nat
  src      : Nat
  dst      : Nat
  bcast    : Bool
  provoked : Bool
  image    : Nat
  linkSeq  : Nat
  ackSeq   : Nat
  hops     : Nat
  length   : Nat
  tag      : Nat
  epoch    : Nat
  body     : RingBody
  deriving DecidableEq, Repr

/-- Blocks of a link (R77): `ts2` is a TS2 group of 48 bytes (R78), `data` one block of a frame between SFR and its end (R81). -/
inductive Block
  | idl | skp | sfr | efr | efb | ts1
  | ts2 (group : List Byte)
  | data (bytes : List Byte)
  deriving DecidableEq, Repr

/-- Types of the PD messages the hub sends (R252 to R278). -/
inductive PdMsg
  | goodCrc | cableGoodCrc | accept | reject | psRdy | notSupported | softReset | hardReset
  | sourceCapabilities (objects : List Nat)
  | sinkCapabilities (objects : List Nat)
  | request (rdo : Nat)
  | getSinkCap | alert (word : Nat)
  | status (bytes : List Nat)
  | ppsStatus (bytes : List Nat)
  | revision (word : Nat)
  | sourceInfo (word : Nat)
  | vdm (sopPrime : Bool) (cmd : Nat) (kind : Nat) (svid : Nat) (objects : List Nat) (svdm : Nat)
  | bist
  deriving DecidableEq, Repr

/-- The outputs whose level the facet drives, and what it makes of each: two levels, or nothing (R321, R441). -/
inductive Pin
  | faultN | ppsOut | canTx | canStby | ddrResetN | ddrCke | pgColl
  deriving DecidableEq, Repr
inductive Level
  | low | high | floating
  deriving DecidableEq, Repr

/-- The level of a condition. -/
def levelOf (b : Bool) : Level := if b then .high else .low

/-- What leaves the facet at one command (DESIGN CHOICE, log 1). -/
inductive Out
  | controlAck
  | controlStall
  | controlNak
  | controlData (bytes : List Byte)
  | handshake (h : HostHs)
  | hostData (toggle : Bool) (bytes : List Byte)
  | token (p : Port) (pid : TokPid) (addr ep crc : Nat) (toggle : Bool) (data : List Byte)
  | request (p : Port) (devAddr : Nat)
  | relayRequest (i : Image) (m devAddr : Nat)
  | line (p : Port) (l : Line)
  | up (u : Upstream) (l : UpLine)
  | engine (n : Nat) (x : Xact)
  | ttSplit (p : Port) (addr ep : Nat)
  | hubSplit (p : Port) (hub port addr ep : Nat) (complete toggle : Bool) (data : List Byte)
  | frame (k : Link) (f : Frame) (wire : List Block)
  | block (k : Link) (b : Block)
  | pd (p : Port) (m : PdMsg) (corrupt : Bool)
  | door (d : Door) (answer : List Byte)
  | verdict (d : Door) (abort : Nat) (data : List Byte)
  | badCrc (place : Nat)
  | closed (d : Door)
  | can (id : Nat) (data : List Byte)
  | notification (bytes : List Byte)
  | pmbus (bus addr cmd : Nat) (data : Nat) (pec : Bool)
  | flash (op addr len : Nat)
  | pin (p : Pin) (l : Level)
  deriving DecidableEq, Repr

/-! ### Hub functions, ports and translators (chapter "Hub Core and Downstream Ports") -/

/-- The hub function of an image as its host has set it (R25 to R32, R43): `control` while a request has been taken and has not reached
its status packet (R34), `wakeEnd` the end of the K that a device's wake drives upstream (R61, on the model's own clock), `waitsOn` the
logical port and the sequence number of the port request whose status stage waits (R123), `port0` the logical port that answers at address
0, 0 while none is told (R49) (DESIGN CHOICE, log 75). -/
structure HubFn where
  addr       : Nat  := 0
  config     : Nat  := 0
  alt        : Nat  := 0
  remoteWake : Bool := false
  halted     : Bool := false
  toggle     : Bool := false
  testMode   : Nat  := 0
  suspended  : Bool := false
  resuming   : Bool := false
  hubChange  : Nat  := 0
  frame      : Nat  := 0
  micro      : Nat  := 0
  locked     : Bool := false
  lastSof    : Nat  := 0
  control    : Bool := false
  wakeEnd    : Nat  := 0
  portSeq    : Nat  := 0
  port0      : Nat  := 0
  waitsOn    : Option (Nat × Nat) := none
  deriving DecidableEq, Repr

/-- The embedded or a standby function (R30, R159). Halts and toggles hold endpoint address e in the bit of `haltBit e`. -/
structure DevFn where
  addr    : Nat := 0
  config  : Nat := 0
  halted  : Nat := 0
  toggle  : Nat := 0
  control : Bool := false
  deriving DecidableEq, Repr

/-- What an upstream port shows its host (R20, R159). -/
inductive Presents
  | nothing | hub | standby
  deriving DecidableEq, Repr

/-- An upstream port. `answers` wait for EP1 IN (R367); `part` is the transfer that EP1 IN
is in: 0 a record, 1 an answer, 2 anything else, with the bytes still to send (a record's are the session's). -/
structure UpRt where
  attached : Bool     := false
  vbus     : Bool     := false
  presents : Presents := .nothing
  speed    : Nat      := 0
  disabled : Bool     := false
  standby  : DevFn    := {}
  notes    : List (List Byte) := []
  lost     : Nat      := 0
  answers  : List (List Byte) := []
  part     : Option (Nat × List Byte) := none
  hostIdle : Bool     := false
  deriving DecidableEq, Repr

/-- One transaction in a transaction translator (R55): a host's, one carried for an entry facet (`remote`), or one of a context of
this facet's HS engine (`engine`, R63). -/
structure TtSplit where
  addr   : Nat
  ep     : Nat
  dirIn  : Bool
  setup  : Bool
  iso    : Bool
  micro  : Nat
  toggle : Bool
  data   : List Byte
  remote : Option (Nat × Nat × Nat)
  periodic  : Bool := false
  maxPacket : Nat := 0
  engine : Option Nat := none
  deriving DecidableEq, Repr

/-- A transaction's result in a translator, for its complete-split (R55). -/
structure TtResult where
  addr   : Nat
  ep     : Nat
  dirIn  : Bool
  answer : DevAnswer
  deriving DecidableEq, Repr

/-- The transaction translator of a port (R55 to R57): `dropped` names by address, endpoint and direction the periodic splits that found no
room, `ctl` the toggle that the control transfer of each address is at (R65). -/
structure TtRt where
  stopped  : Bool := false
  pipeline : List TtSplit := []
  results  : List TtResult := []
  dropped  : List (Nat × Nat × Bool) := []
  ctl      : List (Nat × Bool) := []
  buffers  : List TtSplit := []
  done     : List TtResult := []
  staging  : List TtSplit := []
  deriving DecidableEq, Repr

/-- A physical downstream port (R36, R37). `suspendedAt`, `changeAt`, `tripAt` and `resetAt` are times of the model's own clock: of the
last suspend, of the change bits in `changeNew`, of the last trip and of the last reset that set C_PORT_RESET (R40). `answerTo` is the
facet, the tag and the sequence number of a carried request that is to be answered (R123). -/
structure PortRt where
  status      : Nat  := 0
  change      : Nat  := 0
  lowPull     : Bool := false
  suspendedAt : Nat  := 0
  globalSusp  : Bool := false
  wakeGlobal  : Bool := false
  devWake     : Bool := false
  absorbing   : Bool := false
  changeAt    : Nat  := 0
  changeNew   : Nat  := 0
  tripAt      : Option Nat := none
  resetAt     : Option Nat := none
  answerTo    : Option (Nat × Nat × Nat) := none
  tt          : TtRt := {}
  deriving DecidableEq, Repr

/-- A device's translation entry (R51): present exactly when Valid. -/
structure Xlate where
  devAddr : Nat
  port    : Nat
  speed   : Nat
  toggle  : Bool
  deriving DecidableEq, Repr

/-- A learned endpoint (R127). -/
structure EpInfo where
  ep       : Nat
  dirIn    : Bool
  epType   : Nat
  maxPacket : Nat
  interval : Nat
  iface    : Nat
  alt      : Nat
  deriving DecidableEq, Repr

/-- A configuration as the host has read it (R127): its value, the length read and its endpoints. -/
structure ConfigInfo where
  value     : Nat
  length    : Nat
  endpoints : List EpInfo
  deriving DecidableEq, Repr

/-- What the hub has learned of a device: the configurations read, the endpoints of the configuration in force, its value, the alternate
settings, the identity, and the endpoints the device side has set toggles for (R127, R167). -/
structure DevInfo where
  configs   : List ConfigInfo := []
  endpoints : List EpInfo := []
  config    : Nat := 0
  alts      : List (Nat × Nat) := []
  vid       : Nat := 0
  pid       : Nat := 0
  toggleIn  : Nat := 0
  toggleOut : Nat := 0
  haltedIn  : Nat := 0
  haltedOut : Nat := 0
  deriving DecidableEq, Repr

/-! ### Links and the prism (chapter "Wyhelen Links and Prism Formation") -/

/-- A Wyhelen link's link layer (R78 to R86): `waiting` holds frames not yet sent, `stalled` the classes whose first frame waits for count
or space, `swapped` frames that provocation has put back, `partner` what the last TS2 groups told (DESIGN CHOICE, log 13). -/
structure LinkRt where
  fails     : Nat := 0
  txSeq     : Nat := 0
  rxSeq     : Nat := 0
  unacked   : List Frame := []
  waiting   : List Frame := []
  stalled   : List Nat := []
  credits   : List Nat := [8, 8, 8, 8, 8, 8, 8]
  ackDue    : Bool := false
  retrains  : List Nat := []
  swapped   : List Frame := []
  partner   : Option Ts2 := none
  replay    : List Frame := []
  deriving DecidableEq, Repr

/-- Membership, formation and lock records of the facet (R89 to R107): `paths` are the routes in use as the last evaluation of the
apertures found them (R139), `heard` the facet indices that LSF headers have told, `origins` what is known of the prism origins of facets
(2 for a candidate, which stands at a committed prism), `seenEpoch` and `seenFrom` the newest epoch of a member and who told it,
`returning` a return that waits for its epoch sync (R102), `lapseAt` a lapse that waits for the end of its cycle (R109), and `commitEpoch`
to `commitFrom` what the running commit's PREPARE has told: its epoch, prism and origin, whether its digest was this facet's own, and the
facet it came from (DESIGN CHOICE, log 75). -/
structure RingRt where
  lsfSeq      : Nat := 0
  lsdb        : List LsfBody := []
  paths       : List (Nat × List Nat) := []
  heard       : List (Nat × Nat) := []
  withdrawn   : List Nat := []
  origins     : List (Nat × Nat) := []
  withdrawing : Bool := false
  returning   : Bool := false
  faultWithdrawn : Option Nat := none
  seenEpoch   : Nat := 0
  seenFrom    : Nat := 0
  doorSeen    : List (Nat × Nat × List Byte) := []
  lockPending : Option (Door × Nat) := none
  lockFrom    : Option Nat := none
  lockTime    : Nat := 0
  lockLosses  : Nat := 0
  lockBackoff : Nat := 0
  lockGaveUp  : Option Door := none
  lapseAt     : Option Nat := none
  lockExpiry  : Nat := 0
  lockRenewing : Bool := false
  commitRunning : Bool := false
  commitDigest  : Nat := 0
  commitEpoch   : Nat := 0
  commitPrism   : Nat := 0
  commitOrigin  : Nat := 0
  commitSame    : Bool := true
  commitFrom    : Nat := 0
  commitWaiting : List Nat := []
  prepared    : Bool := false
  applyAt     : Option Nat := none
  formation   : List Nat := []
  tagNext     : Nat := 0
  deriving DecidableEq, Repr

/-! ### Relay (chapter "Images, Port Maps and Relayed Ports") -/

/-- A relay request that has no final result yet (R129, R134): its EndpointSeq, its direction, the transactions still wanted, and what an
OUT or a SETUP carries. -/
structure RelayAsk where
  seq   : Nat
  dirIn : Bool
  count : Nat
  setup : Bool
  data  : List Byte
  deriving DecidableEq, Repr

/-- A request that the owning side has served (R134): the facet that asked, its EndpointSeq, its direction, one result of it, and how many
results were still wanted before that one; of its data the Stamp, the toggle and the frame, which an item of it takes (R181). -/
structure Served where
  src    : Nat
  seq    : Nat
  dirIn  : Bool
  left   : Nat
  result : Nat
  data   : List Byte
  stamp  : Nat := 0
  toggle : Bool := false
  frame  : Nat := 0
  deriving DecidableEq, Repr

/-- Entry side of a relayed endpoint (R129 to R134). `control` is the stage of a control transfer: 0 none, 1 IN data, 2 OUT data, 3 IN
status, 4 OUT status, 5 absorbed by the hub. `held` is the read-ahead data, each packet with its Stamp (R181), and `heldAt` the moment at
which data came to an endpoint that held none (R136). -/
structure RelayEp where
  held        : List (Nat × List Byte) := []
  hostToggle  : Bool := false
  asks        : List RelayAsk := []
  stored      : List (List Byte) := []
  lastOut     : Option Bool := none
  seq         : Nat := 0
  deferred    : Bool := false
  stallOnce   : Bool := false
  errorOnce   : Bool := false
  statusAck   : Bool := false
  control     : Nat := 0
  retries     : Nat := 0
  setup       : List Byte := []
  gather      : List Byte := []
  heldAt      : Option Nat := none
  deriving DecidableEq, Repr

/-- Owning side of a relayed endpoint (R129 to R134): the requests to perform, in order, and the latest results. Endpoint 0 has one for both
directions: `toggle` is its OUT toggle, `toggleIn` its IN toggle. -/
structure OwnEp where
  jobs    : List RelayAsk := []
  running : Bool := false
  toggle  : Bool := false
  toggleIn : Bool := false
  served  : List Served := []
  ping    : Bool := false
  setup   : List Byte := []
  gather  : List Byte := []
  deriving DecidableEq, Repr

/-- A split carried to a remote translator, at the entry facet (R125, R126), with the toggle of an OUT. -/
structure EntrySplit where
  image  : Nat
  port   : Nat
  addr   : Nat
  ep     : Nat
  dirIn  : Bool
  periodic : Bool
  micro  : Nat
  tag    : Nat
  seq    : Nat
  toggle : Bool
  result : Option (Nat × List Byte)
  deriving DecidableEq, Repr

/-! ### Hold-over and adoption -/

/-- Where a held port stands in adoption (R163). -/
inductive AdoptStage
  | held | absorbed | addressed | adopted
  deriving DecidableEq, Repr

/-- An adoption record (R170). Toggles, halts and flips hold endpoint e in bit e. `stage` and `resetOrder` are the adoption
state of R163 and the order of the last completed reset (R165), `hostIn` and `hostOut` the host side's toggles at entry (R172), `alone`
a port held alone (R139, R169). -/
structure AdoptRec where
  valid      : Bool := false
  adoptable  : Bool := false
  divergent  : Bool := false
  seamless   : Bool := false
  suspended  : Bool := false
  adopted    : Bool := false
  slot       : Nat := 0
  localPort  : Nat := 0
  hostAddr   : Nat := 0
  devAddr    : Nat := 0
  speed      : Nat := 0
  config     : Nat := 0
  alts       : List (Nat × Nat) := []
  inToggle   : Nat := 0
  outToggle  : Nat := 0
  haltedIn   : Nat := 0
  haltedOut  : Nat := 0
  flipIn     : Nat := 0
  flipOut    : Nat := 0
  entryTime  : Nat := 0
  adoptTime  : Nat := 0
  vid        : Nat := 0
  pid        : Nat := 0
  resets     : Nat := 0
  viaTt      : Bool := false
  stage      : AdoptStage := .held
  resetOrder : Nat := 0
  slotsOff   : Bool := false
  stopping   : Bool := false
  hostIn     : Nat := 0
  hostOut    : Nat := 0
  alone      : Bool := false
  info       : DevInfo := {}
  deriving DecidableEq, Repr

/-- An image's run of hold-over and adoption beside its entries (R144 to R172): `lastSof` and `declared` are times of `TimeExtended`,
`intentAt`, `lossAt`, `resetAt`, `autoAt` and `swapAt` of the model's own clock: of an intent, a declaration of cause 3, an upstream
reset, an expiry of AdoptAutoDelay and a swap that may meet others in its cycle; `tell` and `tellPorts` are what the running command
leaves to be told to the other members, `upThere` and `mirrorReady` what the facets of the two upstreams have told of them (DESIGN CHOICE,
log 75). -/
structure HoldRt where
  windowOpen  : Bool := false
  lastSof     : Nat := 0
  lastCount   : Nat := 0
  count       : Nat := 0
  boundary    : Nat := 0
  started     : Bool := false
  viaMirror   : Bool := false
  attached    : Bool := false
  configured  : Bool := false
  stepDue     : Bool := false
  recallSofs  : Nat := 0
  declared    : Nat := 0
  intentAt    : Option Nat := none
  lossAt      : Option Nat := none
  resetAt     : Option Nat := none
  autoAt      : Option Nat := none
  swapAt      : Option Nat := none
  tell        : Bool := false
  tellPorts   : List Nat := []
  upThere     : Bool := false
  mirrorReady : Bool := false
  softDetach  : Bool := false
  goodEvals   : List (Nat × Nat) := []
  overOnce    : Nat := 0
  blocked     : Bool := false
  recalled    : Bool := false
  waking      : Bool := false
  exchanged   : Bool := false
  deriving DecidableEq, Repr

/-- A hold-over slot's run (R155 to R158): `word` and `data` are the entry and its payload as the occurrence began, `left` once its image
has left the table it began under. -/
structure SlotRt where
  waiting  : Bool := false
  running  : Bool := false
  burst    : Nat := 0
  entry    : Bool := false
  stage    : Nat := 0
  counted  : Bool := false
  word     : Nat  := 0
  data     : List Byte := []
  left     : Bool := false
  deriving DecidableEq, Repr

/-! ### Faults, domains, doors, configuration, Lens -/

/-- The units that S2 and S3 reactions act on (R332, R335, R348). A logical port of an image is named by its number. -/
inductive FaultUnit
  | nothing | coll | pmb | ring | time | res | steward | can | lens
  | port (p : Port)
  | feed (x : Feed)
  | up (u : Upstream)
  | image (i : Image) (m : Nat)
  | link (k : Link)
  | door (d : Nat)
  deriving DecidableEq, Repr

/-- A reaction that runs, or whose window is open (R341, R342): its source, its severity, the level it acts at, its unit, the
sources merged into it with their details, and for S4 the images whose first hold-over SOF it waits for. -/
structure Reaction where
  source   : Nat
  severity : Nat
  level    : Nat
  unit     : FaultUnit
  detail   : Nat
  merged   : List (Nat × Nat) := []
  waits    : List Image := []
  deriving DecidableEq, Repr

/-- A source whose reaction runs when the running one completes (R341): `late` when its EMCY and notification wait for it too. -/
structure Held where
  source   : Nat
  severity : Nat
  detail   : Nat
  late     : Bool
  deriving DecidableEq, Repr

/-- A queued EMCY message (R346). -/
structure Emcy where
  code     : Nat
  register : Nat
  source   : Nat
  severity : Nat
  first    : Bool
  detail   : Nat
  deriving DecidableEq, Repr

/-- What a clear of `FaultStatus` has replaced, and when: a raise of the same cycle makes that clear stale (R349) (DESIGN CHOICE, log 82).
-/
structure LatchSave where
  at_      : Nat
  source   : Nat
  time     : Nat
  detail   : Nat
  severity : Nat
  merged   : Nat
  latched  : Nat
  status   : Nat
  pulsed   : Bool
  deriving DecidableEq, Repr

/-- The fault system's run beside its entries (R333 to R347): the reaction that runs, beside it the fail-safe reaction, the reactions
that wait, the open windows (oldest first), the last detail of each source, the units that S2 reactions hold and by which source,
the sources whose EMCY and whose notification went out, the times of S3 resets in ms, and the EMCY queue with the losses since
the last report; what the last latch clear replaced, and the severities before the last commit of them with its moment (R349)
(DESIGN CHOICE, log 82). -/
structure FaultRt where
  running  : Option Reaction := none
  safe     : Option Reaction := none
  higher   : List Held := []
  windows  : List Reaction := []
  details  : Table Nat Nat := []
  held     : List (Nat × FaultUnit) := []
  emcySent : Nat := 0
  noteSent : Nat := 0
  resets   : List (FaultUnit × Nat) := []
  hit      : SramHit := .other
  emcy     : List Emcy := []
  emcyLost : Nat := 0
  pulse    : Bool := false
  pulsed   : Bool := false
  safeRun  : Bool := false
  gaspSeq  : Nat := 0
  gasp     : Option (List Byte) := none
  gaspRun  : Option (List Byte) := none
  cleared  : Option LatchSave := none
  sevWas   : Option (Nat × List Nat) := none
  deriving DecidableEq, Repr

/-- What asks for a wake (R322, R329): its source and detail codes, the domains it names, and the prism time at which it fired. -/
structure WakeAsk where
  source : Nat
  detail : Nat
  mask   : Nat
  time   : Nat
  deriving DecidableEq, Repr

/-- A waking domain (R326): `step` 1 rail, 2 waits for the oscillator, 3 memory, 4 logic; `failed` counts failed attempts, `resting`
is the 1 ms before the next one (R327); `cold` comes from off. -/
structure DomWake where
  d       : Nat
  step    : Nat
  failed  : Nat
  resting : Bool
  cold    : Bool
  deriving DecidableEq, Repr

/-- A wake in progress (R326, R327, R329). `shared` is the shared step that runs: 0 none, 1 regulator, 2 oscillator. Source 0 is a
start of the logic die (R407). -/
structure WakeRt where
  source  : Nat
  detail  : Nat
  time    : Nat
  flags   : Nat
  shared  : Nat
  failed  : Nat
  resting : Bool
  doms    : List DomWake
  woken   : Nat
  deriving DecidableEq, Repr

/-- The domain logic's run beside its entries (R317 to R329): the domains whose sleep waits for VDD_CORE, the wake that runs, the asks
latched during a sleep, the last sleep request, the door of the armed command, the end of `WakeTimer`, whether XO runs and CORE_PG is
high, the last reading of the logic die's temperature sensor in 0.1 °C (R455), and when and by which door `DomainCommand` was last written
(R328) (DESIGN CHOICE, log 82). -/
structure DomainRt where
  sleeping  : Nat := 0
  wake      : Option WakeRt := none
  latched   : List WakeAsk := []
  sleepTime : Nat := 0
  sleepMask : Nat := 0
  armedDoor : Nat := 0
  timerEnd  : Option Nat := none
  xo        : Bool := true
  temp      : Option Int := none
  corePg    : Bool := true
  written   : Option (Nat × Nat) := none
  deriving DecidableEq, Repr

/-- What a command leaves for the end of its step, after its answer: a fault source raised with its detail, a source no longer live,
fail-safe, and a domain command that was accepted (R317: a door gets its answer first). -/
inductive Due
  | raised (source detail : Nat)
  | over (source : Nat)
  | failSafe
  | sleep (mask goal : Nat)
  | wake (ask : WakeAsk)
  deriving DecidableEq, Repr

/-- A write taken by a far domain's write buffer and not yet applied (R373). -/
structure Posted where
  domain : Nat
  door   : Door
  write  : RegWrite
  deriving DecidableEq, Repr

/-- A segmented SDO transfer in progress (R371). -/
structure SdoRt where
  index    : Nat
  sub      : Nat
  download : Bool
  toggle   : Bool
  data     : List Byte
  done     : Nat
  deriving DecidableEq, Repr

/-- A command that waits (R362, R367): the door it arrived on and its bytes; `tag` is its DOOR frame's once it is on its way to another
facet, and `sent` says whether a route was there to send it on. -/
structure Forward where
  door  : Door
  tag   : Option Nat
  sent  : Bool
  bytes : List Byte
  deriving DecidableEq, Repr

/-- The doors' run beside their entries (R361 to R373): posted writes, the answer on LOC, the SDO transfer, the doors that S2 holds,
whether the CAN controller is held off the bus or is bus-off, when each TPDO was last sent, how many SYNCs it has seen (for type 0:
whether it waits for one), RPDOs that wait for SYNC, when the last EMCY left, commands that wait, and the CAN bit rates in use (DESIGN
CHOICE, log 75); and the last plain write with its moment and door (R376) (DESIGN CHOICE, log 82). -/
structure DoorRt where
  posted    : List Posted := []
  loc       : Option (List Byte) := none
  sdo       : Option SdoRt := none
  shut      : Nat := 0
  canOff    : Bool := false
  busOff    : Bool := false
  tpdoTimes : List (Nat × Nat) := []
  tpdoSyncs : List (Nat × Nat) := []
  rpdoHeld  : List (Nat × List Byte) := []
  emcyTime  : Option Nat := none
  nominal   : Nat := 500
  dataRate  : Nat := 2000
  forwarded : List Forward := []
  wrote     : Option (Nat × Nat × List (Reg × Nat)) := none
  deriving DecidableEq, Repr

/-- A copy of the stored configuration in flash (R350): its values and sequence number. -/
structure Stored where
  seq    : Nat
  values : List (Reg × Nat)
  deriving DecidableEq, Repr

/-- What a lapse of the stage ownership has ended, and when: a commit of the owner in the same cycle wins (R381) (DESIGN CHOICE, log 82). -/
structure StageSave where
  at_    : Nat
  owner  : Option (Door × Option Nat)
  staged : List (Reg × Option Nat)
  lost   : List Reg
  shown  : Nat
  events : Nat
  deriving DecidableEq, Repr

/-- The commit logic's run (R377 to R384, R350). -/
structure CfgRt where
  storing   : Bool := false
  copyA     : Option Stored := none
  copyB     : Option Stored := none
  prismStore : Bool := false
  refArmed  : Bool := false
  lost      : List Reg := []
  stagedAt  : Nat := 0
  owner     : Option (Door × Option Nat) := none
  lapsed    : Option StageSave := none
  deriving DecidableEq, Repr

/-- The trace and its staging queue (R426, R429), the counters (R431) and provocation (R432 to R434). -/
structure LensRt where
  trace    : List (Nat × List Byte) := []
  staging  : List (List Byte) := []
  seq      : Nat := 0
  stopped  : Bool := false
  counters : Table Nat Nat := []
  snapshot : Option (Table Nat Nat) := none
  armed    : Bool := false
  armedAt  : Nat := 0
  seqs     : List Nat := []
  deriving DecidableEq, Repr

/-! ### The reservoir (chapter "The Reservoir") -/

/-- An item of a record (R181). `hdrBad` marks an uncorrectable item header (R194). -/
structure Item where
  time      : Nat
  port      : Nat
  toggle    : Bool
  image     : Nat
  ep        : Nat
  data      : List Byte
  short     : Bool
  bad       : Bool := false
  provoked  : Bool := false
  readAhead : Bool := false
  source    : Nat := 0
  seq       : Nat := 0
  frame     : Nat := 0
  hdrBad    : Bool := false
  deriving DecidableEq, Repr

/-- A record of a stream (R180): its flags byte, its start time and its items. `hdrBad` marks an uncorrectable header (R194). `gone` counts
the bytes of an open record that a LOST record has covered; a part of such a record is a `Rec` of `frag` bytes without a header. -/
structure Rec where
  flags  : Nat := 0
  start  : Nat := 0
  items  : List Item := []
  hdrBad : Bool := false
  gone   : Nat := 0
  frag   : Nat := 0
  deriving DecidableEq, Repr

/-- A stream before a release or a rewind, which a lower door's command of the same cycle overtakes (R192): when, from which door, and the
value written. -/
structure StreamSave where
  time    : Nat
  door    : Nat
  value   : Nat
  records : List Rec
  passed  : Nat
  mark    : Option Nat
  full    : Bool
  need    : Nat
  readPtr : Nat
  freePtr : Nat
  markPtr : Nat
  events  : Nat
  deriving DecidableEq, Repr

/-- A stream beside its entries (R177 to R191): closed records from the release pointer on, how many of them the read pointer has
passed, the mark as such a count, and the record that is open. `payload` counts the payload bytes of the open transfer, `tail`
the bytes that wait in the tail buffer, `tailBy` the requester that spills them (R196), `need` the size that set Full. For what meets in
one cycle (R192): when a record last closed, with the words of its closing item and the count of records before; when the mark was last
set; and `saved`. `lostAt` is where a LOST record was begun and counted (R194). -/
structure StreamRt where
  records  : List Rec := []
  passed   : Nat := 0
  mark     : Option Nat := none
  current  : Option Rec := none
  payload  : Nat := 0
  ignoring : Bool := false
  dropping : Bool := false
  full     : Bool := false
  need     : Nat := 0
  seq      : Nat := 0
  tail     : Nat := 0
  tailBy   : Nat := 6
  paused   : Bool := false
  closedAt : Option (Nat × Nat × Nat) := none
  markAt   : Option Nat := none
  saved    : Option StreamSave := none
  lostAt   : Option Nat := none
  deriving DecidableEq, Repr

/-- A record that a read has taken and that passes when the read completes (R188): its stream, how many records of the stream it stands for,
the bytes of the open record that a LOST record covers, and whether Bad was delivered. -/
structure Taken where
  stream  : Nat
  records : Nat
  lost    : Nat
  kept    : Bool
  deriving DecidableEq, Repr

/-- How the answer to an open of a session on another facet goes on (R184): as a verdict, as the answer to a command that its door holds, to
the SDO client, to another facet that wrote through the RING door, or not at all. -/
inductive OpenBy
  | quiet
  | verdict (d : Door)
  | command (d : Door)
  | sdo (idx sub : Nat)
  | ring (src tag : Nat) (bytes : List Byte)
  deriving DecidableEq, Repr

/-- A read session beside its entries (R184 to R188): the stream and the bytes of the record in delivery, the records it skips,
the stream last served at each priority level, and how many of the bytes the head buffer held when the reader was last cut off from
DRAM (R177). `begun` says that the delivery has begun (R191), `lost` is as in `Taken`, `rewind` lists the streams whose rewind waits for the
pass (R192). `reading` is what a read has taken that its door has not completed, and `readBy` that door (R188). `opening` is the tag of an
open sent to another facet, and `owner` the facet that opened the RING session (R184). -/
structure SessRt where
  opened   : Bool := false
  stream   : Nat := 0
  bytes    : List Byte := []
  whole    : Nat := 0
  records  : Nat := 0
  kept     : Bool := false
  lost     : Nat := 0
  begun    : Bool := false
  rewind   : List Nat := []
  served   : List (Nat × Nat) := []
  head     : Nat := 0
  reading  : List Taken := []
  readBy   : Option Door := none
  opening  : Option (Nat × OpenBy) := none
  owner    : Option Nat := none
  deriving DecidableEq, Repr

/-- A requester of the DRAM arbiter (R197). -/
structure ReqRt where
  waiting  : Bool := false
  asking   : Bool := false
  losses   : Nat := 0
  wait     : Nat := 0
  forced   : Bool := false
  deriving DecidableEq, Repr

/-- The arbiter before a decision, which a freeze of the same cycle undoes (R199): when, the requesters, the winner and its counters, the
parked owner, the event flags before and after, and the tails. -/
structure ArbSave where
  time   : Nat
  reqs   : Table Nat ReqRt
  winner : Nat
  grants : Nat
  most   : Nat
  wins   : Nat
  parked : Nat
  events : Nat
  flags  : Nat
  tails  : List (Nat × Nat)
  deriving DecidableEq, Repr

/-! ### Type-C, PD and the power path -/

/-- An AMS that the hub starts (R260). -/
inductive Ams
  | sourceCaps | sinkCap | alert | cable | wyhelen (step : Nat)
  deriving DecidableEq, Repr

/-- What the hub waits for from a port partner (R253, R281). -/
inductive Await
  | nothing | request | sinkCaps | softAccept | accept | cable | vdm (step : Nat) | psRdy
  deriving DecidableEq, Repr

/-- A voltage transition (R266): its RDO, its target, the old and the new allocation, and whether the regulator has been
written. -/
structure TransRt where
  rdo     : Nat
  mv      : Nat
  ma      : Nat
  pps     : Bool
  alloc   : Nat
  written : Bool := false
  deriving DecidableEq, Repr

/-- A port's Type-C and PD run beside its entries (R243 to R281). `sent` is the message whose GoodCRC is awaited, with the retries used.
`swap` is the step of a PR_Swap: 1 accepted, 2 VBUS going off, 3 PS_RDY sent, 4 partner sources; 5 to 7 the way back: accepted, VBUS
coming on. `hardStage` is 1 before and 2 after a Hard Reset's step 2. `entryStep` is the step of R70 that runs: 6 answered with
ACK, 9 ended. `target` is a re-offer that has not left yet (R263, R264). `trying` is 1 in Try.SRC and 2 in TryWait.SNK (R243),
`attachAt` the time, on the model's own clock, of an attach debounce that ended while a measurement ran (R250), `fallback` the non-PD
fallback (R273), `bleeding` the discharge path of a transition to a lower voltage (R266), and `lastIdP` and `txIdP` are SOP′'s MessageIDs
(R252). -/
structure TcRt where
  attach      : Option (Nat × Bool) := none
  attachAt    : Option Nat := none
  trying      : Nat  := 0
  backfed     : Bool := false
  measuring   : Bool := false
  dryRun      : Nat := 0
  corroded    : Bool := false
  partnerRev  : Nat := 0
  nonPd       : Bool := false
  fallback    : Bool := false
  cableKnown  : Bool := false
  cable5A     : Bool := false
  vconn       : Bool := false
  ra          : Bool := false
  dfp         : Bool := false
  source      : Bool := false
  rp          : Nat := 0
  orientValid : Bool := false
  orient      : Nat := 0
  asSource    : Bool := false
  vconnOut    : Bool := false
  discharging : Bool := false
  bleeding    : Bool := false
  mv          : Nat := 5000
  ma          : Nat := 6000
  vbus        : Nat := 0
  limited     : Bool := false
  lastId      : Option Nat := none
  txId        : Nat := 0
  lastIdP     : Option Nat := none
  txIdP       : Nat := 0
  sent        : Option (PdMsg × Nat) := none
  drpSink     : Bool := false
  target      : Option Nat := none
  explicit    : Bool := false
  pps         : Bool := false
  offered     : List Nat := []
  offerOut    : Option Nat := none
  caps        : Nat := 0
  hardRow     : Nat := 0
  hardStage   : Nat := 0
  trans       : Option TransRt := none
  swap        : Nat := 0
  vswap       : Nat := 0
  sinkCaps    : Option (List Nat) := none
  own         : List Ams := []
  window      : Bool := false
  await       : Await := .nothing
  cableTries  : Nat := 0
  lowerTo     : Option Nat := none
  recovery    : Bool := false
  detectOff   : Bool := false
  newContract : Bool := false
  entryStep   : Nat := 0
  entered     : Bool := false
  deriving DecidableEq, Repr

/-- A feed beside its entries (R287 to R293): its enable pin, whether it lies in its window, the step of R290 it is in (0 none,
1 insertion delay, 2 diode gate, 3 pre-charge, 4 ramp, 5 on) and whether a fast reverse turn-off holds it. -/
structure FeedRt where
  en      : Bool := false
  inside  : Bool := false
  step    : Nat := 0
  revHold : Bool := false
  deriving DecidableEq, Repr

/-- A breaker channel beside its entries: heat in units of 10⁻¹² and energy's fraction (R296, R302) (DESIGN CHOICE, log 49); when it last
tripped and when its ramp last ended, on the model's own clock, for the winners of one cycle (R305) (DESIGN CHOICE, log 82). -/
structure ChanRt where
  heat   : Nat := 0
  frac   : Nat := 0
  tripAt   : Option Nat := none
  rampedAt : Option Nat := none
  deriving DecidableEq, Repr

/-- The power path's run: the stored energies of the last checkpoint and whether the channels have yet to resume from it, whether a
checkpoint is due at once, whether AON runs from VBUS_AON, the last reading of the power die's temperature sensor (R455), the supplies out
of range (R280, R303, R332), and since when, on the model's own clock, A has exceeded B (R263) (DESIGN CHOICE, log 75); and what a
checkpoint of this cycle replaced, with the moment of it (R305) (DESIGN CHOICE, log 82). -/
structure PathRt where
  saved  : List Nat := []
  fresh  : Bool := false
  due    : Bool := false
  vbusAon : Bool := false
  temp    : Option Int := none
  supplies : Nat := 0
  overFrom : Option Nat := none
  replaced : Option (Nat × List Nat × Nat × Nat) := none
  deriving DecidableEq, Repr

/-! ### Start-up and firmware (chapter "Start-up, Stored Configuration and Firmware") -/

/-- The steward and the firmware banks beside their entries (R406 to R424): whether the steward runs, its stored configuration is loaded
(`started`), the pull-ups wait for the membership (`waiting`), the ROM loader runs (`recovery`), a restart keeps the live configuration
(`restart`); whether the last DRAM training failed (`noDram`, R7); whether RESET_N holds the die; the boot record (`bank` selected,
`trial`, failed starts, and the last-gasp sequence at the last count); the banks' validity and versions; the update's owner, bank and
pages; SRAM banks that failed; what SFDP told of the flash: its ID and its size in KiB; whether AON's part of the stored configuration is
loaded (R321). (DESIGN CHOICE, log 75) -/
structure BootRt where
  running  : Bool := true
  started  : Bool := true
  waiting  : Bool := false
  recovery : Bool := false
  restart  : Bool := false
  inReset  : Bool := false
  counted  : Bool := true
  bank     : Nat := 0
  trial    : Bool := false
  fails    : List Nat := [0, 0]
  gaspSeen : Nat := 0
  valid    : List Bool := [true, true]
  versions : List Nat := [0xFFFFFFFF, 0xFFFFFFFF]
  owner    : Option Door := none
  target   : Option Nat := none
  pages    : Table Nat (List Byte) := []
  eraseCut : Bool := false
  badSram  : Nat := 0
  jedecId  : Nat := 0
  qspiKiB  : Nat := 0
  aonLoaded : Bool := false
  noDram   : Bool := false
  deriving DecidableEq, Repr

/-! ### Time (chapter "Prism Time") -/

/-- A row of the SOF time table (R228), with the stamps of the last frames. -/
structure SofRow where
  stamp   : Nat := 0
  source  : Nat := 0
  image   : Nat := 0
  time    : Nat := 0
  past    : List Nat := []
  stepSeq : Nat := 0
  deriving DecidableEq, Repr

/-- A focal announced on a link (R214). -/
structure Announce where
  uid   : Nat
  prio  : Nat
  pps   : Bool
  steps : Nat
  deriving DecidableEq, Repr

/-- The echo exchange of a link (R217, R219): own sequence number and transmit stamps, the last ECHO received and its stamp, and
what the partner announces. Stamps count 2⁻¹⁶ ns. -/
structure EchoRt where
  seq   : Nat := 0
  sent  : List (Nat × Nat) := []
  last  : Option (Nat × Nat) := none
  ann   : Option Announce := none
  deriving DecidableEq, Repr

/-- A queued launch (R232, R234): `running` once its transaction has been given to the engine or the translator, `toggle` the toggle it
goes out with. -/
structure Launch where
  time     : Nat
  tag      : Nat
  image    : Nat
  port     : Nat
  ep       : Nat
  data     : List Byte
  window   : Nat
  mode     : Nat
  retry    : Bool
  attempts : Nat := 0
  started  : Nat := 0
  running  : Bool := false
  toggle   : Bool := false
  deriving DecidableEq, Repr

/-- The time counter (R208) with a clock of the model's own (`elapsed` counts 5/12 ns units since reset, 5 for a TIME edge and 96 for an
XO edge), the servo (R220, R221; frequencies in 2⁻¹⁶ ppb), PPS (R224 to R226), the SOF time table and the launch queue. `open_` names step
log entries that wait for the first SOF of their image (R229), and `focalAt` is when the focal last changed (R236). -/
structure TimeRt where
  ns       : Nat := 0
  frac     : Nat := 0
  latched  : Nat := 0
  elapsed  : Nat := 0
  pll      : Bool := true
  freq     : Int := 0
  base     : Int := 0
  integral : Int := 0
  stepped  : Bool := false
  good     : Nat := 0
  bad      : Nat := 0
  ppsEdges : List Nat := []
  ppsNext  : Nat := 0
  ppsMiss  : Nat := 0
  ppsOut   : Bool := false
  rows     : Table Nat SofRow := []
  log      : Table Nat (List Byte) := []
  stepSeq  : Nat := 0
  echo     : Table Nat EchoRt := []
  open_    : List (Nat × Nat) := []
  focalAt  : Option Nat := none
  launches : List Launch := []
  results  : Table Nat (List Byte) := []
  deriving DecidableEq, Repr

end Sys2Proof.Machine
end

