-- ==== Sys2Proof/Machine/State.lean ====
section
/-! DEFINITION. The state of the block: the dictionary's registers, what its blocks hold while they run, what the last command
made it send, and the queue of commands that wait. Its reset value is the facet standing alone at the end of the start-up of
R407. -/

namespace Sys2Proof.Machine

/-- What stops the block: nothing. The spec names no happening that leaves the block without a next state, so there is no fault to
raise (safe: a command goes on, or is refused by name). -/
inductive Fault
  deriving DecidableEq, Repr

/-- Why a command has no next state. -/
inductive Refusal
  /-- Raised by the dispatch alone, for a row without a meaning (safe: nothing is claimed of it). -/
  | notModelled (mnemonic : String)
  deriving DecidableEq, Repr

/-- The stored registers: a register that is not listed holds its default. -/
abbrev Regs := Table Reg Nat

/-- Values laid over the registers: staged values that differ from the live ones, or values that wait for their domain. -/
abbrev Overlay := Table Reg (Option Nat)

/-- The block (DESIGN CHOICE, log 1). -/
structure State where
  /-- Commands that wait, first in, first out. -/
  pending   : List Instr
  /-- What fuses and bonding fix (R1, R9). -/
  ident     : Ident
  /-- Strap levels sampled at the last reset, laid out as `StrapSample` (R401). -/
  straps    : Nat
  /-- Strap and test pins as they stand now, in the same layout (R432). -/
  pins      : Nat
  /-- What the last command made the facet send, in order. -/
  out       : List Out
  /-- Fault sources raised or ended by the running command and not yet acted on; empty between commands. -/
  due       : List Due
  /-- Live values of the dictionary's stored entries. -/
  regs      : Regs
  /-- Staged values of local commit-class entries (R377). -/
  staged    : Overlay
  /-- Staged values of prism-wide entries (R104). -/
  pstaged   : Overlay
  /-- Committed values of entries whose domain is not on (R358, R379). -/
  parked    : Overlay
  hubs      : Table Image HubFn
  embs      : Table Image DevFn
  ups       : Table Bool UpRt
  ports     : Table Port PortRt
  remote    : Table (Image × Nat) PortStatusBody
  xlate     : Table (Image × Nat) (Option Xlate)
  devices   : Table (Image × Nat) DevInfo
  records   : Table (Image × Nat) AdoptRec
  holds     : Table Image HoldRt
  slots     : Table Nat SlotRt
  running   : Table Nat Nat
  runPayload : Table Nat Nat
  switched  : Nat
  swapping  : Bool
  engine    : Table Nat (Option Xact)
  waiting   : List Xact
  lastImage : Nat
  engineMissed : Bool
  relayEps  : Table (Image × Nat × Nat × Bool) RelayEp
  ownEps    : Table (Port × Nat × Nat × Bool) OwnEp
  splits    : List EntrySplit
  poolLow   : Bool
  links     : Table Link LinkRt
  streams   : Table Nat StreamRt
  sessions  : Table Nat SessRt
  arb       : Table Nat ReqRt
  arbSaved  : Option ArbSave
  tcs       : Table Port TcRt
  feeds     : Table Bool FeedRt
  chans     : Table Nat ChanRt
  path      : PathRt
  boot      : BootRt
  ring      : RingRt
  faults    : FaultRt
  domains   : DomainRt
  doors     : DoorRt
  cfg       : CfgRt
  lens      : LensRt
  time      : TimeRt
  /-- The event-status entries whose flags the hub has set in this cycle, by address: when, the sequence number before, and those flags
  (R376) (DESIGN CHOICE, log 82). -/
  seqs      : List (Nat × Nat × Nat × Nat)
  deriving DecidableEq, Repr

/-- The identity of the facet at reset: a CT4816-WD of stepping B0 (R1, R2, R10). DESIGN CHOICE (log 2). -/
def resetIdent : Ident :=
  { ports := 16, wyhelen := true, dram := true, stepping := 0x20, uniqueId := 1, powerDieId := 2 }

/-- The straps at reset: normal start, all doors open, CAN_ID 0, INJ_EN and WYH_FIXED low (R401, R411). DESIGN CHOICE (log 2). -/
def resetStraps : Nat := 0xC01F

/-- The firmware and the start-up at the end of step 10 of R407, with a boot record as R415 gives it without a valid copy: bank A
runs on trial, its start is counted, and the upstream pull-ups wait. DESIGN CHOICE (log 2). -/
def resetBoot : BootRt :=
  { waiting := true, trial := true, fails := [1, 0], valid := [true, false], versions := [0x01000000, 0xFFFFFFFF], jedecId := 0xEF4018,
    qspiKiB := 16384, aonLoaded := true }

/-- The registers whose value after the start differs from their default (R176, R287, R371, R417): the DRAM is still being trained
(DESIGN CHOICE, log 2). -/
def resetRegs : Regs :=
  [(.res .reservoirDramState, 1), (.feed .A .feedState, 1), (.feed .B .feedState, 1),
   (.fw (.fwVersion 0), 0x01000000), (.fw .fwFailedStarts, 1), (.can .canState, 127)]

/-- The facet after a power-on start, at the end of step 10 of R407: every domain is on, nothing is attached, and no command
waits (DESIGN CHOICE, log 2). -/
def State.reset : State :=
  { pending := [], ident := resetIdent, straps := resetStraps, pins := resetStraps, out := [], due := [],
    regs := resetRegs, staged := [], pstaged := [], parked := [],
    hubs := [], embs := [], ups := [], ports := [], remote := [], xlate := [], devices := [], records := [], holds := [],
    slots := [], running := [], runPayload := [], switched := 0, swapping := false, engine := [], waiting := [], lastImage := 0,
    engineMissed := false, relayEps := [], ownEps := [], splits := [], poolLow := false, links := [], streams := [],
    sessions := [], arb := [], arbSaved := none, tcs := [], feeds := [], chans := [], path := {}, boot := resetBoot, ring := {}, faults := {},
    domains := {}, doors := {}, cfg := {}, lens := {}, time := {}, seqs := [] }

end Sys2Proof.Machine
end

