-- ==== Sys2Proof/Machine/Flags.lean ====
section
/-! DEFINITION. The event-status entries (R375, R402): the bit of every flag, setting one, and clearing them by a write that
carries the current sequence number. -/

namespace Sys2Proof.Machine

/-! `HubEvents` (R67). -/
abbrev hubBabble : Nat := 0
abbrev hubChirpFail : Nat := 1
abbrev hubTtError : Nat := 2
abbrev hubBadPid : Nat := 3
abbrev hubTokenCrc : Nat := 4
abbrev hubUnrouted : Nat := 5
abbrev hubEngineTimeout : Nat := 6
abbrev hubLpmIgnored : Nat := 7
abbrev hubWakeMerged : Nat := 8
abbrev hubControlAbort : Nat := 9
abbrev hubSplitBadPort : Nat := 10
abbrev hubToggleMismatch : Nat := 11
abbrev hubSofMiss : Nat := 12
abbrev hubEarlyWake : Nat := 13

/-! `RingEvents` (R114). -/
abbrev ringLinkDown : Nat := 0
abbrev ringLinkUp : Nat := 1
abbrev ringRetrain : Nat := 2
abbrev ringHeal : Nat := 3
abbrev ringForeign : Nat := 4
abbrev ringMembership : Nat := 5
abbrev ringLockLapse : Nat := 6
abbrev ringCommitRefused : Nat := 7
abbrev ringViolation : Nat := 8
abbrev ringHopExpired : Nat := 9
abbrev ringNoQuorum : Nat := 10
abbrev ringCandidate : Nat := 11

/-! `RelayEvents` (R142). -/
abbrev relayDeferred : Nat := 0
abbrev relayError : Nat := 1
abbrev relayRefused : Nat := 2
abbrev relaySplitLate : Nat := 3
abbrev relayPoolLow : Nat := 4
abbrev relayStale : Nat := 5
abbrev relayHostError : Nat := 6
abbrev relayAperture : Nat := 7

/-! `HoldoverEvents` (R175). -/
abbrev holdEnter : Nat := 0
abbrev holdDormant : Nat := 1
abbrev holdIntentLapse : Nat := 2
abbrev holdTableSwapped : Nat := 3
abbrev holdTableRefused : Nat := 4
abbrev holdPause : Nat := 5
abbrev holdSkip : Nat := 6
abbrev holdEntryActionFail : Nat := 7
abbrev holdAdoptStart : Nat := 8
abbrev holdAdoptDone : Nat := 9
abbrev holdDiverge : Nat := 10
abbrev holdAdoptFail : Nat := 11
abbrev holdResetDriven : Nat := 12
abbrev holdAddr0Conflict : Nat := 13
abbrev holdRecall : Nat := 14
abbrev holdSeamlessFallback : Nat := 15

/-! `DomainEvents` (R331). -/
abbrev domSleepDone : Nat := 0
abbrev domWake : Nat := 1
abbrev domWakeFail : Nat := 2
abbrev domSleepAbandoned : Nat := 3
abbrev domCmdRefused : Nat := 4
abbrev domLatchedWake : Nat := 5
abbrev domPllUnlock : Nat := 6
abbrev domCoreRegFail : Nat := 7

/-! `FaultStatus` (R356). -/
abbrev faultFirst : Nat := 0
abbrev faultOverflow : Nat := 1
abbrev faultPulsed : Nat := 2
abbrev faultMergedFlag : Nat := 3
abbrev faultEscalated : Nat := 4
abbrev faultSafe : Nat := 5

/-! `LensEvents` (R396). -/
abbrev lensWrapped : Nat := 0
abbrev lensStopped : Nat := 1
abbrev lensExtError : Nat := 2
abbrev lensProvokeArmed : Nat := 3
abbrev lensProvokeDisarmed : Nat := 4
abbrev lensProvokeRefused : Nat := 5

/-! `DoorEvents` (R389). -/
abbrev doorDenied : Nat := 0
abbrev doorBusy : Nat := 1
abbrev doorStaleClear : Nat := 2
abbrev doorCrcMismatch : Nat := 3
abbrev doorCommitApplied : Nat := 4
abbrev doorCommitRefused : Nat := 5
abbrev doorStoreFail : Nat := 6
abbrev doorStageLapse : Nat := 7

/-! `PdEvents` (R285). -/
abbrev pdReoffer : Nat := 0
abbrev pdShed : Nat := 1
abbrev pdRestore : Nat := 2
abbrev pdHardReset : Nat := 3
abbrev pdSoftReset : Nat := 4
abbrev pdWet : Nat := 5
abbrev pdDry : Nat := 6
abbrev pdVconnFault : Nat := 7
abbrev pdRegFail : Nat := 8
abbrev pdPrSwap : Nat := 9
abbrev pdVconnSwap : Nat := 10
abbrev pdSwapRefused : Nat := 11
abbrev pdCollision : Nat := 12
abbrev pdViolation : Nat := 13
abbrev pdNonPdFallback : Nat := 14
abbrev pdBackfeed : Nat := 15

/-! `PowerEvents` (R309). -/
abbrev powTrip : Nat := 0
abbrev powTimeout : Nat := 1
abbrev powPassDev : Nat := 2
abbrev powIdealRev : Nat := 3
abbrev powFeedWindow : Nat := 4
abbrev powFeedUp : Nat := 5
abbrev powRearm : Nat := 6
abbrev powPgChange : Nat := 7
abbrev powBudgetChange : Nat := 8
abbrev powCheckpoint : Nat := 9
abbrev powDischargeTimeout : Nat := 10
abbrev powConfigRefused : Nat := 11

/-! `ResEvents` (R205). -/
abbrev resOverrun : Nat := 0
abbrev resCorrected : Nat := 1
abbrev resDramUe : Nat := 2
abbrev resSramUe : Nat := 3
abbrev resLost : Nat := 4
abbrev resScrubPass : Nat := 5
abbrev resArbForced : Nat := 6
abbrev resArbStarve : Nat := 7
abbrev resFreezeDrained : Nat := 8
abbrev resConfigRefused : Nat := 9

/-! `StreamEvents` (R207). -/
abbrev streamOverrun : Nat := 0
abbrev streamFull : Nat := 1
abbrev streamFlushed : Nat := 2
abbrev streamMarkLost : Nat := 3
abbrev streamBadRecord : Nat := 4

/-! `TimeEvents` (R242). -/
abbrev timeWrap : Nat := 0
abbrev timeStep : Nat := 1
abbrev timeFocalChange : Nat := 2
abbrev timeRefLost : Nat := 3
abbrev timeRefBack : Nat := 4
abbrev timeLocked : Nat := 5
abbrev timePpsValid : Nat := 6
abbrev timePpsLoss : Nat := 7
abbrev timeLaunchLate : Nat := 8
abbrev timeLaunchFail : Nat := 9
abbrev timeEchoMiss : Nat := 10
abbrev timeCanTimeLate : Nat := 11
abbrev timeFreqClamp : Nat := 12

/-- The sequence number of an event-status value (R375). -/
def eventSeq (v : Nat) : Nat := bitField v 31 24

/-- An event-status value after the hub sets flag `b`: the flag reads 1 and the sequence number advances modulo 256 (R375). -/
def eventSet (v b : Nat) : Nat := putBits (setBit v b true) 31 24 (eventSeq v + 1)

/-- An event-status value after a clear that carried the current sequence number: the flags named in bits [23:0] read 0 (R375). -/
def eventClear (v w : Nat) : Nat := v - (v &&& bitField w 23 0)

end Sys2Proof.Machine
end

