-- ==== Sys2Proof/Machine/Ops.lean ====
section
/-! DEFINITION. The named operations every meaning is written with: reading and writing registers, counters and event flags,
the facet's output, the runs of ports, links, images and upstreams, and the Lens trace that the other blocks write. -/

namespace Sys2Proof.Machine

/-! ### Registers -/

/-- The live value of a register. -/
def State.get (s : State) (r : Reg) : Nat := Table.get (r.default s.ident) s.regs r

/-- Writes a register: the value is held in the register's width. -/
def State.set (s : State) (r : Reg) (v : Nat) : State :=
  { s with regs := Table.put Reg.addr (r.default s.ident) s.regs r (v % 2 ^ r.bits) }

/-- Writes a signed register (R357, two's complement). -/
def State.setInt (s : State) (r : Reg) (v : Int) : State := s.set r (ofSigned r.bits v)

/-- Reads a signed register. -/
def State.getInt (s : State) (r : Reg) : Int := signedOf r.bits (s.get r)

/-- Reads a BOOLEAN register. -/
def State.isTrue (s : State) (r : Reg) : Bool := s.get r != 0

/-- A counter increments, and wraps at its width. -/
def State.bump (s : State) (r : Reg) : State := s.set r (s.get r + 1)

/-- A counter counts `n` at once. -/
def State.count (s : State) (r : Reg) (n : Nat) : State := s.set r (s.get r + n)

/-- Sets or clears bit `b` of a register. -/
def State.setRegBit (s : State) (r : Reg) (b : Nat) (v : Bool) : State := s.set r (setBit (s.get r) b v)

/-- What an event-status entry was before the hub set flags of it in this cycle: its sequence number, and those flags (R376). -/
def State.seqBefore (s : State) (r : Reg) : Option (Nat × Nat) :=
  (s.seqs.find? fun e => e.1 == r.addr && e.2.1 == s.time.elapsed).map fun e => e.2.2

def State.putSeqs (s : State) (l : List (Nat × Nat × Nat × Nat)) : State := { s with seqs := l }

/-- What is kept of a flag that the hub sets: of this cycle alone. -/
def State.seqNote (s : State) (r : Reg) (b : Nat) : List (Nat × Nat × Nat × Nat) :=
  let was := (s.seqBefore r).getD (eventSeq (s.get r), 0)
  (r.addr, s.time.elapsed, was.1, setBit was.2 b true) :: s.seqs.filter fun e => e.2.1 == s.time.elapsed && e.1 != r.addr

/-- The hub sets flag `b` of an event-status entry (R375). What it sets in one cycle stands against a clear of that cycle (R376). -/
def State.flag (s : State) (r : Reg) (b : Nat) : State := (s.set r (eventSet (s.get r) b)).putSeqs (s.seqNote r b)

/-- Runs a change when a condition holds. -/
def State.when (s : State) (b : Bool) (f : State → State) : State := if b then f s else s

/-- Runs a change for each element in turn. -/
def State.forEach {α : Type} (s : State) (l : List α) (f : State → α → State) : State := l.foldl f s

/-- Puts an element into a sorted list, before those it may stand before. -/
def insertBy {α : Type} (le : α → α → Bool) (x : α) : List α → List α
  | [] => [x]
  | y :: t => if le x y then x :: y :: t else y :: insertBy le x t

/-- Sorts a list; elements that may stand either way keep their order. -/
def sortBy {α : Type} (le : α → α → Bool) (l : List α) : List α := l.foldr (insertBy le) []

/-- Numbers in rising order. -/
def rising (l : List Nat) : List Nat := sortBy (fun a b => decide (a ≤ b)) l

/-- Sends something. -/
def State.emit (s : State) (o : Out) : State := { s with out := s.out ++ [o] }

/-- Prism time (R208). -/
def State.now (s : State) : Nat := s.time.ns

/-- `TimeExtended` (R212). -/
def State.extended (s : State) : Nat := s.get (.time .timeWrapCount) * 2 ^ 32 + s.now

/-- The last moment, counted as `TimeExtended`, at which the counter read `t`. -/
def State.momentOf (s : State) (t : Nat) : Nat := s.extended - (s.now + 2 ^ 32 - t % 2 ^ 32) % 2 ^ 32

/-- Units of the model's own clock in a millisecond. -/
abbrev msUnits : Nat := 2400000

/-- Milliseconds on the model's own clock. -/
def State.elapsedMs (s : State) : Nat := s.time.elapsed / msUnits

/-! ### Runs -/

/-- Order of image tables. -/
def imageOrd (x : Image × Nat) : Nat := x.1.val * 65536 + x.2

/-- A port's run. -/
def State.port (s : State) (p : Port) : PortRt := Table.get {} s.ports p
def State.setPort (s : State) (p : Port) (x : PortRt) : State := { s with ports := Table.put Fin.val {} s.ports p x }
def State.modPort (s : State) (p : Port) (f : PortRt → PortRt) : State := s.setPort p (f (s.port p))

/-- An image's hub function. -/
def State.hub (s : State) (i : Image) : HubFn := Table.get {} s.hubs i
def State.setHub (s : State) (i : Image) (x : HubFn) : State := { s with hubs := Table.put Fin.val {} s.hubs i x }
def State.modHub (s : State) (i : Image) (f : HubFn → HubFn) : State := s.setHub i (f (s.hub i))

/-- An image's embedded function. -/
def State.emb (s : State) (i : Image) : DevFn := Table.get {} s.embs i
def State.setEmb (s : State) (i : Image) (x : DevFn) : State := { s with embs := Table.put Fin.val {} s.embs i x }

/-- An upstream's run. -/
def State.up (s : State) (u : Upstream) : UpRt := Table.get {} s.ups (u = .UB)
def State.setUp (s : State) (u : Upstream) (x : UpRt) : State :=
  { s with ups := Table.put boolNat {} s.ups (u = .UB) x }
def State.modUp (s : State) (u : Upstream) (f : UpRt → UpRt) : State := s.setUp u (f (s.up u))

/-- An image's run of hold-over. -/
def State.hold (s : State) (i : Image) : HoldRt := Table.get {} s.holds i
def State.setHold (s : State) (i : Image) (x : HoldRt) : State := { s with holds := Table.put Fin.val {} s.holds i x }
def State.modHold (s : State) (i : Image) (f : HoldRt → HoldRt) : State := s.setHold i (f (s.hold i))

/-- An adoption record (R170). -/
def State.record (s : State) (i : Image) (m : Nat) : AdoptRec := Table.get {} s.records (i, m)
def State.setRecord (s : State) (i : Image) (m : Nat) (x : AdoptRec) : State :=
  { s with records := Table.put imageOrd {} s.records (i, m) x }
def State.modRecord (s : State) (i : Image) (m : Nat) (f : AdoptRec → AdoptRec) : State :=
  s.setRecord i m (f (s.record i m))

/-- A translation entry (R51). -/
def State.entry (s : State) (i : Image) (a : Nat) : Option Xlate := Table.get none s.xlate (i, a)
def State.setEntry (s : State) (i : Image) (a : Nat) (x : Option Xlate) : State :=
  { s with xlate := Table.put imageOrd none s.xlate (i, a) x }

/-- What is learned of the device at a host address (R127). -/
def State.device (s : State) (i : Image) (a : Nat) : DevInfo := Table.get {} s.devices (i, a)
def State.setDevice (s : State) (i : Image) (a : Nat) (x : DevInfo) : State :=
  { s with devices := Table.put imageOrd {} s.devices (i, a) x }
def State.modDevice (s : State) (i : Image) (a : Nat) (f : DevInfo → DevInfo) : State :=
  s.setDevice i a (f (s.device i a))

/-- The entry facet's copy of a remote port's status (R123). -/
def State.remotePort (s : State) (i : Image) (m : Nat) : PortStatusBody := Table.get ⟨0, 0, 0, 0⟩ s.remote (i, m)
def State.setRemotePort (s : State) (i : Image) (m : Nat) (x : PortStatusBody) : State :=
  { s with remote := Table.put imageOrd ⟨0, 0, 0, 0⟩ s.remote (i, m) x }

/-- A link's run. -/
def State.link (s : State) (k : Link) : LinkRt := Table.get {} s.links k
def State.setLink (s : State) (k : Link) (x : LinkRt) : State := { s with links := Table.put Fin.val {} s.links k x }
def State.modLink (s : State) (k : Link) (f : LinkRt → LinkRt) : State := s.setLink k (f (s.link k))

/-- A hold-over slot's run. -/
def State.slot (s : State) (j : Nat) : SlotRt := Table.get {} s.slots j
def State.setSlot (s : State) (j : Nat) (x : SlotRt) : State := { s with slots := Table.put id {} s.slots j x }
def State.modSlot (s : State) (j : Nat) (f : SlotRt → SlotRt) : State := s.setSlot j (f (s.slot j))

/-- A context of the HS engine (R63). -/
def State.context (s : State) (n : Nat) : Option Xact := Table.get none s.engine n
def State.setContext (s : State) (n : Nat) (x : Option Xact) : State := { s with engine := Table.put id none s.engine n x }

/-- Keys of the relay's endpoints. -/
def relayOrd (x : Image × Nat × Nat × Bool) : Nat := ((x.1.val * 128 + x.2.1) * 16 + x.2.2.1) * 2 + boolNat x.2.2.2
def ownOrd (x : Port × Nat × Nat × Bool) : Nat := ((x.1.val * 128 + x.2.1) * 16 + x.2.2.1) * 2 + boolNat x.2.2.2

/-- Entry side of a relayed endpoint. -/
def State.relayEp (s : State) (i : Image) (a e : Nat) (dirIn : Bool) : RelayEp := Table.get {} s.relayEps (i, a, e, dirIn)
def State.setRelayEp (s : State) (i : Image) (a e : Nat) (dirIn : Bool) (x : RelayEp) : State :=
  { s with relayEps := Table.put relayOrd {} s.relayEps (i, a, e, dirIn) x }

/-- Owning side of a relayed endpoint. -/
def State.ownEp (s : State) (p : Port) (a e : Nat) (dirIn : Bool) : OwnEp := Table.get {} s.ownEps (p, a, e, dirIn)
def State.setOwnEp (s : State) (p : Port) (a e : Nat) (dirIn : Bool) (x : OwnEp) : State :=
  { s with ownEps := Table.put ownOrd {} s.ownEps (p, a, e, dirIn) x }

/-- A port's Type-C and PD run. -/
def State.tc (s : State) (p : Port) : TcRt := Table.get {} s.tcs p
def State.setTc (s : State) (p : Port) (x : TcRt) : State := { s with tcs := Table.put Fin.val {} s.tcs p x }
def State.modTc (s : State) (p : Port) (f : TcRt → TcRt) : State := s.setTc p (f (s.tc p))

/-- A feed's run. -/
def State.feed (s : State) (x : Feed) : FeedRt := Table.get {} s.feeds (x = .B)
def State.setFeed (s : State) (x : Feed) (f : FeedRt) : State := { s with feeds := Table.put boolNat {} s.feeds (x = .B) f }
def State.modFeed (s : State) (x : Feed) (f : FeedRt → FeedRt) : State := s.setFeed x (f (s.feed x))

/-- A stream's run. -/
def State.stream (s : State) (n : Nat) : StreamRt := Table.get {} s.streams n
def State.setStream (s : State) (n : Nat) (x : StreamRt) : State := { s with streams := Table.put id {} s.streams n x }
def State.modStream (s : State) (n : Nat) (f : StreamRt → StreamRt) : State := s.setStream n (f (s.stream n))

/-- A door's read session. -/
def State.session (s : State) (d : Door) : SessRt := Table.get {} s.sessions d.num
def State.setSession (s : State) (d : Door) (x : SessRt) : State := { s with sessions := Table.put id {} s.sessions d.num x }
def State.modSession (s : State) (d : Door) (f : SessRt → SessRt) : State := s.setSession d (f (s.session d))

/-- A requester of the arbiter. -/
def State.req (s : State) (n : Nat) : ReqRt := Table.get {} s.arb n
def State.setReq (s : State) (n : Nat) (x : ReqRt) : State := { s with arb := Table.put id {} s.arb n x }
def State.modReq (s : State) (n : Nat) (f : ReqRt → ReqRt) : State := s.setReq n (f (s.req n))

/-- A channel's run. -/
def State.chan (s : State) (c : Nat) : ChanRt := Table.get {} s.chans c
def State.setChan (s : State) (c : Nat) (x : ChanRt) : State := { s with chans := Table.put id {} s.chans c x }

/-! ### Lens (R425 to R431): the trace and the counters that other blocks write -/

/-- Place codes of R427: port, upstream, link. -/
def placePort (p : Port) : Nat := p.val + 1
def placeUp (u : Upstream) : Nat := 17 + u.num
def placeLink (k : Link) : Nat := 32 + k.val

/-- The bit of a place in `LensPortMask`, and its number in the counters: ports, then UA, UB, then the links (R395, R431). -/
def placeIndex (pl : Nat) : Nat := if 32 ≤ pl then pl - 32 + 18 else pl - 1

/-- Adds to counter 32 × g + w of R431. -/
def State.lensCount (s : State) (g pl n : Nat) : State :=
  let j := 32 * g + placeIndex pl
  { s with lens := { s.lens with
      counters := Table.put id 0 s.lens.counters j ((Table.get 0 s.lens.counters j + n) % 2 ^ 32) } }

/-- The reservoir runs in on-chip memory alone (R7, R176, R200): there is no DRAM, or its last training failed. -/
def State.sramOnly (s : State) : Bool := !s.ident.dram || s.get (.res .reservoirDramState) == 4 || s.boot.noDram

/-- A requester of the arbiter is granted what it asks for without delay: no freeze, and it waits for no grant (R196, R199)
(DEDUCED, log 37). -/
def State.granted (s : State) (q : Nat) : Bool := s.get (.arb .arbFreezeState) == 0 && !(s.req q).waiting

/-- Records the trace holds (R429); without DRAM there is no extension (R7). -/
def State.lensCapacity (s : State) : Nat :=
  (262144 + if s.sramOnly then 0 else 65536 * s.get (.lens .lensExtSize)) / s.get (.lens .lensRecordSize)

/-- `ReservoirDramState` changes. From a failed training on, the facet runs without DRAM until a training succeeds (R7). An extension that
comes or goes changes the slots of the trace, which is then discarded as a committed change of it would (R7, R429) (DEDUCED, log 100). -/
def State.setDramState (s : State) (v : Nat) : State :=
  let noDram := v == 4 || (v != 2 && s.boot.noDram)
  let t : State := { s.set (.res .reservoirDramState) v with boot := { s.boot with noDram := noDram } }
  if t.lensCapacity = s.lensCapacity then t else t.set (.lens .lensReadPtr) (t.get (.lens .lensWritePtr))

/-- Records between the read and the write pointer (R429). -/
def State.lensFill (s : State) : Nat := (s.get (.lens .lensWritePtr) + 2 ^ 32 - s.get (.lens .lensReadPtr)) % 2 ^ 32

/-- Writes one record into the ring of the trace under `LensMode` (R429), or counts it as dropped. -/
def State.lensWrite (s : State) (bytes : List Byte) (pl : Nat) : State :=
  let c := s.lensCapacity
  let full := s.get (.lens .lensMode) != 0 && decide (c ≤ s.lensFill)
  if s.lens.stopped || full then
    let s := if s.lens.stopped then s else ({ s with lens := { s.lens with stopped := true } }).flag (.lens .lensEvents) lensStopped
    (s.bump (.lens .lensDroppedCount)).when (pl != 0) fun s => s.lensCount 15 pl 1
  else
    let w := s.get (.lens .lensWritePtr)
    let s := { s with lens := { s.lens with trace := Table.put id [] s.lens.trace (w % c) bytes } }
    let s := (s.set (.lens .lensWritePtr) (w + 1)).when (pl != 0) fun s => s.lensCount 13 pl 1
    let span := s.lensFill
    if s.get (.lens .lensMode) = 0 then
      if c < span then (s.set (.lens .lensReadPtr) (s.get (.lens .lensWritePtr) + 2 ^ 32 - c)).flag (.lens .lensEvents) lensWrapped
      else s
    else if c ≤ span then
      ({ s with lens := { s.lens with stopped := true } }).flag (.lens .lensEvents) lensStopped
    else s

/-- Bytes of read-ahead that an endpoint holds (R129). -/
def RelayEp.heldBytes (r : RelayEp) : Nat := (r.held.map fun d => d.2.length).sum

/-- Whether the next record's slot lies in the DRAM extension while the arbiter grants requester 8 nothing (R196, R199, R426, R429)
(DEDUCED, log 37). -/
def State.lensBlocked (s : State) : Bool :=
  !s.granted 8 &&
    decide (262144 / s.get (.lens .lensRecordSize) ≤ s.get (.lens .lensWritePtr) % s.lensCapacity)

/-- Lens sees an event of source `src` at a place: the record of R427 and R428, filtered by R425 and staged by R426. -/
def State.lensNote (s : State) (src pl : Nat) (sent : Bool) (detail ext : List Byte) : State :=
  let placed := pl == 0 || 3 == src || 4 == src || (s.get (.lens .lensPortMask)).testBit (placeIndex pl)
  if s.isTrue (.lens .lensEnable) && (s.get (.lens .lensSourceMask)).testBit src && placed then
    let long := s.get (.lens .lensRecordSize) == 32
    let provoked := s.lens.armed && pl != 0 && (s.get (.provoke .provokeTargets)).testBit (placeIndex pl)
    let b0 := src * 16 + boolNat provoked * 8 + boolNat long * 4 + boolNat sent * 2
    let pad := fun (n : Nat) (l : List Byte) => (l ++ List.replicate n 0).take n
    let bytes := [byteOf b0, byteOf pl] ++ bytesBe 2 s.lens.seq ++ bytesBe 4 s.now ++ pad 8 detail ++
      (if long then pad 16 ext else [])
    let s := { s with lens := { s.lens with seq := (s.lens.seq + 1) % 65536 } }
    if s.lensBlocked then
      if s.lens.staging.length < 256 then { s with lens := { s.lens with staging := s.lens.staging ++ [bytes] } }
      else (s.bump (.lens .lensDroppedCount)).when (pl != 0) fun s => s.lensCount 15 pl 1
    else s.lensWrite bytes pl
  else s

/-- The staged records enter the trace once the arbiter grants again. -/
def State.lensDrain (s : State) : State :=
  let q := s.lens.staging
  ({ s with lens := { s.lens with staging := [] } }).forEach q fun s b => s.lensWrite b (byteAt b 1)

/-- A fault event in the trace (R425 source 3): 1 raised, 2 no longer live, 3 merged, 4 reaction complete, 5 escalated. -/
def State.lensFault (s : State) (source severity kind detail : Nat) : State :=
  s.lensNote 3 0 false ([byteOf source, byteOf severity, byteOf kind, 0] ++ bytesBe 4 detail)
    (bytesBe 4 (s.get (.fault .faultStatus)))

/-- A domain event in the trace (R425 source 4). -/
def State.lensDomain (s : State) (kind mask step reason duration : Nat) : State :=
  s.lensNote 4 0 false ([byteOf kind, byteOf mask, byteOf step, byteOf reason] ++ bytesBe 4 duration)
    (bytesBe 2 (s.get (.domain .domainState)))

/-- A USB packet at a place (R425 source 0, R428) and its counter (R431). -/
def State.lensUsb (s : State) (pl : Nat) (sent : Bool) (pid addr ep err len group : Nat) (payload : List Byte) : State :=
  (s.lensNote 0 pl sent ([byteOf pid, byteOf addr, byteOf ep, byteOf err] ++ bytesBe 2 len) (payload.take 16)).lensCount
    group pl 1

/-! ### Fault sources (R333): the fault system acts on these before the command ends -/

/-- A source that names an event is raised. -/
def State.raise (s : State) (source detail : Nat) : State := { s with due := s.due ++ [.raised source detail] }

/-- Whether a source is live. -/
def State.live (s : State) (source : Nat) : Bool := (s.get (.fault .faultLive)).testBit source

/-- A source that names a condition becomes live, and is raised if it was not live before. -/
def State.raiseLive (s : State) (source detail : Nat) : State :=
  if s.live source then s else (s.setRegBit (.fault .faultLive) source true).raise source detail

/-- A source stops being live. -/
def State.endLive (s : State) (source : Nat) : State :=
  if s.live source then
    { s.setRegBit (.fault .faultLive) source false with due := s.due ++ [.over source] }
  else s

/-- A source is live exactly while a condition holds. -/
def State.liveIf (s : State) (source detail : Nat) (b : Bool) : State :=
  if b then s.raiseLive source detail else s.endLive source

/-- The port that a number 1 to 16 names, or a channel from 3 on. -/
def portNumber (n : Nat) : Option Port := if h : n - 1 < 16 then (if n = 0 then none else some ⟨n - 1, h⟩) else none
def portUnit (n : Nat) : FaultUnit := ((portNumber n).map FaultUnit.port).getD .nothing

/-- The unit of a source with its detail (R332). An SRAM error's unit follows the bank (R348) and, for a bank of the relay, the
translators or the adoption records, what the error hit (DESIGN CHOICE, log 38). -/
def unitOf (source detail : Nat) (hit : SramHit) : FaultUnit :=
  if source < 16 then portUnit (source + 1)
  else if source = 16 then .feed .A
  else if source = 17 then .feed .B
  else if source = 18 then .coll
  else if source = 19 then
    (if detail = 0 then .feed .A else if detail = 1 then .feed .B else if detail = 2 then .coll else portUnit (detail - 2))
  else if source = 20 then .feed (if detail = 0 then .A else .B)
  else if source = 21 ∨ source = 22 ∨ source = 36 ∨ source = 37 then portUnit detail
  else if source = 24 then .pmb
  else if source = 32 then .up .UA
  else if source = 33 then .up .UB
  else if source = 35 ∨ source = 38 ∨ source = 39 then .image ⟨detail / 256 % 4, Nat.mod_lt _ (by decide)⟩ (detail % 256)
  else if 40 ≤ source ∧ source ≤ 43 then .link ⟨(source - 40) % 4, Nat.mod_lt _ (by decide)⟩
  else if source = 44 ∨ source = 45 then .ring
  else if source = 46 ∨ source = 47 then .time
  else if source = 50 ∨ source = 51 then
    (if detail < 8 ∨ 20 < detail then .res
     else if 13 ≤ detail ∧ detail ≤ 14 then .lens
     else if 15 ≤ detail ∧ detail ≤ 18 then .steward
     else
       match hit with
       | .cell i _ _ _ => .image i 0
       | .table i _ => .image i 0
       | .record i m => .image i m
       | .split p _ _ _ => .port p
       | _ => .nothing)
  else if 48 ≤ source ∧ source ≤ 54 then .res
  else if 55 ≤ source ∧ source ≤ 58 then .steward
  else if source = 59 then .can
  else if source = 60 then .door detail
  else if 61 ≤ source then .lens
  else .nothing

/-- Whether an S2 reaction holds a unit (R335). -/
def State.unitHeld (s : State) (u : FaultUnit) : Bool := s.faults.held.any fun e => e.2 == u

/-! ### Provocation (R434) -/

/-- One step of a provocation sequence. -/
def xorShift (x : Nat) : Nat :=
  let x := x ^^^ (x * 2 ^ 13 % 2 ^ 32)
  let x := x ^^^ (x / 2 ^ 17)
  x ^^^ (x * 2 ^ 5 % 2 ^ 32)

/-- An eligible event of kind `k` at a place: whether it is provoked, with the sequence advanced and the event counted (DEDUCED, log 76). -/
def State.provoke (s : State) (k pl : Nat) : Bool × State :=
  if h : k < 7 then
    if s.lens.armed && (s.get (.provoke .provokeTargets)).testBit (placeIndex pl) then
      let x := xorShift (s.lens.seqs.getD k 1)
      let s := { s with lens := { s.lens with seqs := s.lens.seqs.set k x } }
      if x < s.get (.provoke (.provokeRates ⟨k, h⟩)) then
        (true, (s.bump (.provoke (.provokeCount ⟨k, h⟩))).lensCount 14 pl 1)
      else (false, s)
    else (false, s)
  else (false, s)

/-- A data packet or a token has just been sent at a place: provocation of kind 4 may have inverted its CRC (DEDUCED, log 76). -/
def State.spoil (s : State) (pl : Nat) : State :=
  let (bad, s) := s.provoke 4 pl
  if bad then s.emit (.badCrc pl) else s

end Sys2Proof.Machine
end

