-- ==== Sys2Proof/Machine/Operands.lean ====
section
/-! DEFINITION. What operands and stored words mean: membership slots and facet indices, upstream bytes and port maps (R90, R117,
R118), routes over the topology (R95 to R98), and the packing of translation entries, slot entries, adoption records and
descriptors. -/

namespace Sys2Proof.Machine

/-! ### Membership (R90, R95) -/

/-- The unique ID in a membership slot, 0 for an empty slot. -/
def State.memberAt (s : State) (n : Nat) : Nat :=
  if h : n < 16 then s.get (.ring (.prismMembership ⟨n, h⟩)) else 0

/-- The unique IDs of the committed membership, by slot. -/
def State.members (s : State) : List (Nat × Nat) :=
  ((List.range 16).map fun n => (n, s.memberAt n)).filter fun e => e.2 != 0

/-- Facet index of a member: the rank of its unique ID among the occupied slots (R90). -/
def State.indexOf (s : State) (uid : Nat) : Nat := (s.members.filter fun e => decide (e.2 < uid)).length

/-- The member with a facet index. -/
def State.memberOfIndex (s : State) (n : Nat) : Option Nat :=
  (s.members.find? fun e => s.indexOf e.2 = n).map Prod.snd

/-- The slot that holds a unique ID. -/
def State.slotOf (s : State) (uid : Nat) : Option Nat := (s.members.find? fun e => e.2 = uid).map Prod.fst

/-- This facet's own slot; 0 while no slot holds it. -/
def State.ownSlot (s : State) : Nat := (s.slotOf s.ident.uniqueId).getD 0

/-- This facet's own index. -/
def State.ownIndex (s : State) : Nat := s.get (.ring .facetIndex)

/-- The facet stands alone: no link up, or every up link foreign (R89) (DEDUCED, log 15). -/
def State.alone (s : State) : Bool := s.get (.ring .ringMemberState) = 0 || s.get (.ring .ringMemberState) = 5

/-- Ports of the facet with a unique ID (R1) (DESIGN CHOICE, log 6). -/
def State.portsOf (s : State) (uid : Nat) : Nat := if uid = s.ident.uniqueId then s.ident.ports else 4 * ((Config.peerPorts uid).val + 1)

/-! ### Images and their upstreams (R115 to R118, R122) -/

/-- The image's roles stand exchanged: by a past adoption (R169), or because the mirror attached in the running one (R161). -/
def State.swappedRoles (s : State) (i : Image) : Bool :=
  (s.isTrue (.hold4 i .holdoverRolesSwapped)) != (s.hold i).exchanged

/-- Image number as a `Fin`. -/
def imageOf (n : Nat) : Image := ⟨n % 4, Nat.mod_lt n (by decide)⟩

/-- The byte of the image's active upstream, and of the other one (R117). -/
def State.activeByte (s : State) (i : Image) : Nat :=
  if s.swappedRoles i then s.get (.image i .imageMirror) else s.get (.image i .imagePrimary)
def State.mirrorByte (s : State) (i : Image) : Nat :=
  if s.swappedRoles i then s.get (.image i .imagePrimary) else s.get (.image i .imageMirror)

/-- The upstream a byte names, when it lies on this facet. -/
def State.ownUpstream (s : State) (b : Nat) : Option Upstream :=
  if b.testBit 7 && b % 16 == s.ownSlot then some (if b.testBit 4 then .UB else .UA) else none

def State.enabled (s : State) (i : Image) : Bool := s.isTrue (.image i .imageEnable)

/-- The active and the mirror upstream of an image, when they lie on this facet. -/
def State.activeUp (s : State) (i : Image) : Option Upstream :=
  if s.enabled i then s.ownUpstream (s.activeByte i) else none
def State.mirrorUp (s : State) (i : Image) : Option Upstream :=
  if s.enabled i then s.ownUpstream (s.mirrorByte i) else none

/-- This facet is the image's entry facet (R115). -/
def State.entryHere (s : State) (i : Image) : Bool := (s.activeUp i).isSome

/-- The image whose active upstream, or whose mirror, is a given upstream port. -/
def State.imageOfUp (s : State) (u : Upstream) : Option Image :=
  (List.finRange 4).find? fun i => s.activeUp i == some u
def State.imageOfMirror (s : State) (u : Upstream) : Option Image :=
  (List.finRange 4).find? fun i => s.mirrorUp i == some u

/-- Facet index of the entry facet (2410.0B): 0xFF for a disabled image or a detached upstream, as its facet has told where it is another
one (DEDUCED, log 94). -/
def State.entryFacet (s : State) (i : Image) : Nat :=
  if s.enabled i then
    match s.activeUp i with
    | some u => if (s.up u).attached then s.ownIndex else 0xFF
    | none => if (s.hold i).upThere then s.indexOf (s.memberAt (s.activeByte i % 16)) else 0xFF
  else 0xFF

/-- Where a logical port lies (R118). -/
inductive Place
  | absent
  | embedded
  | own (p : Port)
  | remote (slot port : Nat)
  deriving DecidableEq, Repr

/-- Number of port-map entries of an image. -/
def State.portCount (s : State) (i : Image) : Nat := s.get (.image i .imagePortCount)

/-- A port-map entry (R118). -/
def State.mapEntry (s : State) (i : Image) (m : Nat) : Nat :=
  if h : m - 1 < 255 then (if m = 0 ∨ s.portCount i < m then 0 else s.get (.image i (.imagePortMap ⟨m - 1, h⟩))) else 0

/-- Decodes a port-map entry. -/
def State.placeOf (s : State) (e : Nat) : Place :=
  if bitField e 13 12 = 2 then .embedded
  else if bitField e 13 12 = 1 then
    if bitField e 11 8 = s.ownSlot then
      (if h : e % 256 - 1 < 16 then (if e % 256 = 0 ∨ s.ident.ports < e % 256 then .absent else .own ⟨e % 256 - 1, h⟩)
       else .absent)
    else .remote (bitField e 11 8) (e % 256)
  else .absent

/-- Where logical port `m` of an image lies. -/
def State.place (s : State) (i : Image) (m : Nat) : Place := s.placeOf (s.mapEntry i m)

/-- The image and logical port that map a local port (R19: at most one). -/
def State.logicalOf (s : State) (p : Port) : Option (Image × Nat) :=
  ((List.finRange 4).filterMap fun i =>
    if s.enabled i then
      ((List.range 256).find? fun m => s.place i m == .own p).map fun m => (i, m)
    else none).head?

/-- The logical port that maps a port of another facet. -/
def State.logicalRemote (s : State) (slot port : Nat) : Option (Image × Nat) :=
  ((List.finRange 4).filterMap fun i =>
    if s.enabled i then
      ((List.range 256).find? fun m => s.place i m == .remote slot port).map fun m => (i, m)
    else none).head?

/-- The local ports of an image on this facet. -/
def State.ownPorts (s : State) (i : Image) : List Port :=
  (List.finRange 16).filter fun p => (s.logicalOf p).any fun e => e.1 == i

/-- Every logical port of an image. -/
def State.logicalPorts (s : State) (i : Image) : List Nat := (List.range (s.portCount i)).map (· + 1)

/-- The port the variant has (R4). -/
def State.hasPort (s : State) (p : Port) : Bool := decide (p.val < s.ident.ports)

/-- The ports the variant has. -/
def State.allPorts (s : State) : List Port := (List.finRange 16).filter fun p => s.hasPort p

/-- The port that carries link k, and back (R68): variant port N − 3 + k. -/
def State.linkPort (s : State) (k : Link) : Option Port :=
  if s.ident.wyhelen then (if h : s.ident.ports - 4 + k.val < 16 then some ⟨s.ident.ports - 4 + k.val, h⟩ else none) else none
def State.portLink (s : State) (p : Port) : Option Link := (List.finRange 4).find? fun k => s.linkPort k == some p

/-- `LinkMode` in force: WYH_FIXED fixes every link (R69). -/
def State.modeOf (s : State) (k : Link) : Nat := if s.straps.testBit 5 then 1 else s.get (.link k .linkMode)

/-- Domain of a port: DNA holds die ports 1 to 8, DNB die ports 9 to 16 (R4, R310) (DEDUCED, log 78). -/
def State.portDomain (s : State) (p : Port) : Nat := if p.val + 1 + 16 - s.ident.ports ≤ 8 then 3 else 4

/-- State of domain d in `DomainState`: 0 off, 1 retention, 2 on, 3 in transition (R330) (DEDUCED, log 78). -/
def State.domainState (s : State) (d : Nat) : Nat := s.get (.domain .domainState) / 4 ^ d % 4
def State.domainOn (s : State) (d : Nat) : Bool := s.domainState d == 2
def State.setDomain (s : State) (d v : Nat) : State :=
  s.set (.domain .domainState) (putBits (s.get (.domain .domainState)) (2 * d + 1) (2 * d) v)

/-- What an upstream shows a host: nothing while its domain, UPL, is not on (R15, R22). -/
def State.upShows (s : State) (u : Upstream) : Presents := if s.domainOn 2 then (s.up u).presents else .nothing

/-! ### Outputs that may float (R320, R321, R441) -/

/-- `BootSource` of the straps (R411) (DESIGN CHOICE, log 56). -/
def State.bootSource (s : State) : Nat := bitField s.straps 15 14

/-- The outputs of R321 float: AON's stored values are not loaded yet, the recovery loader runs, or the straps ask for a production test
(R407, R411, R419). A start by RESET_N loads them anew (DEDUCED, log 101). -/
def State.floats (s : State) : Bool := !s.boot.aonLoaded || s.boot.recovery || s.bootSource == 0

/-- The level of an output. FAULT_N is low in fail-safe, in a pulse, or while `FaultNControl` says so (R345). CAN_TX is recessive between
frames (R320), CAN_STBY follows R324, PPS_OUT R226, and the DRAM's pins its state (R176, R320); RESET_N is released and CKE high while the
DRAM is trained or served (DEDUCED, log 101). -/
def State.level (s : State) (p : Pin) : Level :=
  let dram := s.get (.res .reservoirDramState)
  match p with
  | .faultN => levelOf (!(s.get (.fault .faultSafeState) == 1 || s.faults.pulse || s.get (.fault .faultNControl) == 1))
  | .ppsOut => if s.floats then .floating else levelOf s.time.ppsOut
  | .canTx => if s.floats then .floating else .high
  | .canStby => if s.floats then .floating else levelOf (!s.domainOn 1 && s.isTrue (.domain .canStbyInSleep))
  | .ddrResetN => if s.floats then .floating else levelOf (dram == 1 || dram == 2 || dram == 3)
  | .ddrCke => if s.floats then .floating else levelOf (dram == 1 || dram == 2)
  | .pgColl => levelOf ((s.get (.power .powerGood)).testBit 2)

/-- The outputs of R321 take their levels, or float. -/
def State.drivePins (s : State) : State :=
  s.forEach [Pin.ppsOut, .canTx, .canStby, .ddrResetN, .ddrCke] fun s p => s.emit (.pin p (s.level p))

/-- A CAN frame leaves, unless CAN_TX floats (R321). -/
def State.sendCan (s : State) (id : Nat) (data : List Byte) : State := if s.floats then s else s.emit (.can id data)

/-! ### Topology and routes (R95 to R98) -/

/-- This facet's own link-state table (R97). -/
def State.ownLsf (s : State) : LsfBody :=
  { uid := s.ident.uniqueId, seq := s.ring.lsfSeq,
    links := (List.finRange 4).map fun k =>
      { partner := s.get (.link k .linkPartnerId), partnerLink := s.get (.link k .linkPartnerLink),
        state := s.get (.link k .linkState), latency := s.get (.link k .linkLatency) } }

/-- The link table of a facet, as far as it is known. -/
def State.lsfOf (s : State) (uid : Nat) : LsfBody :=
  if uid = s.ident.uniqueId then s.ownLsf else (s.ring.lsdb.find? fun b => b.uid = uid).getD ⟨uid, 0, []⟩

/-- The up links of a facet, with their numbers. -/
def State.upLinks (s : State) (uid : Nat) : List (Nat × LinkInfo) :=
  ((List.range 4).zip (s.lsfOf uid).links).filter fun e => e.2.state = 3 ∧ e.2.partner ≠ 0

/-- A route: the facet it ends at, its latency in ps, its hops, its first link and next hop, and the facet before the end. -/
structure Route where
  uid   : Nat
  cost  : Nat
  hops  : Nat
  first : Nat
  next  : Nat
  prev  : Nat
  deriving DecidableEq, Repr

/-- The better of two routes: lower latency, then fewer hops, then the lower next hop (R98). -/
def Route.better (a b : Route) : Bool :=
  decide (a.cost < b.cost) || (a.cost == b.cost && (decide (a.hops < b.hops) || (a.hops == b.hops && decide (a.next < b.next))))

/-- Keeps the better route to a facet. -/
def Route.merge (l : List Route) (r : Route) : List Route :=
  match l with
  | [] => [r]
  | a :: t => if a.uid = r.uid then (if r.better a then r :: t else a :: t) else a :: Route.merge t r

/-- One round: every known route is lengthened over the up links of its end, unless that facet has withdrawn (R98). -/
def State.relax (s : State) (start : Nat) (l : List Route) : List Route :=
  l.foldl (fun acc r =>
    if s.ring.withdrawn.contains r.uid then acc
    else (s.upLinks r.uid).foldl (fun acc e =>
      if e.2.partner = start then acc
      else Route.merge acc { uid := e.2.partner, cost := r.cost + e.2.latency, hops := r.hops + 1, first := r.first,
                             next := r.next, prev := r.uid }) acc) l

/-- `n` rounds. -/
def State.relaxN (s : State) (start : Nat) : Nat → List Route → List Route
  | 0, l => l
  | n + 1, l => State.relaxN s start n (s.relax start l)

/-- The best routes from a facet, leaving out those that start on link `ban`. Fifteen hops is the longest route (R98). -/
def State.routesFrom (s : State) (start : Nat) (ban : Option Nat) : List Route :=
  s.relaxN start 15 ((s.upLinks start).foldl (fun acc e =>
    if ban = some e.1 then acc
    else Route.merge acc { uid := e.2.partner, cost := e.2.latency, hops := 1, first := e.1, next := e.2.partner,
                           prev := start }) [])

/-- The primary route from this facet to another (R98). -/
def State.routeTo (s : State) (uid : Nat) : Option Route :=
  (s.routesFrom s.ident.uniqueId none).find? fun r => r.uid = uid

/-- The alternate route: the best one whose first link differs from the primary's (R98). -/
def State.alternateTo (s : State) (uid : Nat) : Option Route :=
  (s.routeTo uid).bind fun r => (s.routesFrom s.ident.uniqueId (some r.first)).find? fun q => q.uid = uid

/-- The facets that a route runs over, last one first, from the list of routes it stands in. -/
def pathOf (l : List Route) : Nat → Nat → List Nat
  | 0, _ => []
  | n + 1, uid =>
    match l.find? fun r => r.uid = uid with
    | some r => uid :: pathOf l n r.prev
    | none => []

/-- The routes in use: the first link and the facets of each. -/
def State.paths (s : State) : List (Nat × List Nat) :=
  let l := s.routesFrom s.ident.uniqueId none
  l.map fun r => (r.uid, r.first :: pathOf l 15 r.uid)

/-- Whether a facet is this one or can be reached. -/
def State.reachable (s : State) (uid : Nat) : Bool := uid == s.ident.uniqueId || (s.routeTo uid).isSome

/-- `MemberPresence`: bit n set when the member in slot n is reachable. -/
def State.presence (s : State) : Nat :=
  s.members.foldl (fun acc e => if s.reachable e.2 then setBit acc e.1 true else acc) 0

/-- Quorum (R95): more than half of the occupied slots, or exactly half with the member of index 0. -/
def State.quorum (s : State) : Bool :=
  let r := (s.members.filter fun e => s.reachable e.2).length
  let n := s.members.length
  decide (n < 2 * r) || (n == 2 * r && ((s.memberOfIndex 0).any fun u => s.reachable u))

/-- The keeper: the lowest-index reachable member (R105). -/
def State.keeper (s : State) : Option Nat :=
  ((List.range 16).filterMap fun n => (s.memberOfIndex n).bind fun u => if s.reachable u then some n else none).head?

/-- Facets that an automatic prism takes in (R91): every reachable facet whose origin is not known to be committed, lowest IDs first.
(DEDUCED, log 22) -/
def State.provisional (s : State) : List Nat :=
  let near := (s.routesFrom s.ident.uniqueId none).map fun r => r.uid
  rising (s.ident.uniqueId :: near.filter fun u => !(s.ring.origins.any fun e => e.1 == u && e.2 != 0))

/-- A facet that passes frames on, as far as this one knows (R98, R102). -/
def State.passes (s : State) (uid : Nat) : Bool :=
  if uid = s.ident.uniqueId then !s.ring.withdrawing && s.get (.ring .ringMemberState) != 4
  else s.reachable uid && !s.ring.withdrawn.contains uid

/-- The root of the broadcast tree (R98): the facet of index 0, or the member of the lowest index that passes frames on when that one does
not; in an automatic prism the facet that will have index 0, the lowest that can be reached; at a candidate the lowest index that LSF
headers have told (R91) (DEDUCED, log 19). -/
def State.treeRoot (s : State) : Nat :=
  let own := s.ident.uniqueId
  let named := fun (l : List Nat) => (l.find? s.passes).getD own
  if s.get (.ring .ringMemberState) = 1 then
    named ((List.range 15).filterMap fun n => (s.ring.heard.find? fun e => e.1 = n).map Prod.snd)
  else if s.get (.ring .prismOrigin) = 0 then
    (rising ((own :: (s.routesFrom own none).map fun r => r.uid).filter s.passes)).headD own
  else named ((List.range 16).filterMap s.memberOfIndex)

/-- The links on which this facet passes broadcasts on: its neighbours on the tree rooted at index 0 (R98). -/
def State.treeLinks (s : State) : List Link :=
  let own := s.ident.uniqueId
  let root := s.treeRoot
  let rs := s.routesFrom root none
  let parent := (rs.find? fun r => r.uid = own).map fun r => r.prev
  let isNeighbour := fun (u : Nat) => parent == some u || (rs.any fun r => r.uid == u && r.prev == own)
  (List.finRange 4).filter fun k =>
    s.get (.link k .linkState) = 3 && isNeighbour (s.get (.link k .linkPartnerId)) &&
      ((List.finRange 4).find? fun j =>
        s.get (.link j .linkState) = 3 && s.get (.link j .linkPartnerId) == s.get (.link k .linkPartnerId)) == some k

/-- A link in routing: the facet and the link at each end. -/
abbrev LinkEnds := Nat × Nat × Nat × Nat

/-- The links of the topology that are in routing, each from both its ends: both facets list it as up, as far as their tables are known, and
neither has withdrawn (R97, R98). -/
def State.inRouting (s : State) : List LinkEnds :=
  let lists := fun (u k p j : Nat) =>
    (s.lsfOf u).links.isEmpty || (s.upLinks u).any fun e => e.1 == k && e.2.partner == p && e.2.partnerLink == j
  let nodes := (s.ident.uniqueId :: (s.routesFrom s.ident.uniqueId none).map fun r => r.uid).filter fun u => !s.ring.withdrawn.contains u
  nodes.flatMap fun u => ((s.upLinks u).filter fun e =>
    nodes.contains e.2.partner && lists e.2.partner e.2.partnerLink u e.1).map fun e => (u, e.1, e.2.partner, e.2.partnerLink)

/-- The links of the topology, each once, as pairs of ends. -/
def State.edges (s : State) : List ((Nat × Nat) × (Nat × Nat)) :=
  let nodes := s.ident.uniqueId :: (s.routesFrom s.ident.uniqueId none).map fun r => r.uid
  nodes.flatMap fun u => (s.upLinks u).filterMap fun e =>
    if u < e.2.partner ∧ nodes.contains e.2.partner then some ((u, e.1), (e.2.partner, e.2.partnerLink)) else none

/-- Whether an edge ends at a facet. -/
def edgeAt (u : Nat) (e : (Nat × Nat) × (Nat × Nat)) : Bool := e.1.1 == u || e.2.1 == u

/-- Closed walks from `start` that meet each of `left` more facets once: the edges each leaves over (DEDUCED, log 12). -/
def ringsFrom : Nat → List ((Nat × Nat) × (Nat × Nat)) → Nat → Nat → List Nat → List (List ((Nat × Nat) × (Nat × Nat)))
  | 0, es, start, cur, _ => (es.filter fun e => edgeAt cur e && edgeAt start e && cur != start).map fun e => es.erase e
  | left + 1, es, start, cur, seen =>
    (es.filter fun e => edgeAt cur e).flatMap fun e =>
      let next := if e.1.1 = cur then e.2.1 else e.1.1
      if seen.contains next then [] else ringsFrom left (es.erase e) start next (next :: seen)

/-- `TopologyKind` (R96): 0 single, 1 chain, 2 ring, 3 dual ring, 4 tree, 5 other (DEDUCED, log 12). -/
def State.topology (s : State) : Nat :=
  let own := s.ident.uniqueId
  let nodes := own :: (s.routesFrom own none).map fun r => r.uid
  let es := s.edges
  let n := nodes.length
  let degree := fun u => (es.filter fun e => edgeAt u e).length
  let rings := ringsFrom (n - 1) es own own [own]
  if n ≤ 1 then 0
  else if es.length + 1 = n then (if nodes.all fun u => decide (degree u ≤ 2) then 1 else 4)
  else if es.length = n && rings.any fun r => r.isEmpty then 2
  else if es.length = 2 * n && rings.any fun r => (ringsFrom (n - 1) r own own [own]).any fun q => q.isEmpty then 3
  else 5

/-- The members in ring order: a depth-first walk from index 0 that leaves each facet by its lowest-numbered up link towards a
facet not yet met (R120). -/
def State.walk (s : State) : Nat → Nat → List Nat → List Nat
  | 0, _, seen => seen
  | fuel + 1, u, seen =>
    (s.upLinks u).foldl (fun seen e => if seen.contains e.2.partner then seen else State.walk s fuel e.2.partner (seen ++ [e.2.partner]))
      seen

/-- The default map of an image as a list of port-map entries (R120), given the maps that count as taken. -/
def State.defaultMap (s : State) (i : Image) (taken : List Nat) : List Nat :=
  if i = 0 then
    let start := (s.memberOfIndex 0).getD s.ident.uniqueId
    let order := (s.walk 16 start [start]).filter fun u => (s.slotOf u).isSome
    let all := order.flatMap fun u =>
      ((List.range (s.portsOf u)).map fun p => 0x1000 + ((s.slotOf u).getD 0) * 256 + (p + 1))
    ((all.filter fun e => !taken.contains e).take 254) ++ [0x2000]
  else [0x2000]

/-- One-way latency of a logical port from the entry facet in ps, and whether a route exists (R137). -/
def State.portLatency (s : State) (i : Image) (m : Nat) : Option Nat :=
  match s.place i m with
  | .remote slot _ => (s.routeTo (s.memberAt slot)).map fun r => r.cost
  | _ => some 0

/-! ### Packed words -/

/-- Speed codes of R51 from `PortSpeed` (R41): 0 FS, 1 LS, 2 HS. -/
def speedCode (v : Nat) : Nat := if v = 1 then 1 else if v = 3 then 2 else 0
def speedOfCode (v : Nat) : Nat := if v = 1 then 1 else if v = 2 then 3 else 2

/-- The endpoint pairs of entry k that are used (R51). -/
def State.epPairs (s : State) (i : Image) (a : Nat) : List Nat :=
  ((List.range 4).map fun j =>
    if h : 4 * (a - 1) + j < 508 then s.get (.xlate i (.xlateEpPairs ⟨4 * (a - 1) + j, h⟩)) else 0).filter (· != 0)

/-- The device endpoint a host endpoint is remapped to (R50, R51). Endpoint 0 is never remapped. -/
def State.mapEp (s : State) (i : Image) (a e : Nat) : Nat :=
  if e = 0 then 0 else ((s.epPairs i a).find? fun b => b % 16 = e).elim e fun b => b / 16

/-- The endpoint pairs of entry k as one number, first byte highest (R51). -/
def State.pairsWord (s : State) (i : Image) (a : Nat) : Nat :=
  (List.range 4).foldl (fun n j =>
    256 * n + (if h : 4 * (a - 1) + j < 508 then s.get (.xlate i (.xlateEpPairs ⟨4 * (a - 1) + j, h⟩)) else 0)) 0

/-- The endpoint pairs of entry k set from one number. -/
def State.setPairs (s : State) (i : Image) (a w : Nat) : State :=
  (List.range 4).foldl (fun s j =>
    if h : 4 * (a - 1) + j < 508 then s.set (.xlate i (.xlateEpPairs ⟨4 * (a - 1) + j, h⟩)) (w / 256 ^ (3 - j) % 256) else s) s

/-- A translation entry as its 32-bit word (R51). -/
def State.xlateWord (s : State) (i : Image) (a : Nat) : Nat :=
  let remap := boolNat (!(s.epPairs i a).isEmpty) * 2 ^ 19
  match s.entry i a with
  | none => remap
  | some x => x.devAddr % 128 + 128 + x.port % 256 * 256 + x.speed % 4 * 65536 + boolNat x.toggle * 2 ^ 18 + remap

/-- A translation entry from its word. -/
def xlateOfWord (w : Nat) : Option Xlate :=
  if w.testBit 7 then some { devAddr := w % 128, port := bitField w 15 8, speed := bitField w 17 16, toggle := w.testBit 18 }
  else none

/-- A slot-table entry (R152). -/
structure SlotEntry where
  valid    : Bool
  image    : Nat
  port     : Nat
  ep       : Nat
  dirIn    : Bool
  interval : Nat
  phase    : Nat
  action   : Nat
  target   : Nat
  length   : Nat
  burst    : Nat
  reserved : Nat
  deriving DecidableEq, Repr

/-- Unpacks a slot entry (R152). -/
def slotOfWord (w : Nat) : SlotEntry :=
  { valid := w.testBit 63, image := bitField w 62 61, port := bitField w 60 53, ep := bitField w 52 49, dirIn := w.testBit 48,
    interval := bitField w 47 44, phase := bitField w 43 31, action := bitField w 30 28, target := bitField w 27 20,
    length := bitField w 19 13, burst := bitField w 12 10, reserved := bitField w 9 0 }

/-- Alternate settings of interfaces 0 to 15, one nibble each, the high half for even interfaces (R170). -/
def altBytes (alts : List (Nat × Nat)) : List Byte :=
  let alt := fun k => ((alts.find? fun e => e.1 = k).elim 0 Prod.snd) % 16
  (List.range 8).map fun j => byteOf (alt (2 * j) * 16 + alt (2 * j + 1))

/-- An adoption record's bytes 0 to 59 (R170). -/
def AdoptRec.body (r : AdoptRec) (m : Nat) : List Byte :=
  if r.valid then
    [byteOf (128 + boolNat r.adoptable * 64 + boolNat r.divergent * 32 + boolNat r.seamless * 16 + boolNat r.suspended * 8 +
        boolNat r.adopted * 4), byteOf m, byteOf (r.slot % 16), byteOf r.localPort, byteOf (r.hostAddr % 128),
      byteOf (r.devAddr % 128), byteOf (r.speed % 4), byteOf r.config] ++ altBytes r.alts ++ bytesBe 2 r.inToggle ++
      bytesBe 2 r.outToggle ++ bytesBe 2 r.haltedIn ++ bytesBe 2 r.haltedOut ++ bytesBe 2 r.flipIn ++ bytesBe 2 r.flipOut ++
      bytesBe 4 r.entryTime ++ bytesBe 4 r.adoptTime ++ bytesBe 2 r.vid ++ bytesBe 2 r.pid ++ [byteOf r.resets,
      byteOf (boolNat r.viaTt)] ++ List.replicate 18 0
  else List.replicate 60 0

/-- An adoption record as its 64 bytes, all 0 when it is not in use; the CRC-32 stands in bytes 60 to 63 (R170). -/
def AdoptRec.bytes (r : AdoptRec) (m : Nat) : List Byte :=
  if r.valid then r.body m ++ bytesBe 4 (crc32 (r.body m)) else List.replicate 64 0

/-- Reads a record from 64 bytes; a record whose CRC fails is invalid (R170). -/
def recordOfBytes (bs : List Byte) : AdoptRec :=
  if bs.length = 64 ∧ crc32 (bs.take 60) = fieldAt bs 60 4 ∧ (byteAt bs 0).testBit 7 then
    { valid := true, adoptable := (byteAt bs 0).testBit 6, divergent := (byteAt bs 0).testBit 5,
      seamless := (byteAt bs 0).testBit 4, suspended := (byteAt bs 0).testBit 3, adopted := (byteAt bs 0).testBit 2,
      slot := byteAt bs 2 % 16, localPort := byteAt bs 3, hostAddr := byteAt bs 4 % 128, devAddr := byteAt bs 5 % 128,
      speed := byteAt bs 6 % 4, config := byteAt bs 7,
      alts := (List.range 16).filterMap fun k =>
        let a := if k % 2 = 0 then byteAt bs (8 + k / 2) / 16 else byteAt bs (8 + k / 2) % 16
        if a = 0 then none else some (k, a),
      inToggle := fieldAt bs 16 2, outToggle := fieldAt bs 18 2, haltedIn := fieldAt bs 20 2, haltedOut := fieldAt bs 22 2,
      flipIn := fieldAt bs 24 2, flipOut := fieldAt bs 26 2, entryTime := fieldAt bs 28 4, adoptTime := fieldAt bs 32 4,
      vid := fieldAt bs 36 2, pid := fieldAt bs 38 2, resets := byteAt bs 40, viaTt := (byteAt bs 41).testBit 0,
      stage := if (byteAt bs 0).testBit 2 then .adopted else .held }
  else {}

/-- The endpoints of a configuration descriptor (R127): interface descriptors set the interface and alternate setting, endpoint
descriptors add an endpoint. -/
def parseConfig : Nat → List Byte → Nat → Nat → List EpInfo
  | 0, _, _, _ => []
  | fuel + 1, bs, iface, alt =>
    let len := byteAt bs 0
    let typ := byteAt bs 1
    if len < 2 ∨ bs.length < len then []
    else if typ = 4 then parseConfig fuel (bs.drop len) (byteAt bs 2) (byteAt bs 3)
    else if typ = 5 then
      let a := byteAt bs 2
      { ep := a % 16, dirIn := a.testBit 7, epType := [0, 3, 1, 2].getD (byteAt bs 3 % 4) 0,
        maxPacket := byteAt bs 4 + 256 * byteAt bs 5, interval := byteAt bs 6, iface := iface, alt := alt } ::
        parseConfig fuel (bs.drop len) iface alt
    else parseConfig fuel (bs.drop len) iface alt

/-- The endpoint table of a device (R127): up to 31 endpoints of the configuration and the alternate settings in force. -/
def DevInfo.table (x : DevInfo) : List EpInfo :=
  (x.endpoints.filter fun q => q.alt == (x.alts.find? fun a => a.1 = q.iface).elim 0 Prod.snd).take 31

/-- The learned endpoint in force (R127). -/
def DevInfo.endpoint (x : DevInfo) (e : Nat) (dirIn : Bool) : Option EpInfo :=
  x.table.find? fun q => q.ep == e && (q.dirIn == dirIn || e == 0)

end Sys2Proof.Machine
end

