-- ==== Sys2Proof/Machine/Reservoir.lean ====
section
/-! DEFINITION. The reservoir's streams (R176 to R194): their pointers and room, writing items and closing records, delivery to read
sessions, and what damage does to stored data. -/

namespace Sys2Proof.Machine

/-- The entry of stream n. -/
def streamReg (n : Nat) (r : StreamReg) : Reg := .stream ⟨n % 256, Nat.mod_lt n (by decide)⟩ r

/-- A stream is configured (R178). -/
def State.configured (s : State) (n : Nat) : Bool :=
  s.isTrue (streamReg n .streamEnable) && s.get (streamReg n .streamSize) != 0

/-- Granules of 16 bytes in a stream's region (R178, R179). A region that was committed for the DRAM and finds only on-chip memory counts in
units of 4 KiB and ends with that memory (R7) (DESIGN CHOICE, log 107). -/
def State.granules (s : State) (n : Nat) : Nat :=
  if s.sramOnly then 256 * min (s.get (streamReg n .streamSize)) (256 - s.get (streamReg n .streamBase))
  else 4096 * s.get (streamReg n .streamSize)

/-- Width of a pointer's offset: the smallest k with 2^k no less than G (R179). -/
def offsetBits (g : Nat) : Nat := ((List.range 40).find? fun k => decide (g ≤ 2 ^ k)).getD 40

/-- A pointer advanced by `n` granules: past offset G − 1 it continues at 0 with its lap bit inverted (R179). -/
def advancePtr (g p n : Nat) : Nat :=
  let k := offsetBits g
  let off := p % 2 ^ k + n
  let lap := p / 2 ^ k % 2
  if off < g then lap * 2 ^ k + off else (1 - lap) * 2 ^ k + (off - g)

/-- A pointer moved back by `n` granules of the region: before offset 0 it continues at G − 1 with its lap bit inverted (R179). -/
def retreatPtr (g p n : Nat) : Nat :=
  let k := offsetBits g
  let off := p % 2 ^ k
  let lap := p / 2 ^ k % 2
  if n ≤ off then lap * 2 ^ k + (off - n) else (1 - lap) * 2 ^ k + (off + g - n)

/-- The distance from one pointer to another in granules: the fill of R179. -/
def ptrDistance (g r w : Nat) : Nat :=
  let k := offsetBits g
  if r / 2 ^ k % 2 = w / 2 ^ k % 2 then w % 2 ^ k - r % 2 ^ k else g - r % 2 ^ k + w % 2 ^ k

/-- Fill of a stream in bytes (R179). -/
def State.fill (s : State) (n : Nat) : Nat :=
  16 * ptrDistance (s.granules n) (s.get (streamReg n .streamReleasePtr)) (s.get (streamReg n .streamWritePtr))

/-- Room of a stream in bytes (R183). -/
def State.room (s : State) (n : Nat) : Nat :=
  s.granules n * 16 - s.fill n - (if (s.stream n).current.isSome then 0 else 16)

/-- Bytes a payload takes when padded (R181). -/
def padded (n : Nat) : Nat := (n + 15) / 16 * 16

/-- Bytes an item takes (R181). -/
def Item.size (x : Item) : Nat := 16 + padded x.data.length

/-- Bytes of a record behind its header (R180). -/
def Rec.length (r : Rec) : Nat := (r.items.map Item.size).sum

/-- Bytes of a record, or of what is left of one that a LOST record has covered in part (R194). -/
def Rec.size (r : Rec) : Nat := if r.frag = 0 then 16 + r.length else r.frag

/-- An item as stored (R181). -/
def Item.bytes (x : Item) : List Byte :=
  bytesBe 4 x.time ++ [byteOf x.port, byteOf (128 + boolNat x.toggle * 64 + x.image % 4 * 16 + x.ep % 16)] ++
    bytesBe 2 (x.data.length % 2048) ++
    [byteOf (boolNat x.short + 2 * boolNat x.bad + 4 * boolNat x.provoked + 8 * boolNat x.readAhead), byteOf x.source] ++
    bytesBe 2 x.seq ++ bytesBe 4 (x.frame % 16384) ++ x.data ++ List.replicate (padded x.data.length - x.data.length) 0

/-- A filler item that takes `size` bytes (R194): Port 0, Bad, zero payload. -/
def fillerItem (size : Nat) : List Byte :=
  bytesBe 4 0 ++ [0, 0] ++ bytesBe 2 (size - 16) ++ [2, 0] ++ bytesBe 2 0 ++ bytesBe 4 0 ++ List.replicate (size - 16) 0

/-- Fillers for the rest of a record: payload 1024 each, the last one what remains (R194). -/
def fillers : Nat → Nat → List Byte
  | 0, _ => []
  | fuel + 1, left =>
    if left < 16 then List.replicate left 0
    else if left ≤ 1040 then fillerItem left
    else fillerItem 1040 ++ fillers fuel (left - 1040)

/-- The items of a record as delivered: from a damaged item header on, fillers (R194). -/
def deliverItems : List Item → List Byte
  | [] => []
  | x :: r => if x.hdrBad then fillers ((x :: r).length * 2) (((x :: r).map Item.size).sum) else x.bytes ++ deliverItems r

/-- A record header (R180): the check is the CRC-16 over bytes 0 to 13. -/
def recordHeader (typ flags stream length time count : Nat) : List Byte :=
  let b := [byteOf 0xA5, byteOf (typ * 16), byteOf flags, byteOf stream] ++ bytesBe 4 length ++ bytesBe 4 time ++ bytesBe 2 count
  b ++ bytesBe 2 (crc16 b)

/-- Whether a record carries Bad when its delivery starts (R194). -/
def Rec.bad (r : Rec) : Bool := r.flags.testBit 3 || r.items.any fun x => x.bad || x.hdrBad

/-- A record as delivered. -/
def Rec.bytes (n : Nat) (r : Rec) : List Byte :=
  recordHeader 1 (setBit r.flags 3 r.bad) n r.length r.start r.items.length ++ deliverItems r.items

/-- The tail buffer has no room, because spills wait on the arbiter or on a freeze (R177, R199). -/
def State.tailFull (s : State) (n size : Nat) : Bool :=
  !s.sramOnly && decide (2048 < (s.stream n).tail + size)

/-- Whether an item of a size fits (R177, R183); during training nothing does (R176), and with RSV not on nothing does (R22). -/
def State.fits (s : State) (n size : Nat) : Bool :=
  let extra := if (s.stream n).current.isSome then 0 else 16
  decide (size ≤ s.room n) && s.domainOn 7 && !s.unitHeld .res && s.get (.res .reservoirDramState) != 1 && !s.tailFull n (size + extra)

/-- A stream becomes Full (R183) (DEDUCED, log 37). -/
def State.setFull (s : State) (n size : Nat) : State :=
  let s := if (s.stream n).full then s else s.flag (streamReg n .streamEvents) streamFull
  s.modStream n fun x => { x with full := true, need := size }

/-- Full clears when the room reaches the item that was refused or paused (R183) (DEDUCED, log 37). -/
def State.clearFull (s : State) (n : Nat) : State :=
  if (s.stream n).full && decide ((s.stream n).need ≤ s.room n) then s.modStream n fun x => { x with full := false, need := 0 } else s

/-- Whole bursts of a stream's tail are not held up: its last producer's requester, which spills them (R196), is granted. -/
def State.spills (s : State) (n : Nat) : Bool := s.granted (s.stream n).tailBy

/-- Bytes enter the tail for requester `q`: whole bursts spill at once, unless the arbiter or a freeze holds them up (R177, R196). -/
def State.tailWrite (s : State) (n size q : Nat) : State :=
  if s.sramOnly then s
  else
    let t := (s.stream n).tail + size
    s.modStream n fun x => { x with tail := if s.granted q then t % 64 else t, tailBy := q }

/-- What a record that closes leaves for its reader: itself, or the part of it that a LOST record has not covered, which has no header
before it (R194). -/
def Rec.closed (r : Rec) : List Rec :=
  if r.gone = 0 then [r] else if r.size ≤ r.gone then [] else [{ hdrBad := true, frag := r.size - r.gone }]

/-- Closes the open record of a stream, if there is one, with flags of its closing event, whose item has `words` words (R182). With no
record open, as when not even the first item fitted, nothing is written, and Overrun is flagged nowhere but in the events (R182, R183)
(DEDUCED, log 37). -/
def State.closeRecord (s : State) (n flags : Nat) (words : Nat := 0) : State :=
  let x := s.stream n
  match x.current with
  | none => s.setStream n { x with ignoring := false, dropping := false, payload := 0 }
  | some r =>
    let r := { r with flags := r.flags ||| flags ||| (if x.ignoring then 16 else 0) }
    (s.setStream n { x with records := x.records ++ r.closed, current := none, ignoring := false, dropping := false, payload := 0,
                            closedAt := some (s.time.elapsed, words, s.get (streamReg n .streamRecordsWritten)) }).bump
      (streamReg n .streamRecordsWritten)

/-- An item that does not fit, or that follows one that did not, is ignored (R183). -/
def State.ignoreItem (s : State) (n size : Nat) : State :=
  let s := if (s.stream n).ignoring then s
    else (((s.flag (streamReg n .streamEvents) streamOverrun).flag (.res .resEvents) resOverrun).raise 52 n).setFull n size
  (s.modStream n fun x => { x with ignoring := true }).bump (streamReg n .streamOverrunItems)

/-- A producer writes an item, and requester `q` spills it (R181 to R183, R191, R196): it is stored, ignored, or dropped after a flush,
and it closes its record when it ends the transfer. -/
def State.writeItem (s : State) (n : Nat) (item : Item) (q : Nat := 6) : State :=
  let x := s.stream n
  let item := { item with seq := x.seq }
  let s := s.setStream n { x with seq := (x.seq + 1) % 65536, payload := x.payload + item.data.length }
  let s :=
    if x.dropping then s.count (streamReg n .flushDropWords) (item.size / 4)
    else if x.ignoring then s.ignoreItem n item.size
    else if s.fits n item.size then
      let g := s.granules n
      let r := x.current.getD { start := item.time }
      let head := if x.current.isSome then 0 else 1
      let r := { r with items := r.items ++ [item], flags := if item.provoked then r.flags ||| 64 else r.flags }
      ((s.modStream n fun x => { x with current := some r }).set (streamReg n .streamWritePtr)
        (advancePtr g (s.get (streamReg n .streamWritePtr)) (item.size / 16 + head))).tailWrite n (item.size + 16 * head) q
    else s.ignoreItem n item.size
  let whole := s.get (streamReg n .streamRecordBytes)
  if item.short then s.closeRecord n 2 (item.size / 4)
  else if whole = 0 ∨ whole ≤ (s.stream n).payload then s.closeRecord n 0 (item.size / 4)
  else s

/-- A STALL or an error result for a stream's endpoint (R182): counted, and a record that is open closes with Error. -/
def State.endpointError (s : State) (n : Nat) (stall : Bool) : State :=
  let s := s.bump (streamReg n (if stall then .streamStallCount else .streamXactErrorCount))
  s.closeRecord n (if (s.stream n).current.isSome then 4 else 0)

/-- The producer's slot stops for the port (R182). -/
def State.truncateRecord (s : State) (n : Nat) : State := s.closeRecord n 32

/-- The doors. -/
abbrev allDoors : List Door := [.can, .upa, .upb, .loc, .ring]

/-- The upstream of a door that has one. -/
def doorUp : Door → Option Upstream
  | .upa => some .UA
  | .upb => some .UB
  | _ => none

/-- A session gives up the record it has queued or delivers: it is not passed, and is delivered whole again (R188). -/
def SessRt.cut (x : SessRt) : SessRt := { x with bytes := [], whole := 0, records := 0, kept := false, lost := 0, begun := false }

/-- A session's record that waits for its first byte to be sent goes back to its stream; EP1 IN then has no transfer (R186, R191). -/
def State.unqueue (s : State) (d : Door) : State :=
  if (s.session d).bytes = [] ∨ (s.session d).begun then s
  else
    let s := s.modSession d SessRt.cut
    match doorUp d with
    | some u => s.modUp u fun x => { x with part := x.part.filter fun p => decide (p.1 ≠ 0) }
    | none => s

/-- A session after a flush of stream n: what has begun is sent whole and moves no pointer (R192). -/
def SessRt.flushed (x : SessRt) (n : Nat) : SessRt :=
  let x := { x with reading := x.reading.map fun t => if t.stream = n then { t with records := 0, lost := 0 } else t,
                    rewind := x.rewind.filter fun m => decide (m ≠ n) }
  if x.stream = n then { x with records := 0, lost := 0 } else x

/-- Flushes a stream (R191, R192): a record whose delivery has begun is completed by its session. A record that closed in this very cycle is
discarded with the rest, and its closing item's words count as dropped. -/
def State.flushStream (s : State) (n : Nat) : State :=
  let x := s.stream n
  let w := s.get (streamReg n .streamWritePtr)
  let g := s.granules n
  let w := match x.current with
    | none => w
    | some r => retreatPtr g w (r.size / 16)
  let s := s.forEach allDoors fun s d => if (s.session d).stream = n then s.unqueue d else s
  let s := s.setStream n { x with records := [], passed := 0, mark := none, current := none, ignoring := false, full := false,
                                  need := 0, dropping := x.dropping || x.current.isSome || x.ignoring, tail := 0, closedAt := none,
                                  saved := none, lostAt := none }
  let s := match x.closedAt with
    | some (t, words, before) =>
      if t = s.time.elapsed then (s.count (streamReg n .flushDropWords) words).set (streamReg n .streamRecordsWritten) before else s
    | none => s
  let s := ((s.set (streamReg n .streamWritePtr) w).set (streamReg n .streamReadPtr) w).set (streamReg n .streamReleasePtr) w
  let s := s.set (streamReg n .streamMarkPtr) (s.get (streamReg n .streamMarkPtr) % 2 ^ 31)
  let s := s.forEach allDoors fun s d => s.modSession d fun y => y.flushed n
  s.flag (streamReg n .streamEvents) streamFlushed

/-- A stream loses its contents with its memory (R312, R350): its pointers and records return to nothing. -/
def State.loseStream (s : State) (n : Nat) : State :=
  ((((s.setStream n {}).set (streamReg n .streamWritePtr) 0).set (streamReg n .streamReadPtr) 0).set
    (streamReg n .streamReleasePtr) 0).set (streamReg n .streamMarkPtr) 0

/-- Releases the records passed (R189). -/
def State.releaseStream (s : State) (n : Nat) : State :=
  let x := s.stream n
  let lost := x.mark.any fun m => decide (m < x.passed)
  let s := s.setStream n { x with records := x.records.drop x.passed, passed := 0,
                                  mark := if lost then none else x.mark.map fun m => m - x.passed }
  let s := s.set (streamReg n .streamReleasePtr) (s.get (streamReg n .streamReadPtr))
  let s := if lost then
      (s.set (streamReg n .streamMarkPtr) (s.get (streamReg n .streamMarkPtr) % 2 ^ 31)).flag (streamReg n .streamEvents) streamMarkLost
    else s
  s.clearFull n

/-- The mark takes the read pointer (R189). -/
def State.markStream (s : State) (n : Nat) : State :=
  (s.modStream n fun x => { x with mark := some x.passed, markAt := some s.time.elapsed }).set (streamReg n .streamMarkPtr)
    (2 ^ 31 + s.get (streamReg n .streamReadPtr) % 2 ^ 31)

/-- The read pointer goes back to the mark, or to the release pointer (R189). -/
def State.rewindStream (s : State) (n : Nat) : State :=
  let p := match (s.stream n).mark with
    | some _ => s.get (streamReg n .streamMarkPtr) % 2 ^ 31
    | none => s.get (streamReg n .streamReleasePtr)
  (s.modStream n fun x => { x with passed := x.mark.getD 0 }).set (streamReg n .streamReadPtr) p

/-- Records of a stream that a session's read has taken and that have not passed. -/
def SessRt.ahead (x : SessRt) (n : Nat) : Nat := ((x.reading.filter fun t => t.stream == n).map fun t => t.records).sum

/-- The delivery of a record of a stream has begun and not ended. -/
def SessRt.delivers (x : SessRt) (n : Nat) : Bool :=
  (x.bytes != [] && x.begun && x.stream == n) || x.reading.any fun t => t.stream == n

/-- The session that delivers a record of a stream. -/
def State.deliveringFrom (s : State) (n : Nat) : Option Door := allDoors.find? fun d => (s.session d).delivers n

/-- The rewind command: it applies after a record in delivery has passed (R192). -/
def State.rewindCommand (s : State) (n : Nat) : State :=
  match s.deliveringFrom n with
  | some d => s.modSession d fun y => { y with rewind := n :: y.rewind.filter fun m => decide (m ≠ n) }
  | none => (s.forEach allDoors fun s d => if (s.session d).stream = n then s.unqueue d else s).rewindStream n

/-- Status word of a stream (R206). -/
def State.streamStatus (s : State) (n : Nat) : Nat :=
  let x := s.stream n
  boolNat (s.configured n) + 2 * boolNat (x.full || s.unitHeld .res || (s.configured n && s.get (.res .reservoirDramState) == 1)) +
    4 * boolNat x.current.isSome +
    8 * boolNat (decide (x.passed < x.records.length)) + 16 * boolNat x.mark.isSome +
    32 * boolNat (allDoors.any fun d =>
      (s.session d).opened && (s.get (.session d .sessionFacet) == 0xFF || s.get (.session d .sessionFacet) == s.ownIndex) &&
        (s.get (.session d .sessionStreams)).testBit n) +
    64 * boolNat s.sramOnly

/-! ### Sessions (R184 to R188) -/

/-- The facet a session names is this one (R184). -/
def State.sessionHere (s : State) (d : Door) : Bool :=
  s.get (.session d .sessionFacet) == 0xFF || s.get (.session d .sessionFacet) == s.ownIndex

/-- Streams of a session that have a closed record at their read pointer, or behind what a read has taken. -/
def State.ready (s : State) (d : Door) : List Nat :=
  (List.range 256).filter fun n => (s.get (.session d .sessionStreams)).testBit n &&
    decide ((s.stream n).passed + (s.session d).ahead n < (s.stream n).records.length)

/-- The stream a session's reader chooses next (R185). -/
def State.chooseStream (s : State) (d : Door) : Option Nat :=
  let c := s.ready d
  let top := c.foldl (fun m n => max m (s.get (streamReg n .streamPriority))) 0
  let level := c.filter fun n => s.get (streamReg n .streamPriority) = top
  match ((s.session d).served.find? fun e => e.1 = top) with
  | none => level.head?
  | some (_, last) => (level.find? fun n => decide (last < n)).or level.head?

/-- How many damaged record headers stand in a row at the read pointer, and the bytes they take (R194). -/
def damagedRun : List Rec → Nat × Nat
  | [] => (0, 0)
  | r :: t => if r.hdrBad then (let (k, b) := damagedRun t; (k + 1, b + r.size)) else (0, 0)

/-- Bytes of an open record that a search for the next header still runs over (R194): its own header is not written yet. -/
def StreamRt.openLeft (x : StreamRt) : Nat := x.current.elim 0 fun r => r.size - r.gone

/-- The requester that reads for a session (R196): the ring port of the link to the facet that opened the RING session, or the reader. -/
def State.fetcher (s : State) (d : Door) : Nat :=
  if d = .ring then
    (((s.session d).owner.bind s.memberOfIndex).bind s.routeTo).elim 7 fun r => r.first
  else 7

/-- The reader of a session fetches from DRAM without delay (R177, R196, R199). On-chip memory needs no fetch (R200). -/
def State.fetches (s : State) (d : Door) : Bool := s.sramOnly || s.granted (s.fetcher d)

/-- How many bytes behind the first `sent` of a record made of pieces lie in whole pieces that end within `limit` bytes. -/
def wholePieces (sent limit : Nat) : Nat → List Nat → Nat
  | stop, [] => stop - sent
  | stop, n :: t => if stop + n ≤ sent + limit then wholePieces sent limit (stop + n) t else stop - sent

/-- The records of a stream behind those a session's read has taken. -/
def State.untaken (s : State) (d : Door) (n : Nat) : List Rec := (s.stream n).records.drop ((s.stream n).passed + (s.session d).ahead n)

/-- The header and the items of the record in delivery, by size. -/
def State.pieces (s : State) (d : Door) : List Nat :=
  let x := s.session d
  match (s.untaken d x.stream).head? with
  | some r => if x.whole ≤ 16 then [x.whole] else 16 :: r.items.map Item.size
  | none => [x.whole]

/-- Sessions that are being cut off from DRAM keep what their head buffers hold in whole items (R177): those whose fetches go to a
requester that `sel` names. -/
def State.holdHeads (s : State) (sel : Nat → Bool := fun _ => true) : State :=
  s.forEach allDoors fun s d =>
    let x := s.session d
    if s.fetches d && sel (s.fetcher d) then
      s.modSession d fun y => { y with head := wholePieces (x.whole - x.bytes.length) 2048 0 (s.pieces d) }
    else s

/-- Bytes of the record in delivery that may be sent: all of it, or what the head buffer holds (R177). -/
def State.sendable (s : State) (d : Door) : List Byte :=
  let x := s.session d
  if s.fetches d then x.bytes else x.bytes.take x.head

/-- Bytes of a session have been sent. -/
def State.sentBytes (s : State) (d : Door) (n : Nat) : State :=
  s.modSession d fun x => { x with bytes := x.bytes.drop n, head := x.head - n, begun := true }

/-- The next record of a stream can be read: from DRAM, or whole from the tail (R177). -/
def State.readable (s : State) (d : Door) (n : Nat) : Bool :=
  let x := s.stream n
  s.fetches d || decide (((s.untaken d n).map Rec.size).sum + (x.current.map Rec.size).getD 0 ≤ x.tail)

/-- The pointer position of the first record that a session's read has not taken. -/
def State.nextAt (s : State) (d : Door) (n : Nat) : Nat :=
  advancePtr (s.granules n) (s.get (streamReg n .streamReadPtr))
    (((((s.stream n).records.drop (s.stream n).passed).take ((s.session d).ahead n)).map Rec.size).sum / 16)

/-- The reader starts the delivery of the next record of a session, if there is one: a record, or a LOST record in place of damaged ones,
which covers an open record as well when the search meets no header before the write pointer, and which counts once however often its
delivery starts. While it is cut off from DRAM, the reader starts only a record that lies in the tail (R177, R185, R194). A stream is the
last served at its level from the start of its delivery on (DEDUCED, log 41). -/
def State.startDelivery (s : State) (d : Door) : State :=
  let x := s.session d
  if x.bytes ≠ [] ∨ s.get (.res .reservoirDramState) = 1 then s
  else
    match s.chooseStream d with
    | none => s
    | some n =>
      if !s.readable d n then s else
      let pri := s.get (streamReg n .streamPriority)
      let served := (pri, n) :: x.served.filter fun e => e.1 ≠ pri
      let rs := s.untaken d n
      let (k, lost) := damagedRun rs
      if 0 < k then
        let more := if k = rs.length then (s.stream n).openLeft else 0
        let b := recordHeader 3 0 n (lost + more) s.now 0
        let y := { x with stream := n, bytes := b, whole := b.length, records := k, lost := more, kept := false, served := served,
                          head := b.length, begun := false }
        let at_ := s.nextAt d n
        let s := if (s.stream n).lostAt = some at_ then s
          else ((s.modStream n fun z => { z with lostAt := some at_ }).bump (.res .lostRecordCount)).flag (.res .resEvents) resLost
        s.setSession d y
      else
        match rs.head? with
        | none => s
        | some r =>
          let b := r.bytes n
          s.setSession d { x with stream := n, bytes := b, whole := b.length, records := 1, lost := 0, kept := r.bad, served := served,
                                  head := b.length, begun := false }

/-- What a LOST record has covered of a record that was open at its start (R194): a part of that record, which may have closed since, and is
followed by the rest of it. -/
def StreamRt.passOpen (x : StreamRt) (lost : Nat) : StreamRt :=
  let part : Rec := { hdrBad := true, frag := lost }
  match x.records.drop x.passed with
  | r :: t => { x with records := x.records.take x.passed ++ [part] ++ ({ r with gone := lost }).closed ++ t, passed := x.passed + 1 }
  | [] => { x with records := x.records ++ [part], passed := x.passed + 1,
                   current := x.current.map fun r => { r with gone := r.gone + lost } }

/-- The read pointer passes what a delivery took (R188, R194): counts, the pointer, a mark of this very cycle, automatic release, and a
rewind that waited for it (R192). -/
def State.passOne (s : State) (d : Door) (q : Taken) : State :=
  let n := q.stream
  let rs := ((s.stream n).records.drop (s.stream n).passed).take q.records
  let g := s.granules n
  let s := (s.bump (streamReg n .streamRecordsDelivered)).bump (.session d .sessionRecords)
  let s := if q.kept then (s.bump (streamReg n .streamBadRecordCount)).flag (streamReg n .streamEvents) streamBadRecord else s
  let s := if q.records = 0 then s
    else
      let s := s.modStream n fun x =>
        let x := { x with passed := x.passed + rs.length, saved := none, lostAt := none }
        if q.lost = 0 then x else x.passOpen q.lost
      let s := s.set (streamReg n .streamReadPtr)
        (advancePtr g (s.get (streamReg n .streamReadPtr)) (((rs.map Rec.size).sum + q.lost) / 16))
      let s := if (s.stream n).markAt = some s.time.elapsed then s.markStream n else s
      if s.isTrue (streamReg n .streamAutoRelease) then s.releaseStream n else s
  if (s.session d).rewind.contains n && !(s.session d).delivers n then
    (s.modSession d fun y => { y with rewind := y.rewind.filter fun m => decide (m ≠ n) }).rewindStream n
  else s

/-- The record in delivery has been sent whole: it waits for the read that carries it to complete (R188). -/
def State.takeRecordRead (s : State) (d : Door) : State :=
  s.modSession d fun x => { x.cut with reading := x.reading ++ [⟨x.stream, x.records, x.lost, x.kept⟩] }

/-- A read of a session completes: the read pointers pass what it took, in order (R188). -/
def State.passReads (s : State) (d : Door) : State :=
  (s.session d).reading.foldl (fun s q =>
    (s.modSession d fun x => { x with reading := x.reading.drop 1 }).passOne d q) s

/-- The read pointer passes the record in delivery: its last byte has been delivered (R188, R194). -/
def State.passRecord (s : State) (d : Door) : State := (s.takeRecordRead d).passReads d

/-- The door of an upstream. -/
def upDoor : Upstream → Door
  | .UA => .upa
  | .UB => .upb

/-- A delivery cut off: the records are not passed and are delivered whole again (R188); a rewind that waited for them applies (R192). -/
def State.cutDelivery (s : State) (d : Door) : State :=
  let q := (s.session d).rewind
  (s.modSession d fun x => { x.cut with reading := [], readBy := none, rewind := [] }).forEach q fun s n => s.rewindStream n

/-- The reads that a door has not completed are cut off (R188). -/
def State.cutReads (s : State) (via : Door) : State :=
  s.forEach allDoors fun s d => if (s.session d).readBy = some via then s.cutDelivery d else s

/-- A door completes the reads it has carried (R188). -/
def State.readDone (s : State) (via : Door) : State :=
  s.forEach allDoors fun s d =>
    if (s.session d).readBy = some via then (s.passReads d).modSession d fun x => { x with readBy := none } else s

/-- Closes a session (R184). -/
def State.closeSession (s : State) (d : Door) : State :=
  (((s.unqueue d).cutDelivery d).modSession d fun x => { x with opened := false, served := [], opening := none, owner := none }).set
    (.session d .sessionState) 0

/-- Whole records for one read of `SessionData`, up to a door's limit (R187) (DEDUCED, log 41). -/
def State.readSession (s : State) (d : Door) : Nat → Nat → List Byte → List Byte × State
  | 0, _, acc => (acc, s)
  | fuel + 1, limit, acc =>
    let s := s.startDelivery d
    let x := s.session d
    let b := s.sendable d
    if b = [] then (acc, s)
    else if b.length < x.bytes.length then
      (if acc = [] then (b.take limit, s.sentBytes d (min limit b.length)) else (acc, s))
    else if x.bytes.length < x.whole ∧ x.bytes.length ≤ limit then (x.bytes, s.takeRecordRead d)
    else if acc.length + x.bytes.length ≤ limit then State.readSession (s.takeRecordRead d) d fuel limit (acc ++ x.bytes)
    else if acc = [] then (x.bytes.take limit, s.sentBytes d limit)
    else (acc, s)

/-- Records that whole-record bytes of another facet's reader hold, `left` bytes of a record in pieces first; and what is then left of the
last one (R187, R203). -/
def remoteRecords : Nat → Nat → List Byte → Nat × Nat
  | 0, left, _ => (0, left)
  | fuel + 1, left, b =>
    if b = [] then (0, left)
    else
      let size := if left ≠ 0 then left else 16 + (if byteAt b 1 = 0x30 then 0 else fieldAt b 4 4)
      if b.length < size then (0, size - b.length)
      else
        let (k, rest) := remoteRecords fuel 0 (b.drop size)
        (k + 1, rest)

/-- Counts the records that a session on another facet has brought (R203); `whole` keeps what is left of one in pieces. -/
def State.countRemote (s : State) (d : Door) (b : List Byte) : State :=
  let (k, left) := remoteRecords (b.length + 1) (s.session d).whole b
  (s.modSession d fun x => { x with whole := left }).count (.session d .sessionRecords) k

/-! ### Damage (R193, R194) -/

/-- What a byte offset behind the start of a record hits: 0 its header, otherwise item k's header or payload. -/
def damageItems : List Item → Nat → List Item
  | [], _ => []
  | x :: r, off =>
    if off < 16 then { x with hdrBad := true } :: r
    else if off < x.size then { x with bad := true } :: r
    else x :: damageItems r (off - x.size)

/-- Marks the damage at a byte offset behind the release pointer. -/
def damageRecords : List Rec → Nat → List Rec
  | [], _ => []
  | r :: t, off =>
    if off < 16 then { r with hdrBad := true } :: t
    else if off < r.size then { r with items := damageItems r.items (off - 16) } :: t
    else r :: damageRecords t (off - r.size)

/-- Marks the damage at a byte offset of a stream's region, closed records and the open one alike (DEDUCED, log 37). -/
def State.damageStream (s : State) (n off : Nat) : State :=
  let g := s.granules n
  let rel := s.get (streamReg n .streamReleasePtr) % 2 ^ offsetBits g
  let behind := (off + 16 * g - 16 * rel) % (16 * g)
  let x := s.stream n
  let sum := (x.records.map Rec.size).sum
  let s := if behind < sum then s.setStream n { x with records := damageRecords x.records behind }
    else s.setStream n { x with current := x.current.map fun r => ((damageRecords [r] (behind - sum)).head?).getD r }
  -- what has not begun is read again; of what has begun, the bytes still to be sent carry the damage, the header that was sent does not
  s.forEach allDoors fun s d =>
    let s := if (s.session d).stream = n then s.unqueue d else s
    let y := s.session d
    if y.bytes = [] ∨ y.stream ≠ n ∨ y.records ≠ 1 ∨ y.whole ≤ 16 then s
    else
      match (s.untaken d n).head? with
      | none => s
      | some r =>
        let b := r.bytes n
        let rest := b.drop (b.length - y.bytes.length)
        s.setSession d { y with bytes := rest, kept := y.kept || rest != y.bytes }

/-- The stream whose region holds a byte address of the memory, and the offset in it (R178). -/
def State.streamAt (s : State) (addr : Nat) : Option (Nat × Nat) :=
  let unit := if s.sramOnly then 4096 else 65536
  ((List.range 256).find? fun n => s.configured n && decide (s.get (streamReg n .streamBase) * unit ≤ addr ∧
    addr < s.get (streamReg n .streamBase) * unit + 16 * s.granules n)).map fun n =>
      (n, addr - s.get (streamReg n .streamBase) * unit)

end Sys2Proof.Machine
end

