-- ==== Sys2Proof/Machine/Ring.lean ====
section
/-! DEFINITION. The link layer and the ring's frames (R76 to R86, R97 to R101, R110): what a frame is on the wire, sending with credits,
acknowledgement and replay, receiving with its checks, forwarding, routing, and what a change of topology does to the facet. -/

namespace Sys2Proof.Machine

/-- Class of a frame type (R83). -/
def frameClass (typ : Nat) : Nat :=
  if typ = 1 then 1 else if typ = 3 then 0 else if typ = 4 then 2 else if typ = 7 then 6 else if typ = 8 ∨ typ = 9 then 5
  else if typ = 10 then 4 else 3

/-- The replayed types: all but LINK and ECHO (R83). -/
def replayed (typ : Nat) : Bool := typ != 1 && typ != 3

/-! ### What a frame is on the wire (R81 to R84, R124, R217) -/

/-- A relay header without the fields that its sender sets: one transaction, result 0. -/
def relayHdr (kind port addr ep : Nat) (dirIn : Bool) : RelayHdr :=
  { kind := kind, localPort := port, devAddr := addr, setup := false, epType := 0, dirIn := dirIn, ep := ep, maxPacket := 0, count := 1,
    result := 0, seq := 0, length := 0, stamp := 0 }

/-- A relay header's 16 bytes before `n` bytes of data (R124). -/
def relayBytes (r : RelayHdr) (n : Nat) : List Byte :=
  [byteOf r.kind, byteOf r.localPort, byteOf (r.devAddr % 128),
    byteOf (boolNat r.setup * 128 + r.epType % 4 * 32 + boolNat r.dirIn * 16 + r.ep % 16)] ++ bytesBe 2 (r.maxPacket % 2048) ++
    [byteOf r.count, byteOf r.result] ++ bytesBe 2 r.seq ++ bytesBe 2 (n % 2048) ++ bytesBe 4 r.stamp

/-- A relay record with its data (R124). -/
def relayRecord (r : RelayHdr) (data : List Byte) : RingBody := .relay { r with length := data.length } data

/-- Bytes as numbers. -/
def byteNats (b : List Byte) : List Nat := b.map BitVec.toNat

/-- A dictionary write as numbers. -/
def writeNats (w : RegWrite) : List Nat := [w.index, w.sub, w.offset] ++ byteNats w.data

/-- The numbers that a payload of unprinted layout carries (R83) (DESIGN CHOICE, log 5). -/
def syncNats : SyncBody → List Nat
  | .frame i f m t => [0, i.val, f, m, t]
  | .xlate i a w q => [1, i.val, a, w, q]
  | .wakeK i m => [2, i.val, m]
  | .record i m b => [3, i.val, m] ++ byteNats b
  | .arm i v => [4, i.val, boolNat v]
  | .holdEntry i c t l n => [5, i.val, c, t, l, n]
  | .holdState i x => [6, i.val, x]
  | .held i m v => [7, i.val, m, boolNat v]
  | .holdInfo i l => [8, i.val] ++ l
  | .upstream i b v => [10, i.val, boolNat b, boolNat v]
  | .recordFetch a => [11, a]
  | .anchor b => 9 :: byteNats b

def lockReqNats (q : LockReq) : List Nat := [q.facet, q.door.num, q.tag]

def LockMsg.nats : LockMsg → List Nat
  | .request q => 0 :: lockReqNats q
  | .tell (.grant q e) => 1 :: e :: lockReqNats q
  | .tell (.renew e) => [2, e]
  | .tell .lost => [3]
  | .tell .lapse => [4]
  | .tell .release => [5]

def CommitMsg.nats : CommitMsg → List Nat
  | .stage w => 0 :: writeNats w
  | .prepare d e p o => [1, d, e, p, o]
  | .ready => [2]
  | .refuse r d => [3, r, d]
  | .apply t => [4, t]
  | .abort => [5]
  | .fetch => [6]
  | .epochSync w => 7 :: writeNats w

def portReqNats : PortReq → List Nat
  | .power v => [0, boolNat v]
  | .reset limit => [1, limit]
  | .suspend v => [2, boolNat v]
  | .disable => [3]
  | .test sel => [4, sel]
  | .clearChange bit => [5, bit]
  | .upstreamReset => [6]
  | .ttClear addr ep => [7, addr, ep]
  | .ttReset => [8]
  | .ttStop => [9]

/-- A payload whose layout the spec does not print: what it is made of is left open, its length is not (R81) (DESIGN CHOICE, log 5). -/
def openPayload (typ : Nat) (content : List Nat) (most : Nat) : List Byte := (Config.payload typ content).take most

/-- The payload of a frame (R81, R83, R124, R170, R217). -/
def RingBody.payload (typ : Nat) : RingBody → List Byte
  | .relay r data => relayBytes r data.length ++ data
  | .portReq r q => let b := openPayload 3 (portReqNats q) 1024; relayBytes r b.length ++ b
  | .portStatus r b => let b := openPayload 4 [b.status, b.change, b.state, b.speed] 1024; relayBytes r b.length ++ b
  | .door _ b => b.bytes
  | .sync (.record _ _ bytes) => bytes
  | .echo [seq, prev, rlast, rseq, uid, prio, flags, steps] =>
    bytesBe 4 seq ++ bytesBe 6 prev ++ bytesBe 6 rlast ++ bytesBe 4 rseq ++ bytesBe 8 uid ++ [byteOf prio, byteOf flags, byteOf steps, 0]
  | .echo l => openPayload typ l 1088
  | .link ack nak credits => openPayload typ (ack :: nak.getD 256 :: credits) 1088
  | .lsf b => openPayload typ (b.uid :: b.seq :: b.links.flatMap fun l => [l.partner, l.partnerLink, l.state, l.latency]) 1088
  | .sync b => openPayload typ (syncNats b) 1088
  | .lock b => openPayload typ b.nats 1088
  | .commit b => openPayload typ b.nats 1088
  | .withdraw => openPayload typ [] 1088

/-- A frame's payload: at most 1088 bytes (R81). -/
def Frame.payload (f : Frame) : List Byte := (f.body.payload f.typ).take 1088

/-- The header's bytes 0 to 13 (R82). -/
def Frame.headerBody (f : Frame) : List Byte :=
  [byteOf (f.typ * 16 + f.src % 16), byteOf (f.dst % 16 * 16 + boolNat f.bcast * 8 + boolNat f.provoked * 4 + f.image % 4),
    byteOf f.linkSeq, byteOf f.ackSeq] ++ bytesBe 2 (f.hops % 16 * 4096 + f.length % 4096) ++ bytesBe 2 f.tag ++ bytesBe 4 f.epoch ++ [0, 0]

/-- The header with its HeaderCheck (R82). -/
def Frame.header (f : Frame) : List Byte := f.headerBody ++ bytesBe 2 (crc16 f.headerBody)

/-- Zero bytes fill a payload up to a whole block (R81). -/
def padBlock (l : List Byte) : List Byte := l ++ List.replicate ((8 - l.length % 8) % 8) 0

/-- The CRC block (R81, R84): the CRC-32 over the header and the padded payload, and four zero bytes. -/
def Frame.crcBlock (f : Frame) : List Byte := bytesBe 4 (crc32 (f.header ++ padBlock f.payload)) ++ [0, 0, 0, 0]

/-- Whole blocks of data. -/
def dataBlocks (l : List Byte) : List Block := (List.range (l.length / 8)).map fun j => .data ((l.drop (8 * j)).take 8)

/-- A payload with one byte inverted (R434). -/
def Frame.inverted (f : Frame) : List Byte := f.payload.modify (Config.inverted f.linkSeq % f.payload.length) fun b => ~~~b

/-- The blocks of a frame from SFR to its end (R81, R85); provocation inverts a payload byte after the CRC-32 is made (R434). -/
def Frame.wire (f : Frame) (corrupt stomped : Bool) : List Block :=
  .sfr :: dataBlocks (f.header ++ padBlock (if corrupt then f.inverted else f.payload) ++ f.crcBlock) ++ [if stomped then .efb else .efr]

/-- Room a frame takes in the replay buffer: header, padded payload and CRC block (R86). -/
def Frame.room (f : Frame) : Nat := 16 + (f.length + 7) / 8 * 8 + 8

/-- A frame leaves on a link. -/
def State.emitFrame (s : State) (k : Link) (f : Frame) (corrupt stomped : Bool) : State := s.emit (.frame k f (f.wire corrupt stomped))

/-! ### Indices that frames carry (R82, R90, R91) -/

/-- Changes the facet's ring records. -/
def State.modRing (s : State) (f : RingRt → RingRt) : State := { s with ring := f s.ring }

/-- A fresh tag of this facet. -/
def State.newTag (s : State) : Nat × State :=
  (s.ring.tagNext, { s with ring := { s.ring with tagNext := (s.ring.tagNext + 1) % 65536 } })

/-- The set whose ranks address COMMIT frames while a formation without the lock runs (R91) (DEDUCED, log 19). -/
def State.formSet (s : State) (typ : Nat) : List Nat := if typ = 6 then s.ring.formation else []

/-- The facet that a frame's index names: by rank in a formation, as LSF headers have told while this facet is a candidate, by the
committed membership otherwise (R89 to R91) (DEDUCED, log 19). -/
def State.peerOf (s : State) (typ n : Nat) : Option Nat :=
  if !(s.formSet typ).isEmpty then (s.formSet typ)[n]?
  else if s.get (.ring .ringMemberState) = 1 then (s.ring.heard.find? fun e => e.1 = n).map Prod.snd
  else s.memberOfIndex n

/-- The index by which a frame of this facet names a facet. -/
def State.indexFor (s : State) (typ uid : Nat) : Nat :=
  if (s.formSet typ).isEmpty then s.indexOf uid else (s.formSet typ).findIdx (· = uid)

/-- The index by which frames name this facet. -/
def State.selfIndex (s : State) (typ : Nat) : Nat := if (s.formSet typ).isEmpty then s.ownIndex else s.indexFor typ s.ident.uniqueId

/-- A frame of this facet (R82): HopsLeft starts at 15. -/
def State.newFrame (s : State) (typ dst : Nat) (bcast : Bool) (image tag : Nat) (body : RingBody) : Frame :=
  let f : Frame := { typ := typ, src := s.selfIndex typ, dst := dst, bcast := bcast, provoked := false, image := image, linkSeq := 0,
                     ackSeq := 0, hops := 15, length := 0, tag := tag, epoch := s.get (.ring .prismEpoch), body := body }
  { f with length := f.payload.length }

/-! ### Sending (R86, R87) -/

/-- A Wyhelen link may carry frames of a type: its domain and the PLL run (R17, R310), and it is up, or foreign for the hop's own frames
(R93). -/
def State.linkOpen (s : State) (k : Link) (typ : Nat) : Bool :=
  s.time.pll && s.domainOn 6 && (s.get (.link k .linkState) == 3 || (s.get (.link k .linkState) == 6 && !replayed typ))

/-- A replayed frame lacks count or space (R86): 128 are unacknowledged, or the 16 KiB buffer has no room for it. -/
def State.windowShut (s : State) (k : Link) (f : Frame) : Bool :=
  replayed f.typ && (decide (128 ≤ (s.link k).unacked.length) || decide (16384 < ((s.link k).unacked.map Frame.room).sum + f.room))

/-- The link carries a frame's type, and there is credit for its class (R86). -/
def State.mayTransmit (s : State) (k : Link) (f : Frame) : Bool :=
  s.linkOpen k f.typ && decide (0 < (s.link k).credits.getD (frameClass f.typ) 0)

/-- Whether a new frame may start on a link (R86): a replayed one has count and space, and follows what is still to be replayed. -/
def State.mayStart (s : State) (k : Link) (f : Frame) : Bool :=
  s.mayTransmit k f && !s.windowShut k f && !(replayed f.typ && decide ((s.link k).replay ≠ []))

/-- A frame in the trace (R425, R428). -/
def State.lensFrame (s : State) (k : Link) (sent : Bool) (f : Frame) : State :=
  s.lensNote 2 (placeLink k) sent ([byteOf (f.typ * 16), byteOf (f.src % 16 * 16 + f.dst % 16), byteOf f.linkSeq, byteOf f.ackSeq] ++
    bytesBe 2 f.length ++ bytesBe 2 f.tag) ((f.header.drop 8) ++ f.payload.take 8)

/-- The types that the trace holds whatever they carry (R425). -/
def traced (typ : Nat) : Bool := typ == 2 || typ == 5 || typ == 6 || typ == 11

/-- Counters of a frame that leaves (R431), and its trace. -/
def State.countSent (s : State) (k : Link) (f : Frame) : State :=
  let s := s.lensCount 1 (placeLink k) 1
  let s := if f.typ = 8 ∨ f.typ = 10 then s.lensCount 9 (placeLink k) 1 else s
  let s := if f.typ = 5 ∨ f.typ = 6 then s.lensCount 11 (placeLink k) 1 else s
  if traced f.typ then s.lensFrame k true f else s

/-- A frame spends a credit of its class, and tells what has been received in order (R86). -/
def State.spendCredit (s : State) (k : Link) (f : Frame) : State :=
  s.modLink k fun x => { x with credits := x.credits.set (frameClass f.typ) (x.credits.getD (frameClass f.typ) 0 - 1), ackDue := false }

/-- The counter as a 48-bit stamp. -/
def State.stamp48 (s : State) : Nat := s.time.ns * 65536 + s.time.frac / 65536

/-- Picoseconds as 2⁻¹⁶ ns. -/
def psUnits (ps : Int) : Int := ps * 65536 / 1000

def State.echo (s : State) (k : Link) : EchoRt := Table.get {} s.time.echo k.val
def State.setEcho (s : State) (k : Link) (x : EchoRt) : State :=
  { s with time := { s.time with echo := Table.put id {} s.time.echo k.val x } }

/-- An ECHO is stamped as it leaves, and carries the stamp of the one before it (R217, R218). -/
def State.stampEcho (s : State) (k : Link) (f : Frame) : Frame × State :=
  match f.body with
  | .echo (seq :: _ :: rest) =>
    let x := s.echo k
    let prev := (x.sent.find? fun e => (e.1 + 1) % 2 ^ 32 = seq).elim 0 Prod.snd
    let t1 := ofSigned 48 ((s.stamp48 : Int) + psUnits (s.getInt (.echo k .echoTxDelay)))
    ({ f with body := .echo (seq :: prev :: rest) }, s.setEcho k { x with sent := ((seq, t1) :: x.sent).take 3 })
  | _ => (f, s)

/-- A frame leaves on a link: it carries the acknowledgement; one of a replayed type takes the next LinkSeq and stays in the replay buffer.
A frame of a type that is not replayed shows the LinkSeq that comes next, and leaves it to the next replayed frame: R82 gives it none.
Provocation may drop, corrupt or reorder that one (R434); it then stays for replay as well (DESIGN CHOICE, log 13). -/
def State.transmit (s : State) (k : Link) (f : Frame) : State :=
  let x := s.link k
  let f := { f with linkSeq := x.txSeq, ackSeq := x.rxSeq }
  let s := s.spendCredit k f
  if replayed f.typ then
    let s := s.modLink k fun x => { x with txSeq := (x.txSeq + 1) % 256, unacked := x.unacked ++ [f] }
    let (drop, s) := s.provoke 0 (placeLink k)
    let (corrupt, s) := s.provoke 1 (placeLink k)
    let (reorder, s) := s.provoke 2 (placeLink k)
    let s := s.countSent k f
    if drop then s
    else if reorder then s.modLink k fun x => { x with swapped := x.swapped ++ [{ f with provoked := true }] }
    else
      let back := (s.link k).swapped.filter fun g => frameClass g.typ == frameClass f.typ
      let s := s.emitFrame k { f with provoked := f.provoked || corrupt } corrupt false
      (s.forEach back fun s g => s.emitFrame k g false false).modLink k fun x =>
        { x with swapped := x.swapped.filter fun g => frameClass g.typ != frameClass f.typ }
  else
    let (f, s) := s.stampEcho k f
    (s.countSent k f).emitFrame k f false false

/-- The first waiting frame of each class, class 0 first (R87). -/
def State.heads (s : State) (k : Link) : List Frame :=
  (List.range 7).filterMap fun c => (s.link k).waiting.find? fun f => frameClass f.typ = c

/-- A first frame that now waits for count or space is counted once as it starts to (R86). -/
def State.noteStalls (s : State) (k : Link) : State :=
  let shut := ((s.heads k).filter fun f => s.windowShut k f).map fun f => frameClass f.typ
  (s.count (.link k .linkReplayStallCount) (shut.filter fun c => !(s.link k).stalled.contains c).length).modLink k fun x =>
    { x with stalled := shut }

/-- Waiting frames leave in the order of their classes while the first of a class may start (R86, R87). -/
def State.drainLink (s : State) (k : Link) : Nat → State
  | 0 => s.noteStalls k
  | fuel + 1 =>
    match (s.heads k).find? fun f => s.mayStart k f with
    | none => s.noteStalls k
    | some f =>
      State.drainLink ((s.modLink k fun x => { x with waiting := x.waiting.erase f,
                                                      stalled := x.stalled.filter fun c => c != frameClass f.typ }).transmit k f) k fuel

/-- Frames that are replayed leave again in their order, each with a credit of its class; the first without one holds the rest (R86). -/
def State.resend (s : State) (k : Link) : List Frame → State
  | [] => s.modLink k fun x => { x with replay := [] }
  | f :: rest =>
    if s.mayTransmit k f then
      let g := { f with ackSeq := (s.link k).rxSeq }
      State.resend (((s.spendCredit k g).emitFrame k g false false).lensCount 2 (placeLink k) 1) k rest
    else s.modLink k fun x => { x with replay := f :: rest }

/-- Everything that waits on a link leaves, as far as it may, and what is to be replayed before anything new. -/
def State.drain (s : State) (k : Link) : State := (s.resend k (s.link k).replay).drainLink k (s.link k).waiting.length

/-- A frame is handed to a link: it leaves in its class's turn (R86, R87). -/
def State.sendOn (s : State) (k : Link) (f : Frame) : State := (s.modLink k fun x => { x with waiting := x.waiting ++ [f] }).drain k

/-- A forwarded copy whose frame then fails its CRC-32 ends in EFB (R85): it spends its credit, but takes no LinkSeq and is not held, so
that the good copy follows in its place; one that could not start is not sent (DESIGN CHOICE, log 90). -/
def State.stompOn (s : State) (k : Link) (f : Frame) : State :=
  if s.mayStart k f then
    let f := { f with linkSeq := (s.link k).txSeq, ackSeq := (s.link k).rxSeq }
    ((s.spendCredit k f).lensFrame k true f).emitFrame k f false true
  else s

/-- A LINK frame: the last LinkSeq received in order, a NAK when one is due, and the credits (R86). -/
def State.sendLinkFrame (s : State) (k : Link) (nak : Bool) : State :=
  let x := s.link k
  let f := s.newFrame 1 0 false 0 0 (.link x.rxSeq (if nak then some x.rxSeq else none) ((List.range 7).map Config.credit))
  let s := s.sendOn k f
  if nak then (s.lensCount 3 (placeLink k) 1).lensFrame k true { f with ackSeq := x.rxSeq } else s

/-- The facet carries image traffic: not as a Candidate or while Syncing (R98), nor once withdrawn (R102). -/
def State.carriesImages (s : State) : Bool :=
  let st := s.get (.ring .ringMemberState)
  st != 1 && st != 3 && st != 4

/-- The types that carry image traffic between an entry facet and an owning facet (R98, R102). -/
def imageTraffic (typ : Nat) : Bool := typ == 8 || typ == 9 || typ == 10

/-- Sends a routed frame toward a facet by the primary route (R98); without a route it is not sent, nor is image traffic from a facet that
carries none. -/
def State.sendTo (s : State) (uid typ image tag : Nat) (body : RingBody) : State :=
  if imageTraffic typ && !s.carriesImages then s
  else
    match s.routeTo uid with
    | none => s
    | some r => if h : r.first < 4 then s.sendOn ⟨r.first, h⟩ (s.newFrame typ (s.indexFor typ uid) false image tag body) else s

/-- Sends a routed frame to a facet index. -/
def State.sendIndex (s : State) (index typ image tag : Nat) (body : RingBody) : State :=
  match s.peerOf typ index with
  | none => s
  | some uid => s.sendTo uid typ image tag body

/-- SYNC frames concern the images of a prism: a facet alone has no part in those of its neighbours, and a candidate none in the prism's
(R89, R91, R98). -/
def State.sharesImages (s : State) : Bool := !s.alone && s.get (.ring .ringMemberState) != 1

/-- Sends a broadcast frame on the tree; SYNC frames only from a facet that carries image traffic of a prism of several (R98). -/
def State.broadcast (s : State) (typ image : Nat) (body : RingBody) : State :=
  if typ = 4 ∧ !(s.carriesImages && s.sharesImages) then s
  else s.forEach s.treeLinks fun s k => s.sendOn k (s.newFrame typ 0 true image 0 body)

/-- Up links. -/
def State.openLinks (s : State) : List Link := (List.finRange 4).filter fun k => s.get (.link k .linkState) = 3

/-- Floods this facet's LSF on all its up links (R97) (DESIGN CHOICE, log 80). A withdrawn facet, or one that catches up before its return,
floods none: its flood is its return to routing (R102) (DEDUCED, log 23). -/
def State.flood (s : State) : State :=
  if s.get (.ring .ringMemberState) = 4 ∨ s.ring.returning then s
  else
    let s := { s with ring := { s.ring with lsfSeq := (s.ring.lsfSeq + 1) % 65536 } }
    s.forEach s.openLinks fun s k => s.sendOn k (s.newFrame 2 0 true 0 0 (.lsf s.ownLsf))

/-! ### Membership and topology changes (R89, R95, R96, R100) -/

/-- The set that an automatic prism takes in (R91): at most the 16 lowest IDs. -/
def State.provisionalSet (s : State) : List Nat := s.provisional.take 16

/-- The member state and the index that links and membership give (R89 to R92): a facet outside every slot of a reachable committed
prism, or outside the 16 lowest of an automatic one, is a candidate; `foreign` when a foreign link is all that is up; a facet in no
prism of several, and in no committed one, is at index 0. A withdrawn or Syncing facet keeps its state and takes its new index. A link that
retrains counts as up (DEDUCED, log 15). -/
def State.placeMember (s : State) : State :=
  let st := s.get (.ring .ringMemberState)
  let up := (List.finRange 4).any fun k => s.get (.link k .linkState) == 3 || s.get (.link k .linkState) == 4
  let foreign := (List.finRange 4).any fun k => s.get (.link k .linkState) == 6
  let put := fun (s : State) (v : Nat) => (s.set (.ring .ringMemberState) v).set (.ring .facetIndex)
    (if v = 1 then 0xFF else s.indexOf s.ident.uniqueId)
  if st = 4 ∨ (st = 3 ∧ up) then put s st
  else if !up then put s (if foreign then 5 else 0)
  else if (1 < s.members.length ∨ s.get (.ring .prismOrigin) = 1) ∧ (s.slotOf s.ident.uniqueId).isSome then put s 2
  else if s.get (.ring .prismOrigin) = 0 ∧ ((s.ring.origins.any fun e => e.2 != 0 && s.reachable e.1) ∨
      !s.provisionalSet.contains s.ident.uniqueId) then put s 1
  else put s 0

/-- Some member is out of reach, or a link is foreign: RING_TOPOLOGY is live (R93, R100) (DEDUCED, log 11). -/
def State.topologyBroken (s : State) : Bool :=
  (s.members.any fun e => !s.reachable e.2) || (List.finRange 4).any fun k => s.get (.link k .linkState) == 6

/-- The facet takes a changed topology: presence, quorum and kind, and, when a link of the topology has left routing, the heal of R100, at
every facet that learns of it. `before` holds the links in routing before the change (DEDUCED, log 11). -/
def State.retopo (s : State) (before : List LinkEnds) : State :=
  let now := s.inRouting
  let q := s.quorum
  let s := s.when (s.isTrue (.ring .quorumState) && !q) fun s => s.flag (.ring .ringEvents) ringNoQuorum
  let s := ((s.set (.ring .memberPresence) s.presence).set (.ring .quorumState) (boolNat q)).set (.ring .topologyKind) s.topology
  let s := if before.any fun e => !now.contains e then
      ((s.bump (.ring .healCount)).set (.ring .lastHealTime) s.now).flag (.ring .ringEvents) ringHeal
    else s
  s.liveIf 44 (s.get (.ring .topologyKind)) s.topologyBroken

/-- A link changes state; the change is traced (R425). -/
def State.setLinkState (s : State) (k : Link) (v : Nat) : State :=
  (s.set (.link k .linkState) v).lensNote 2 (placeLink k) false [0, byteOf v] []

/-- A link outside routing changes state, and the changed table is flooded (R97). -/
def State.showLinkState (s : State) (k : Link) (v : Nat) : State :=
  if s.get (.link k .linkState) = v then s else (s.setLinkState k v).flood

/-- A frame takes the route that now stands; `none` when there is none. -/
def State.reroute (s : State) (f : Frame) : Option State :=
  if f.bcast then some (s.forEach s.treeLinks fun s j => s.sendOn j f)
  else
    ((s.peerOf f.typ f.dst).bind s.routeTo).bind fun r => if h : r.first < 4 then some (s.sendOn ⟨r.first, h⟩ f) else none

/-- What becomes of a frame that was sent on a lost link and not acknowledged (R101). -/
def State.rescue (s : State) (f : Frame) : State :=
  if imageTraffic f.typ then s.bump (.ring .healDropFrameCount) else (s.reroute f).getD s

/-- What becomes of a frame not yet sent on a link that leaves routing (R80, R101): it takes the alternate route. With `keep` it waits for
the link itself when there is none; the hop's own frames are made anew (DEDUCED, log 102). -/
def State.divert (s : State) (k : Link) (keep : Bool) (f : Frame) : State :=
  if !replayed f.typ then s
  else (s.reroute f).getD (if keep then s.modLink k fun x => { x with waiting := x.waiting ++ [f] } else s)

/-- A link leaves routing as down (R99): counted, raised, flagged and flooded; its frames go by R101. What a link without a partner shows
of one is its entries' default (DESIGN CHOICE, log 92). -/
def State.linkDown (s : State) (k : Link) (state : Nat) : State :=
  let before := s.inRouting
  let x := s.link k
  let s := (s.setLinkState k state).bump (.link k .linkDownCount)
  let s := (s.set (.link k .linkPartnerId) 0).set (.link k .linkPartnerLink) 0xFF
  let s := s.modLink k fun x =>
    { x with unacked := [], waiting := [], stalled := [], ackDue := false, swapped := [], partner := none, replay := [] }
  let s := ((s.raiseLive (40 + k.val) state).flag (.ring .ringEvents) ringLinkDown).placeMember
  let s := (s.retopo before).flood
  (s.forEach x.unacked fun s f => s.rescue f).forEach x.waiting fun s f => s.divert k false f

/-- Training starts at step 1 of R78 with TS1 on both lanes. The first LinkSeq of a link trained from step 1 is 0 (DESIGN CHOICE, log 92).
-/
def State.startTraining (s : State) (k : Link) : State :=
  if s.unitHeld (.link k) then s.showLinkState k 5
  else ((s.emit (.block k .ts1)).modLink k fun x => { x with txSeq := 0, rxSeq := 255 }).showLinkState k 2

/-- A retrain starts (R80): the link leaves routing by a flood, and frames not yet sent take the alternate route. A third retrain
within 1 s, or one that is not complete in time, takes the link down and trains it from step 1; the third is not counted as a retrain
(DESIGN CHOICE, log 92). -/
def State.retrain (s : State) (k : Link) : State :=
  let recent := (s.link k).retrains.filter fun t => s.elapsedMs < t + 1000
  if 2 ≤ recent.length then
    ((s.linkDown k 0).startTraining k).modLink k fun x => { x with retrains := recent ++ [s.elapsedMs] }
  else
    let before := s.inRouting
    let waiting := (s.link k).waiting
    let s := (((s.setLinkState k 4).bump (.link k .linkRetrainCount)).flag (.ring .ringEvents) ringRetrain).emit (.block k .ts1)
    let s := s.modLink k fun x => { x with retrains := recent ++ [s.elapsedMs], waiting := [], stalled := [], replay := [] }
    let s := ((s.lensCount 12 (placeLink k) 1).retopo before).flood
    s.forEach waiting fun s f => s.divert k true f

/-! ### Receiving (R84 to R86, R98, R110) -/

/-- Frames acknowledged by an AckSeq leave the replay buffer, and waiting frames may start (R86). -/
def State.acknowledge (s : State) (k : Link) (ack : Nat) : State :=
  let held := fun (l : List Frame) => l.filter fun f => decide (128 ≤ (ack + 256 - f.linkSeq) % 256)
  (s.modLink k fun x => { x with unacked := held x.unacked, replay := held x.replay }).drain k

/-- A sender replays every unacknowledged frame after a LinkSeq, if there is one (R86). -/
def State.replayAfter (s : State) (k : Link) (seq : Nat) : State :=
  let fs := (s.link k).unacked.filter fun f => decide (0 < (f.linkSeq + 256 - seq) % 256 ∧ (f.linkSeq + 256 - seq) % 256 < 128)
  if fs.isEmpty then s else ((s.modLink k fun x => { x with replay := fs }).bump (.link k .linkReplayCount)).drain k

/-- A sender replays from its oldest unacknowledged frame (R80, R86). -/
def State.replayAll (s : State) (k : Link) : State :=
  match (s.link k).unacked with
  | [] => s
  | f :: _ => s.replayAfter k ((f.linkSeq + 255) % 256)

/-- A received frame as its header and its contents give it. -/
def frameOf (h : FrameHdr) (typ : Nat) (body : RingBody) : Frame :=
  { typ := typ, src := h.src, dst := h.dst, bcast := h.bcast, provoked := h.provoked, image := h.image, linkSeq := h.linkSeq,
    ackSeq := h.ackSeq, hops := h.hopsLeft, length := h.length, tag := h.tag, epoch := h.epoch, body := body }

/-- Sends a received frame on toward its destination as soon as its header has passed, one hop fewer left; a frame that then proves bad is
stomped (R85, R98, R110). -/
def State.forwardFrame (s : State) (k : Link) (h : FrameHdr) (typ : Nat) (body : RingBody) (bad : Bool) : State :=
  let f : Frame := { frameOf h typ body with hops := h.hopsLeft - 1 }
  let pass := fun (s : State) (j : Link) => if bad then s.stompOn j f else s.sendOn j f
  if h.hopsLeft = 0 then (s.bump (.ring .hopExpiredCount)).flag (.ring .ringEvents) ringHopExpired
  else if s.get (.ring .ringMemberState) = 4 ∧ ¬ s.ring.withdrawing then s
  else if h.bcast then s.forEach (if typ = 2 then s.openLinks else s.treeLinks) fun s j => if j = k then s else pass s j
  else
    match s.peerOf typ h.dst with
    | none => (s.bump (.ring .unknownDestCount)).flag (.ring .ringEvents) ringViolation
    | some uid =>
      match s.routeTo uid with
      | none => s
      | some r => if hk : r.first < 4 then pass s ⟨r.first, hk⟩ else s

/-- A frame's place in the order of its link (R86): 1 the next one, 0 or 128 and up one received before, else beyond a gap. -/
def State.seqGap (s : State) (k : Link) (h : FrameHdr) : Nat := (h.linkSeq + 256 - (s.link k).rxSeq) % 256

/-- A frame received in order is acknowledged from now on (R86). -/
def State.takeSeq (s : State) (k : Link) (h : FrameHdr) : State := s.modLink k fun x => { x with rxSeq := h.linkSeq, ackDue := true }

/-- A frame whose CRC-32 fails, or that ends in EFB (R84, R85): it is dropped and asked for again, and what was sent on of it is stomped. -/
def State.dropBad (s : State) (k : Link) (h : FrameHdr) (typ : Nat) (body : RingBody) : State :=
  let s := if replayed typ ∧ s.seqGap k h = 1 ∧ (h.bcast ∨ h.dst ≠ s.selfIndex typ) then s.forwardFrame k h typ body true else s
  s.sendLinkFrame k true

/-- LOCK and COMMIT frames of another epoch are dropped (R110), but for those that bring facets of other epochs together: the epoch sync
itself (R94), and a formation's or an admission's frames to a facet that is not yet a member, or is in an automatic prism whose lock nobody
holds (R91, R92) (DEDUCED, log 19). -/
def State.staleEpoch (s : State) (h : FrameHdr) (typ : Nat) (body : RingBody) : Bool :=
  let joining := match body with
    | .commit .fetch => true
    | .commit (.epochSync _) => true
    | _ => false
  let committed := s.get (.ring .prismOrigin) == 1
  (typ == 5 || typ == 6) && h.epoch != s.get (.ring .prismEpoch) && !joining && (committed || decide (1 < s.members.length)) &&
    (typ == 5 || committed || (s.get (.lock .prismLockOwner)).testBit 23)

/-- A received frame passes the link layer (R84 to R86, R110): the answer says whether it is delivered to this facet. Broadcast and
transit frames are forwarded here. Relay records end here at a facet that carries no image traffic, and SYNC frames of a prism's images at
a facet that has no part in them (R98, R102). -/
def State.receive (s : State) (k : Link) (h : FrameHdr) (typ : Nat) (body : RingBody) : Bool × State :=
  let pl := placeLink k
  let st := s.get (.link k .linkState)
  if ¬ (st = 3 ∨ (st = 6 ∧ ¬ replayed typ)) then (false, s)
  else
    match h.fault with
    | .symbol =>
      (false, ((((s.bump (.link k .linkSymbolErrorCount)).flag (.ring .ringEvents) ringViolation).lensCount 6 pl 1).sendLinkFrame k
        true))
    | .header => (false, ((s.bump (.link k .linkFrameErrorCount)).lensCount 5 pl 1).sendLinkFrame k true)
    | .crc => (false, ((s.bump (.link k .linkFrameErrorCount)).lensCount 5 pl 1).dropBad k h typ body)
    | .stomped => (false, (s.lensFrame k false (frameOf h typ body)).dropBad k h typ body)
    | .noCredit => (false, (s.bump (.link k .linkViolationCount)).sendLinkFrame k true)
    | .shape =>
      let s := (s.bump (.link k .linkViolationCount)).flag (.ring .ringEvents) ringViolation
      (false, if replayed typ ∧ s.seqGap k h = 1 then s.takeSeq k h else s)
    | .good =>
      let s := ((s.acknowledge k h.ackSeq).lensCount 0 pl 1).lensCount 7 pl h.length
      let gap := s.seqGap k h
      if replayed typ ∧ gap ≠ 1 then
        if gap = 0 ∨ 128 ≤ gap then (false, s.modLink k fun x => { x with ackDue := true })
        else (false, s.sendLinkFrame k true)
      else
        let s := if replayed typ then s.takeSeq k h else s
        let s := if typ = 5 ∨ typ = 6 then s.lensCount 11 pl 1 else s
        let s := if typ = 2 then s.lensCount 10 pl 1 else s
        let s := if traced typ then s.lensFrame k false (frameOf h typ body) else s
        if ¬ replayed typ then (true, s)
        else
          let away := !h.bcast && h.dst != s.selfIndex typ
          let s := if h.bcast || away then s.forwardFrame k h typ body false else s
          if away then (false, s)
          else if s.staleEpoch h typ body then (false, (s.bump (.link k .linkViolationCount)).flag (.ring .ringEvents) ringViolation)
          else if (imageTraffic typ ∧ !s.carriesImages) ∨ (typ = 4 ∧ !s.sharesImages) then (false, s)
          else (true, s)

end Sys2Proof.Machine
end

