-- ==== Sys2Proof/Machine/Port.lean ====
section
/-! DEFINITION. One downstream port: its status bits and its states (R36, R37, R42, R43), its VBUS switch and breaker channel
(R298, R300, R301), its Type-C and PD run (R246 to R248, R261, R262), and what leaves with a device (R129, R150, R182). -/

namespace Sys2Proof.Machine

/-! ### Bits of wPortStatus and wPortChange (R36) -/
abbrev psConn : Nat := 0
abbrev psEnable : Nat := 1
abbrev psSuspend : Nat := 2
abbrev psOver : Nat := 3
abbrev psReset : Nat := 4
abbrev psPower : Nat := 8
abbrev psLow : Nat := 9
abbrev psHigh : Nat := 10
abbrev psTest : Nat := 11

def State.ps (s : State) (p : Port) (b : Nat) : Bool := (s.port p).status.testBit b
def State.setPs (s : State) (p : Port) (b : Nat) (v : Bool) : State :=
  s.modPort p fun x => { x with status := setBit x.status b v }
def State.setPc (s : State) (p : Port) (b : Nat) : State :=
  s.modPort p fun x => { x with change := setBit x.change b true, changeAt := s.time.elapsed,
                                changeNew := setBit (if x.changeAt = s.time.elapsed then x.changeNew else 0) b true }

/-- The hub has set this change bit in the running cycle (R40) (DESIGN CHOICE, log 82). -/
def State.setNow (s : State) (p : Port) (b : Nat) : Bool := (s.port p).changeAt == s.time.elapsed && (s.port p).changeNew.testBit b

/-- `PortState` (R37): 0 Powered-off, 1 Disconnected, 2 Disabled, 3 Resetting, 4 Enabled, 5 Suspended, 6 Resuming, 7 Testing,
8 Not connected, 9 Wet. -/
def State.pst (s : State) (p : Port) : Nat := s.get (.port p .portState)
/-- A port whose link is fixed to Wyhelen (R69, R74). -/
def State.wired (s : State) (p : Port) : Bool := (s.portLink p).any fun k => s.modeOf k == 1

/-- `PortState` changes; on a wired port it reads 8 permanently (R74). -/
def State.setPst (s : State) (p : Port) (v : Nat) : State := s.set (.port p .portState) (if s.wired p then 8 else v)

/-! ### Breaker channels (R286) -/

/-- The channel of a port. -/
def chanOf (p : Port) : Channel := ⟨p.val + 3, by omega⟩

/-- The channels of the feeds and the collector. -/
def chanOfFeed : Feed → Channel
  | .A => 0
  | .B => 1
abbrev chanColl : Channel := 2

/-- The port of a channel. -/
def portOfChan (c : Channel) : Option Port := if h : 3 ≤ c.val then some ⟨c.val - 3, by omega⟩ else none

/-- The fault source of a channel (R286). -/
def sourceOfChan (c : Channel) : Nat := if c.val < 3 then 16 + c.val else c.val - 3

def State.tripped (s : State) (c : Channel) : Bool := (s.get (.power .brkTripped)).testBit c.val
def State.portTripped (s : State) (p : Port) : Bool := s.tripped (chanOf p) || s.tripped chanColl
def State.good (s : State) (c : Channel) : Bool := (s.get (.power .powerGood)).testBit c.val

/-- A breaker event in the trace (R428): 1 trip, 2 re-arm, 3 ramp start, 4 ramp end, 5 power-good rise, 6 power-good fall, 7 fast
reverse turn-off. -/
def State.lensBreaker (s : State) (c : Channel) (kind : Nat) : State :=
  let feed := if c.val = 0 then s.get (.feed .A .feedState) else if c.val = 1 then s.get (.feed .B .feedState) else 0
  let pl := match portOfChan c with
    | some p => placePort p
    | none => 0
  s.lensNote 5 pl false ([byteOf c.val, byteOf kind, byteOf (s.get (.chan c .brkTripCause)), byteOf feed] ++
      bytesBe 4 (s.get (.chan c .chanCurrent)))
    (bytesBe 4 (s.get (.chan c .chanVoltage)) ++ bytesBe 2 (s.get (.chan c .brkHeat)))

/-- A channel's measurement (R302): mV at its sense point, mA through its shunt, and mW (DESIGN CHOICE, log 49). -/
def State.measure (s : State) (c : Channel) (mv : Nat) (ma : Int) : State :=
  ((s.set (.chan c .chanVoltage) mv).setInt (.chan c .chanCurrent) ma).setInt (.chan c .chanPower) (ma * mv / 1000)

/-- A sample of a channel's current alone (R296, R302): its voltage stands. -/
def State.measureCurrent (s : State) (c : Channel) (ma : Int) : State := s.measure c (s.get (.chan c .chanVoltage)) ma

/-- Through open switches no current flows (R299, R302). -/
def State.noCurrent (s : State) (c : Channel) : State := (s.set (.chan c .chanCurrent) 0).set (.chan c .chanPower) 0

/-- Power-good of a channel changes (R300). -/
def State.setGood (s : State) (c : Channel) (v : Bool) : State :=
  if s.good c = v then s
  else ((s.setRegBit (.power .powerGood) c.val v).flag (.power .powerEvents) powPgChange).lensBreaker c (if v then 5 else 6)

/-! ### The hold-over slots and records of a port (R150 to R155) -/

/-- The slot entry j that an image runs: during a swap, an image that has switched runs the shadow's (R151). -/
def State.slotEntry (s : State) (i : Nat) (j : Nat) : SlotEntry :=
  slotOfWord (if s.swapping && s.switched.testBit i then
      (if h : j < 256 then s.get (.hold (.holdoverTableShadow ⟨j, h⟩)) else 0)
    else Table.get 0 s.running j)

/-- The slots of a logical port that capture into a stream. -/
def State.slotsOf (s : State) (i : Image) (m : Nat) : List SlotEntry :=
  ((List.range 256).map fun j => s.slotEntry i.val j).filter fun e => e.valid && e.image == i.val && e.port == m

/-- The PHY of a port runs: its domain, DNA or DNB, is on (R15, R310). -/
def State.portOn (s : State) (p : Port) : Bool := s.domainOn (s.portDomain p)

/-- Traffic may flow on a port: it is enabled and not suspended with its image (R37, R58, R59). -/
def State.awake (s : State) (p : Port) : Bool := s.pst p == 4 && !(s.port p).globalSusp

/-- A logical port is held (R150). -/
def State.heldPort (s : State) (i : Image) (m : Nat) : Bool :=
  (s.get (.hold4 i .holdoverHeldPorts)).testBit (m - 1) && m != 0
def State.setHeld (s : State) (i : Image) (m : Nat) (v : Bool) : State :=
  if m = 0 then s else s.setRegBit (.hold4 i .holdoverHeldPorts) (m - 1) v

/-- A port that hold-over serves: held, or adopted and waiting for the step (R162, R163). -/
def State.keeps (s : State) (i : Image) (m : Nat) : Bool := s.heldPort i m || (m != 0 && (s.record i m).stage == .adopted)

def State.holdState (s : State) (i : Image) : Nat := s.get (.hold4 i .holdoverState)
def State.armed (s : State) (i : Image) : Bool := s.isTrue (.hold4 i .holdoverArm)

/-- The port is on the hold-over grid (R148, R149): in hold-over and adoption, or held alone outside its aperture (R139). -/
def State.onGrid (s : State) (i : Image) (m : Nat) : Bool :=
  (s.hold i).started && s.keeps i m &&
    (s.holdState i == 4 || s.holdState i == 6 || (s.get (.image i .imageApertureOut)).testBit (m - 1))

/-- The slots of a port stop (R163, R182): what of them waits is dropped, and the records they have open close with Truncated. -/
def State.stopSlots (s : State) (i : Image) (m : Nat) : State :=
  let mine := (List.range 256).filter fun j => let e := s.slotEntry i.val j; e.valid && e.image == i.val && e.port == m
  let s := { s with waiting := s.waiting.filter fun x =>
    match x.who with
    | .slot j => !mine.contains j
    | .entryAction j => !mine.contains j
    | _ => true }
  let s := s.forEach mine fun s j => if (s.slot j).running then s else s.modSlot j fun x => { x with waiting := false, entry := false }
  s.forEach ((s.slotsOf i m).filter fun e => e.action = 1) fun s e => s.truncateRecord e.target

/-- Relay state of a logical port at the entry facet is discarded: read-ahead bytes are counted (R129). -/
def State.dropRelay (s : State) (i : Image) (m : Nat) : State :=
  let mine := fun (k : Image × Nat × Nat × Bool) => k.1 == i && (s.entry i k.2.1).any fun x => x.port == m
  let bytes := (s.relayEps.filter fun e => mine e.1 && e.1.2.2.2).map fun e => e.2.heldBytes
  ({ s with relayEps := s.relayEps.filter fun e => !mine e.1,
            splits := s.splits.filter fun x => !(x.image == i.val && x.port == m) }).count (.relay .relayReadAheadDiscardBytes) bytes.sum

/-- A translator without the splits of this facet's own engine. -/
def TtRt.hostOnly (t : TtRt) : TtRt :=
  { t with pipeline := t.pipeline.filter fun q => q.engine.isNone, buffers := t.buffers.filter fun q => q.engine.isNone }

/-- Relay state of a port at the owning facet, and what the engine does on it, is discarded. -/
def State.dropOwn (s : State) (p : Port) : State :=
  let s := s.modPort p fun x => { x with tt := x.tt.hostOnly }
  { s with ownEps := s.ownEps.filter fun e => decide (e.1.1 ≠ p),
           waiting := s.waiting.filter fun x => decide (x.port ≠ p),
           engine := s.engine.filter fun e => !(e.2.any fun x => x.port == p) }

/-- A held port leaves hold-over: its record is invalidated, the captured data stays (R150). -/
def State.dropHeld (s : State) (i : Image) (m : Nat) : State :=
  let s := if s.keeps i m then (s.stopSlots i m).setHeld i m false else s
  s.setRecord i m {}

/-- A translation entry is sent to every other facet of the prism by the facet of the active upstream (R51). -/
def State.putEntry (s : State) (i : Image) (a : Nat) (x : Option Xlate) : State :=
  let s := s.setEntry i a x
  if s.entryHere i && !s.alone then s.broadcast 4 i.val (.sync (.xlate i a (s.xlateWord i a) (s.pairsWord i a))) else s

/-- The translation entries of a logical port are invalidated (R37). -/
def State.dropEntries (s : State) (i : Image) (m : Nat) : State :=
  s.forEach ((List.range 128).filter fun a => (s.entry i a).any fun x => x.port = m) fun s a =>
    (s.putEntry i a none).setDevice i a {}

/-- What the hub holds of the device on a port goes with it. -/
def State.forgetDevice (s : State) (p : Port) : State :=
  let s := match s.logicalOf p with
    | none => s
    | some (i, m) => (((s.dropRelay i m).dropEntries i m).dropHeld i m)
  ((s.dropOwn p).set (.port p .portDeviceAddress) 0).modPort p fun x =>
    { x with tt := {}, absorbing := false, globalSusp := false }

/-- The status bits of a device that is gone. -/
def State.clearDevice (s : State) (p : Port) : State :=
  [psConn, psEnable, psSuspend, psReset, psLow, psHigh, psTest].foldl (fun s b => s.setPs p b false) s

/-- A device has gone: what the hub holds of it goes, the status bits it had clear, and C_PORT_CONNECTION is set when PORT_CONNECTION
changes (R36). -/
def State.loseDevice (s : State) (p : Port) : State :=
  let was := s.ps p psConn
  let s := (s.forgetDevice p).clearDevice p
  ((s.set (.port p .portSpeed) 0).set (.port p .portTestMode) 0).when was fun s => s.setPc p psConn

/-- A reset that completed in the cycle of a disconnect leaves no C_PORT_RESET (R40) (DESIGN CHOICE, log 82). -/
def State.unreset (s : State) (p : Port) : State :=
  if (s.port p).resetAt = some s.time.elapsed then s.modPort p fun x => { x with change := setBit x.change psReset false, resetAt := none }
  else s

/-- R37, "Any state except Powered-off": the port goes to Disconnected. A port in test mode is no exception, although R33 does not name
a disconnect among the ways out of it (DESIGN CHOICE, log 83). -/
def State.usbDisconnect (s : State) (p : Port) : State :=
  if s.pst p = 0 then s
  else
    let s := (s.loseDevice p).unreset p
    if 8 ≤ s.pst p then s.setPst p (if s.ps p psPower then 1 else 0) else s.setPst p 1

/-- The USB side of a move to Powered-off (R36, R37) (DEDUCED, log 26). -/
def State.usbOff (s : State) (p : Port) : State := ((s.loseDevice p).setPs p psPower false).setPst p 0

/-! ### Budget (R247, R261, R262) -/

def State.alloc (s : State) (p : Port) : Nat := s.get (.tc p .pdAllocation)

/-- B and A of R261. -/
def State.budget (s : State) : Nat := min (s.get (.pd .pdBudgetBoard)) (s.get (.pd .pdBudgetFeedLimit))
def State.allocated (s : State) : Nat := (s.allPorts.map s.alloc).sum

/-- A′ of R262: a port with an offer outstanding counts at the larger of its allocation and that offer. -/
def State.allocatedOrOffered (s : State) : Nat := (s.allPorts.map fun p => max (s.alloc p) ((s.tc p).offerOut.getD 0)).sum

/-- Offer power of a port (R262): `more` is what earlier offers of the same pass hold beyond A′. -/
def State.offerBeside (s : State) (p : Port) (more : Nat) : Nat :=
  min (s.get (.tc p .pdPortMaxPower)) (s.budget - (s.allocatedOrOffered + more - s.alloc p))
def State.offerPower (s : State) (p : Port) : Nat := s.offerBeside p 0

/-- The highest Rp advertisement that a power covers, and the allocation of each (R247). -/
def rpFor (mw : Nat) : Nat := if 15000 ≤ mw then 3 else if 7500 ≤ mw then 2 else if 2500 ≤ mw then 1 else 0
def rpPower : Nat → Nat
  | 3 => 15000
  | 2 => 7500
  | 1 => 2500
  | _ => 0

/-- Advertises on Rp what the offer power covers: a raise counts at once, a lowering 60 ms later (R247). -/
def State.advertise (s : State) (p : Port) (level : Nat) : State :=
  let mw := rpPower level
  let s := (s.modTc p fun x => { x with rp := level }).set (.tc p .pdOfferPower) mw
  if s.alloc p ≤ mw then (s.set (.tc p .pdAllocation) mw).modTc p fun x => { x with lowerTo := none }
  else s.modTc p fun x => { x with lowerTo := some mw }

def State.shed (s : State) (p : Port) : Bool := (s.get (.pd .pdShedPorts)).testBit p.val

/-! ### VBUS and VCONN (R42, R251, R301) -/

/-- The contract of a port ends (R42, R246). -/
def State.endContract (s : State) (p : Port) : State :=
  let s := s.modTc p fun x =>
    { x with explicit := false, pps := false, offered := [], offerOut := none, trans := none, swap := 0, vswap := 0, own := [],
             window := false, await := .nothing, sinkCaps := none, lowerTo := none, target := none, mv := 5000, ma := 6000, hardStage := 0,
             detectOff := false, newContract := false, recovery := false, entryStep := 0, bleeding := false }
  (((s.set (.tc p .pdContractState) 0).set (.tc p .pdRdo) 0).set (.tc p .pdAllocation) 0).set (.tc p .pdOfferPower) 0

/-- VBUS switches off with discharge (R301). -/
def State.vbusOff (s : State) (p : Port) : State :=
  let st := s.get (.chan (chanOf p) .brkState)
  if st = 1 ∨ st = 2 then
    (((s.set (.chan (chanOf p) .brkState) 0).setGood (chanOf p) false).noCurrent (chanOf p)).modTc p fun x => { x with discharging := true }
  else s

/-- A message that travels on SOP′. -/
def PdMsg.onPrime : PdMsg → Bool
  | .vdm sp _ _ _ _ _ => sp
  | .cableGoodCrc => true
  | _ => false

/-- VCONN goes off, and with it what the port was sending on SOP′ (R257). -/
def State.vconnOff (s : State) (p : Port) : State :=
  s.modTc p fun x => { x with vconn := false, sent := x.sent.filter fun e => !e.1.onPrime }

/-- `TcState` of a port that is not attached (R248). -/
def State.tcIdle (s : State) (p : Port) : Nat :=
  if (s.portLink p).any fun k => s.modeOf k == 1 then 7
  else if s.get (.tc p .tcState) = 5 then 5
  else if !s.ps p psPower || s.portTripped p || !s.domainOn 5 || s.unitHeld (.port p) then 0
  else 1

/-- `LinkState` reads entering while the exchange of R70 runs on the port, until training starts or the exchange ends (R113). -/
def State.entering (s : State) (p : Port) (v : Bool) : State :=
  match s.portLink p with
  | none => s
  | some k =>
    let st := s.get (.link k .linkState)
    if v ∧ st = 0 then s.showLinkState k 1 else if !v ∧ st = 1 then s.showLinkState k 0 else s

/-- The Type-C side gives its partner up: no VBUS, no VCONN, no contract (R246, R248). -/
def State.tcRelease (s : State) (p : Port) : State :=
  let s := (((s.vbusOff p).vconnOff p).endContract p).entering p false
  let s := s.modTc p fun x =>
    { x with attach := none, attachAt := none, trying := 0, backfed := false, rp := 0, orientValid := false, orient := 0, ra := false,
             source := false, dfp := false, asSource := false, vconnOut := false, caps := 0, hardRow := 0, nonPd := false, fallback := false,
             partnerRev := 0, cableKnown := false, cable5A := false, cableTries := 0, lastId := none, txId := 0, lastIdP := none, txIdP := 0,
             sent := none, limited := false }
  let s := s.set (.tc p .pdCableVdo) 0
  s.set (.tc p .tcState) (s.tcIdle p)

/-- The conditions under which a port applies VBUS (R42, R247, R335); `budget` leaves the power condition to the caller. -/
def State.mayPower (s : State) (p : Port) : Bool :=
  s.hasPort p && s.ps p psPower && (s.tc p).asSource && s.get (.tc p .tcState) == 3 && !s.portTripped p && !s.shed p &&
    !s.unitHeld (.port p) && !s.unitHeld .coll && s.domainOn 5 && !s.faults.safeRun

/-- VBUS goes on at 5 V by soft-start when the conditions of R42 hold; a port whose offer power is below 2.5 W counts as shed
(R244, R247, R301). -/
def State.vbusOn (s : State) (p : Port) : State :=
  if s.mayPower p && s.get (.chan (chanOf p) .brkState) == 0 && !(s.tc p).discharging then
    if s.offerPower p < 2500 then
      (s.setRegBit (.pd .pdShedPorts) p.val true).flag (.pd .pdEvents) pdShed
    else
      let s := s.advertise p (rpFor (s.offerPower p))
      let s := (s.set (.tc p .pdContractState) (if (s.tc p).fallback then 7 else 1)).set (.chan (chanOf p) .brkState) 1
      (s.modTc p fun x => { x with mv := 5000, ma := 6000 }).lensBreaker (chanOf p) 3
  else s

/-- A port moves to Powered-off: the contract ends, VBUS goes off with discharge, VCONN is removed (R37, R42) (DEDUCED, log 26). -/
def State.powerOff (s : State) (p : Port) : State := (s.usbOff p).tcRelease p

/-- Wyhelen mode ends on a port: the link goes down and the port leaves Not connected (R37, R73). -/
def State.leaveWyhelen (s : State) (p : Port) : State :=
  let s := s.modTc p fun x => { x with entered := false }
  let s := match s.portLink p with
    | none => s
    | some k =>
      let st := s.get (.link k .linkState)
      if st = 3 ∨ st = 4 ∨ st = 6 then s.linkDown k 0 else if s.unitHeld (.link k) then s else s.showLinkState k 0
  if s.pst p = 8 then (if s.ps p psPower then s.setPst p 1 else s.powerOff p) else s

/-- A Type-C detach (R246): the port releases its partner, reports the disconnect and runs the moisture check at once. -/
def State.tcDetach (s : State) (p : Port) : State :=
  let s := if (s.tc p).entered then s.leaveWyhelen p else s
  let s := (s.tcRelease p).usbDisconnect p
  if s.isTrue (.pd .moistureEnable) && s.get (.tc p .tcState) != 7 then s.modTc p fun x => { x with measuring := true } else s

/-- PORT_POWER is granted (R37, R42): a port in state 8 or 9 only records it. -/
def State.powerOn (s : State) (p : Port) : State :=
  if s.unitHeld (.port p) then s
  else
    let s := s.setPs p psPower true
    let s := if s.pst p = 0 then s.setPst p 1 else s
    if s.get (.tc p .tcState) = 0 then s.set (.tc p .tcState) (s.tcIdle p) else s.vbusOn p

/-! ### Trips (R43, R298) -/

/-- The USB side of a trip (R37, R43): PORT_POWER and PORT_ENABLE clear, PORT_OVER_CURRENT set (DEDUCED, log 26). -/
def State.overCurrent (s : State) (p : Port) : State :=
  let s := if s.ps p psOver then s else (s.setPs p psOver true).setPc p psOver
  (s.powerOff p).modPort p fun x => { x with tripAt := some s.time.elapsed }

/-- PORT_OVER_CURRENT reads 1 for as long as a breaker of the port stays tripped (R43). -/
def State.overCurrentEnd (s : State) (p : Port) : State :=
  if s.ps p psOver && !s.portTripped p then (s.setPs p psOver false).setPc p psOver else s

/-- The code a feed shows (R287, R289). -/
def State.feedCode (s : State) (x : Feed) : Nat :=
  let f := s.feed x
  if s.tripped (chanOfFeed x) || s.tripped chanColl then 7
  else if !f.en || !s.isTrue (.feed x .feedEnable) || s.unitHeld (.feed x) then 1
  else if !f.inside then 2
  else if f.step = 1 ∨ f.revHold then 3
  else if f.step = 2 ∨ f.step = 3 then 4
  else if f.step = 4 then 5
  else if f.step = 5 then 6
  else 2

/-- Feeds that are on. -/
def State.feedsOn (s : State) : Nat := boolNat ((s.feed .A).step = 5) + boolNat ((s.feed .B).step = 5)

/-- `PdBudgetFeedLimit` (R304). -/
def State.feedLimit (s : State) : Nat :=
  let lim := fun (x : Feed) => if (s.feed x).step = 5 then s.get (.feed x .feedPowerLimit) else 0
  let total := lim .A + lim .B
  if s.tripped chanColl then 0
  else (min total (s.get (.power .collectorPowerLimit)) - s.get (.power .boardReservePower)) *
    s.get (.power .portRegEfficiency) / 1000

/-- Whether every condition for a feed to run holds (R287). -/
def State.feedMayRun (s : State) (x : Feed) : Bool :=
  (s.feed x).en && s.isTrue (.feed x .feedEnable) && !s.tripped (chanOfFeed x) && !s.tripped chanColl && (s.feed x).inside &&
    !s.unitHeld (.feed x) && s.domainOn 5

/-- The entries of the feeds and the path after a change (R287, R306): the codes, `PowerPathState`, power-good. -/
def State.showFeeds (s : State) : State :=
  let s := (s.set (.feed .A .feedState) (s.feedCode .A)).set (.feed .B .feedState) (s.feedCode .B)
  let s := s.forEach [Feed.A, Feed.B] fun s x =>
    let s := if (s.feed x).step ≠ 5 then s.setGood (chanOfFeed x) false else s
    if s.tripped (chanOfFeed x) then s
    else s.set (.chan (chanOfFeed x) .brkState) (if (s.feed x).step = 4 then 1 else if (s.feed x).step = 5 then 2 else 0)
  let s := if s.feedsOn = 0 then s.setGood chanColl false else s
  let s := if (s.feed .A).step < 3 ∧ (s.feed .B).step < 3 then s.noCurrent chanColl else s
  let s := if s.tripped chanColl then s
    else s.set (.chan chanColl .brkState)
      (if 0 < s.feedsOn then 2 else if (s.feed .A).step = 4 ∨ (s.feed .B).step = 4 then 1 else 0)
  s.set (.power .powerPathState)
    (if s.tripped chanColl then 4 else if s.feedsOn = 2 then 3 else if s.feedsOn = 1 then 2
     else if 0 < (s.feed .A).step + (s.feed .B).step then 1 else 0)

/-- Opens a feed's switches: its channel carries nothing (R299). -/
def State.openFeed (s : State) (x : Feed) : State := (s.modFeed x fun f => { f with step := 0 }).noCurrent (chanOfFeed x)

/-- The insertion delay starts as soon as every condition holds (R287, R288). -/
def State.tryFeed (s : State) (x : Feed) : State :=
  if s.feedMayRun x && (s.feed x).step == 0 && !(s.feed x).revHold then s.modFeed x fun f => { f with step := 1 } else s

/-- A channel trips (R298): `mA` is the current at the trip; once its switch is open, none flows (R299). -/
def State.trip (s : State) (c : Channel) (cause : Nat) (mA : Int) : State :=
  if s.tripped c then s
  else
    let s := ((s.set (.chan c .brkState) 3).set (.chan c .brkTripCause) cause).bump (.chan c .brkTripCount)
    let s := s.setChan c.val { s.chan c.val with tripAt := some s.time.elapsed }
    let s := ((s.set (.chan c .brkLastTripTime) s.now).setInt (.chan c .brkLastTripCurrent) mA).setInt (.chan c .chanCurrent) mA
    let s := ((s.setRegBit (.power .brkTripped) c.val true).flag (.power .powerEvents) powTrip).setGood c false
    let s := ((s.lensBreaker c 1).raise (sourceOfChan c) cause).noCurrent c
    match portOfChan c with
    | some p =>
      let s := s.overCurrent p
      s.modTc p fun x => { x with discharging := cause != 7 }
    | none =>
      if c = chanColl then
        let s := ((s.openFeed .A).openFeed .B)
        let s := s.forEach s.allPorts fun s p => s.overCurrent p
        (s.forEach (List.finRange 4) fun s i =>
          if (s.activeUp i).isSome then s.modHub i fun h => { h with hubChange := setBit h.hubChange 1 true } else s).showFeeds
      else (s.openFeed (if c.val = 0 then .A else .B)).showFeeds

/-- A toggle clears a latch (R298): flagged and traced; the caller restarts the channel. Fail-safe wins over a toggle, and so does a trip of
the same cycle (R305) (DESIGN CHOICE, log 82). -/
def State.clearTrip (s : State) (c : Channel) : State :=
  if s.tripped c && !s.faults.safeRun && (s.chan c.val).tripAt != some s.time.elapsed then
    let s := ((s.setRegBit (.power .brkTripped) c.val false).set (.chan c .brkState) 0).flag (.power .powerEvents) powRearm
    let s := s.lensBreaker c 2
    match portOfChan c with
    | some p =>
      let s := s.overCurrentEnd p
      if s.get (.tc p .tcState) = 0 then s.set (.tc p .tcState) (s.tcIdle p) else s.vbusOn p
    | none =>
      if c = chanColl then
        let s := (((s.tryFeed .A).tryFeed .B)).forEach s.allPorts fun s p =>
          let s := s.overCurrentEnd p
          if s.get (.tc p .tcState) = 0 then s.set (.tc p .tcState) (s.tcIdle p) else s
        (s.forEach (List.finRange 4) fun s i =>
          if (s.activeUp i).isSome then s.modHub i fun h => { h with hubChange := setBit h.hubChange 1 true } else s).showFeeds
      else (s.tryFeed (if c.val = 0 then .A else .B)).showFeeds
  else s

/-! ### What a port reports -/

/-- The adoption view of a port's status (R162, R164): until the image step a held port shows the adopting host its own picture, and what
that host does to it once its reset has been absorbed. -/
def State.heldView (s : State) (i : Image) (m : Nat) (st : Nat) : Nat :=
  let r := s.record i m
  let on := r.stage != .held
  let st := setBit (setBit (setBit st psPower true) psConn true) psSuspend (on && st.testBit psSuspend)
  let st := setBit st psEnable (on && st.testBit psEnable)
  setBit (setBit st psLow (on && r.speed == 1)) psHigh (on && r.speed == 2)

/-- The presentation of a held port in adoption, or of one held alone, holds (R139, R162, R169). -/
def State.adoptView (s : State) (i : Image) (m : Nat) : Bool :=
  s.keeps i m && (s.holdState i == 6 || (s.record i m).alone) && (s.record i m).valid

/-- A logical port reports not connected: it lies outside its aperture (R139), or an S2 reaction holds it (R335). -/
def State.outside (s : State) (i : Image) (m : Nat) : Bool :=
  (s.get (.image i .imageApertureOut)).testBit (m - 1) || s.unitHeld (.image i m)

/-- wPortStatus and wPortChange that a port of this facet reports for its image (R36, R43, R139, R162). A candidate, a
syncing and a withdrawn facet report it not connected (R89, R94, R102); a port outside its aperture is reported so by the entry facet. -/
def State.portReport (s : State) (p : Port) : Nat × Nat :=
  let x := s.port p
  match s.logicalOf p with
  | none => (x.status, x.change)
  | some (i, m) =>
    let ring := s.get (.ring .ringMemberState)
    let out := (s.outside i m && (s.entryHere i || s.unitHeld (.image i m))) || ring == 1 || ring == 3 || ring == 4
    if out then (setBit (setBit x.status psConn false) psEnable false, x.change)
    else if s.adoptView i m then (s.heldView i m x.status, x.change)
    else (x.status, x.change)

end Sys2Proof.Machine
end

