-- ==== Sys2Proof/Machine/Hold.lean ====
section
/-! DEFINITION. Hold-over and adoption (R143 to R172): entering and leaving hold-over, adoption records, the slots' work, the HS
engine's contexts, and the step of an image to its host. -/

namespace Sys2Proof.Machine

/-! ### Upstream ports (R20, R159) -/

/-- What an upstream shows changes: the pull-up goes on or off, and a function that appears starts afresh. `UpstreamSpeed` reads 0 while no
host is attached (R66). -/
def State.present (s : State) (u : Upstream) (w : Presents) : State :=
  let x := s.up u
  if x.presents = w then s
  else
    let s := s.setUp u { x with presents := w, standby := {}, speed := if w = .nothing then 0 else 2, answers := [],
                                notes := [], part := none, hostIdle := false }
    let s := s.set (.hub .upstreamSpeed)
      (putBits (s.get (.hub .upstreamSpeed)) (2 * u.num + 1) (2 * u.num) (if w = .nothing ∨ !x.attached then 0 else 2))
    let s := s.cutDelivery (upDoor u)
    let s := if x.presents = .nothing then s else s.emit (.up u .pullupOff)
    if w = .nothing then s else s.emit (.up u .pullupOn)

/-- A mirror upstream presents the standby function when it is attached and enabled (R159). -/
def State.presentStandby (s : State) (u : Upstream) : State :=
  if (s.up u).attached && !(s.up u).disabled && s.domainOn 2 then s.present u .standby else s.present u .nothing

/-- The former active upstream presents the standby function once roles are exchanged, or an adoption has failed, even if no host is
attached to it (R169, R171). -/
def State.presentFormer (s : State) (u : Upstream) : State :=
  if !(s.up u).disabled && s.domainOn 2 then s.present u .standby else s.present u .nothing

/-- The image works as a full-speed hub (R31). -/
def State.fullSpeed (s : State) (i : Image) : Bool :=
  (s.activeUp i).any fun u => (s.up u).presents == .hub && (s.up u).speed == 2

/-- The hub function of an image returns to the Default state (R35): single TT, address 0, no change bits. -/
def State.defaultHub (s : State) (i : Image) : State :=
  let h := s.hub i
  let s := s.setHub i { frame := h.frame, micro := h.micro, lastSof := h.lastSof, portSeq := h.portSeq }
  (s.setEmb i {}).setRegBit (.hub .singleTtImages) i.val true

/-! ### Records (R150, R170) -/

/-- An upstream is that of the former host of an image that adopts on its mirror (R171). -/
def State.formerHost (s : State) (u : Upstream) : Bool :=
  (List.finRange 4).any fun i => s.holdState i == 6 && (s.hold i).viaMirror &&
    (if (s.hold i).attached then s.mirrorUp i else s.activeUp i) == some u

/-- An attached upstream shows its host what it stands for: the hub function of its image, the standby function, or nothing. A former
host that attaches during the adoption sees nothing until the step (R171). -/
def State.showUp (s : State) (u : Upstream) : State :=
  let x := s.up u
  if !x.attached ∨ x.disabled ∨ x.presents ≠ .nothing ∨ s.boot.waiting ∨ !s.domainOn 2 ∨ s.formerHost u then s
  else
    match s.imageOfUp u with
    | some i => if (s.hold i).softDetach ∨ !s.enabled i then s else (s.defaultHub i).present u .hub
    | none => if (s.imageOfMirror u).any fun i => s.enabled i then s.presentStandby u else s

/-- The host address of the device attached directly to a port: the entry that carries the port's wire address. -/
def State.addrOf (s : State) (i : Image) (m : Nat) (p : Port) : Option Nat :=
  let w := s.get (.port p .portDeviceAddress)
  if w = 0 then none
  else ((List.range 128).drop 1).find? fun a => (s.entry i a).any fun x => x.port == m && x.devAddr == w

/-- The record of a port of this facet as it stands; an invalid one when the device has no host address (R150, R170). The host side's
toggle of an endpoint is the device side's, exchanged where toggle translation is active (R167, R172). -/
def State.recordNow (s : State) (i : Image) (m : Nat) (p : Port) : AdoptRec :=
  let old := s.record i m
  match s.addrOf i m p with
  | none => { resetOrder := old.resetOrder }
  | some a =>
    let d := s.device i a
    { valid := true, adoptable := s.pst p == 4 || s.pst p == 5, divergent := old.divergent, seamless := old.seamless,
      suspended := s.pst p == 5, adopted := old.adopted, slot := s.ownSlot, localPort := p.val + 1, hostAddr := a,
      devAddr := s.get (.port p .portDeviceAddress), speed := speedCode (s.get (.port p .portSpeed)), config := d.config,
      alts := d.alts, inToggle := d.toggleIn, outToggle := d.toggleOut, haltedIn := d.haltedIn, haltedOut := d.haltedOut,
      flipIn := old.flipIn, flipOut := old.flipOut, entryTime := old.entryTime, adoptTime := old.adoptTime, vid := d.vid, pid := d.pid,
      resets := 0, viaTt := s.get (.port p .portSpeed) != 3, resetOrder := old.resetOrder, hostIn := d.toggleIn ^^^ old.flipIn,
      hostOut := d.toggleOut ^^^ old.flipOut, info := d }

/-- The owning facet writes a port's record (R170). -/
def State.writeRecord (s : State) (i : Image) (m : Nat) : State :=
  match s.place i m with
  | .own p => if s.keeps i m then s else s.setRecord i m (s.recordNow i m p)
  | _ => s

/-- An adoption step moves a port's record (R163, R170): every other member is told of it at the end of the command. -/
def State.moveRecord (s : State) (i : Image) (m : Nat) (f : AdoptRec → AdoptRec) : State :=
  (s.modRecord i m f).modHold i fun h => { h with tellPorts := m :: h.tellPorts.filter fun k => decide (k ≠ m) }

/-- The device-side toggle of an endpoint advances at an acknowledged data packet (R167): a port's own device keeps it with the record. -/
def DevInfo.flipToggle (d : DevInfo) (e : Nat) (dirIn toggle : Bool) : DevInfo :=
  if dirIn then { d with toggleIn := setBit d.toggleIn e (!toggle) } else { d with toggleOut := setBit d.toggleOut e (!toggle) }
def State.setDevToggle (s : State) (i : Image) (m a e : Nat) (dirIn toggle : Bool) : State :=
  let s := if (s.entry i a).any fun x => x.port == m then s.modDevice i a fun d => d.flipToggle e dirIn toggle else s
  if (s.record i m).valid && (s.record i m).hostAddr == a then
    s.modRecord i m fun r =>
      let d := r.info.flipToggle e dirIn toggle
      { r with info := d, inToggle := d.toggleIn, outToggle := d.toggleOut }
  else s

/-- The bits of the endpoints that `sel` names go to 0. -/
def clearBits (v : Nat) (sel : Nat → Bool) : Nat := (List.range 16).foldl (fun v e => if sel e then setBit v e false else v) v

/-- The learned part of a device with toggles and halts of the selected endpoints at their start (R132). -/
def DevInfo.cleared (d : DevInfo) (selIn selOut : Nat → Bool) : DevInfo :=
  { d with toggleIn := clearBits d.toggleIn selIn, toggleOut := clearBits d.toggleOut selOut,
           haltedIn := clearBits d.haltedIn selIn, haltedOut := clearBits d.haltedOut selOut }

/-- Both sides of the endpoints that `sel` names go to DATA0, and their flip bits clear (R132, R167). The EndpointSeq of a relayed endpoint
goes on, so that results of requests from before stay apart from later ones (R133, R136). -/
def State.clearToggles (s : State) (i : Image) (m a : Nat) (selIn selOut : Nat → Bool) : State :=
  let s := s.modDevice i a fun d => d.cleared selIn selOut
  let s := if (s.record i m).valid && (s.record i m).hostAddr == a then
      s.modRecord i m fun r =>
        { r with inToggle := clearBits r.inToggle selIn, outToggle := clearBits r.outToggle selOut,
                 haltedIn := clearBits r.haltedIn selIn, haltedOut := clearBits r.haltedOut selOut,
                 flipIn := clearBits r.flipIn selIn, flipOut := clearBits r.flipOut selOut, info := r.info.cleared selIn selOut }
    else s
  let sel := fun (k : Image × Nat × Nat × Bool) =>
    k.1 == i && k.2.1 == a && k.2.2.1 != 0 && (if k.2.2.2 then selIn k.2.2.1 else selOut k.2.2.1)
  let lost := (s.relayEps.filter fun e => sel e.1 && e.1.2.2.2).map fun e => e.2.heldBytes
  let drop := (s.relayEps.filter fun e => sel e.1 && !e.1.2.2.2).map fun e => (e.2.stored.map List.length).sum
  let s := s.forEach (s.relayEps.filter fun e => sel e.1) fun s e => s.setRelayEp e.1.1 e.1.2.1 e.1.2.2.1 e.1.2.2.2 { seq := e.2.seq }
  let s := (s.count (.relay .relayReadAheadDiscardBytes) lost.sum).count (.relay .relayOutDropBytes) drop.sum
  let wire := (s.entry i a).elim (s.record i m).devAddr fun x => x.devAddr
  let s := { s with ownEps := s.ownEps.map fun (e : (Port × Nat × Nat × Bool) × OwnEp) =>
    if (s.logicalOf e.1.1).any (fun (q : Image × Nat) => q.1 == i && q.2 == m) && e.1.2.2.1 != 0 && e.1.2.1 == wire &&
        (if e.1.2.2.2 then selIn e.1.2.2.1 else selOut e.1.2.2.1) then (e.1, { e.2 with toggle := false, jobs := [] }) else e }
  match s.entry i a with
  | some x =>
    if x.toggle && (s.record i m).hostAddr == a && (s.record i m).flipIn == 0 && (s.record i m).flipOut == 0 then
      s.putEntry i a (some { x with toggle := false })
    else s
  | none => s

/-! ### States of hold-over (R147) -/

/-- `HoldoverState` changes, and the other members are told `code`: the state, 7 for adoption through the mirror, 8 once the mirror has
attached, 10 for an abandoned image (R147); the entries that read the same on every member go with it (R174) (DEDUCED, log 35). -/
def State.tellHold (s : State) (i : Image) (v code : Nat) : State :=
  let s := (s.set (.hold4 i .holdoverState) v).modHold i fun h => { h with tell := true }
  if !s.alone then s.broadcast 4 i.val (.sync (.holdState i code)) else s

/-- `HoldoverState` changes; the facet that acts tells the other members (R147). -/
def State.setHoldState (s : State) (i : Image) (v : Nat) : State := s.tellHold i v v

/-- Suspend intent ends (R144). -/
def State.endIntent (s : State) (i : Image) : State :=
  (s.set (.hold4 i .holdoverSuspendIntent) 0).modHold i fun h => { h with windowOpen := false }

/-- Ports of this facet that can be held are held, and their records written (R148, R150, R170). A port that is held already, alone or in
dormant hold-over, stays so. -/
def State.takeHeld (s : State) (i : Image) (time : Nat) : State :=
  s.forEach (s.logicalPorts i) fun s m =>
    match s.place i m with
    | .own p =>
      if s.heldPort i m then s
      else
        let r := s.recordNow i m p
        if r.valid && r.adoptable then
          (s.setRecord i m { r with entryTime := time, stage := .held, adopted := false, divergent := false }).setHeld i m true
        else s.setRecord i m r
    | _ => s

/-- The item of a packet of read-ahead data at the owning facet (R129, R181): its result, which the endpoint keeps, tells the toggle and the
frame. -/
def State.readAheadItem (s : State) (i : Image) (p : Port) (w e mps stamp : Nat) (data : List Byte) : Item :=
  let v := (s.ownEp p w e true).served.find? fun v => v.stamp == stamp && v.data == data
  { time := stamp, port := p.val + 1, toggle := v.any fun v => v.toggle, image := i.val, ep := e, data := data,
    short := decide (data.length < mps), readAhead := true, source := 1,
    provoked := s.lens.armed && (s.get (.provoke .provokeTargets)).testBit p.val,
    frame := v.elim ((s.hub i).frame * 8 + (s.hub i).micro) fun v => v.frame }

/-- Read-ahead data of one relayed IN endpoint goes back to the owning facet (R129): on this facet it becomes the first items of
the endpoint's stream, written for requester 4 with the Stamp, the toggle and the frame of their transactions (R181, R196), or is discarded
and counted; to another facet it is sent with its Stamps. -/
def State.returnReadAhead (s : State) (i : Image) (a e : Nat) (x : RelayEp) : State :=
  match s.entry i a with
  | none => s
  | some en =>
    match s.place i en.port with
    | .remote slot port =>
      s.forEach x.held fun s d =>
        s.sendTo (s.memberAt slot) 9 i.val 0 (relayRecord { relayHdr 2 port en.devAddr e true with epType := 1, stamp := d.1 } d.2)
    | .own p =>
      match (s.slotsOf i en.port).find? fun sl => sl.action == 1 && sl.ep == e with
      | none => s.count (.relay .relayReadAheadDiscardBytes) x.heldBytes
      | some sl =>
        let mps := ((s.device i a).endpoint e true).elim 512 fun q => q.maxPacket % 2048
        s.forEach x.held fun s d =>
          s.writeItem sl.target (s.readAheadItem i p en.devAddr e mps d.1 d.2) 4
    | _ => s

/-- At the entry sequence every facet finishes relay in flight, returns read-ahead and drops the host's TT buffers (R148 step 3,
R136) (DESIGN CHOICE, log 30). -/
def State.settleRelay (s : State) (i : Image) : State :=
  let eps := s.relayEps.filter fun e => e.1.1 == i
  let s := s.forEach eps fun s e =>
    let s := if e.1.2.2.2 && !e.2.held.isEmpty then s.returnReadAhead i e.1.2.1 e.1.2.2.1 e.2 else s
    s.setRelayEp i e.1.2.1 e.1.2.2.1 e.1.2.2.2 { e.2 with held := [], asks := [] }
  s.forEach (s.ownPorts i) fun s p =>
    s.modPort p fun x => { x with tt := { x.tt with buffers := x.tt.buffers.filter fun q => q.engine.isSome, done := [] } }

/-- A slot's port, and whether the slot is active there (R155): held, on this facet, not suspended, its endpoint learned and not
isochronous. -/
def State.slotPort (s : State) (e : SlotEntry) : Option (Port × Option EpInfo) :=
  let i := imageOf e.image
  match s.place i e.port with
  | .own p =>
    let q := (s.record i e.port).info.endpoint e.ep e.dirIn
    if s.keeps i e.port && !(s.record i e.port).slotsOff && s.awake p && (e.ep == 0 || q.any fun q => q.epType != 3) then some (p, q)
    else none
  | _ => none

/-- A valid slot that is not active is counted once in each hold-over entry (R155) (DEDUCED, log 36). -/
def State.slotInactive (s : State) (j : Nat) : State :=
  if (s.slot j).counted then s
  else (s.modSlot j fun x => { x with counted := true, entry := false }).bump (.hold .holdoverSlotInactiveCount)

/-- One slot of a port begins: an entry action stands due (R156), or is inactive at once (R155). -/
def State.startSlot (s : State) (e : SlotEntry) (j : Nat) : State :=
  let s := if s.slot j = {} then s else s.setSlot j {}
  if e.action = 3 ∨ e.action = 5 then
    (if (s.slotPort e).isSome then s.modSlot j fun x => { x with entry := true } else s.slotInactive j)
  else s

/-- The slots of an image begin as it enters active hold-over (R155, R156); those of ports held alone run on. -/
def State.startSlots (s : State) (i : Image) : State :=
  s.forEach (List.range 256) fun s j =>
    let e := s.slotEntry i.val j
    if e.valid && e.image == i.val then
      (if (s.record i e.port).alone then s.modSlot j fun x => { x with counted := false } else s.startSlot e j)
    else s

/-- The slots of a port that is held alone begin (R139, R156). -/
def State.startPortSlots (s : State) (i : Image) (m : Nat) : State :=
  s.forEach (List.range 256) fun s j =>
    let e := s.slotEntry i.val j
    if e.valid && e.image == i.val && e.port == m then s.startSlot e j else s

/-- The grid of R149 starts from the host's last SOF; `declared` is the moment that the first boundary follows (R148). -/
def State.startGrid (s : State) (i : Image) (declared lastSof count : Nat) : State :=
  s.modHold i fun h =>
    { h with started := true, declared := declared, lastSof := lastSof, lastCount := count, count := count, boundary := 0 }

/-- Active hold-over begins: relay settled, ports held, grid and slots started (R148 steps 3 to 5). -/
def State.activate (s : State) (i : Image) (time declared lastSof count : Nat) : State :=
  (((s.settleRelay i).takeHeld i time).startGrid i declared lastSof count).startSlots i

/-- Active hold-over of a facet, at the entry facet or told by it (R148): times are of the counter; cause 3 is declared 502 µs after the
last SOF (DEDUCED, log 33). -/
def State.holdEntry (s : State) (i : Image) (cause time lastSof count : Nat) : State :=
  let s := (s.set (.hold4 i .holdoverEntryCause) cause).set (.hold4 i .holdoverEntryTime) time
  let s := ((s.bump (.hold4 i .holdoverCount)).flag (.hold .holdoverEvents) holdEnter).endIntent i
  let s := (s.set (.hold4 i .holdoverState) 4).raise 34 (i.val + 16 * cause)
  s.activate i time (if cause = 3 then s.momentOf lastSof + 502000 else s.momentOf time) (s.momentOf lastSof) count

/-- An upstream's function is presented again as the standby function, when it is the mirror (R169, R171). -/
def State.showMirror (s : State) (i : Image) : State :=
  match s.mirrorUp i with
  | some u => s.presentFormer u
  | none => s

/-- What every facet does when an adoption fails (R171): the devices it has adopted are held again, the grid runs, and the former active
upstream presents the standby function. No entry action runs again, for none of the moments of R156 is this one. -/
def State.failBack (s : State) (i : Image) : State :=
  let s := s.forEach (s.logicalPorts i) fun s m =>
    if s.keeps i m then
      (s.modRecord i m fun r =>
        { r with stage := .held, adopted := false, resets := 0, slotsOff := false, stopping := false }).setHeld i m true
    else s
  let s := s.modHold i fun h =>
    { h with stepDue := false, attached := false, viaMirror := false, blocked := false,
             exchanged := h.exchanged != (h.viaMirror && !h.attached) }
  let s := if (s.hold i).started then s
    else s.startGrid i s.extended (s.hub i).lastSof ((s.hub i).frame * 8 + (s.hub i).micro)
  s.showMirror i

/-- An adoption is over without its step (R171): state 4, adopted devices are held again, the former active upstream presents the standby
function. -/
def State.adoptLost (s : State) (i : Image) : State :=
  ((((s.bump (.hold4 i .adoptFailCount)).flag (.hold .holdoverEvents) holdAdoptFail).set (.hold4 i .adoptResult) 2).setHoldState
    i 4).failBack
    i

/-- An adoption fails by a cause on the adopting upstream (R171) (DEDUCED, log 34). -/
def State.adoptFail (s : State) (i : Image) (cause : Nat) : State :=
  ((s.set (.hold4 i .holdoverEntryCause) cause).set (.hold4 i .holdoverEntryTime) s.now).adoptLost i

/-- A cause of R145 holds on an image, or R336 directs it there: what it does depends on the state (R146, R147). An intent written in the
cycle of cause 3 loses to it, and cause 1 wins over cause 3 of its cycle (R146) (DESIGN CHOICE, log 82). -/
def State.hostLoss (s : State) (i : Image) (cause : Nat) : State :=
  let st := s.holdState i
  let h := s.hub i
  if st = 1 ∨ st = 2 then
    let s := if cause = 3 ∧ st = 2 then s.bump (.hold .suspendIntentLapseCount) else s
    let s := if !s.alone then
        s.broadcast 4 i.val (.sync (.holdEntry i cause s.now (h.lastSof % 2 ^ 32) (h.frame * 8 + h.micro)))
      else s
    (s.holdEntry i cause s.now (h.lastSof % 2 ^ 32) (h.frame * 8 + h.micro)).modHold i fun h =>
      { h with lossAt := if cause = 3 then some s.time.elapsed else none }
  else if st = 3 ∧ cause ≠ 3 then
    let s := (s.set (.hold4 i .holdoverEntryCause) cause).set (.hold4 i .holdoverEntryTime) s.now
    let s := ((s.bump (.hold4 i .holdoverCount)).flag (.hold .holdoverEvents) holdDormant).setHoldState i 5
    s.takeHeld i s.now
  else if st = 4 ∧ cause = 1 ∧ (s.hold i).lossAt = some s.time.elapsed then
    (s.set (.hold4 i .holdoverEntryCause) 1).modHold i fun h => { h with lossAt := none, tell := true }
  else if st = 6 ∧ cause ≠ 3 ∧ cause ≠ 4 then s.adoptFail i cause
  else s

/-- Active hold-over begins on a facet as hold-over leaves state 5: the entry sequence from step 3 (R147), on the grid of the host's last
SOF (R149). -/
def State.activateWoken (s : State) (i : Image) : State :=
  let h := s.hub i
  ((s.modHold i fun h => { h with waking := false }).endIntent i).activate i (s.get (.hold4 i .holdoverEntryTime)) s.extended h.lastSof
    (h.frame * 8 + h.micro)

/-- Hold-over leaves state 5 (R147). -/
def State.wakeHold (s : State) (i : Image) : State :=
  ((s.setHoldState i 4).flag (.hold .holdoverEvents) holdEnter).activateWoken i

/-- Resume of the held ports that a facet has of a dormant image (R147): 20 ms on each; the last one to end begins active hold-over there.
A facet that holds none waits for those that do (DEDUCED, log 33). -/
def State.startWake (s : State) (i : Image) : State :=
  if (s.hold i).waking then s
  else
    let ps := (s.logicalPorts i).filterMap fun m =>
      match s.place i m with
      | .own p => if s.heldPort i m && s.portOn p then some p else none
      | _ => none
    let s := s.forEach ps fun s p =>
      ((s.setPst p 6).modPort p fun x => { x with wakeGlobal := !x.status.testBit psSuspend, globalSusp := false }).emit
        (.line p .resumeK)
    if !ps.isEmpty then s.modHold i fun h => { h with waking := true }
    else if (s.logicalPorts i).any fun m => s.heldPort i m then s
    else s.wakeHold i

/-- The wake of a dormant image begins on every facet (R147): `m` is the port whose device asked, 0 for `HoldoverCommand` 4. -/
def State.callWake (s : State) (i : Image) (m : Nat) : State :=
  let s := s.startWake i
  if s.alone then s else s.broadcast 4 i.val (.sync (.wakeK i m))

/-- Every held port of a dormant image has resumed (DEDUCED, log 33). -/
def State.checkWake (s : State) (i : Image) : State :=
  if (s.hold i).waking && s.holdState i == 5 && (s.ownPorts i).all fun p => s.pst p != 6 then s.wakeHold i else s

/-- Held ports of an abandoned image are treated as R35 gives for an unarmed image (R147). -/
def State.abandonPorts (s : State) (i : Image) : State :=
  let s := s.forEach (s.logicalPorts i) fun s m =>
    if s.keeps i m then
      match s.place i m with
      | .own p => (s.powerOff p).modPort p fun x => { x with change := 0, changeNew := 0 }
      | _ => s.dropHeld i m
    else s
  (s.modHold i fun h => { h with started := false, waking := false, blocked := false }).endIntent i

/-- The image is abandoned (R147). -/
def State.abandonHold (s : State) (i : Image) : State := (s.abandonPorts i).tellHold i 1 10

/-! ### Adoption (R160 to R169) -/

/-- The image's translation table on this facet is emptied; the records keep each device's address (R161). -/
def State.clearXlate (s : State) (i : Image) : State :=
  s.forEach ((List.range 128).filter fun a => (s.entry i a).isSome) fun s a => (s.setEntry i a none).setDevice i a {}

/-- The image's translation tables are emptied on every facet (R35). -/
def State.emptyXlate (s : State) (i : Image) : State :=
  s.forEach ((List.range 128).filter fun a => (s.entry i a).isSome) fun s a => (s.putEntry i a none).setDevice i a {}

/-- What every facet does as an adoption starts (R161 step 1): the records stand at the first state of R163, the translation table is
emptied, and the relay between the former entry facet and the ports begins afresh. -/
def State.adoptReset (s : State) (i : Image) (mirror : Bool) : State :=
  let s := s.forEach (s.logicalPorts i) fun s m =>
    if s.heldPort i m then
      s.modRecord i m fun r => { r with stage := .held, adopted := false, resets := 0, divergent := false, seamless := false }
    else s
  let mine := s.ownPorts i
  let s := ({ s with relayEps := s.relayEps.filter fun e => decide (e.1.1 ≠ i),
                     ownEps := s.ownEps.filter fun e => !mine.contains e.1.1 }).clearXlate i
  let s := (s.endIntent i).modHold i fun h =>
    { h with viaMirror := mirror, attached := false, configured := false, stepDue := false, blocked := false, recalled := false,
             recallSofs := 0, waking := false }
  if mirror then
    let s := match s.mirrorUp i with
      | some u => s.present u .nothing
      | none => s
    match s.activeUp i with
    | some u => s.present u .nothing
    | none => s
  else s

/-- Adoption starts on the mirror or on the active upstream (R160, R161 step 1). -/
def State.startAdoption (s : State) (i : Image) (mirror : Bool) : State :=
  let s := (s.tellHold i 6 (if mirror then 7 else 6)).flag (.hold .holdoverEvents) holdAdoptStart
  ((s.set (.hold4 i .adoptResult) 3).set (.hold4 i .adoptDivergentPorts) 0).adoptReset i mirror

/-- A facet asks every other member for what it cannot know (R22, R170, R420), tells which images it is adopting, and as an entry facet how
its images are armed (R143) (DEDUCED, log 94). -/
def State.fetchRecords (s : State) : State :=
  let s := s.forEach ((List.finRange 4).filter fun i => s.entryHere i) fun s i => s.broadcast 4 i.val (.sync (.arm i (s.armed i)))
  s.broadcast 4 0 (.sync (.recordFetch ((List.finRange 4).foldl (fun n i => n + 2 ^ i.val * boolNat (s.holdState i == 6)) 0)))

/-- The standby function of a mirror on this facet is attached and configured (R160). -/
def State.standbyReady (s : State) (u : Upstream) : Bool := (s.up u).presents == .standby && (s.up u).standby.config == 1

/-- A command to adopt overtakes an upstream reset of its cycle (R160) (DESIGN CHOICE, log 82). -/
def State.overtakes (s : State) (i : Image) : Bool :=
  s.holdState i == 6 && !(s.hold i).viaMirror && (s.hold i).resetAt == some s.time.elapsed

/-- The mirror that an adoption would use is detached or not configured (R160). -/
def State.mirrorRefuses (s : State) (i : Image) : Bool :=
  match s.mirrorUp i with
  | some u => !s.standbyReady u
  | none => !(bitField (s.mirrorByte i) 7 7 == 1 && s.reachable (s.memberAt (s.mirrorByte i % 16)) && (s.hold i).mirrorReady)

/-- The refusal code of an adoption command, 0 when it is accepted (R160). -/
def State.adoptRefusal (s : State) (i : Image) : Nat :=
  if !s.enabled i then 4
  else if s.holdState i = 0 then 1
  else if s.holdState i = 6 ∧ !s.overtakes i then 2
  else if s.mirrorRefuses i then 3
  else 0

/-- Every held port has been adopted (R169). -/
def State.adoptionDone (s : State) (i : Image) : Bool := (s.logicalPorts i).all fun m => !s.heldPort i m

/-- A device's adoption completes (R168), and with it the port leaves hold-over (R150); its slots stop at the next frame boundary. -/
def State.adoptDevice (s : State) (i : Image) (m : Nat) (divergent : Bool) : State :=
  let s := (s.moveRecord i m fun r =>
    { r with adopted := true, adoptTime := s.now, stage := .adopted, divergent := r.divergent || divergent, stopping := true }).setHeld
      i m false
  if s.adoptionDone i then s.modHold i fun h => { h with stepDue := true } else s

/-- A held port is flagged divergent (R166). -/
def State.diverge (s : State) (i : Image) (m : Nat) : State :=
  let s := (s.moveRecord i m fun r => { r with divergent := true }).modHold i fun h => { h with tell := true }
  ((s.setRegBit (.hold4 i .adoptDivergentPorts) (m - 1) true).raise 35 (256 * i.val + m)).flag (.hold .holdoverEvents) holdDiverge

/-- The toggle that the host side of a relayed endpoint is at: the next one it sends or expects (R132). -/
def RelayEp.hostSide (x : RelayEp) (dirIn : Bool) : Bool := if dirIn then x.hostToggle else x.lastOut.any fun t => !t

/-- Flip bits of a port that becomes direct at the step: host side XOR device side of each endpoint (R167). At a recall the host side is
as it was at entry (R172); a device that splits have served has its flip bits from its adoption on. -/
def State.flipBits (s : State) (i : Image) (m a : Nat) (recalled : Bool) : State :=
  let r := s.record i m
  let split := !recalled && r.viaTt && !s.fullSpeed i
  let bits := fun (dirIn : Bool) => (List.range 16).foldl (fun v e =>
    if e = 0 then v
    else if split then setBit v e ((if dirIn then r.flipIn else r.flipOut).testBit e)
    else
      let host := if recalled then (if dirIn then r.hostIn else r.hostOut).testBit e else (s.relayEp i a e dirIn).hostSide dirIn
      let dev := (if dirIn then r.inToggle else r.outToggle).testBit e
      setBit v e (host != dev)) 0
  let fi := bits true
  let fo := bits false
  let s := s.modRecord i m fun r => { r with flipIn := fi, flipOut := fo }
  match s.entry i a with
  | some x => s.putEntry i a (some { x with toggle := fi != 0 || fo != 0 })
  | none => s

/-- A port leaves hold-over at the step: it is served by R122 again (R169). -/
def State.stepPort (s : State) (i : Image) (m : Nat) (recalled : Bool) : State :=
  let r := s.record i m
  let s := s.stopSlots i m
  let s := match s.place i m with
    | .own p =>
      if s.entryHere i then
        let s := s.flipBits i m r.hostAddr recalled
        (({ s with relayEps := s.relayEps.filter fun e => !(e.1.1 == i && e.1.2.1 == r.hostAddr) }).dropOwn p).setPs p psPower true
      else s
    | _ => s
  (s.setHeld i m false).modRecord i m fun r =>
    { r with stopping := false, slotsOff := false, stage := .held, resets := 0, alone := false }

/-- Slots of adopted ports stop at a frame boundary (R163, R168). A port that was held alone is served by R122 again from there on
(DEDUCED, log 34). -/
def State.frameBoundary (s : State) (i : Image) : State :=
  s.forEach ((s.logicalPorts i).filter fun m => (s.record i m).stopping) fun s m =>
    if s.holdState i = 6 then (s.stopSlots i m).modRecord i m fun r => { r with stopping := false, slotsOff := true }
    else s.stepPort i m false

/-- What every facet does at the image step (R169), for an adoption or a recall (R172): ports that were not adopted stay held alone. -/
def State.stepPorts (s : State) (i : Image) (recalled : Bool) : State :=
  let s := s.forEach (s.logicalPorts i) fun s m =>
    if s.keeps i m then
      (if recalled || (s.record i m).stage == .adopted then s.stepPort i m recalled
       else s.modRecord i m fun r => { r with slotsOff := false, alone := true })
    else s
  let far := (s.logicalPorts i).any fun m => s.heldPort i m && (s.get (.image i .imageApertureOut)).testBit (m - 1)
  let h := s.hold i
  let swap := h.viaMirror && !recalled
  let s := s.endIntent i
  let s := if swap then s.set (.hold4 i .holdoverRolesSwapped) (boolNat (s.swappedRoles i)) else s
  s.modHold i fun h =>
    { h with stepDue := false, recalled := false, recallSofs := 0, started := h.started && far, viaMirror := false, attached := false,
             exchanged := if swap then false else h.exchanged }

/-- The image step (R169), for an adoption or a recall (R172). -/
def State.imageStep (s : State) (i : Image) : State :=
  let recalled := (s.hold i).recalled
  let s := if s.holdState i = 6 then
      ((s.set (.hold4 i .adoptResult) 1).bump (.hold4 i .adoptCount)).flag (.hold .holdoverEvents) holdAdoptDone
    else s.flag (.hold .holdoverEvents) holdRecall
  (((s.stepPorts i recalled).setHoldState i 1).showMirror i)

/-- The port of an image that the address-0 token goes to in adoption (R165): the one whose reset completed last among those
without a host address, and whether another such port waits (DEDUCED, log 27). -/
def State.addr0Ports (s : State) (i : Image) : List Nat :=
  let free := (s.logicalPorts i).filter fun m =>
    decide (0 < (s.record i m).resetOrder) &&
      (if s.keeps i m then (s.record i m).stage == .absorbed
       else !((List.range 128).any fun a => (s.entry i a).any fun x => x.port == m))
  sortBy (fun a b => decide ((s.record i b).resetOrder ≤ (s.record i a).resetOrder)) free

/-- The port that answers at address 0: in adoption the one of R165; otherwise the one that the host's last token to address 0 has been told
to reach, which may already have an entry, as the port of an external hub has (R49, R54), and with none told the one whose reset completed
last (DEDUCED, log 27). -/
def State.addr0Port (s : State) (i : Image) : Option Nat :=
  if s.holdState i = 6 ∨ (s.hub i).port0 = 0 then (s.addr0Ports i).head? else some (s.hub i).port0

/-! ### The HS engine (R21, R63, R64) -/

/-- The ports whose non-periodic buffers a port of an image shares: all of the image's while it presents a single TT (R56). -/
def State.ttPorts (s : State) (i : Image) (m : Nat) : List Port :=
  if (s.get (.hub .singleTtImages)).testBit i.val then s.ownPorts i
  else
    match s.place i m with
    | .own p => [p]
    | _ => []

/-- Non-periodic transactions in use: of the port's four buffers, or of the image's one set of four (R55, R56). -/
def State.ttInUse (s : State) (i : Image) (m : Nat) : Nat :=
  ((s.ttPorts i m).map fun p => (s.port p).tt.buffers.length + (s.port p).tt.done.length).sum

/-- Bytes in a translator's periodic start-split pipeline (R55). -/
def TtRt.startBytes (t : TtRt) : Nat := (t.pipeline.map fun q => q.data.length).sum

/-- Room in a port's translator for one more transaction (R55): 2 KiB of periodic start-splits, or one of four buffers of 128 bytes.
(DESIGN CHOICE, log 28) -/
def State.ttRoom (s : State) (i : Image) (m : Nat) (p : Port) (periodic : Bool) (bytes : Nat) : Bool :=
  if periodic then decide ((s.port p).tt.startBytes + bytes ≤ 2048) else decide (bytes ≤ 128 ∧ s.ttInUse i m < 4)

/-- A port that its own translator drives: the device runs at full or low speed (R63). -/
def State.viaTt (s : State) (p : Port) : Bool := s.get (.port p .portSpeed) == 1 || s.get (.port p .portSpeed) == 2

/-- A transaction may start now: its port is awake (R37, R58), and on an FS or LS port the translator has room for its split (R55, R63).
(DEDUCED, log 84) -/
def State.mayRun (s : State) (x : Xact) : Bool :=
  s.awake x.port && (!s.viaTt x.port || match s.logicalOf x.port with
    | some (i, m) => s.ttRoom i m x.port (x.epType == 2) x.data.length && !(s.port x.port).tt.stopped
    | none => false)

/-- The first free context. -/
def State.freeContext (s : State) : Option Nat := (List.range 4).find? fun n => (s.context n).isNone

/-- Which class of work a transaction belongs to (R21, R155): entry actions, slots, launches, relay. -/
def Requester.rank : Requester → Nat
  | .entryAction _ => 0
  | .slot _ => 1
  | .launch _ => 2
  | .relay _ _ _ => 3

/-- Order within a class: entry number, then arrival; relay goes round-robin by image number (R21). -/
def Requester.order (last : Nat) : Requester → Nat
  | .entryAction j => j
  | .slot j => j
  | .launch _ => 0
  | .relay i _ _ => (i + 3 - last) % 4

/-- The work that is granted next: the first in order of what may start. -/
def State.nextWork (s : State) : Option Xact :=
  (s.waiting.filter s.mayRun).foldl (fun best x =>
    match best with
    | none => some x
    | some b =>
      if x.who.rank < b.who.rank ∨ (x.who.rank = b.who.rank ∧ x.who.order s.lastImage < b.who.order s.lastImage) then some x else some b)
    none

/-- A relay request found no free context: counted once in each micro-frame (R21). A micro-frame begins for the count with any SOF, missing
SOF or grid boundary of an image that runs on the facet, so that one wait may count once for each image (DEDUCED, log 29). -/
def State.noteWait (s : State) : State :=
  if !s.engineMissed && s.freeContext.isNone && s.waiting.any fun x => x.who.rank == 3 then
    { s.bump (.hub .hsEngineWaitCount) with engineMissed := true }
  else s

/-- A hold-over occurrence pauses: its stream has no room (R157); PAUSE is flagged at the stream's first pause (DEDUCED, log 36). -/
def State.pauseSlot (s : State) (j : Nat) (e : SlotEntry) (size : Nat) : State :=
  let s := s.bump (.hold .holdoverPauseCount)
  let s := if (s.stream e.target).paused then s else s.flag (.hold .holdoverEvents) holdPause
  ((s.modStream e.target fun x => { x with paused := true }).setFull e.target size).modSlot j fun x =>
    { x with waiting := false, running := false }

/-- The split by which a context's transaction runs on an FS or LS port (R63). -/
def Xact.split (x : Xact) (n : Nat) : TtSplit :=
  { addr := x.addr, ep := x.ep, dirIn := x.dirIn, setup := x.setup, iso := false, micro := 0, toggle := x.toggle, data := x.data,
    remote := none, engine := some n }

/-- A translator without the splits of a context. -/
def TtRt.release (t : TtRt) (n : Nat) : TtRt :=
  { t with pipeline := t.pipeline.filter fun q => decide (q.engine ≠ some n),
           buffers := t.buffers.filter fun q => decide (q.engine ≠ some n) }

/-- A context takes a transaction and starts it: on the wire, or on an FS or LS port as a split through the port's own translator (R63).
(DEDUCED, log 84) -/
def State.startContext (s : State) (n : Nat) (x : Xact) : State :=
  let s := s.setContext n (some x)
  if s.viaTt x.port then
    (s.modPort x.port fun y =>
      let t := y.tt.release n
      { y with tt := if x.epType = 2 then { t with pipeline := t.pipeline ++ [x.split n] }
          else { t with buffers := t.buffers ++ [x.split n] } }).emit
      (.ttSplit x.port x.addr x.ep)
  else
    let s := (s.emit (.engine n x)).spoil (placePort x.port)
    if x.dirIn ∨ x.ping then s else s.spoil (placePort x.port)

/-- A split of the engine was discarded with its translator's buffers: its transaction waits again (DEDUCED, log 84). -/
def State.requeue (s : State) (p : Port) : State :=
  if s.viaTt p then
    s.forEach (List.range 4) fun s n =>
      match s.context n with
      | some x =>
        if x.port = p ∧ !((s.port p).tt.pipeline ++ (s.port p).tt.buffers).any fun q => q.engine == some n then
          let s := { s.setContext n none with waiting := s.waiting ++ [x] }
          match x.who with
          | .slot j => s.modSlot j fun y => { y with running := false, waiting := true }
          | .entryAction j => s.modSlot j fun y => { y with running := false, waiting := true }
          | _ => s
        else s
      | none => s
  else s

/-- Some entry of the table that an image runs captures into a stream. -/
def State.targeted (s : State) (i : Image) (n : Nat) : Bool :=
  (List.range 256).any fun j => let e := s.slotEntry i.val j; e.valid && e.image == i.val && e.action == 1 && e.target == n

/-- A slot that ran on under the table its image has left is done (R151): its record closes when the stream is no longer a target (R182). -/
def State.slotLeaves (s : State) (j : Nat) : State :=
  if (s.slot j).left then
    let e := slotOfWord (s.slot j).word
    let s := s.setSlot j {}
    if e.action = 1 ∧ !s.targeted (imageOf e.image) e.target then s.truncateRecord e.target else s
  else s

/-- A launch's transaction begins on the wire (R235). -/
def State.launchBegins (s : State) (tag : Nat) : State :=
  { s with time := { s.time with launches := s.time.launches.map fun (q : Launch) =>
      if q.tag = tag then { q with attempts := q.attempts + 1, started := s.now } else q } }

/-- Grants one context to the work that is first in order (R21); a slot that captures needs room at the grant, and a later transaction of
its burst that finds none ends the burst, without a pause (R157, R158, R183). -/
def State.grant (s : State) : State :=
  match s.freeContext, s.nextWork with
  | some n, some x =>
    let s := { s with waiting := s.waiting.erase x }
    match x.who with
    | .slot j =>
      let e := slotOfWord (s.slot j).word
      if e.action = 1 then
        let size := 16 + padded x.maxPacket
        if s.fits e.target size then
          (s.startContext n x).modSlot j fun y => { y with waiting := false, running := true }
        else if (s.slot j).burst ≠ 0 then (s.modSlot j fun y => { y with waiting := false, running := false }).slotLeaves j
        else s.pauseSlot j e size
      else (s.startContext n x).modSlot j fun y => { y with waiting := false, running := true }
    | .entryAction j => (s.startContext n x).modSlot j fun y => { y with waiting := false, running := true }
    | .relay i _ _ => { s.startContext n x with lastImage := i }
    | .launch tag => (s.startContext n x).launchBegins tag
  | _, _ => s.noteWait

/-- Work becomes ready for the engine; a free context takes it at once in the order of R21. -/
def State.submit (s : State) (x : Xact) : State := ({ s with waiting := s.waiting ++ [x] }).grant

/-- Grants contexts while work and contexts are left. -/
def State.grantAll (s : State) : State := s.grant.grant.grant.grant

end Sys2Proof.Machine
end

