-- ==== Sys2Proof/Machine/Time.lean ====
section
/-! DEFINITION. Prism time (R208 to R236): the counter, the focal facet, the echo exchange and the servo, PPS, the SOF time table,
timed launches, and the aperture that latencies bound (R137 to R139). -/

namespace Sys2Proof.Machine

/-! ### The counter (R208 to R212) -/

/-- F at the clamp: ±200 ppm in units of 2⁻¹⁶ ppb (R209). -/
abbrev freqLimit : Int := 200000 * 65536

/-- The increment in use, in 2⁻³² ns (R208, R209): the nominal 0x215555555 × (1 + F × 10⁻⁹). -/
def State.increment (s : State) : Nat :=
  (0x215555555 * (65536 * 1000000000 + s.time.freq) / (65536 * 1000000000)).toNat

/-- The counter wraps (R212). -/
def State.wrapTime (s : State) : State :=
  let s := (s.bump (.time .timeWrapCount)).flag (.time .timeEvents) timeWrap
  s.raise 62 (s.get (.time .timeWrapCount))

/-- The counter advances by an amount in 2⁻³² ns. -/
def State.advanceTime (s : State) (amount : Nat) : State :=
  let total := s.time.ns * 2 ^ 32 + s.time.frac + amount
  let s := { s with time := { s.time with ns := total / 2 ^ 32 % 2 ^ 32, frac := total % 2 ^ 32 } }
  if 2 ^ 64 ≤ total then s.wrapTime else s

/-- F changes (R209): clamped to ±200 ppm, with FREQ_CLAMP and TIME_SERVO while it stands at the clamp. -/
def State.setFreq (s : State) (f : Int) : State :=
  let c := max (-freqLimit) (min freqLimit f)
  let s := ({ s with time := { s.time with freq := c } }).setInt (.time .timeFreqAdj) (c / 256)
  if c = freqLimit ∨ c = -freqLimit then
    (s.flag (.time .timeEvents) timeFreqClamp).raiseLive 46 (s.get (.time .servoState))
  else if s.get (.time .servoState) = 4 then s else s.endLive 46

/-- One edge of the clock in use: TIME, or XO with 19.2 times the increment while the PLL is not locked (R208, R210). With neither, the
counter stands, and the power die's own oscillator goes on (R14, R17). (DESIGN CHOICE, log 4) -/
def State.clockEdge (s : State) : State :=
  if s.time.pll then
    ({ s with time := { s.time with elapsed := s.time.elapsed + 5 } }).advanceTime s.increment
  else
    let t : State := { s with time := { s.time with elapsed := s.time.elapsed + 96 } }
    if s.domains.xo then t.advanceTime (s.increment * 192 / 10) else t

/-- Distance ahead of the counter, modulo 2³² (R226, R233). -/
def State.ahead (s : State) (t : Nat) : Nat := (t + 2 ^ 32 - s.now) % 2 ^ 32

/-! ### The SOF time table and the step log (R228, R229) -/

def State.sofRow (s : State) (r : Nat) : SofRow := Table.get {} s.time.rows r

/-- A row is rewritten at an SOF of micro-frame 0, or at a full-speed SOF or keep-alive (R228). -/
def State.writeRow (s : State) (r stamp source image : Nat) : State :=
  let x := s.sofRow r
  let row : SofRow := { stamp := stamp % 16384, source := source, image := image, time := s.now,
                        past := (s.now :: x.past).take 9, stepSeq := x.stepSeq }
  { s with time := { s.time with rows := Table.put id {} s.time.rows r row } }

/-- Micro-frame period of a row in ps over the frames it holds (R228) (DESIGN CHOICE, log 42). -/
def SofRow.period (x : SofRow) : Nat :=
  match x.past with
  | [] => 0
  | t :: _ => if x.past.length < 2 then 0 else (t + 2 ^ 32 - x.past.getLast?.getD t) % 2 ^ 32 * 1000 / (8 * (x.past.length - 1))

/-- `SofTable` as bytes (R228) (DEDUCED, log 36). -/
def State.sofTable (s : State) : List Byte :=
  (List.range 18).flatMap fun r =>
    let x := s.sofRow r
    bytesBe 2 x.stamp ++ [byteOf x.source, byteOf (x.image % 4)] ++ bytesBe 4 x.time ++ bytesBe 4 x.period ++ bytesBe 2 x.stepSeq ++
      [0, 0]

/-- Writes a step log entry (R229), and the StepSeq of the rows it changed. -/
def State.logStep (s : State) (kind image time before after : Nat) (phase : Int) (rows : List Nat) : State :=
  let q := if s.time.stepSeq = 65535 then 1 else s.time.stepSeq + 1
  let i := s.get (.launch .sofStepLogIndex)
  let b := bytesBe 2 q ++ [byteOf kind, byteOf (image % 4)] ++ bytesBe 4 time ++ bytesBe 2 (before % 16384) ++
    bytesBe 2 (after % 16384) ++ bytesBe 4 (ofSigned 32 phase)
  let s := { s with time := { s.time with stepSeq := q, log := Table.put id [] s.time.log i b } }
  let s := s.set (.launch .sofStepLogIndex) ((i + 1) % 16)
  s.forEach rows fun s r =>
    { s with time := { s.time with rows := Table.put id {} s.time.rows r { s.sofRow r with stepSeq := q } } }

/-- Rows of the ports of this facet that receive SOF as ports of an image (R228). -/
def State.imageRows (s : State) (i : Image) : List Nat := ((s.ownPorts i).filter fun p => s.awake p).map Fin.val

/-- The count of the last SOF of an image: the grid's in hold-over, otherwise the host's (R149, R229). -/
def State.imageCount (s : State) (i : Image) : Nat :=
  if (s.hold i).started && (s.holdState i == 4 || s.holdState i == 6) then (s.hold i).count else (s.hub i).frame * 8 + (s.hub i).micro

/-- The first SOF of an image after a step of the counter gives the step log entries that wait for it their time and their frame
(R229). -/
def State.firstSof (s : State) (i : Image) (count : Nat) : State :=
  let mine := s.time.open_.filter fun e => e.2 == i.val
  if mine.isEmpty then s
  else
    let put := fun (log : Table Nat (List Byte)) (e : Nat × Nat) =>
      let b := Table.get [] log e.1
      Table.put id [] log e.1 (b.take 4 ++ bytesBe 4 s.now ++ (b.drop 8).take 2 ++ bytesBe 2 (count % 16384) ++ b.drop 12)
    { s with time := { s.time with log := mine.foldl put s.time.log, open_ := s.time.open_.filter fun e => e.2 != i.val } }

/-- The counter steps (R220, R236): traced in the step log on a facet that sends SOF for an image, with the time and the frame of the first
SOF after the step, which completes the entry (R229). -/
def State.stepCounter (s : State) (d : Int) (first : Bool) : State :=
  let ns := ofSigned 32 ((s.time.ns : Int) + d)
  let s := { s with time := { s.time with ns := ns } }
  if first then s
  else
    let s := (s.bump (.time .timeStepCount)).setInt (.time .timeLastStep) d
    let s := (s.flag (.time .timeEvents) timeStep).raise 46 (s.get (.time .servoState))
    s.forEach ((List.finRange 4).filter fun i => !(s.imageRows i).isEmpty && s.enabled i) fun s i =>
      let c := s.imageCount i
      let at_ := s.get (.launch .sofStepLogIndex)
      let t := s.logStep 4 i.val s.now c (c + 1) d (s.imageRows i)
      { t with time := { t.time with open_ := (at_, i.val) :: t.time.open_.filter fun e => e.1 != at_ } }

/-! ### Focal (R214 to R216) -/

def State.ppsValid (s : State) : Bool := s.get (.pps .ppsInState) == 2

/-- The better of two focal candidates (R214). -/
def Announce.better (a b : Announce) : Bool :=
  decide (a.prio < b.prio) || (a.prio == b.prio && ((a.pps && !b.pps) || (a.pps == b.pps && decide (a.uid < b.uid))))

/-- This facet as a candidate. -/
def State.ownAnnounce (s : State) : Announce :=
  { uid := s.ident.uniqueId, prio := s.get (.time .focalPriority), pps := s.ppsValid, steps := 0 }

/-- The focal chosen among the facet itself and what is announced on up links (R214). -/
def State.bestFocal (s : State) : Announce :=
  (List.finRange 4).foldl (fun best k =>
    match (s.echo k).ann with
    | some a =>
      if s.get (.link k .linkState) = 3 ∧ a.steps < 15 ∧ a.uid ≠ s.ident.uniqueId then
        (if a.uid = best.uid then (if a.steps + 1 < best.steps then { a with steps := a.steps + 1 } else best)
         else if a.better best then { a with steps := a.steps + 1 } else best)
      else best
    | none => best) s.ownAnnounce

/-- The time parent: the first link of the primary route to the focal facet (R220). -/
def State.parentLink (s : State) : Nat :=
  let f := s.get (.time .focalId)
  if f = s.ident.uniqueId then 0xFF else (s.routeTo f).elim 0xFF fun r => r.first

/-- A facet that holds becomes the focal (R221): it lacks no reference any longer, and TIME_SERVO goes on only while F stands at the clamp
(R209). -/
def State.endHolding (s : State) : State :=
  if s.get (.time .servoState) = 4 ∧ s.time.freq ≠ freqLimit ∧ s.time.freq ≠ -freqLimit then s.endLive 46 else s

/-- The focal is chosen again (R214, R215, R221). -/
def State.chooseFocal (s : State) : State :=
  let b := s.bestFocal
  let old := s.get (.time .focalId)
  let s := (s.set (.time .focalStepsRemoved) b.steps).set (.time .focalIndex)
    (if (s.slotOf b.uid).isSome then s.indexOf b.uid else if s.alone ∧ b.uid = s.ident.uniqueId then s.ownIndex else 0xFF)
  let s := if b.uid = old then s
    else
      let s := ((s.set (.time .focalId) b.uid).bump (.time .focalChangeCount)).flag (.time .timeEvents) timeFocalChange
      let s := { s with time := { s.time with focalAt := some s.time.elapsed } }
      if b.uid = s.ident.uniqueId then
        let s := s.endHolding
        ({ s with time := { s.time with base := s.time.freq, integral := 0 } }).set (.time .servoState) 0
      else if old = s.ident.uniqueId then
        (if s.time.stepped then
          ({ s with time := { s.time with base := s.time.freq, integral := 0, good := 0 } }).set (.time .servoState) 2
         else s.set (.time .servoState) 1)
      else s
  s.set (.time .timeParentLink) s.parentLink

/-! ### The servo (R220, R221) -/

/-- `TimeStoredFreq` in 2⁻¹⁶ ppb, 0 when none is stored (R220, R222) (DEDUCED, log 58). -/
def State.storedFreq (s : State) : Int :=
  if s.get (.time .timeStoredFreq) = 0x80000000 then 0 else s.getInt (.time .timeStoredFreq) * 256

/-- A gain times an error in ps: 2⁻¹⁶ ppb per ns (DESIGN CHOICE, log 42). -/
def gain (k : Nat) (ps : Int) : Int := (k : Int) * ps / 1000

/-- The PI law (R220, R224) (DESIGN CHOICE, log 42). -/
def State.piLaw (s : State) (kp ki : Nat) (ps : Int) : State :=
  let i := s.time.integral + gain ki ps
  ({ s with time := { s.time with integral := i } }).setFreq (s.time.base - (gain kp ps + i))

/-- A new offset θs from the time parent, in ps (R220, R221) (DESIGN CHOICE, log 42). -/
def State.servoUpdate (s : State) (ps : Int) : State :=
  let st := s.get (.time .servoState)
  if st = 0 ∨ !s.time.pll then s
  else
    let s := s.setInt (.time .servoOffset) ps
    let far := (s.get (.time .timeStepThreshold) : Int) * 1000 < ps.natAbs
    let s := if st = 1 ∨ far then
        let s := s.stepCounter (-(ps / 1000)) (st = 1)
        ({ s with time := { s.time with integral := 0, base := s.storedFreq, stepped := true } }).setFreq s.storedFreq
      else s.piLaw (s.get (.time .servoKp)) (s.get (.time .servoKi)) ps
    let near := decide (ps.natAbs ≤ 50000)
    if st = 1 then ({ s with time := { s.time with good := 0, bad := 0 } }).set (.time .servoState) 2
    else if st = 4 then
      (((({ s with time := { s.time with good := 0, bad := 0 } }).set (.time .servoState) 2).flag (.time .timeEvents)
        timeRefBack)).setFreq s.time.freq
    else if st = 2 then
      let g := if near then s.time.good + 1 else 0
      if 100 ≤ g then
        (({ s with time := { s.time with good := 0, bad := 0 } }).set (.time .servoState) 3).flag (.time .timeEvents) timeLocked
      else { s with time := { s.time with good := g } }
    else
      let b := if near then 0 else s.time.bad + 1
      if 10 ≤ b then ({ s with time := { s.time with good := 0, bad := 0 } }).set (.time .servoState) 2
      else { s with time := { s.time with bad := b } }

/-! ### Aperture (R137 to R139) -/

/-- Latency between the entry and the owning facet of a port that concerns this facet, in ps; none without a route. -/
def State.pathLatency (s : State) (i : Image) (m : Nat) : Option Nat :=
  match s.place i m with
  | .remote slot _ => (s.routeTo (s.memberAt slot)).map fun r => r.cost
  | .own _ => if s.entryHere i then some 0 else (s.routeTo (s.memberAt (s.activeByte i % 16))).map fun r => r.cost
  | _ => some 0

/-- The facet at the far end of a logical port's path as this facet sees it: the owning facet of another one's port, the entry facet of its
own. -/
def State.farFacet (s : State) (i : Image) (m : Nat) : Nat :=
  match s.place i m with
  | .remote slot _ => s.memberAt slot
  | .own _ => if s.entryHere i then s.ident.uniqueId else s.memberAt (s.activeByte i % 16)
  | _ => s.ident.uniqueId

/-- The facet at the far end of a relayed port is gone or has withdrawn. -/
def State.farGone (s : State) (i : Image) (m : Nat) : Bool :=
  let uid := s.farFacet i m
  uid != s.ident.uniqueId && (s.ring.withdrawn.contains uid || !s.reachable uid)

/-- APERTURE_EXCEED is live while a port is outside. -/
def State.apertureLive (s : State) (i : Image) (m : Nat) : State :=
  if (List.finRange 4).any fun j => s.get (.image j .imageApertureOut) != 0 then s.raiseLive 39 (256 * i.val + m) else s.endLive 39

/-- The map of an image has changed: its evaluations begin afresh, and APERTURE_EXCEED ends when no port is outside (R121, R139). -/
def State.apertureOver (s : State) (i : Image) : State :=
  let s := s.modHold i fun h => { h with goodEvals := [], overOnce := 0 }
  if (List.finRange 4).any fun j => s.get (.image j .imageApertureOut) != 0 then s else s.endLive 39

/-- The adoption of a held port starts again (R171). -/
def State.adoptAgain (s : State) (i : Image) (m : Nat) : State :=
  if s.keeps i m then
    (s.modRecord i m fun r =>
      { r with stage := .held, adopted := false, resets := 0, slotsOff := false, stopping := false }).setHeld i m true
  else s

/-- A port of this facet is held in hold-over alone (R139, R156): its slots begin, and its grid runs from the host's last SOF. Its record
stands where the entry facet has emptied the table first. -/
def State.holdAlone (s : State) (i : Image) (m : Nat) (p : Port) : State :=
  if s.keeps i m then s.modRecord i m fun r => { r with alone := true }
  else
    let now := s.recordNow i m p
    let r := if now.valid then now else { s.record i m with adoptable := s.pst p == 4 || s.pst p == 5, suspended := s.pst p == 5 }
    if r.valid ∧ r.adoptable then
      let s := (s.setRecord i m { r with entryTime := s.now, adopted := false, divergent := false, alone := true }).setHeld i m true
      let s := if (s.hold i).started then s
        else s.startGrid i s.extended (s.hub i).lastSof ((s.hub i).frame * 8 + (s.hub i).micro)
      s.startPortSlots i m
    else s

/-- A port leaves the aperture (R139): the entry facet's part for a remote port, the owning facet's for its own. -/
def State.leaveAperture (s : State) (i : Image) (m : Nat) : State :=
  let s := (s.setRegBit (.image i .imageApertureOut) (m - 1) true).adoptAgain i m
  let s := (s.bump (.relay .apertureExceedCount)).flag (.relay .relayEvents) relayAperture
  let s := match s.place i m with
    | .remote _ _ =>
      let x := s.remotePort i m
      let s := if x.status.testBit psConn then s.setRemotePort i m { x with change := setBit x.change psConn true } else s
      (s.dropRelay i m).dropEntries i m
    | .own p =>
      if s.armed i then (s.holdAlone i m p).dropOwn p
      else (s.dropOwn p).modPort p fun x => { x with globalSusp := true, suspendedAt := s.time.elapsed }
    | _ => s
  if s.live 39 then s.raise 39 (256 * i.val + m) else s.apertureLive i m

/-- A port returns to the aperture (R139): C_PORT_CONNECTION is set when PORT_CONNECTION changes (R36). -/
def State.rejoinAperture (s : State) (i : Image) (m : Nat) : State :=
  let s := (s.setRegBit (.image i .imageApertureOut) (m - 1) false).flag (.relay .relayEvents) relayAperture
  let s := match s.place i m with
    | .remote _ _ =>
      let x := s.remotePort i m
      if x.status.testBit psConn then s.setRemotePort i m { x with change := setBit x.change psConn true } else s
    | .own p =>
      let s := if s.entryHere i ∧ (s.port p).status.testBit psConn then s.setPc p psConn else s
      if s.heldPort i m then s else s.modPort p fun x => { x with globalSusp := false }
    | _ => s
  s.apertureLive i m

/-- One evaluation of a port's latency (R139): `rerouted` when its route has changed since the one before. -/
def State.evalPort (s : State) (rerouted : Bool) (i : Image) (m : Nat) : State :=
  let limit := s.get (.image i .imageAperture) * 1000000
  let beyond := s.farGone i m || (s.pathLatency i m).all fun c => decide (limit < c)
  let h := s.hold i
  if (s.get (.image i .imageApertureOut)).testBit (m - 1) then
    if beyond then s.setHold i { h with goodEvals := h.goodEvals.filter fun e => e.1 ≠ m }
    else
      let n := (h.goodEvals.find? fun e => e.1 = m).elim 1 fun e => e.2 + 1
      let rest := h.goodEvals.filter fun e => e.1 ≠ m
      if 100 ≤ n then (s.setHold i { h with goodEvals := rest }).rejoinAperture i m
      else s.setHold i { h with goodEvals := rest ++ [(m, n)] }
  else if beyond then
    if rerouted || s.farGone i m || h.overOnce.testBit m then
      (s.setHold i { h with overOnce := setBit h.overOnce m false }).leaveAperture i m
    else s.setHold i { h with overOnce := setBit h.overOnce m true }
  else s.setHold i { h with overOnce := setBit h.overOnce m false }

/-- The route to a facet that a list of routes in use gives. -/
def pathTo (l : List (Nat × List Nat)) (uid : Nat) : Option (List Nat) := (l.find? fun e => e.1 = uid).map Prod.snd

/-- Every relayed port that concerns this facet is evaluated, against the routes in use (R139): the entry facet judges the ports of others,
and a facet its own ports, by the same route, as nothing tells it what the entry facet has found. A port that stands outside when the entry
comes to its own facet is judged there until it returns (DESIGN CHOICE, log 105). -/
def State.evalAperture (s : State) : State :=
  let now := s.paths
  let changed := fun (uid : Nat) => pathTo now uid != pathTo s.ring.paths uid
  let s := s.forEach ((List.finRange 4).filter fun i => s.enabled i) fun s i =>
    s.forEach ((s.logicalPorts i).filter fun m =>
      match s.place i m with
      | .remote _ _ => s.entryHere i
      | .own _ => if s.entryHere i then (s.get (.image i .imageApertureOut)).testBit (m - 1) else bitField (s.activeByte i) 7 7 == 1
      | _ => false) fun s m => s.evalPort (changed (s.farFacet i m)) i m
  { s with ring := { s.ring with paths := now } }

/-- The facet that an image's running adoption is on: the mirror's until it has attached, the entry facet otherwise (R161). -/
def State.adoptingFacet (s : State) (i : Image) : Nat :=
  s.memberAt ((if (s.hold i).viaMirror && !(s.hold i).attached then s.mirrorByte i else s.activeByte i) % 16)

/-- An adoption whose facet is gone has failed (R171). -/
def State.checkAdopting (s : State) : State :=
  s.forEach ((List.finRange 4).filter fun i => s.enabled i) fun s i =>
    let u := s.adoptingFacet i
    if s.holdState i = 6 ∧ u ≠ s.ident.uniqueId ∧ (s.ring.withdrawn.contains u ∨ !s.reachable u) then s.adoptLost i else s

/-- Routes or latencies changed: the aperture, adoptions and the time parent follow. -/
def State.afterRoutes (s : State) : State := s.evalAperture.checkAdopting.set (.time .timeParentLink) s.parentLink

/-! ### Echo (R217 to R219) -/

/-- The signed difference of two 48-bit stamps. -/
def stampDiff (a b : Nat) : Int := signedOf 48 ((a + 2 ^ 48 - b) % 2 ^ 48)

/-- ECHO frames at a millisecond boundary: one on each up link, which `stampEcho` stamps as it leaves (R217, R218). -/
def State.cmdEchoSend (s : State) : State :=
  if !s.domainOn 6 then s
  else
  s.forEach ((List.finRange 4).filter fun k => s.get (.link k .linkState) = 3 ∨ s.get (.link k .linkState) = 6) fun s k =>
    let x := s.echo k
    let seq := (x.seq + 1) % 2 ^ 32
    let (rseq, rlast) := x.last.getD (0, 0)
    let b := s.bestFocal
    let flags := boolNat b.pps + 2 * boolNat (s.get (.time .servoState) = 3) + 4 * boolNat (b.uid = s.ident.uniqueId)
    (s.setEcho k { x with seq := seq }).sendOn k (s.newFrame 3 0 false 0 0 (.echo [seq, 0, rlast, rseq, b.uid, b.prio, flags, b.steps]))

/-- A link's latency is shown, and the changed table is flooded (R78, R97). -/
def State.showLatency (s : State) (k : Link) (ps : Nat) : State :=
  if s.get (.link k .linkLatency) = ps then s else (s.set (.link k .linkLatency) ps).flood

/-- Half a millisecond in 2⁻¹⁶ ns: stamps of one boundary lie closer together (R217, R219). -/
abbrev halfMs : Nat := 500000 * 65536

/-- What an ECHO from B completes (R219): t1 and t4 of one boundary. It reports t2 of the frame that this facet sent at the boundary of
the last ECHO received, and t3 of that ECHO; `none` when its report is of another boundary, and no exchange when an ECHO before it is
missing. -/
def EchoRt.exchange (x : EchoRt) (b : EchoBody) : Option (Option (Int × Int)) :=
  match x.last with
  | none => some none
  | some (seq, t4) =>
    if (seq + 1) % 2 ^ 32 ≠ b.seq then some none
    else
      match x.sent.find? fun e => e.1 = b.rxSeq ∧ (stampDiff t4 e.2).natAbs < halfMs with
      | none => none
      | some (_, t1) => some (some (stampDiff b.rxLast t1, stampDiff t4 b.txPrev))

/-- An exchange gives the offset, the mean path and the link's latency (R219), and with the latency one evaluation of each port's path
(R139): an evaluation is the completion of an exchange on any link (DESIGN CHOICE, log 105). -/
def State.takeExchange (s : State) (k : Link) (fwd back : Int) : State :=
  let toPs := fun (u : Int) => u * 1000 / 65536
  let offset := (toPs (fwd - back) - s.getInt (.echo k .echoAsymmetry)) / 2
  let path := (toPs (fwd + back) / 2).toNat
  let s := (s.setInt (.echo k .echoOffset) offset).set (.echo k .echoMeanPath) path
  (s.showLatency k (path + 310000)).evalAperture

/-- A boundary's exchange does not complete (R219). -/
def State.missEcho (s : State) (k : Link) : State := (s.bump (.echo k .echoMissCount)).flag (.time .timeEvents) timeEchoMiss

/-- The servo takes the offset of its parent's link, but none in the cycle of a focal change (R220, R236). -/
def State.servoFrom (s : State) (k : Link) : State :=
  if s.get (.link k .linkState) = 3 ∧ s.get (.time .timeParentLink) = k.val ∧ s.get (.time .focalId) ≠ s.ident.uniqueId ∧
      s.time.focalAt ≠ some s.time.elapsed then s.servoUpdate (-s.getInt (.echo k .echoOffset))
  else s

/-- An ECHO received (R214, R219): its announcement counts at once, and when the exchange of a boundary is complete it gives the offset and
the mean path, and moves the servo; a focal change of this moment discards that update (R236). (DEDUCED, log 43) -/
def State.cmdEchoReceive (s : State) (k : Link) (b : EchoBody) (rx : Nat) : State :=
  let st := s.get (.link k .linkState)
  if st ≠ 3 ∧ st ≠ 6 then s
  else
    let x := s.echo k
    let t4 := ofSigned 48 ((rx : Int) - psUnits (s.getInt (.echo k .echoRxDelay)))
    let s := s.setEcho k { x with last := some (b.seq, t4),
                                  ann := some { uid := b.focalId, prio := b.focalPriority, pps := b.focalPps, steps := b.steps } }
    let choose := fun (s : State) => s.when (st == 3) State.chooseFocal
    match x.exchange b with
    | none => choose (s.missEcho k)
    | some none => choose s
    | some (some (fwd, back)) => (choose (s.takeExchange k fwd back)).servoFrom k

/-- A boundary whose exchange does not complete (R219) (DEDUCED, log 43). -/
def State.cmdEchoMiss (s : State) (k : Link) : State :=
  if s.get (.link k .linkState) = 3 ∨ s.get (.link k .linkState) = 6 then s.missEcho k else s

/-- An announcement lapses after 3 ms (R214). -/
def State.cmdFocalAnnounceLapse (s : State) (k : Link) : State := (s.setEcho k { s.echo k with ann := none }).chooseFocal

/-- No offset for 3 ms and no other link leads to the focal (R221). -/
def State.cmdServoReferenceLost (s : State) : State :=
  let st := s.get (.time .servoState)
  if st = 2 ∨ st = 3 then
    let s := (s.set (.time .servoState) 4).flag (.time .timeEvents) timeRefLost
    let s := s.setFreq (s.time.base - s.time.integral)
    s.raiseLive 46 4
  else s

/-- The steward stores F (R222). -/
def State.cmdStoredFreqSave (s : State) : State :=
  if s.boot.running ∧ (s.get (.time .servoState) = 3 ∨ (s.get (.time .servoState) = 0 ∧ s.ppsValid)) then
    s.set (.time .timeStoredFreq) (s.get (.time .timeFreqAdj))
  else s

/-- The nanosecond counter wraps (R212). -/
def State.cmdTimeWrap (s : State) : State := ({ s with time := { s.time with ns := 0 } }).wrapTime

/-! ### PPS (R224 to R226) -/

/-- One second after a stamp (DESIGN CHOICE, log 42). -/
def nextSecond (t : Nat) : Nat := (t + 1000000000) % 2 ^ 32

/-- Whether a stamp lies within ±250 µs of an expected one. -/
def nearEdge (a b : Nat) : Bool := (signedOf 32 ((a + 2 ^ 32 - b) % 2 ^ 32)).natAbs ≤ 250000

/-- Three seconds in a row without a usable edge (R225): holdover of the PPS. -/
def State.ppsLost (s : State) : State :=
  let s := ((s.set (.pps .ppsInState) 3).raiseLive 47 0).flag (.time .timeEvents) timePpsLoss
  let s := { s with time := { s.time with ppsEdges := [], ppsMiss := 0 } }
  (if s.get (.time .servoState) = 0 then s.setFreq (s.time.base - s.time.integral) else s).chooseFocal

/-- A miss of a valid PPS_IN: the third in a row invalidates it (R225). -/
def State.missPps (s : State) : State :=
  let n := s.time.ppsMiss
  let s := s.bump (.pps .ppsInMissCount)
  let s := { s with time := { s.time with ppsMiss := n + 1 } }
  if n < 2 then s else s.ppsLost

/-- A rising edge of PPS_IN (R224, R225, R236). -/
def State.cmdPpsInEdge (s : State) : State :=
  if !s.isTrue (.pps .ppsInEnable) ∨ s.unitHeld .time then s
  else
    let e := ofSigned 32 ((s.now : Int) - s.getInt (.pps .ppsInOffset))
    let s := s.set (.pps .ppsInLastStamp) e
    if !s.time.pll then s
    else if s.ppsValid then
      if nearEdge e s.time.ppsNext then
        let err := signedOf 32 ((e + 2 ^ 32 - s.time.ppsNext) % 2 ^ 32)
        let s := s.setInt (.pps .ppsInError) err
        let s := { s with time := { s.time with ppsNext := nextSecond s.time.ppsNext, ppsMiss := 0 } }
        if s.get (.time .servoState) = 0 then s.piLaw (s.get (.pps .ppsKp)) (s.get (.pps .ppsKi)) (err * 1000) else s
      else s.missPps
    else
      let ok := match s.time.ppsEdges with
        | [] => true
        | l :: _ => nearEdge e (nextSecond l)
      let edges := if ok then (e :: s.time.ppsEdges).take 3 else [e]
      let s := { s with time := { s.time with ppsEdges := edges } }
      let s := if s.get (.pps .ppsInState) = 3 then s else s.set (.pps .ppsInState) 1
      if edges.length < 3 then s
      else
        let first := edges.getLast?.getD e
        let spacing := signedOf 32 ((e + 2 ^ 32 - first) % 2 ^ 32) - 2000000000
        let s := (s.set (.pps .ppsInState) 2).flag (.time .timeEvents) timePpsValid
        let s := { s with time := { s.time with ppsNext := nextSecond e, ppsMiss := 0, ppsEdges := [] } }
        -- the measured spacing, in ns over 2 s, gives the counter's error: half of it in ppb
        let s := if s.get (.time .servoState) = 0 then
            let f := s.time.freq - spacing * 65536 / 2
            ({ s with time := { s.time with base := f, integral := 0 } }).setFreq f
          else s
        (s.endLive 47).chooseFocal

/-- A second passes with no usable edge (R225). -/
def State.cmdPpsInMiss (s : State) : State :=
  if !s.isTrue (.pps .ppsInEnable) then s
  else if s.ppsValid then
    ({ s with time := { s.time with ppsNext := nextSecond s.time.ppsNext } }).missPps
  else
    let s := s.bump (.pps .ppsInMissCount)
    if s.get (.pps .ppsInState) = 1 then { s with time := { s.time with ppsEdges := [] } } else s

/-- PPS_OUT takes its level, unless it floats (R226, R321). -/
def State.drivePps (s : State) : State := if s.floats then s else s.emit (.pin .ppsOut (s.level .ppsOut))

/-- The counter passes `PpsOutNext` (R226). -/
def State.cmdPpsOutEdge (s : State) : State :=
  if s.isTrue (.pps .ppsOutEnable) then
    let s := s.set (.pps .ppsOutNext) (s.get (.pps .ppsOutNext) + s.get (.pps .ppsOutPeriod))
    ({ s with time := { s.time with ppsOut := true } }).drivePps
  else s

/-- `PpsOutWidth` elapses (R226). -/
def State.cmdPpsOutWidthEnd (s : State) : State :=
  if s.time.ppsOut then ({ s with time := { s.time with ppsOut := false } }).drivePps else s

/-! ### Timed launches (R232 to R235) -/

/-- A launch from its 80 bytes (R232). -/
def launchOf (b : List Byte) : Launch :=
  { time := fieldAt b 0 4, tag := fieldAt b 4 2, image := byteAt b 6 % 4, port := byteAt b 7, ep := byteAt b 8 % 16,
    data := ((b.drop 16).take (byteAt b 9)), window := if fieldAt b 10 2 = 0 then 1000 else fieldAt b 10 2,
    mode := byteAt b 12 % 4, retry := (byteAt b 12).testBit 2 }

/-- A reserved field is not 0, or a value is out of range (R232, R233 reason 4). -/
def launchBad (b : List Byte) : Bool :=
  b.length != 80 || decide (3 < byteAt b 6) || byteAt b 7 == 0 || byteAt b 8 == 0 || decide (15 < byteAt b 8) ||
    decide (64 < byteAt b 9) || decide (7 < byteAt b 12) || byteAt b 12 % 4 == 3 || byteAt b 13 != 0 || byteAt b 14 != 0 ||
    byteAt b 15 != 0

/-- The direct device of a logical port of this facet: its host address and entry. -/
def State.deviceOn (s : State) (i : Image) (m : Nat) : Option (Nat × Xlate) :=
  ((List.range 128).filterMap fun a => (s.entry i a).bind fun x => if x.port = m then some (a, x) else none).head?

/-- Why a launch is refused (R233), 0 when it is not. Where several reasons hold, the range of its fields and of its time comes before what
the queue and the map say, as R363 checks ranges before states (DEDUCED, log 77). -/
def State.launchRefusal (s : State) (b : List Byte) : Nat :=
  let l := launchOf b
  if launchBad b then 4
  else if 2100000000 ≤ s.ahead l.time then 1
  else if 64 ≤ s.time.launches.length then 2
  else if (match s.place (imageOf l.image) l.port with | .own _ => false | _ => true) ||
      (s.deviceOn (imageOf l.image) l.port).isNone then 3
  else if s.time.launches.any fun q => q.tag == l.tag then 5
  else 0

/-- A launch ends (R235): it leaves the queue, its result record is written and it is counted (DEDUCED, log 77). -/
def State.endLaunch (s : State) (l : Launch) (result : Nat) : State :=
  let k := s.get (.launch .launchResultIndex)
  let rec8 := bytesBe 2 l.tag ++ [byteOf result, byteOf l.attempts] ++ bytesBe 4 l.started
  let s := { s with waiting := s.waiting.filter fun x => decide (x.who ≠ Requester.launch l.tag),
                    time := { s.time with launches := s.time.launches.filter fun q => decide (q.tag ≠ l.tag),
                                          results := Table.put id [] s.time.results k rec8 } }
  let s := s.set (.launch .launchResultIndex) ((k + 1) % 64)
  if result = 0 then s.bump (.launch .launchDoneCount)
  else if result = 4 then (s.bump (.launch .launchLateCount)).flag (.time .timeEvents) timeLaunchLate
  else if result = 6 then s
  else (s.bump (.launch .launchFailCount)).flag (.time .timeEvents) timeLaunchFail

/-- Launches of a port that left the map, was reset or disconnected end with result 7 (R235). -/
def State.dropLaunches (s : State) : State :=
  s.forEach (s.time.launches.filter fun l => (s.deviceOn (imageOf l.image) l.port).isNone &&
      !s.keeps (imageOf l.image) l.port) fun s l => s.endLaunch l 7

/-- How long ago a launch became due, in ns; none when it lies ahead (R234). -/
def State.launchAge (s : State) (l : Launch) : Option Nat :=
  let a := (s.now + 2 ^ 32 - l.time) % 2 ^ 32
  if a < 2147483648 then some a else none

/-- A launch may start as to its time: due, and within its window (R234). -/
def State.inWindow (s : State) (l : Launch) : Bool := (s.launchAge l).any fun a => decide (a ≤ l.window * 1000)

/-- No other launch of the port comes first (R234): of those due at one instant, the order is that of LaunchTime, then of submission. -/
def State.launchFirst (s : State) (l : Launch) : Bool :=
  let rival := fun (q : Launch) => q.tag != l.tag && q.image == l.image && q.port == l.port && !q.running && s.inWindow q
  let age := fun (q : Launch) => (s.launchAge q).getD 0
  let before := s.time.launches.takeWhile fun q => q.tag != l.tag
  !(before.any fun q => rival q && decide (age l ≤ age q)) && !(s.time.launches.any fun q => rival q && decide (age l < age q))

/-- Nanoseconds that a launch of n bytes takes on a port of speed v (1 low, 2 full): the bits of its token, its data packet and its
handshake, as USB 2.0 lays them out, without bit stuffing (PRESUMED, log 108). -/
def launchTime (v n : Nat) : Nat := (89 + 8 * n) * 1000 * (if v = 1 then 8 else 1) / 12

/-- The full-speed frame of an FS or LS port lets a launch of n bytes start (R234): it is at least 900 µs old, no other launch runs on its
bus, and the transaction ends before the frame does. -/
def State.frameAllows (s : State) (p : Port) (n : Nat) : Bool :=
  let age := (s.now + 2 ^ 32 - (s.sofRow p.val).time) % 2 ^ 32
  decide (900000 ≤ age) && decide (age + launchTime (s.get (.port p .portSpeed)) n ≤ 1000000) &&
    !s.time.launches.any fun q => q.running && s.place (imageOf q.image) q.port == .own p

/-- A due launch starts at the first instant its port allows (R234): through the TT on an FS or LS port, through the engine on a
held HS port (DEDUCED, log 77). -/
def State.cmdLaunchStart (s : State) (tag : Nat) : State :=
  match s.time.launches.find? fun l => l.tag = tag with
  | none => s
  | some l =>
    let i := imageOf l.image
    if l.running ∨ !s.inWindow l ∨ !s.launchFirst l then s
    else
      match s.place i l.port with
      | .own p =>
        let dev := (s.deviceOn i l.port).map fun e => (e.1, e.2.devAddr)
        let dev := if s.keeps i l.port then some ((s.record i l.port).hostAddr, (s.record i l.port).devAddr) else dev
        match dev with
        | none => s.endLaunch l 7
        | some (a, w) =>
          let hs := s.get (.port p .portSpeed) == 3
          if hs ∧ ¬ s.keeps i l.port then s.endLaunch l 5
          else if !hs ∧ !s.frameAllows p l.data.length then s
          else
            let d := if s.keeps i l.port then (s.record i l.port).info else s.device i a
            let t := if l.mode = 1 then false else if l.mode = 2 then true else d.toggleOut.testBit l.ep
            let q := (d.endpoint l.ep false)
            let x : Xact := { port := p, addr := w, ep := l.ep, dirIn := false, setup := false,
                              epType := q.elim 1 fun q => q.epType, maxPacket := q.elim 64 fun q => q.maxPacket % 2048, toggle := t,
                              data := l.data, errors := 0, who := .launch tag }
            let l' := { l with running := true, toggle := t }
            let s := { s with time := { s.time with launches := s.time.launches.map fun (q : Launch) => if q.tag = tag then l' else q } }
            if hs then s.submit x else (s.launchBegins tag).emit (.engine 4 x)
      | _ => s.endLaunch l 7

/-- A launch's transaction ends (R234, R235): a NAK waits for the next allowed instant when RetryOnNak is set (DEDUCED, log 77). -/
def State.launchAnswer (s : State) (tag : Nat) (result : Nat) : State :=
  match s.time.launches.find? fun l => l.tag = tag with
  | none => s
  | some l =>
    if !l.running then s
    else if result = 1 ∧ l.retry then
      { s with time := { s.time with launches := s.time.launches.map fun (q : Launch) =>
          if q.tag = tag then { q with running := false } else q } }
    else
      let i := imageOf l.image
      let s := if result = 0 ∧ l.mode = 0 then
          let a := if s.keeps i l.port then (s.record i l.port).hostAddr else (s.deviceOn i l.port).elim 0 Prod.fst
          s.setDevToggle i l.port a l.ep false l.toggle
        else s
      s.endLaunch l result

/-- A launch's window ends (R234, R235): late when it never started, be it that it waits for a context of the engine, and NAK when it still
was refused. -/
def State.cmdLaunchWindowEnd (s : State) (tag : Nat) : State :=
  match s.time.launches.find? fun l => l.tag = tag with
  | none => s
  | some l =>
    let begun := l.running && !s.waiting.any fun x => decide (x.who = Requester.launch tag)
    if begun ∨ !(s.launchAge l).any (fun a => decide (l.window * 1000 ≤ a)) then s
    else s.endLaunch l (if l.attempts = 0 then 4 else 1)

end Sys2Proof.Machine
end

