-- ==== Sys2Proof/Machine/Hub.lean ====
section
/-! DEFINITION. The hub core's ports (R31 to R44, R58 to R62): what a port request does on the facet that owns the port, connection,
reset, suspend and resume, and what the completion of a device's standard requests leaves (R49, R127, R163 to R168). -/

namespace Sys2Proof.Machine

/-! ### USB packets in the trace and the counters (R425, R428, R431) -/

/-- The counter group of a packet by its PID: tokens, data, ACK, NAK, NYET, STALL, SOF, split. -/
def pidGroup (pid : Nat) : Nat :=
  if pid = 0xC3 ∨ pid = 0x4B then 1 else if pid = 0xD2 then 2 else if pid = 0x5A then 3 else if pid = 0x96 then 4
  else if pid = 0x1E ∨ pid = 0x3C then 5 else if pid = 0xA5 then 8 else if pid = 0x78 then 9 else 0

/-- A USB packet at a place: `b10` holds endpoint, image and speed (R428). -/
def State.usbSeen (s : State) (pl : Nat) (sent : Bool) (pid addr b10 : Nat) (data : List Byte) : State :=
  (s.lensUsb pl sent pid addr b10 0 data.length (pidGroup pid) data).lensCount 7 pl data.length

def tokenPid : TokPid → Nat
  | .out => 0xE1
  | .input => 0x69
  | .setup => 0x2D
  | .ping => 0xB4
  | .ext => 0xF0

def dataPid (toggle : Bool) : Nat := if toggle then 0x4B else 0xC3

def hsPid : HostHs → Nat
  | .ack => 0xD2
  | .nak => 0x5A
  | .nyet => 0x96
  | .stall => 0x1E
  | .err => 0x3C
  | .silent => 0

/-- A handshake of the hub to a host, traced at the upstream. -/
def State.answerHs (s : State) (i : Image) (addr ep : Nat) (h : HostHs) : State :=
  let s := s.emit (.handshake h)
  match s.activeUp i, h with
  | some _, .silent => s
  | some u, _ => s.usbSeen (placeUp u) true (hsPid h) addr (ep % 16 + 16 * i.val) []
  | none, _ => s

/-- Data the hub sends to a host. -/
def State.answerData (s : State) (i : Image) (addr ep : Nat) (toggle : Bool) (data : List Byte) : State :=
  let s := s.emit (.hostData toggle data)
  match s.activeUp i with
  | some u => (s.usbSeen (placeUp u) true (dataPid toggle) addr (ep % 16 + 16 * i.val) data).spoil (placeUp u)
  | none => s

/-! ### The hub function of an image -/

/-- The upstream on which this facet presents an image's hub function. -/
def State.hubUp (s : State) (i : Image) : Option Upstream :=
  (s.activeUp i).filter fun u => s.upShows u == .hub

/-- The facet answers an image's host. -/
def State.hubHere (s : State) (i : Image) : Bool := (s.hubUp i).isSome

/-- The facet answers an image's host now: not while the image is in hold-over or dormant, nor a host that has come back to it and has not
reset the upstream (R147, R172). -/
def State.hubServes (s : State) (i : Image) : Bool :=
  s.hubHere i && !(s.hold i).blocked && s.holdState i != 4 && s.holdState i != 5

/-- A request cut short before its status packet is abandoned (R34). -/
def State.abortControl (s : State) : State :=
  (s.bump (.hub .controlAbortByResetCount)).flag (.hub .hubEvents) hubControlAbort

/-- Frame and micro-frame of an image as one count. -/
def State.frameCount (s : State) (i : Image) : Nat := (s.hub i).frame * 8 + (s.hub i).micro

/-! ### Port actions -/

/-- A remote wake merges into a resume that runs (R62, R65). -/
def State.wakeMerged (s : State) : State := (s.bump (.hub .remoteWakeMergedCount)).flag (.hub .hubEvents) hubWakeMerged

/-- A reset is driven (R37, R39): SE0, translation entries invalidated, counted. -/
def State.startReset (s : State) (p : Port) : State :=
  let s := ((((s.forgetDevice p).setPs p psEnable false).setPs p psSuspend false).setPs p psReset true).setPst p 3
  ((s.bump (.port p .portResetCount)).modPort p fun x => { x with devWake := false, wakeGlobal := false }).emit (.line p .se0)

/-- A resume by the host runs on an image's ports of this facet that are suspended only with it (R60). -/
def State.resumePorts (s : State) (i : Image) : State :=
  s.forEach ((s.ownPorts i).filter fun p => s.pst p == 4 && (s.port p).globalSusp && s.portOn p) fun s p => s.emit (.line p .resumeK)

/-- Resume is driven on a port (R60). -/
def State.startResume (s : State) (p : Port) (globalOnly byDevice : Bool) : State :=
  ((s.setPst p 6).modPort p fun x => { x with wakeGlobal := globalOnly, devWake := byDevice, globalSusp := false }).emit
    (.line p .resumeK)

/-- The splits a translator holds (DESIGN CHOICE, log 28). -/
def TtRt.buffered (t : TtRt) : Nat :=
  t.pipeline.length + t.results.length + t.buffers.length + t.done.length + t.staging.length

/-- A port suspends (R37, R58): its buffered splits are discarded and counted, and engine work waits until it is awake again
(DEDUCED, log 26, DEDUCED, log 84). -/
def State.suspendPort (s : State) (p : Port) : State :=
  let n := (s.port p).tt.buffered
  let s := ((s.setPs p psSuspend true).setPst p 5).count (.port p .portTtErrorCount) n
  (s.modPort p fun x => { x with suspendedAt := s.time.elapsed, tt := { stopped := x.tt.stopped } }).requeue p

/-- The device reset order of an image's ports (R165): the next number. -/
def State.nextReset (s : State) (i : Image) : Nat :=
  (s.logicalPorts i).foldl (fun n m => max n (s.record i m).resetOrder) 0 + 1

/-- PORT_RESET of a held port whose adoption has not completed (R163, R164): absorbed, or driven beyond the limit of the adopting facet. -/
def State.absorbReset (s : State) (i : Image) (m : Nat) (p : Port) (limit : Nat) : State :=
  let r := s.record i m
  if limit ≤ r.resets then
    ((s.bump (.hold .adoptResetDrivenCount)).flag (.hold .holdoverEvents) holdResetDriven).startReset p
  else
    let s := s.setRecord i m { r with resets := r.resets + 1 }
    let s := s.modPort p fun x => { x with absorbing := true }
    if !s.portOn p then s
    else if s.pst p = 5 then s.startResume p false false
    else if (s.port p).globalSusp then s.startResume p true false
    else s

/-- A reset may be driven on a port (R37): one that runs keeps its duration (R40). -/
def State.resettable (s : State) (p : Port) : Bool := [2, 4, 5, 6].contains (s.pst p) && s.portOn p

/-- PORT_RESET at a port of this facet (R37, R40, R163). -/
def State.resetPort (s : State) (p : Port) (limit : Nat) : State :=
  let st := s.pst p
  match s.logicalOf p with
  | some (i, m) =>
    if s.heldPort i m && (st == 2 || st == 4 || st == 5 || st == 6) then s.absorbReset i m p limit
    else if s.resettable p then s.startReset p else s
  | none => if s.resettable p then s.startReset p else s

/-- A port may enter a test mode (R33). -/
def State.testAllowed (s : State) (p : Port) : Bool :=
  (s.pst p == 2 || s.pst p == 5) && s.portOn p &&
    ((s.logicalOf p).any fun e => (s.ownPorts e.1).all fun q => q == p || [0, 1, 2, 5, 8, 9].contains (s.pst q))

/-- SET_PORT_FEATURE PORT_POWER at a port of this facet (R37, R42, R44, R162): a trip in the same cycle wins (R40). -/
def State.grantPower (s : State) (p : Port) : State :=
  if (s.port p).tripAt = some s.time.elapsed then s
  else if 8 ≤ s.pst p then s.setPs p psPower true
  else if (s.logicalOf p).any fun e => s.keeps e.1 e.2 then s
  else
    let s := s.powerOn p
    if s.isTrue (.hub .portRearmByHost) && !s.unitHeld (.port p) then s.clearTrip (chanOf p) else s

/-- RESET_TT at a port (R57): its translator is emptied and runs again; what the engine had in it waits again. -/
def State.resetTt (s : State) (p : Port) : State := (s.modPort p fun x => { x with tt := {} }).requeue p

/-- The non-periodic buffer that holds the named device and endpoint is freed (R57), and a split of it that waits in the owning facet's
staging does not run (R126). -/
def State.freeTtBuffer (s : State) (p : Port) (addr ep : Nat) : State :=
  (s.modPort p fun x => { x with tt := { x.tt with
    buffers := x.tt.buffers.filter fun q => !(q.addr == addr && q.ep == ep),
    staging := x.tt.staging.filter fun q => !(q.addr == addr && q.ep == ep && !q.periodic),
    done := x.tt.done.filter fun q => !(q.addr == addr && q.ep == ep) } }).requeue p

/-- What RESET_TT on a logical port does on the facet that owns the port (R56, R57): while the image presents a single TT, the one set of
non-periodic buffers goes with it. -/
def State.resetTtOf (s : State) (i : Image) (m : Nat) (p : Port) : State :=
  (s.forEach ((s.ttPorts i m).filter fun q => decide (q ≠ p)) fun s q =>
    (s.modPort q fun x => { x with tt := { x.tt with buffers := [], done := [] } }).requeue q).resetTt p

/-- The port's device as it goes to Powered-off at an upstream reset of an unarmed image (R35). In state 8 or 9 it stays there, as R37 gives
for a power request in those states, and only PORT_POWER clears (DESIGN CHOICE, log 85). -/
def State.resetOff (s : State) (p : Port) : State :=
  (if 8 ≤ s.pst p then s.setPs p psPower false else s.powerOff p).modPort p fun x => { x with change := 0, changeNew := 0 }

/-- A port request takes effect on the facet that owns the port (R32, R33, R35, R37, R40, R57, R58, R60, R62, R164). -/
def State.portRequest (s : State) (p : Port) (q : PortReq) : State :=
  let st := s.pst p
  match q with
  | .power true => s.grantPower p
  | .power false => if 8 ≤ st then s.setPs p psPower false else s.powerOff p
  | .reset limit => s.resetPort p limit
  | .suspend true => if st = 4 then s.suspendPort p else s
  | .suspend false =>
    if st = 5 ∧ s.portOn p then s.startResume p false false
    else if st = 6 ∧ (s.port p).devWake then
      s.wakeMerged.modPort p fun x => { x with devWake := false }
    else s
  | .disable =>
    if st = 4 ∨ st = 5 ∨ st = 6 then
      (((s.setPs p psEnable false).setPs p psSuspend false).setPst p 2).modPort p fun x => { x with devWake := false, wakeGlobal := false }
    else s
  | .test sel =>
    if s.testAllowed p then (((s.setPs p psTest true).setPst p 7).set (.port p .portTestMode) sel).emit (.line p (.test sel)) else s
  | .clearChange b => if s.setNow p b then s else s.modPort p fun x => { x with change := setBit x.change b false }
  | .upstreamReset => s.resetOff p
  | .ttClear addr ep =>
    match s.logicalOf p with
    | some (i, m) => s.forEach (s.ttPorts i m) fun s q => s.freeTtBuffer q addr ep
    | none => s.freeTtBuffer p addr ep
  | .ttReset =>
    match s.logicalOf p with
    | some (i, m) => s.resetTtOf i m p
    | none => s.resetTt p
  | .ttStop => s.modPort p fun x => { x with tt := { x.tt with stopped := true } }

/-- Test mode ends for Disabled (R33, R35). -/
def State.endTest (s : State) (p : Port) : State :=
  if s.pst p = 7 then (((s.setPs p psTest false).setPs p psSuspend false).set (.port p .portTestMode) 0).setPst p 2 else s

/-! ### Events on a port -/

/-- A pull-up is seen for 2.5 µs with VBUS in its window (R38). -/
def State.cmdDeviceConnect (s : State) (p : Port) (lowSpeed : Bool) : State :=
  if s.pst p = 1 ∧ s.portOn p ∧ s.good (chanOf p) ∧ s.ps p psPower ∧ !(s.tc p).detectOff then
    (((s.setPs p psConn true).setPc p psConn).setPst p 2).modPort p fun x => { x with lowPull := lowSpeed }
  else s

/-- The pull-up is lost for 2.5 µs (R37); during a PR_Swap detection is suspended (R271). -/
def State.cmdDeviceDisconnect (s : State) (p : Port) : State :=
  if 1 < s.pst p ∧ s.pst p < 8 ∧ !(s.tc p).detectOff then
    let i := (s.logicalOf p).map Prod.fst
    let s := s.usbDisconnect p
    match i with
    | some i => s.checkWake i
    | none => s
  else s

/-- The speed a reset finds (R31, R39). -/
def foundSpeed (full low : Bool) : Chirp → Nat
  | .completed => if full then (if low then 1 else 2) else 3
  | .absent => if low then 1 else 2
  | .malformed => if full && low then 1 else 2

/-- The reset time has elapsed (R37, R39): the port is enabled at the speed found. In a full-speed image the hub takes no part in a chirp
(R31); a malformed one is counted and flagged there too (R65). -/
def State.cmdPortResetComplete (s : State) (p : Port) (chirp : Chirp) : State :=
  if s.pst p ≠ 3 ∨ !s.ps p psConn ∨ !s.portOn p then s
  else
    let full := (s.logicalOf p).any fun e => s.fullSpeed e.1
    let speed := foundSpeed full (s.port p).lowPull chirp
    let s := if chirp = .malformed then (s.bump (.port p .portChirpFailCount)).flag (.hub .hubEvents) hubChirpFail else s
    let s := if (s.port p).change.testBit psReset then s else s.modPort p fun x => { x with resetAt := some s.time.elapsed }
    let s := (((s.setPs p psReset false).setPs p psEnable true).setPc p psReset).setPst p 4
    let s := ((s.setPs p psLow (speed == 1)).setPs p psHigh (speed == 3)).set (.port p .portSpeed) speed
    let s := match s.logicalOf p with
      | some (i, m) => s.setRecord i m { resetOrder := s.nextReset i }
      | none => s
    s.emit (.line p .idle)

/-- The port was suspended by its host in the running cycle (R40) (DESIGN CHOICE, log 82). -/
def State.suspendedNow (s : State) (p : Port) : Bool := s.pst p == 5 && (s.port p).suspendedAt == s.time.elapsed

/-- A device transmits past the end of its (micro-)frame (R37, R65): it wins over a suspend in the same cycle (R40). -/
def State.cmdDeviceBabble (s : State) (p : Port) : State :=
  if s.pst p = 4 ∨ s.suspendedNow p then
    let s := (((s.setPs p psEnable false).setPs p psSuspend false).setPc p psEnable).setPst p 2
    ((s.bump (.port p .portBabbleCount)).flag (.hub .hubEvents) hubBabble).raise 36 (p.val + 1)
  else s

/-- The image is in global suspend, as this facet knows it: by its host, or dormant until its held ports are woken (R59, R147).
(DEDUCED, log 79) -/
def State.imageSuspended (s : State) (i : Image) : Bool :=
  let h := s.holdState i
  if h = 4 ∨ h = 6 then false else if h = 5 then !(s.hold i).waking else (s.hub i).suspended || h == 3

/-- Resume on a port completes (R37, R60, R62): an LS EOP ends the K. -/
def State.cmdPortResumeComplete (s : State) (p : Port) : State :=
  if s.pst p ≠ 6 ∨ !s.portOn p then s
  else
    let x := s.port p
    let s := if x.wakeGlobal then s else (s.setPs p psSuspend false).setPc p psSuspend
    let s := ((s.setPst p 4).emit (.line p .keepAlive)).emit (.line p .idle)
    match s.logicalOf p with
    | none => s.modPort p fun x => { x with wakeGlobal := false, devWake := false }
    | some (i, _) =>
      let again := s.imageSuspended i
      let s := s.modPort p fun x =>
        { x with wakeGlobal := false, devWake := false, globalSusp := again,
                 suspendedAt := if again then s.time.elapsed else x.suspendedAt }
      s.checkWake i

/-- Ports of an image on this facet enter global suspend (R59). -/
def State.suspendImage (s : State) (i : Image) : State :=
  s.forEach ((s.ownPorts i).filter fun p => s.pst p == 4) fun s p =>
    s.modPort p fun x => { x with globalSusp := true, suspendedAt := s.time.elapsed }

/-- Ports of an image on this facet leave global suspend: SOF flows again. Ports outside the aperture stay without SOF (R139), and held ones
suspended until their absorbed reset, or a wake, resumes them (R147, R164). -/
def State.unsuspendImage (s : State) (i : Image) : State :=
  s.forEach (s.ownPorts i) fun s p =>
    if (s.logicalOf p).any fun e => s.outside e.1 e.2 || (s.heldPort e.1 e.2 && (s.holdState i == 5 || s.holdState i == 6)) then s
    else s.modPort p fun x => { x with globalSusp := false }

/-- Remote wake reaches the facet of the active upstream in global suspend (R61). -/
def State.wakeUpstream (s : State) (i : Image) : State :=
  match s.hubUp i with
  | none => s
  | some u =>
    if (s.hub i).suspended && (s.hub i).remoteWake then
      (s.modHub i fun h => { h with resuming := true, wakeEnd := s.time.elapsed + 2 * msUnits }).emit (.up u .resumeK)
    else s

/-- A device's K is judged (R61, R62, R65, R147). -/
def State.cmdDeviceRemoteWake (s : State) (p : Port) : State :=
  let x := s.port p
  let st := s.pst p
  match s.logicalOf p with
  | none => s
  | some (i, m) =>
    if ¬ (st = 5 ∨ st = 6 ∨ (st = 4 ∧ x.globalSusp)) ∨ !s.portOn p then s
    else if s.time.elapsed < x.suspendedAt + 5 * msUnits then (s.bump (.hub .earlyWakeCount)).flag (.hub .hubEvents) hubEarlyWake
    else if st = 6 ∨ (s.hub i).resuming then s.wakeMerged
    else if s.heldPort i m ∧ s.holdState i = 5 then s.callWake i m
    else if s.imageSuspended i ∨ (st = 4 ∧ x.globalSusp) then
      if s.entryHere i then s.wakeUpstream i
      else s.broadcast 4 i.val (.sync (.wakeK i m))
    else s.startResume p false true

/-- An absorbed reset completes (R164): not before a resume that runs. A port that its host had disabled is enabled again, and endpoint 0
begins afresh (R132). -/
def State.cmdAbsorbedResetComplete (s : State) (i : Image) (m : Nat) : State :=
  match s.place i m with
  | .own p =>
    if (s.port p).absorbing ∧ s.pst p ≠ 6 ∧ s.heldPort i m then
      let n := s.nextReset i
      let s := { s with ownEps := s.ownEps.filter fun e => decide (e.1.1 ≠ p) }
      let s := (((s.setPc p psReset).setPs p psEnable true).setPst p 4).modPort p fun x => { x with absorbing := false,
                                                                                                    globalSusp := false }
      s.modRecord i m fun r => { r with stage := .absorbed, resetOrder := n }
    else s
  | _ => s

/-! ### What a device's requests leave (R49, R127, R163 to R168) -/

/-- The logical port that answers at a host address: its entry's, or the one that address 0 goes to (R49, R165). -/
def State.portAt (s : State) (i : Image) (a m : Nat) : Nat :=
  if a = 0 then (if s.holdState i = 6 then (s.addr0Port i).getD m else m) else (s.entry i a).elim m fun x => x.port

/-- The endpoints of an interface, by direction. -/
def DevInfo.inIface (d : DevInfo) (iface : Nat) (dirIn : Bool) (e : Nat) : Bool :=
  d.endpoints.any fun q => q.ep == e && q.dirIn == dirIn && q.iface == iface

/-- Keeps a record's learned part in step with that of its own device, not of one behind an external hub on the port (R150, R170)
(DESIGN CHOICE, log 25). -/
def State.learn (s : State) (i : Image) (a m : Nat) (f : DevInfo → DevInfo) : State :=
  let s := s.modDevice i a f
  if s.keeps i m then
    (if (s.record i m).hostAddr = a then
      s.modRecord i m fun r =>
        let d := f r.info
        { r with info := d, config := d.config, alts := d.alts, vid := d.vid, pid := d.pid }
     else s)
  else s.writeRecord i m

/-- A configuration descriptor that the host has read is learned by its value, the longest reading of it (R127). What the configuration
in force is learned to hold is in force at once. -/
def DevInfo.readConfig (d : DevInfo) (answer : List Byte) : DevInfo :=
  let v := byteAt answer 5
  if answer.length < 6 ∨ d.configs.any fun c => c.value == v && decide (answer.length < c.length) then d
  else
    let c : ConfigInfo := { value := v, length := answer.length, endpoints := parseConfig 256 answer 0 0 }
    { d with configs := d.configs.filter (fun q => decide (q.value ≠ v)) ++ [c],
             endpoints := if v = d.config then c.endpoints else d.endpoints }

/-- A descriptor read by the host teaches the endpoints or the identity (R127, R170). -/
def State.descriptorRead (s : State) (i : Image) (a kind : Nat) (answer : List Byte) : State :=
  match s.entry i a with
  | none => s
  | some x =>
    if kind = 2 then s.learn i a x.port fun d => d.readConfig answer
    else if kind = 1 ∧ 12 ≤ answer.length then
      s.learn i a x.port fun d => { d with vid := byteAt answer 8 + 256 * byteAt answer 9,
                                           pid := byteAt answer 10 + 256 * byteAt answer 11 }
    else s

/-- Endpoint 0 of a held device goes on counting its requests under a new host address, for it stays one endpoint on the wire (R134). -/
def State.moveSeq (s : State) (i : Image) (a b : Nat) : State :=
  (s.setRelayEp i b 0 false { seq := (s.relayEp i a 0 false).seq }).setRelayEp i b 0 true { seq := (s.relayEp i a 0 true).seq }

/-- SET_ADDRESS completes at the device that answers (R49, R163, R164). -/
def State.addressSet (s : State) (i : Image) (a m addr : Nat) : State :=
  let m := s.portAt i a m
  let r := s.record i m
  if s.keeps i m && r.valid then
    if a = 0 ∧ addr ≠ 0 then
      let s := (s.dropEntries i m).putEntry i addr (some { devAddr := r.devAddr, port := m, speed := r.speed, toggle := false })
      let s := s.moveSeq i 0 addr
      (s.setDevice i addr r.info).moveRecord i m fun r => { r with hostAddr := addr, stage := .addressed }
    else
      match s.entry i a with
      | some x =>
        if addr = 0 ∨ addr = a then s
        else
          let s := (((s.putEntry i a none).setDevice i a {}).putEntry i addr (some x)).moveSeq i a addr
          (s.setDevice i addr r.info).moveRecord i m fun r => { r with hostAddr := addr }
      | none => s
  else if a = 0 ∧ addr ≠ 0 then
    match s.place i m with
    | .own p =>
      let s := s.putEntry i addr (some { devAddr := addr, port := m, speed := speedCode (s.get (.port p .portSpeed)), toggle := false })
      let s := s.setDevice i addr {}
      let s := if s.get (.port p .portDeviceAddress) = 0 then s.set (.port p .portDeviceAddress) addr else s
      s.writeRecord i m
    | .remote _ _ =>
      let s := s.putEntry i addr (some { devAddr := addr, port := m, speed := speedCode (s.remotePort i m).speed, toggle := false })
      s.setDevice i addr {}
    | _ => s
  else s

/-- A SET_CONFIGURATION reaches the device: the configuration's endpoints, as they were read, are in force, and both sides go to DATA0
(R127, R132, R167). -/
def State.configApplied (s : State) (i : Image) (a m value : Nat) : State :=
  let s := s.clearToggles i m a (fun e => e != 0) (fun e => e != 0)
  s.learn i a m fun d =>
    { d with config := value, endpoints := (d.configs.find? fun c => c.value = value).elim [] fun c => c.endpoints, alts := [],
             toggleIn := 0, toggleOut := 0, haltedIn := 0, haltedOut := 0 }

/-- A host-side start at DATA0 for an absorbed SET_CONFIGURATION: the relay's endpoints begin again, the flip bits take the device-side
toggles (R166, R167). -/
def State.configAbsorbed (s : State) (i : Image) (a m : Nat) : State :=
  let eps := s.relayEps.filter fun e => e.1.1 == i && e.1.2.1 == a && e.1.2.2.1 != 0
  let s := s.forEach eps fun s e => s.setRelayEp i a e.1.2.2.1 e.1.2.2.2 { seq := e.2.seq }
  s.moveRecord i m fun r => { r with seamless := true, flipIn := r.inToggle, flipOut := r.outToggle }

/-- SET_CONFIGURATION to a device completes its status stage, or is absorbed (R127, R132, R166, R168). -/
def State.configurationSet (s : State) (i : Image) (a value : Nat) : State :=
  match s.entry i a with
  | none => s
  | some x =>
    let m := x.port
    let r := s.record i m
    if s.heldPort i m && r.valid && r.stage == .addressed && r.hostAddr == a then
      if value = r.config then
        if m ≠ 0 ∧ (s.get (.hold4 i .seamlessPorts)).testBit (m - 1) then
          if r.alts.all fun e => e.2 == 0 then (s.configAbsorbed i a m).adoptDevice i m false
          else
            let s := (s.bump (.hold .adoptSeamlessFallbackCount)).flag (.hold .holdoverEvents) holdSeamlessFallback
            (s.configApplied i a m value).adoptDevice i m false
        else (s.configApplied i a m value).adoptDevice i m false
      else ((s.configApplied i a m value).diverge i m).adoptDevice i m true
    else s.configApplied i a m value

/-- SET_CONFIGURATION to this device is answered by the hub itself (R166). -/
def State.configIsAbsorbed (s : State) (i : Image) (a value : Nat) : Bool :=
  match s.entry i a with
  | none => false
  | some x =>
    let r := s.record i x.port
    s.heldPort i x.port && r.valid && r.stage == .addressed && r.hostAddr == a && value == r.config && x.port != 0 &&
      (s.get (.hold4 i .seamlessPorts)).testBit (x.port - 1) && r.alts.all fun e => e.2 == 0

/-- SET_INTERFACE to a device completes (R127, R132, R164). -/
def State.interfaceSet (s : State) (i : Image) (a iface alt : Nat) : State :=
  match s.entry i a with
  | none => s
  | some x =>
    let d := s.device i a
    let s := s.clearToggles i x.port a (d.inIface iface true) (d.inIface iface false)
    s.learn i a x.port fun d =>
      { d with alts := (if alt = 0 then [] else [(iface, alt)]) ++ d.alts.filter fun e => decide (e.1 ≠ iface) }

/-- CLEAR_FEATURE or SET_FEATURE ENDPOINT_HALT to a device completes; `ep` is the endpoint address (R132, R164, R170).
(DESIGN CHOICE, log 30) -/
def State.haltChanged (s : State) (i : Image) (a ep : Nat) (v : Bool) : State :=
  match s.entry i a with
  | none => s
  | some x =>
    let e := ep % 16
    let dirIn := ep.testBit 7
    if v then
      let s := s.modDevice i a fun d =>
        if dirIn then { d with haltedIn := setBit d.haltedIn e true } else { d with haltedOut := setBit d.haltedOut e true }
      if (s.record i x.port).valid && (s.record i x.port).hostAddr == a then
        s.modRecord i x.port fun r =>
          if dirIn then { r with haltedIn := setBit r.haltedIn e true } else { r with haltedOut := setBit r.haltedOut e true }
      else s
    else s.clearToggles i x.port a (fun k => dirIn && k == e && e != 0) (fun k => !dirIn && k == e && e != 0)

/-- A control transfer to the device at a host address has completed its status stage: `setup` is its SETUP data, `answer` its IN data
(R49, R127, R132) (DESIGN CHOICE, log 25). -/
def State.controlDone (s : State) (i : Image) (a m : Nat) (setup answer : List Byte) : State :=
  let t := byteAt setup 0
  let q := byteAt setup 1
  let value := byteAt setup 2 + 256 * byteAt setup 3
  if t = 0x80 ∧ q = 6 then s.descriptorRead i a (byteAt setup 3) answer
  else if t = 0x00 ∧ q = 5 then s.addressSet i a m (value % 128)
  else if t = 0x00 ∧ q = 9 then s.configurationSet i a (value % 256)
  else if t = 0x01 ∧ q = 11 then s.interfaceSet i a (byteAt setup 4) (value % 256)
  else if t = 0x02 ∧ q = 1 ∧ value = 0 then s.haltChanged i a (byteAt setup 4) false
  else if t = 0x02 ∧ q = 3 ∧ value = 0 then s.haltChanged i a (byteAt setup 4) true
  else s

/-- The hub completes this control transfer itself, the device sees nothing of it (R164, R166). -/
def State.absorbs (s : State) (i : Image) (a m : Nat) (setup : List Byte) : Bool :=
  byteAt setup 0 == 0 &&
    ((byteAt setup 1 == 5 && (let m := s.portAt i a m; s.keeps i m && (s.record i m).valid)) ||
     (byteAt setup 1 == 9 && s.configIsAbsorbed i a (byteAt setup 2)))

end Sys2Proof.Machine
end

