-- ==== Sys2Proof/Machine/Relay.lean ====
section
/-! DEFINITION. Relayed ports (R123 to R136, R140): the entry side that answers the host, the owning side that drives the HS engine or
the translator, and the records between them. -/

namespace Sys2Proof.Machine

/-! ### Cells (R135) -/

/-- Free cells of the relay pool: IN data at the entry facet, OUT data on both sides (R135). Local relay holds each OUT packet at the
entry side and at the owning side. -/
def State.cellsFree (s : State) : Nat :=
  448 - (s.relayEps.map fun (e : (Image × Nat × Nat × Bool) × RelayEp) => e.2.held.length + e.2.stored.length).sum -
    (s.ownEps.map fun (e : (Port × Nat × Nat × Bool) × OwnEp) => (e.2.jobs.filter fun q => !q.setup && !q.dirIn).length).sum

/-- Entering the state with fewer than 16 free cells is counted (R135): judged as each command ends, whatever took or freed cells. -/
def State.pool (s : State) : State :=
  let n := s.cellsFree
  if n < 16 then
    (if s.poolLow then s
     else ({ (s.bump (.relay .relayPoolExhaustCount)) with poolLow := true }).flag (.relay .relayEvents) relayPoolLow)
  else { s with poolLow := false }

/-! ### Where a record goes -/

/-- The entry of a relayed device: by host address, or for address 0 the port that address 0 goes to, with the recorded address of a
held device (R49, R165). -/
def State.relayTarget (s : State) (i : Image) (a : Nat) : Option Xlate :=
  if a = 0 then
    (s.addr0Port i).map fun m =>
      let r := s.record i m
      { devAddr := if s.keeps i m then r.devAddr else 0, port := m,
        speed := if s.keeps i m then r.speed else
          (match s.place i m with
           | .own p => speedCode (s.get (.port p .portSpeed))
           | _ => speedCode (s.remotePort i m).speed), toggle := false }
  else s.entry i a

/-- A port is served by relay: it lies on another facet, or it is held or adopting on this one (R122, R162). -/
def State.relayed (s : State) (i : Image) (m : Nat) : Bool :=
  match s.place i m with
  | .remote _ _ => true
  | .own _ => s.keeps i m
  | _ => false

/-- The entry facet may serve a relayed port by tokens: inside the aperture, reachable, enabled, and itself one that carries image traffic
(R36, R98, R102, R136, R139), with an HS device (R122, R125), or at full speed with an FS or LS one of this facet (R162, R171). -/
def State.relayOpen (s : State) (i : Image) (m : Nat) : Bool :=
  !s.outside i m &&
    match s.place i m with
    | .remote _ _ =>
      let x := s.remotePort i m
      x.status.testBit psEnable && !x.status.testBit psSuspend && x.speed == 3 && !s.fullSpeed i && !s.farGone i m && s.carriesImages
    | .own p => s.pst p == 4 && (s.fullSpeed i != (s.get (.port p .portSpeed) == 3))
    | _ => false

/-- A transfer type that relay refuses (R128). -/
def refusedType (q : EpInfo) : Bool := q.epType == 3 || (q.epType == 2 && bitField q.maxPacket 12 11 != 0)

/-- Largest packet of an endpoint: 64 on endpoint 0, 512 while it is not learned (R127). -/
def packetSize (e : Nat) (q : Option EpInfo) : Nat :=
  if e = 0 then 64 else q.elim 512 fun q => q.maxPacket % 2048

/-- The device info that governs a relayed device. -/
def State.infoOf (s : State) (i : Image) (a m : Nat) : DevInfo := if s.keeps i m then (s.record i m).info else s.device i a

/-! ### Owning side (R129 to R134) -/

/-- The key of an owning endpoint: one for both directions of endpoint 0, so that its requests keep their order (R131). -/
abbrev OwnKey := Port × Nat × Nat × Bool
def ownDir (e : Nat) (dirIn : Bool) : Bool := e != 0 && dirIn

/-- The host address a device of an own port has, from the table's copy. -/
def State.hostAddrOf (s : State) (i : Image) (m w : Nat) : Option Nat :=
  ((List.range 128).drop 1).find? fun a => (s.entry i a).any fun x => x.port == m && x.devAddr == w

/-- Starts the next request of an owning endpoint on the HS engine. -/
def State.ownStart (s : State) (src : Nat) (p : Port) (w e : Nat) (dirIn : Bool) : State :=
  let o := s.ownEp p w e (ownDir e dirIn)
  match o.jobs, s.logicalOf p with
  | j :: _, some (i, m) =>
    if o.running || !s.awake p then s
    else
      let a := (s.hostAddrOf i m w).getD 0
      let d := s.infoOf i a m
      let q := d.endpoint e j.dirIn
      let t := if e = 0 ∨ j.setup then !j.setup && (if j.dirIn then o.toggleIn else o.toggle)
        else (if j.dirIn then d.toggleIn else d.toggleOut).testBit e
      let x : Xact := { port := p, addr := w, ep := e, dirIn := j.dirIn, setup := j.setup,
                        epType := if e = 0 ∨ j.setup then 0 else q.elim 1 fun q => q.epType, maxPacket := packetSize e q, toggle := t,
                        data := j.data, errors := 0, who := .relay i.val src j.seq, ping := o.ping && !j.dirIn && !j.setup }
      (s.setOwnEp p w e (ownDir e dirIn) { o with running := true }).submit x
  | _, _ => s

/-- The results of a request that its resend still asks for (R134): it counts down as they arrive, so those before them have arrived. -/
def OwnEp.servedOf (o : OwnEp) (src : Nat) (r : RelayHdr) : List Served :=
  o.served.filter fun v => v.src == src && v.seq == r.seq && v.dirIn == r.dirIn && decide (v.left ≤ max 1 r.count)

/-- An endpoint keeps its sixteen latest results, so that every outstanding request finds its own (R134) (DESIGN CHOICE, log 30). -/
def OwnEp.keepServed (o : OwnEp) (v : Served) : List Served := (v :: o.served.reverse).take 16 |>.reverse

/-- A SETUP puts both toggles of its endpoint at DATA1 (R132): those of another endpoint than 0 are the device's. -/
def State.setupToggles (s : State) (p : Port) (w e : Nat) : State :=
  match s.logicalOf p with
  | some (i, m) =>
    if e = 0 then s
    else
      let a := (s.hostAddrOf i m w).getD 0
      (s.setDevToggle i m a e true false).setDevToggle i m a e false false
  | none => s

/-- A request reaches the owning side (R129 to R131, R134): one already served, or served in part, is answered from its results by
`reply`, and nothing is repeated on the wire. -/
def State.ownRequest (s : State) (src : Nat) (p : Port) (r : RelayHdr) (data : List Byte)
    (reply : State → Nat → Nat → List Byte → State) : State :=
  let o := s.ownEp p r.devAddr r.ep (ownDir r.ep r.dirIn)
  let job : RelayAsk :=
    { seq := r.seq, dirIn := r.dirIn, count := if r.dirIn then max 1 (min 9 r.count) else 1, setup := r.setup, data := data }
  let done := o.servedOf src r
  if (o.jobs.any fun j => j.seq == r.seq && j.dirIn == r.dirIn) || !done.isEmpty then
    s.forEach done fun s v => reply s v.result v.stamp v.data
  else if r.setup then
    ((s.setupToggles p r.devAddr r.ep).setOwnEp p r.devAddr r.ep false
      { o with jobs := [job], toggle := true, toggleIn := true, setup := data, gather := [],
               ping := false }).ownStart src p r.devAddr r.ep false
  else (s.setOwnEp p r.devAddr r.ep (ownDir r.ep r.dirIn) { o with jobs := o.jobs ++ [job] }).ownStart src p r.devAddr r.ep r.dirIn

/-- The owning facet learns from a control transfer of a relayed device on its own port (R127, R170). What becomes of a held device's
adoption is the adopting facet's to judge (R174): here its SET_CONFIGURATION only puts both sides in step with the device (R166, R167). -/
def State.ownLearn (s : State) (src : Nat) (p : Port) (w : Nat) (dirIn : Bool) (result : Nat) (data : List Byte) : State :=
  let c := s.ownEp p w 0 false
  if c.setup = [] ∨ result ≠ 0 then s
  else if dirIn = (byteAt c.setup 0 ≥ 128) then
    if dirIn then s.setOwnEp p w 0 false { c with gather := c.gather ++ data } else s
  else
    let s := s.setOwnEp p w 0 false { c with setup := [], gather := [] }
    match s.logicalOf p with
    | some (i, m) =>
      if src = s.ownIndex then s
      else
        (s.hostAddrOf i m w).elim s fun a =>
          if s.heldPort i m && byteAt c.setup 0 == 0 && byteAt c.setup 1 == 9 then s.configApplied i a m (byteAt c.setup 2)
          else s.controlDone i a m c.setup c.gather
    | none => s

/-- IN data that relay finished at hold-over entry is kept: it becomes an item of the endpoint's stream, or is counted (R129, R136). It is
written for requester 5 (R196). -/
def State.keepReadAhead (s : State) (i : Image) (m w e : Nat) (p : Port) (stamp : Nat) (data : List Byte) : State :=
  match (s.slotsOf i m).find? fun sl => sl.action == 1 && sl.ep == e with
  | none => s.count (.relay .relayReadAheadDiscardBytes) data.length
  | some sl =>
    let mps := packetSize e ((s.infoOf i ((s.hostAddrOf i m w).getD 0) m).endpoint e true)
    s.writeItem sl.target (s.readAheadItem i p w e mps stamp data) 5

/-- An engine transaction of relay ends on the owning side (R129, R130, R133, R134): result 0 data or ACK, 1 NAK, 2 STALL, 3 error.
`reply` sends the result to the entry side, `nyet` notes an OUT that the device took with NYET. The end of a transaction whose request has
been discarded only frees the endpoint (R131). -/
def State.ownResult (s : State) (src tag : Nat) (x : Xact) (result : Nat) (nyet : Bool) (data : List Byte)
    (reply : State → Nat → Nat → List Byte → State) : State :=
  let d := ownDir x.ep x.dirIn
  let o := s.ownEp x.port x.addr x.ep d
  let idle := (s.setOwnEp x.port x.addr x.ep d { o with running := false }).ownStart src x.port x.addr x.ep d
  match o.jobs with
  | [] => idle
  | j :: rest =>
    let frame := (s.logicalOf x.port).elim 0 fun q => s.frameCount q.1
    let served := o.keepServed ⟨src, j.seq, j.dirIn, j.count, result, data, s.now, x.toggle, frame⟩
    if j.seq ≠ tag ∨ j.dirIn ≠ x.dirIn ∨ j.setup ≠ x.setup then idle
    else if x.dirIn then
      let more := result == 0 && decide (1 < j.count) && decide (data.length = x.maxPacket)
      let jobs := if more then { j with count := j.count - 1 } :: rest else rest
      let s := s.setOwnEp x.port x.addr x.ep d
        { o with jobs := jobs, running := false, toggleIn := if result = 0 then !x.toggle else o.toggleIn, served := served }
      let s := if x.ep = 0 then s.ownLearn src x.port x.addr true result data else s
      (reply s result s.now data).ownStart src x.port x.addr x.ep d
    else if result = 1 then s.setOwnEp x.port x.addr x.ep d { o with running := false, ping := o.ping && x.ping }
    else
      let jobs := if result = 0 then rest else []
      let s := s.setOwnEp x.port x.addr x.ep d
        { o with jobs := jobs, running := false, toggle := if result = 0 then !x.toggle || x.setup else o.toggle, served := served,
                 ping := nyet }
      let s := if x.ep = 0 ∧ !x.setup then s.ownLearn src x.port x.addr false result [] else s
      (reply s result s.now []).ownStart src x.port x.addr x.ep d

/-- Requests that the device refused with NAK are tried again in the next micro-frame (R130) (DESIGN CHOICE, log 30). -/
def State.retryRelay (s : State) (i : Image) : State :=
  let src := s.indexOf (s.memberAt (s.activeByte i % 16))
  s.forEach (s.ownEps.filter fun (e : OwnKey × OwnEp) => !e.2.running && !e.2.jobs.isEmpty && (s.logicalOf e.1.1).any fun q => q.1 == i)
    fun s e => s.ownStart src e.1.1 e.1.2.1 e.1.2.2.1 e.1.2.2.2

/-! ### Entry side: answers (R129 to R134, R136) -/

/-- A result reaches the entry side for a host address's endpoint. -/
def State.relayAnswer (s : State) (i : Image) (a m e : Nat) (dirIn setup : Bool) (seq result stamp : Nat) (data : List Byte) : State :=
  let stale := fun (s : State) => (s.bump (.relay .relayStaleRspCount)).flag (.relay .relayEvents) relayStale
  let r := s.relayEp i a e dirIn
  match r.asks.find? fun q => q.seq = seq with
  | none => stale s
  | some q =>
    let mps := packetSize e ((s.infoOf i a m).endpoint e dirIn)
    let left := if dirIn ∧ result = 0 ∧ 1 < q.count ∧ data.length = mps then [{ q with count := q.count - 1 }] else []
    let r := { r with asks := left ++ r.asks.filter (fun k => decide (k.seq ≠ seq)), retries := 0 }
    let failed := fun (s : State) => (s.bump (.relay .relayErrorCount)).flag (.relay .relayEvents) relayError
    if result = 4 then s.setRelayEp i a e dirIn r
    else if dirIn then
      if result = 0 then
        s.setRelayEp i a e true { r with held := r.held ++ [(stamp, data)],
                                         heldAt := if r.held.isEmpty then some s.time.elapsed else r.heldAt }
      else if result = 2 then s.setRelayEp i a e true { r with stallOnce := true }
      else if result = 3 then (failed s).setRelayEp i a e true { r with errorOnce := true }
      else s.setRelayEp i a e true r
    else if setup then
      if result = 3 then (failed s).setRelayEp i a e false { r with errorOnce := true }
      else if result = 2 then s.setRelayEp i a e false { r with stallOnce := true }
      else s.setRelayEp i a e false r
    else
      let status := e == 0 && r.control == 4
      let bytes := (r.stored.map List.length).sum
      if result = 0 then
        (if status then s.setRelayEp i a e false { r with statusAck := true }
         else s.setRelayEp i a e false { r with stored := r.stored.drop 1 })
      else if result = 2 then
        (if status then s.setRelayEp i a e false { r with stallOnce := true }
         else
          let s := (s.count (.relay .relayOutDropBytes) bytes).bump (.relay .relayDeferredStallCount)
          let s := (s.raise 38 (256 * i.val + m)).flag (.relay .relayEvents) relayDeferred
          s.setRelayEp i a e false { r with deferred := true, stored := [], asks := [] })
      else if result = 3 then
        let s := s.count (.relay .relayOutDropBytes) bytes
        (failed s).setRelayEp i a e false { r with errorOnce := true, stored := [], asks := [] }
      else s.setRelayEp i a e false r

/-- The result of a request travels to the entry facet: in a record, or directly when it is this facet (R162). -/
def State.relayReply (s : State) (dst : Nat) (i : Image) (m : Nat) (r : RelayHdr) (result stamp : Nat) (data : List Byte) : State :=
  if dst = s.ownIndex then
    let a := (s.hostAddrOf i m r.devAddr).getD 0
    s.relayAnswer i a m r.ep r.dirIn r.setup r.seq result stamp data
  else
    s.sendIndex dst 9 i.val 0 (relayRecord { r with kind := 2, count := 1, result := result, stamp := stamp } data)

/-- An engine transaction of relay has ended: its result goes back to its requester (R64). -/
def State.relayResult (s : State) (image src tag : Nat) (x : Xact) (result : Nat) (nyet : Bool) (data : List Byte) : State :=
  let i := imageOf image
  let m := (s.logicalOf x.port).elim 0 Prod.snd
  let r : RelayHdr := { relayHdr 2 (x.port.val + 1) x.addr x.ep x.dirIn with
                        setup := x.setup, epType := x.epType, maxPacket := x.maxPacket, seq := tag }
  if x.dirIn && result == 0 && x.ep != 0 && s.holdState i == 4 && s.keeps i m then
    let o := s.ownEp x.port x.addr x.ep true
    let s := s.setOwnEp x.port x.addr x.ep true { o with jobs := [], running := false }
    let o := s.ownEp x.port x.addr x.ep true
    let v : Served := ⟨src, tag, true, 1, 0, data, s.now, x.toggle, s.frameCount i⟩
    (s.setOwnEp x.port x.addr x.ep true { o with served := o.keepServed v }).keepReadAhead i m x.addr x.ep x.port s.now data
  else s.ownResult src tag x result nyet data fun s res t d => s.relayReply src i m r res t d

/-- Sends an XACT_REQ for an endpoint: to the owning facet, or to the owning side of this facet (R129, R162). -/
def State.sendAsk (s : State) (i : Image) (a e : Nat) (dirIn : Bool) (x : Xlate) (q : RelayAsk) : State :=
  let d := (s.infoOf i a x.port).endpoint e dirIn
  let hdr : RelayHdr := { relayHdr 1 0 x.devAddr e dirIn with
                          setup := q.setup, epType := if e = 0 then 0 else d.elim 1 fun d => d.epType, maxPacket := packetSize e d,
                          count := q.count, seq := q.seq }
  let s := s.bump (.relay .relayReqCount)
  match s.place i x.port with
  | .remote slot port => s.sendTo (s.memberAt slot) 8 i.val 0 (relayRecord { hdr with localPort := port } q.data)
  | .own p =>
    let hdr := { hdr with localPort := p.val + 1 }
    s.ownRequest s.ownIndex p hdr q.data fun s res t dat => s.relayReply s.ownIndex i x.port hdr res t dat
  | _ => s

/-- A new request of an endpoint takes the next EndpointSeq. -/
def State.ask (s : State) (i : Image) (a e : Nat) (dirIn : Bool) (x : Xlate) (count : Nat) (setup : Bool) (data : List Byte) : State :=
  let r := s.relayEp i a e dirIn
  let q : RelayAsk := { seq := (r.seq + 1) % 65536, dirIn := dirIn, count := count, setup := setup, data := data }
  (s.setRelayEp i a e dirIn { r with seq := q.seq, asks := r.asks ++ [q] }).sendAsk i a e dirIn x q

/-- `RelayInReadAhead` of an endpoint: bulk endpoints that are learned (R127, R129). -/
def State.readAhead (s : State) (i : Image) (a e m : Nat) : Nat :=
  if s.poolLow then 0
  else ((s.infoOf i a m).endpoint e true).elim 0 fun q => if q.epType = 1 ∧ e ≠ 0 then s.get (.image i .relayInReadAhead) else 0

/-- A deferred or returned STALL, or the silence after an error, is due on an endpoint number (R133, R134): the answer and the state
after it. -/
def State.relayTrouble (s : State) (i : Image) (a e : Nat) (dirIn : Bool) : Option (HostHs × State) :=
  let r := s.relayEp i a e dirIn
  let o := s.relayEp i a e false
  if r.errorOnce then some (.silent, s.setRelayEp i a e dirIn { r with errorOnce := false })
  else if o.deferred then some (.stall, s)
  else if r.stallOnce then some (.stall, s.setRelayEp i a e dirIn { r with stallOnce := false })
  else if e = 0 ∧ o.errorOnce then some (.silent, s.setRelayEp i a e false { o with errorOnce := false })
  else if e = 0 ∧ o.stallOnce then some (.stall, s.setRelayEp i a e false { o with stallOnce := false })
  else none

/-- Refuses a transfer type (R128). -/
def State.refuseType (s : State) : State := (s.bump (.relay .relayIsoRefusedCount)).flag (.relay .relayEvents) relayRefused

/-- A violation of a host on a relayed port (R140). -/
def State.hostError (s : State) : State := (s.bump (.relay .relayHostErrorCount)).flag (.relay .relayEvents) relayHostError

/-- A control transfer of a relayed device has completed toward the host. -/
def State.relayControlDone (s : State) (i : Image) (a m : Nat) : State :=
  let c := s.relayEp i a 0 false
  let s := s.setRelayEp i a 0 false { c with control := 0, setup := [], gather := [], statusAck := false }
  s.controlDone i a m c.setup c.gather

/-- A host HS IN on a relayed port (R129, R131, R133, R134). -/
def State.cmdHostHsInRelayed (s : State) (i : Image) (addr ep : Nat) (acked : Bool) : State :=
  match (if s.hubServes i then s.relayTarget i addr else none) with
  | none => s
  | some x =>
    let e := s.mapEp i addr ep
    let m := x.port
    let q := (s.infoOf i addr m).endpoint e true
    if !s.relayed i m ∨ !s.relayOpen i m then s.answerHs i addr ep .silent
    else if q.any refusedType then (s.refuseType).answerHs i addr ep .silent
    else
      match s.relayTrouble i addr e true with
      | some (h, s) => s.answerHs i addr ep h
      | none =>
        let c := s.relayEp i addr 0 false
        if e = 0 ∧ c.control = 5 then
          -- the hub completes the status stage of an absorbed request (R164, R166)
          let s := s.answerData i addr ep true []
          if acked then s.relayControlDone i addr m else s
        else
          let s := if e = 0 ∧ c.control = 2 then s.setRelayEp i addr 0 false { c with control := 3 } else s
          let r := s.relayEp i addr e true
          -- data of this very cycle come too late for its answer (R136)
          match (if r.heldAt = some s.time.elapsed then [] else r.held) with
          | (_, d) :: rest =>
            let s := s.answerData i addr ep r.hostToggle d
            if acked then
              let s := s.setRelayEp i addr e true { r with held := rest, hostToggle := !r.hostToggle }
              if e = 0 then
                (if c.control = 1 then s.setRelayEp i addr 0 false { c with gather := c.gather ++ d }
                 else s.relayControlDone i addr m)
              else if rest.length < s.readAhead i addr e m then s.ask i addr e true x 1 false []
              else s
            else s
          | [] =>
            let s := s.answerHs i addr ep .nak
            if r.asks.isEmpty ∧ r.held.isEmpty then s.ask i addr e true x (1 + s.readAhead i addr e m) false [] else s

/-- Room for one packet in an OUT endpoint's store (R130, R135). -/
def State.outRoom (s : State) (i : Image) (a e : Nat) : Bool :=
  decide ((s.relayEp i a e false).stored.length < s.get (.image i .relayOutDepth)) && !s.poolLow && decide (0 < s.cellsFree)

/-- A host OUT on a relayed port (R130, R131, R133, R134); full speed has no NYET (R31). -/
def State.cmdHostHsOutRelayed (s : State) (i : Image) (addr ep : Nat) (toggle : Bool) (data : List Byte) : State :=
  match (if s.hubServes i then s.relayTarget i addr else none) with
  | none => s
  | some x =>
    let e := s.mapEp i addr ep
    let m := x.port
    let q := (s.infoOf i addr m).endpoint e false
    if !s.relayed i m ∨ !s.relayOpen i m then s.answerHs i addr ep .silent
    else if q.any refusedType then (s.refuseType).answerHs i addr ep .silent
    else if packetSize e q < data.length then s.hostError.answerHs i addr ep .silent
    else
      match s.relayTrouble i addr e false with
      | some (h, s) => s.answerHs i addr ep h
      | none =>
        let r := s.relayEp i addr e false
        if e = 0 ∧ (r.control = 1 ∨ r.control = 4) then
          -- OUT status stage after IN data: NAKed until the device's own answer is here (R131)
          if r.statusAck then (s.answerHs i addr ep .ack).relayControlDone i addr m
          else
            let s := s.answerHs i addr ep .nak
            if r.control = 4 then s else (s.setRelayEp i addr e false { r with control := 4 }).ask i addr e false x 1 false []
        else if r.lastOut = some toggle then (s.bump (.relay .relayDupOutCount)).answerHs i addr ep .ack
        else if s.outRoom i addr e then
          let s := s.setRelayEp i addr e false { r with stored := r.stored ++ [data], lastOut := some toggle }
          let s := s.answerHs i addr ep (if s.outRoom i addr e || s.fullSpeed i then .ack else .nyet)
          s.ask i addr e false x 1 false data
        else s.answerHs i addr ep .nak

/-- A host PING on a relayed port (R130, R133, R134). -/
def State.cmdHostPingRelayed (s : State) (i : Image) (addr ep : Nat) : State :=
  match (if s.hubServes i then s.relayTarget i addr else none) with
  | none => s
  | some x =>
    let e := s.mapEp i addr ep
    let q := (s.infoOf i addr x.port).endpoint e false
    if !s.relayed i x.port ∨ !s.relayOpen i x.port then s.answerHs i addr ep .silent
    else if q.any refusedType then (s.refuseType).answerHs i addr ep .silent
    else
      match s.relayTrouble i addr e false with
      | some (h, s) => s.answerHs i addr ep h
      | none => s.answerHs i addr ep (if s.outRoom i addr e then .ack else .nak)

/-- The control transfer pending at an owning endpoint is discarded (R131). -/
def State.dropControl (s : State) (p : Port) (w e : Nat) : State :=
  let s := s.setOwnEp p w e false { (s.ownEp p w e false) with jobs := [], setup := [], gather := [] }
  if e = 0 then s else s.setOwnEp p w e true { (s.ownEp p w e true) with jobs := [] }

/-- A pending control transfer is discarded on both sides by a CANCEL record (R131). -/
def State.cancelControl (s : State) (i : Image) (x : Xlate) (e : Nat) : State :=
  match s.place i x.port with
  | .remote slot port =>
    s.sendTo (s.memberAt slot) 8 i.val 0 (relayRecord { relayHdr 5 port x.devAddr e false with setup := true, maxPacket := 64 } [])
  | .own p => s.dropControl p x.devAddr e
  | _ => s

/-- A control transfer of a relayed endpoint has not ended (R131): endpoint 0 knows its stage, another endpoint its open requests. -/
def State.controlPending (s : State) (i : Image) (addr e : Nat) : Bool :=
  let r := s.relayEp i addr e false
  if e = 0 then r.control != 0 && r.control != 5
  else !r.setup.isEmpty && !(r.asks.isEmpty && (s.relayEp i addr e true).asks.isEmpty)

/-- A SETUP to a relayed HS device: always ACKed, sent on at once (R131, R136). OUT packets of the transfer that it replaces, still stored
without a deferred STALL, count as dropped (DESIGN CHOICE, log 106). -/
def State.cmdHostSetupRelayed (s : State) (i : Image) (addr ep : Nat) (data : List Byte) : State :=
  match (if s.hubServes i then s.relayTarget i addr else none) with
  | none => s
  | some x =>
    if !s.relayed i x.port ∨ !s.relayOpen i x.port ∨ data.length ≠ 8 then s.answerHs i addr ep .silent
    else
      let e := s.mapEp i addr ep
      let r := s.relayEp i addr e false
      let s := if s.controlPending i addr e then s.cancelControl i x e else s
      let s := s.count (.relay .relayOutDropBytes) (if r.deferred then 0 else (r.stored.map List.length).sum)
      let len := byteAt data 6 + 256 * byteAt data 7
      let own := e == 0 && s.absorbs i addr x.port data
      let control := if own then 5 else if len = 0 then 2 else if byteAt data 0 ≥ 128 then 1 else 2
      let s := s.setRelayEp i addr e false { seq := r.seq, control := if e = 0 then control else 0, setup := data, lastOut := some false }
      let s := s.setRelayEp i addr e true { seq := (s.relayEp i addr e true).seq, hostToggle := true }
      let s := s.answerHs i addr ep .ack
      if own then s else s.ask i addr e false x 1 true data

/-- An XACT_REQ without a result within `RelayTimeout` (R134): sent again four times, then an error result. -/
def State.cmdRelayTimeout (s : State) (i : Image) (addr ep : Nat) (dirIn : Bool) : State :=
  let r := s.relayEp i addr ep dirIn
  match r.asks, s.relayTarget i addr with
  | q :: _, some x =>
    if r.retries < 4 then
      ((s.setRelayEp i addr ep dirIn { r with retries := r.retries + 1 }).bump (.relay .relayRetryCount)).sendAsk i addr ep dirIn x q
    else s.relayAnswer i addr x.port ep dirIn q.setup q.seq 3 s.now []
  | _, _ => s

/-! ### Records from other facets (R123, R124, R140) -/

/-- A peer record that breaks the shape of R124 is discarded (R140). -/
def State.badRecord (s : State) (k : Link) : State :=
  (s.bump (.link k .linkViolationCount)).flag (.ring .ringEvents) ringViolation

/-- The port a record names on this facet. -/
def State.recordPort (s : State) (r : RelayHdr) : Option Port :=
  if h : r.localPort - 1 < 16 then (if r.localPort = 0 ∨ s.ident.ports < r.localPort then none else some ⟨r.localPort - 1, h⟩) else none

/-- The ports of the facet that a record's port lies on (R124, R140): this facet's for a request, and for the read-ahead data that an entry
facet returns (R129), the sender's for a result. -/
def State.recordPorts (s : State) (h : FrameHdr) (kind : Nat) : Nat :=
  if kind = 1 ∨ kind = 3 ∨ kind = 5 ∨ kind = 6 ∨ (kind = 2 ∧ !s.entryHere (imageOf h.image)) then s.ident.ports
  else (s.memberOfIndex h.src).elim 16 s.portsOf

/-- A record's header is of the shape of R124: the kind that its frame carries, a port that exists, and the data that the frame holds. -/
def State.recordShape (s : State) (h : FrameHdr) (r : RelayHdr) (kind n : Nat) : Bool :=
  r.kind == kind && r.localPort != 0 && decide (r.localPort ≤ s.recordPorts h kind) && r.length == n && h.length == 16 + n &&
    decide (n ≤ 1024)

/-- The logical port of another facet that a record comes from. -/
def State.recordLogical (s : State) (h : FrameHdr) (r : RelayHdr) : Option (Image × Nat) :=
  (s.memberOfIndex h.src).bind fun uid => (s.slotOf uid).bind fun slot => s.logicalRemote slot r.localPort

/-- A result that answers no request is discarded (R140). -/
def State.staleResult (s : State) : State := (s.bump (.relay .relayStaleRspCount)).flag (.relay .relayEvents) relayStale

/-- An XACT_REQ reaches the owning facet (R129, R134). -/
def State.cmdXactReq (s : State) (k : Link) (h : FrameHdr) (r : RelayHdr) (data : List Byte) : State :=
  let (mine, s) := s.receive k h 8 (.relay r data)
  if !mine then s
  else
    match (if s.recordShape h r 1 data.length then s.recordPort r else none) with
    | none => s.badRecord k
    | some p =>
      match s.logicalOf p with
      | none => s.sendIndex h.src 9 0 h.tag (relayRecord { r with kind := 2, count := 1, result := 4, stamp := s.now } [])
      | some (i, m) =>
        if s.pst p ≠ 4 ∨ s.outside i m then
          s.sendIndex h.src 9 i.val h.tag (relayRecord { r with kind := 2, count := 1, result := 4, stamp := s.now } [])
        else s.ownRequest h.src p r data fun s res t d => s.relayReply h.src i m r res t d

/-- An XACT_RSP reaches the entry facet, or returns read-ahead data to the owning facet at hold-over entry (R129, R140). -/
def State.cmdXactRsp (s : State) (k : Link) (h : FrameHdr) (r : RelayHdr) (data : List Byte) : State :=
  let (mine, s) := s.receive k h 9 (.relay r data)
  if !mine then s
  else if !s.recordShape h r 2 data.length then s.badRecord k
  else
    let back := (s.recordPort r).bind fun p => (s.logicalOf p).bind fun (e : Image × Nat) =>
      if s.keeps e.1 e.2 ∧ !s.entryHere e.1 ∧ r.dirIn ∧ r.seq = 0 then some (p, e.1, e.2) else none
    match back with
    | some (p, i, m) => s.keepReadAhead i m r.devAddr r.ep p r.stamp data
    | none =>
      match s.recordLogical h r with
      | none => s.staleResult
      | some (i, m) =>
        let a := (s.hostAddrOf i m r.devAddr).getD 0
        s.relayAnswer i a m r.ep r.dirIn r.setup r.seq r.result r.stamp data

/-- A CANCEL record discards a pending control transfer on the owning side (R131). -/
def State.cmdCancel (s : State) (k : Link) (h : FrameHdr) (r : RelayHdr) (data : List Byte) : State :=
  let (mine, s) := s.receive k h 8 (.relay r data)
  if !mine then s
  else
    match (if s.recordShape h r 5 data.length then s.recordPort r else none) with
    | none => s.badRecord k
    | some p => s.dropControl p r.devAddr r.ep

/-- The PORT_STATUS record of an own port (R123). -/
def State.portStatusBody (s : State) (p : Port) : PortStatusBody :=
  let (st, ch) := s.portReport p
  { status := st, change := ch, state := s.pst p, speed := s.get (.port p .portSpeed) }

/-- A record about a port, with the length of its payload in its header (R124). -/
def portRecord (r : RelayHdr) (f : RelayHdr → RingBody) : RingBody :=
  f { r with length := ((f r).payload (if r.kind = 3 then 8 else 9)).length - 16 }

/-- Sends a PORT_STATUS record to a facet (R123): `seq` is that of the request it answers, 0 when it answers none. -/
def State.sendPortStatus (s : State) (dst : Nat) (i : Image) (p : Port) (tag seq : Nat) : State :=
  s.sendIndex dst 9 i.val tag
    (portRecord { relayHdr 4 (p.val + 1) 0 0 false with seq := seq, stamp := s.now } fun r => .portStatus r (s.portStatusBody p))

/-- A port request carried from the entry facet takes effect here; the status of the port after it is its answer, sent at the end of the
step in place of a report of the change (R123). -/
def State.cmdPortReq (s : State) (k : Link) (h : FrameHdr) (r : RelayHdr) (q : PortReq) : State :=
  let (mine, s) := s.receive k h 8 (.portReq r q)
  if !mine then s
  else
    match (if s.recordShape h r 3 (h.length - 16) then s.recordPort r else none) with
    | none => s.badRecord k
    | some p =>
      match s.logicalOf p with
      | none => s
      | some _ => (s.portRequest p q).modPort p fun x => { x with answerTo := some (h.src, h.tag, r.seq) }

/-- A PORT_STATUS record reaches the entry facet (R123): it sets the copy, adds the change bits, and completes the status stage of the
request that waits on the port. One of a port that no image maps is stale, as a response is (R140) (DESIGN CHOICE, log 109). -/
def State.cmdPortStatus (s : State) (k : Link) (h : FrameHdr) (r : RelayHdr) (b : PortStatusBody) : State :=
  let (mine, s) := s.receive k h 9 (.portStatus r b)
  if !mine then s
  else if !s.recordShape h r 4 (h.length - 16) then s.badRecord k
  else
    match s.recordLogical h r with
    | none => s.staleResult
    | some (i, m) =>
      let old := s.remotePort i m
      let gone := old.status.testBit psConn && !b.status.testBit psConn
      let resets := b.status.testBit psReset && !old.status.testBit psReset
      let s := s.setRemotePort i m { b with change := old.change ||| b.change }
      let s := if gone ∨ resets then (s.dropRelay i m).dropEntries i m else s
      let s := if gone then s.dropHeld i m else s
      let s := if b.change.testBit psReset && !old.change.testBit psReset then
          (let n := s.nextReset i
           s.modRecord i m fun x => { x with resetOrder := n, stage := if s.keeps i m then .absorbed else x.stage })
        else s
      if (s.hub i).waitsOn = some (m, r.seq) then (s.modHub i fun x => { x with waitsOn := none }).emit .controlAck else s

/-! ### Splits carried to a remote translator (R125, R126) -/

/-- An error of a port's TT (R57, R126). -/
def State.ttError (s : State) (p : Port) : State :=
  ((s.bump (.port p .portTtErrorCount)).flag (.hub .hubEvents) hubTtError).raise 37 (p.val + 1)

/-- A SPLIT_START reaches the owning facet: its translator's staging region takes it (R126) (DEDUCED, log 31). -/
def State.cmdSplitStart (s : State) (k : Link) (h : FrameHdr) (r : RelayHdr) (data : List Byte) : State :=
  let (mine, s) := s.receive k h 10 (.relay r data)
  let answer := fun (s : State) (result : Nat) =>
    s.sendIndex h.src 10 0 h.tag (relayRecord { r with kind := 7, count := 1, result := result, stamp := s.now } [])
  if !mine then s
  else
    match (if s.recordShape h r 6 data.length then s.recordPort r else none) with
    | none => s.badRecord k
    | some p =>
      if s.pst p ≠ 4 ∨ ¬ (s.get (.port p .portSpeed) = 1 ∨ s.get (.port p .portSpeed) = 2) then answer s 4
      else
        let split : TtSplit := { addr := r.devAddr, ep := r.ep, dirIn := r.dirIn, setup := r.setup, iso := r.epType == 3,
                                 micro := r.stamp % 16384, toggle := false, data := data, remote := some (h.src, h.tag, r.seq),
                                 periodic := decide (2 ≤ r.epType), maxPacket := r.maxPacket }
        if (s.port p).tt.stopped then answer s 1
        else if ((s.port p).tt.staging.map fun q => q.data.length).sum + data.length ≤ 3584 then
          (s.modPort p fun x => { x with tt := { x.tt with staging := x.tt.staging ++ [split] } }).emit (.ttSplit p r.devAddr r.ep)
        else answer (if split.periodic then s.ttError p else s) (if split.periodic then 3 else 1)

/-- A SPLIT_RESULT reaches the entry facet: held for the complete-split, or discarded (R125, R126, R140). -/
def State.cmdSplitResult (s : State) (k : Link) (h : FrameHdr) (r : RelayHdr) (data : List Byte) : State :=
  let (mine, s) := s.receive k h 10 (.relay r data)
  if !mine then s
  else if !s.recordShape h r 7 data.length then s.badRecord k
  else
    let waits := fun (x : EntrySplit) => x.tag == h.tag && x.seq == r.seq && x.result.isNone
    match s.splits.find? waits with
    | none => s.staleResult
    | some q =>
      let s := { s with splits := s.splits.map fun x => if waits x then { x with result := some (r.result, data) } else x }
      if r.result = 0 ∧ !q.dirIn then
        let i := imageOf q.image
        let e := s.mapEp i q.addr q.ep
        s.setRelayEp i q.addr e false { (s.relayEp i q.addr e false) with lastOut := some q.toggle }
      else s

end Sys2Proof.Machine
end

