-- ==== Sys2Proof/Machine/Schedule.lean ====
section
/-! DEFINITION. The hold-over schedule and its commands (R143 to R171): arming and intent, the causes of host loss, the grid, slots and
entry actions, the slot-table swap, and adoption's own events. A write's effect answers an abort code, 0 for none, and a state. -/

namespace Sys2Proof.Machine

/-- Abort codes of R363 that the effects answer. -/
abbrev abortRange : Nat := 0x06090030
abbrev abortState : Nat := 0x08000022

/-! ### Arming, intent, commands (R143, R144, R147, R160) -/

/-- The arming of an image changes here (R143, R147). -/
def State.applyArm (s : State) (i : Image) (v : Bool) : State :=
  let st := s.holdState i
  let s := s.set (.hold4 i .holdoverArm) (boolNat v)
  if v then (if st = 0 ∧ s.enabled i then s.setHoldState i 1 else s)
  else if st = 1 ∨ st = 2 ∨ st = 3 then (s.endIntent i).setHoldState i 0
  else s

/-- A write of `HoldoverArm` (R143): forwarded to the entry facet, which applies it and copies it to every member (DEDUCED, log 32). -/
def State.writeArm (s : State) (i : Image) (v : Nat) : Nat × State :=
  let st := s.holdState i
  if 1 < v then (abortRange, s)
  else if v = 0 ∧ (st = 4 ∨ st = 5 ∨ st = 6) then (abortState, s)
  else if s.entryHere i || s.alone then
    let s := s.applyArm i (v = 1)
    (0, if s.alone then s else s.broadcast 4 i.val (.sync (.arm i (v = 1))))
  else (0, s.broadcast 4 i.val (.sync (.arm i (v = 1))))

/-- Suspend intent is declared: its window runs at the entry facet, whose `SuspendIntentWindow` it is (R144, R174). -/
def State.openIntent (s : State) (i : Image) : State :=
  (s.set (.hold4 i .holdoverSuspendIntent) 1).modHold i fun h =>
    if s.entryHere i || s.alone then { h with windowOpen := true, intentAt := some s.time.elapsed } else h

/-- A write of `HoldoverSuspendIntent` (R144, R147). One in the cycle in which cause 3 has been declared is discarded and counted (R146)
(DEDUCED, log 32; DESIGN CHOICE, log 82). -/
def State.writeIntent (s : State) (i : Image) (v : Nat) : Nat × State :=
  if 1 < v then (abortRange, s)
  else if v = 1 then
    if s.holdState i = 1 then (0, (s.openIntent i).setHoldState i 2)
    else if s.holdState i = 4 ∧ (s.hold i).lossAt = some s.time.elapsed then (0, s.bump (.hold .suspendIntentLapseCount))
    else (0, s)
  else if s.holdState i = 2 then (0, (s.endIntent i).setHoldState i 1)
  else (0, s.endIntent i)

/-- A write of `HoldoverCommand` (R145, R147, R160) (DEDUCED, log 32). -/
def State.writeCommand (s : State) (i : Image) (v : Nat) : Nat × State :=
  let st := s.holdState i
  if v = 1 then (if st = 1 ∨ st = 2 ∨ st = 3 then (0, s.hostLoss i 4) else (abortState, s))
  else if v = 2 then
    let code := s.adoptRefusal i
    if code ≠ 0 then
      (abortState, (s.set (.hold4 i .adoptRefusal) code).modHold i fun h => { h with tell := true })
    else
      let s := if st = 1 ∨ st = 2 ∨ st = 3 then s.hostLoss i 4 else s
      (0, s.startAdoption i true)
  else if v = 3 then (if st = 4 ∨ st = 5 then (0, s.abandonHold i) else (abortState, s))
  else if v = 4 then (if st = 5 then (0, s.callWake i 0) else (abortState, s))
  else (abortRange, s)

/-- The intent window ends with the upstream active (R144) (DEDUCED, log 8). -/
def State.cmdSuspendIntentWindowEnd (s : State) (i : Image) : State :=
  if s.holdState i = 2 ∧ (s.hold i).windowOpen then
    (((s.bump (.hold .suspendIntentLapseCount)).flag (.hold .holdoverEvents) holdIntentLapse).endIntent i).setHoldState i 1
  else s

/-! ### Causes of host loss (R145) -/

/-- The upstream whose loss concerns an image: its active one, or the adopting mirror that has not attached yet (R171). -/
def State.servingUp (s : State) (i : Image) : Option Upstream :=
  if s.holdState i = 6 ∧ (s.hold i).viaMirror ∧ !(s.hold i).attached then s.mirrorUp i else s.activeUp i

/-- Images that an upstream serves as primary or mirror, as a mask (R332 sources 32 and 33). -/
def State.upMask (s : State) (u : Upstream) : Nat :=
  ((List.finRange 4).filter fun i => s.enabled i && (s.activeUp i == some u || s.mirrorUp i == some u)).foldl
    (fun m i => m + 2 ^ i.val) 0

/-- An upstream is lost by VBUS or by detach: nothing is presented, its link source is live, and the image it serves loses its host
(R145 causes 1 and 2, R332). -/
def State.upstreamLost (s : State) (u : Upstream) (cause : Nat) : State :=
  let mask := s.upMask u
  let s := s.present u .nothing
  let s := if mask = 0 then s else s.raiseLive (32 + u.num) mask
  s.forEach (List.finRange 4) fun s i => if s.servingUp i = some u then s.hostLoss i cause else s

/-- Upstream VBUS has been below its window for 10 µs (R145). -/
def State.cmdUpstreamVbusLoss (s : State) (u : Upstream) : State :=
  if (s.up u).vbus then (s.modUp u fun x => { x with vbus := false }).upstreamLost u 1 else s

/-- The upstream detaches (R145, R279). -/
def State.cmdUpstreamDetach (s : State) (u : Upstream) : State :=
  if (s.up u).attached then
    let s := s.set (.pd .tcUpstreamRp) (putBits (s.get (.pd .tcUpstreamRp)) (2 * u.num + 1) (2 * u.num) 0)
    ((s.modUp u fun x => { x with attached := false }).upstreamLost u 2).modUp u fun x => { x with vbus := false }
  else s

/-- Cause 3 (R145): the hub function is configured, not suspended, at high speed, and no intent is declared; one declared in this very
cycle loses to it (R146). -/
def State.cmdSofLossDeclaration (s : State) (i : Image) : State :=
  let h := s.hub i
  let st := s.holdState i
  if s.hubHere i && h.config == 1 && !h.suspended && !h.resuming && !s.fullSpeed i &&
      (st == 1 || (st == 2 && (s.hold i).intentAt == some s.time.elapsed)) then s.hostLoss i 3
  else s

/-! ### The grid (R148, R149) -/

/-- Which boundary the next one is: at first the one that lies at least 62.5 µs after the declaration (R148). -/
def State.nextBoundary (s : State) (i : Image) : Nat :=
  let h := s.hold i
  if h.boundary ≠ 0 then h.boundary + 1 else max 1 ((h.declared + 62500 - h.lastSof + 124999) / 125000)

/-- The count that governs a port's slots: the grid's while the port is on it, otherwise the host's (R149, R169). -/
def State.slotCount (s : State) (i : Image) (m : Nat) : Nat := if s.onGrid i m then (s.hold i).count else s.frameCount i

/-- SOF, or the translator's SOF or keep-alive, leaves on a port at a boundary of the grid (R149). -/
def State.gridSof (s : State) (i : Image) (p : Port) (count : Nat) : State :=
  if s.get (.port p .portSpeed) = 3 then
    let s := (s.emit (.line p (.sof (count / 8) (count % 8)))).lensCount 8 (placePort p) 1
    if count % 8 = 0 then s.writeRow p.val count 3 i.val else s
  else if count % 8 = 0 then
    let s := s.emit (.line p (if s.get (.port p .portSpeed) = 1 then .keepAlive else .sof (count / 8) 0))
    (s.lensCount 8 (placePort p) 1).writeRow p.val count 4 i.val
  else s

/-- A boundary of the hold-over grid (R148, R149, R163): SOF on held ports, numbering continued, stops at frame boundaries. It runs for
ports held alone too (R139), and in no case in state 5. -/
def State.cmdHoldoverSofBoundary (s : State) (i : Image) : State :=
  let h := s.hold i
  if !h.started ∨ s.holdState i = 5 then s
  else
    let k := s.nextBoundary i
    let count := (h.lastCount + k) % 16384
    let s := s.setHold i { h with boundary := k, count := count }
    let s := if h.boundary = 0 ∧ s.holdState i = 4 ∧ !(s.imageRows i).isEmpty then
        s.logStep 1 i.val ((h.lastSof + k * 125000) % 2 ^ 32) h.lastCount count (((k : Int) - 1) * 125000) (s.imageRows i)
      else s
    let s := if s.holdState i = 4 ∨ s.holdState i = 6 then s.firstSof i count else s
    let s := { s with engineMissed := false }
    let s := s.forEach (s.ownPorts i) fun s p =>
      if (s.logicalOf p).any (fun e => s.onGrid i e.2) && s.awake p then s.gridSof i p count else s
    let s := if count % 8 = 0 then s.frameBoundary i else s
    (s.retryRelay i).grantAll

/-! ### Slots (R155 to R158) -/

/-- Bytes of the payload area an entry of an image runs with (R151). -/
def State.slotPayload (s : State) (i off len : Nat) : List Byte :=
  (List.range len).map fun k =>
    let j := off * 16 + k
    byteOf (if s.swapping && s.switched.testBit i then
        (if h : j < 4096 then s.get (.hold (.holdoverPayloadShadow ⟨j, h⟩)) else 0)
      else Table.get 0 s.runPayload j)

/-- The entry j that runs now: the one of the table its image is in. -/
def State.entryNow (s : State) (j : Nat) : SlotEntry :=
  match (List.finRange 4).find? fun i => (s.slotEntry i.val j).valid && (s.slotEntry i.val j).image == i.val with
  | some i => s.slotEntry i.val j
  | none => slotOfWord 0

/-- The word of the entry j that runs now. -/
def State.wordNow (s : State) (e : SlotEntry) (j : Nat) : Nat :=
  if s.swapping && s.switched.testBit e.image then
    (if h : j < 256 then s.get (.hold (.holdoverTableShadow ⟨j, h⟩)) else 0)
  else Table.get 0 s.running j

/-- An occurrence is skipped (R155, R158). -/
def State.slotSkip (s : State) : State := (s.bump (.hold .holdoverSlotSkipCount)).flag (.hold .holdoverEvents) holdSkip

/-- A slot's or an entry action's work waits no longer. -/
def State.unwait (s : State) (j : Nat) : State :=
  ({ s with waiting := s.waiting.filter fun x => decide (x.who ≠ Requester.slot j ∧ x.who ≠ Requester.entryAction j) }).modSlot j fun x =>
    { x with waiting := false }

/-- The entry that slot j runs: the one it began under while that is not done (R151). -/
def State.slotRuns (s : State) (j : Nat) : SlotEntry := if (s.slot j).left then slotOfWord (s.slot j).word else s.entryNow j

/-- Hold-over runs for an image, or for a port of it that is held alone: its valid slots are active or count as inactive (R155). -/
def State.inHold (s : State) (i : Image) : Bool :=
  s.holdState i == 4 || s.holdState i == 6 || (s.holdState i != 5 && (s.logicalPorts i).any fun m => s.keeps i m)

/-- A port of this facet that is held undergoes its absorbed reset (R158, R164). -/
def State.absorbingAt (s : State) (i : Image) (m : Nat) : Bool :=
  match s.place i m with
  | .own p => s.keeps i m && (s.port p).absorbing
  | _ => false

/-- The transaction of a slot or entry action; an OUT that follows a NYET begins with a PING (R63). -/
def State.slotXact (s : State) (e : SlotEntry) (p : Port) (q : Option EpInfo) (dirIn setup : Bool) (toggle : Option Bool)
    (data : List Byte) (who : Requester) : Xact :=
  let r := s.record (imageOf e.image) e.port
  { port := p, addr := r.devAddr, ep := e.ep, dirIn := dirIn, setup := setup, epType := if e.ep = 0 then 0 else q.elim 1 fun q => q.epType,
    maxPacket := packetSize e.ep q, toggle := toggle.getD ((if dirIn then r.inToggle else r.outToggle).testBit e.ep), data := data,
    errors := 0, who := who, ping := !dirIn && !setup && (s.ownEp p r.devAddr e.ep false).ping }

/-- A slot falls due (R155, R157, R158). -/
def State.cmdSlotOccurrence (s : State) (j : Fin 256) : State :=
  let e := s.entryNow j.val
  let i := imageOf e.image
  if !e.valid ∨ ¬ (e.action = 1 ∨ e.action = 2 ∨ e.action = 4) ∨ s.slotCount i e.port % 2 ^ e.interval ≠ e.phase ∨ !s.inHold i then s
  else if s.absorbingAt i e.port then s.slotSkip
  else
    match s.slotPort e with
    | none => s.slotInactive j.val
    | some (p, q) =>
      let same := fun (k : Nat) => k != j.val && (let f := slotOfWord (s.slot k).word
        f.image == e.image && f.port == e.port && f.ep == e.ep && f.dirIn == e.dirIn)
      let before := (List.range 256).any fun k => same k && ((s.slot k).running || ((s.slot k).waiting && decide (k < j.val)))
      let after := (List.range 256).filter fun k => same k && (s.slot k).waiting && decide (j.val < k)
      let busyEntry := (List.range 256).any fun k => (s.slot k).entry && (let f := s.slotRuns k
        f.image == e.image && f.port == e.port)
      if busyEntry then s
      else if before ∨ (s.slot j.val).running then s.slotSkip
      else
        let s := s.forEach after fun s k => (s.unwait k).slotSkip
        let s := if (s.slot j.val).waiting then (s.unwait j.val).slotSkip else s
        let data := if e.action = 4 then s.slotPayload e.image e.target e.length else []
        let word := s.wordNow e j.val
        let s := s.modSlot j.val fun x => { x with waiting := true, burst := 0, word := word }
        s.submit (s.slotXact e p q e.dirIn false none data (.slot j.val))

/-- A slot's transaction ends (R153, R155): 0 data or ACK, 1 NAK, 2 STALL, 3 error. -/
def State.slotResult (s : State) (j : Nat) (x : Xact) (result : Nat) (data : List Byte) : State :=
  let e := slotOfWord (s.slot j).word
  let i := imageOf e.image
  let s := s.bump (.hold .holdoverPollCount)
  let short := decide (data.length < x.maxPacket)
  let s := if e.action = 1 then
      (if result = 0 then
        s.writeItem e.target { time := s.now, port := x.port.val + 1, toggle := x.toggle, image := i.val, ep := e.ep, data := data,
                               short := short, provoked := s.lens.armed && (s.get (.provoke .provokeTargets)).testBit x.port.val,
                               frame := s.slotCount i e.port }
       else if result = 2 then s.endpointError e.target true
       else if result = 3 then s.endpointError e.target false
       else s)
    else if e.action = 2 ∧ result = 0 then s.count (.hold .holdoverDiscardBytes) data.length
    else s
  let n := (s.slot j).burst + 1
  let s := s.modSlot j fun y => { y with running := false, burst := n }
  if (e.action = 1 ∨ e.action = 2) ∧ result = 0 ∧ !short ∧ x.epType = 1 ∧ n < 2 ^ e.burst ∧ s.keeps i e.port ∧
      !(s.record i e.port).slotsOff then
    (s.modSlot j fun y => { y with waiting := true }).submit { x with toggle := !x.toggle, errors := 0, data := [] }
  else s.slotLeaves j

/-- An entry action starts, or is tried again (R156). A control write that has begun goes on under the table it began under (R151). -/
def State.cmdEntryAction (s : State) (j : Fin 256) : State :=
  let x := s.slot j.val
  let e := if x.stage = 0 then s.slotRuns j.val else slotOfWord x.word
  if !e.valid ∨ ¬ (e.action = 3 ∨ e.action = 5) ∨ !x.entry ∨ x.running ∨ x.waiting then s
  else
    match s.slotPort e with
    | none => s.slotInactive j.val
    | some (p, q) =>
      let data := if x.stage = 0 ∧ !x.left then s.slotPayload e.image e.target e.length else x.data
      let word := if x.stage = 0 ∧ !x.left then s.wordNow e j.val else x.word
      let s := s.modSlot j.val fun x => { x with waiting := true, word := word, data := data }
      if e.action = 3 then s.submit (s.slotXact e p q false false none data (.entryAction j.val))
      else if x.stage = 0 then s.submit (s.slotXact e p none false true (some false) (data.take 8) (.entryAction j.val))
      else if x.stage = 1 ∧ 8 < e.length then s.submit (s.slotXact e p none false false (some true) (data.drop 8) (.entryAction j.val))
      else s.submit (s.slotXact e p none true false (some true) [] (.entryAction j.val))

/-- An entry action is abandoned (R156). -/
def State.entryFail (s : State) (j : Nat) : State :=
  (((s.modSlot j fun x => { x with entry := false, stage := 0 }).bump (.hold .holdoverEntryActionFailCount)).flag (.hold .holdoverEvents)
    holdEntryActionFail).slotLeaves j

/-- An entry action's transaction ends (R153, R156) (DEDUCED, log 36). -/
def State.entryResult (s : State) (j : Nat) (result : Nat) : State :=
  let e := slotOfWord (s.slot j).word
  let s := (s.bump (.hold .holdoverPollCount)).modSlot j fun x => { x with running := false, waiting := false }
  let stage := (s.slot j).stage
  if result = 1 then (if stage = 0 then s.slotLeaves j else s)
  else if result ≠ 0 then s.entryFail j
  else
    let next := if stage = 0 ∧ e.length ≤ 8 then 2 else stage + 1
    if e.action = 3 ∨ stage = 2 then (s.modSlot j fun x => { x with entry := false, stage := 0 }).slotLeaves j
    else
      let s := s.modSlot j fun x => { x with stage := next }
      if h : j < 256 then s.cmdEntryAction ⟨j, h⟩ else s

/-- An entry action that still ends in a NAK after 8 ms (R156). -/
def State.cmdEntryActionTimeout (s : State) (j : Fin 256) : State :=
  let x := s.slot j.val
  if x.entry ∧ !x.running then
    ({ s with waiting := s.waiting.filter fun q => decide (q.who ≠ Requester.entryAction j.val) }).entryFail j.val
  else s

/-! ### The slot tables (R151, R154) -/

/-- Why an entry of the shadow fails its check, 0 when it passes (R154). -/
def State.slotCheck (s : State) (w : Nat) : Nat :=
  let e := slotOfWord w
  let payload := fun (k : Nat) =>
    let j := e.target * 16 + k
    if h : j < 4096 then s.get (.hold (.holdoverPayloadShadow ⟨j, h⟩)) else 0
  if !e.valid then 0
  else if 6 ≤ e.action then 1
  else if 2 ^ e.interval ≤ e.phase then 2
  else if e.action = 1 ∧ !s.configured e.target then 3
  else if e.action < 3 ∧ e.length ≠ 0 then 4
  else if (e.action = 3 ∨ e.action = 4) ∧ (64 < e.length ∨ 4096 < e.target * 16 + e.length) then 4
  else if e.action = 5 ∧ (e.length < 8 ∨ 64 < e.length ∨ 4096 < e.target * 16 + e.length) then 4
  else if e.port = 0 ∨ e.reserved ≠ 0 then 5
  else if (e.ep = 0 ∧ e.action ≠ 5) ∨ (e.action = 5 ∧ (e.ep ≠ 0 ∨ payload 6 + 256 * payload 7 ≠ e.length - 8)) then 6
  else if (!e.dirIn ∧ (e.action = 1 ∨ e.action = 2)) ∨ (e.dirIn ∧ (e.action = 3 ∨ e.action = 4 ∨ e.action = 5)) then 7
  else if 14 ≤ e.interval then 8
  else 0

/-- The shadow's entries. -/
def State.shadowWord (s : State) (j : Nat) : Nat := if h : j < 256 then s.get (.hold (.holdoverTableShadow ⟨j, h⟩)) else 0

/-- The swap completes (R151): the tables and their payloads change places. -/
def State.swapDone (s : State) : State :=
  let oldT := s.running
  let oldP := s.runPayload
  let newT := (List.range 256).foldl (fun (t : Table Nat Nat) j => Table.put id 0 t j (s.shadowWord j)) []
  let newP := (List.finRange 4096).foldl
    (fun (t : Table Nat Nat) j => Table.put id 0 t j.val (s.get (.hold (.holdoverPayloadShadow j)))) []
  let s := { s with running := newT, runPayload := newP, swapping := false, switched := 0 }
  let s := s.forEach (List.finRange 256) fun s j => s.set (.hold (.holdoverTableShadow j)) (Table.get 0 oldT j.val)
  let s := s.forEach (List.finRange 4096) fun s j => s.set (.hold (.holdoverPayloadShadow j)) (Table.get 0 oldP j.val)
  let s := s.set (.hold .holdoverTableActive) (s.get (.hold .holdoverTableActive) % 128)
  (s.set (.hold .holdoverTableStatus) 2).flag (.hold .holdoverEvents) holdTableSwapped

/-- An image moves to the shadow's entries (R151, R182): what runs finishes under the old table, what waits under it is dropped, and
streams that the image no longer targets close their records. -/
def State.switchImage (s : State) (i : Image) : State :=
  let old := (List.range 256).map fun j => (j, slotOfWord (Table.get 0 s.running j))
  let mine := old.filter fun e => e.2.valid && e.2.image == i.val
  let s := s.forEach mine fun s e =>
    if (s.slot e.1).running || (s.slot e.1).stage != 0 then s.modSlot e.1 fun x => { x with left := true }
    else (s.unwait e.1).setSlot e.1 {}
  let s : State := { s with switched := setBit s.switched i.val true }
  let gone := (mine.filter fun e => e.2.action == 1 && !(s.slot e.1).running && !s.targeted i e.2.target).map fun e => e.2.target
  let s := s.forEach gone fun s n => s.truncateRecord n
  let active := s.get (.hold .holdoverTableActive)
  let s := s.set (.hold .holdoverTableActive) (setBit active i.val (!active.testBit i.val))
  if s.switched = 15 then s.swapDone else s

/-- A write of `HoldoverTableSwap` (R151, R154). -/
def State.writeSwap (s : State) (v : Nat) : Nat × State :=
  if v ≠ 1 then (abortRange, s)
  else if s.swapping then (abortState, s)
  else
    match (List.range 256).find? fun j => s.slotCheck (s.shadowWord j) ≠ 0 with
    | some j =>
      (0, (s.set (.hold .holdoverTableStatus) (3 + 256 * j + 65536 * s.slotCheck (s.shadowWord j))).flag (.hold .holdoverEvents)
        holdTableRefused)
    | none =>
      let s := { s.set (.hold .holdoverTableStatus) 1 with swapping := true, switched := 0 }
      let s := s.setRegBit (.hold .holdoverTableActive) 7 true
      (0, s.forEach (List.finRange 4) fun s i =>
        if (s.hub i).locked || (s.hold i).started then s.modHold i fun h => { h with swapAt := some s.time.elapsed } else s.switchImage i)

/-- An image reaches its frame boundary while a swap is pending (R151). A boundary in the cycle of the write comes before it (R158)
(DESIGN CHOICE, log 82). -/
def State.cmdTableSwitchBoundary (s : State) (i : Image) : State :=
  if s.swapping && !s.switched.testBit i.val && (s.hold i).swapAt != some s.time.elapsed then s.switchImage i else s

/-! ### Adoption's own events (R160 to R169) -/

/-- `AdoptAutoDelay` has passed in hold-over (R160). -/
def State.cmdAdoptAutoDelayExpiry (s : State) (i : Image) : State :=
  if s.isTrue (.hold4 i .adoptAuto) && (s.mirrorUp i).isSome && (s.holdState i == 4 || s.holdState i == 5) then
    (s.startAdoption i true).modHold i fun h => { h with autoAt := some s.time.elapsed }
  else s

/-- Every port of an image on this facet reports to the entry facet (R123). -/
def State.reportPorts (s : State) (i : Image) : State :=
  s.forEach (s.ownPorts i) fun s p => s.sendPortStatus (s.indexOf (s.memberAt (s.activeByte i % 16))) i p 0 0

/-- The mirror attaches as the image's hub function (R161 step 2). -/
def State.cmdAdoptMirrorAttach (s : State) (i : Image) : State :=
  let h := s.hold i
  match s.mirrorUp i with
  | some u =>
    if s.holdState i = 6 ∧ h.viaMirror ∧ !h.attached ∧ (s.up u).attached then
      let s := (s.setHold i { h with attached := true, exchanged := !h.exchanged }).defaultHub i
      (s.present u .hub).tellHold i 6 8
    else s
  | none => s

/-- `AdoptDeviceTimeout` passes after SET_ADDRESS (R163, R168), at the adopting facet (R174). -/
def State.cmdAdoptDeviceTimeout (s : State) (i : Image) (m : Nat) : State :=
  if (s.entryHere i || s.alone) ∧ s.heldPort i m ∧ (s.record i m).stage = .addressed then (s.diverge i m).adoptDevice i m true else s

/-- The step decision has been made on the facet of the image's host: the last device's adoption, `AdoptImageTimeout`, or a recall (R169,
R172) (DEDUCED, log 34). -/
def State.stepDecided (s : State) (i : Image) : Bool :=
  let h := s.hold i
  (s.entryHere i || s.alone) &&
    ((s.holdState i == 6 && (h.stepDue || (s.adoptionDone i && (s.logicalPorts i).any fun m => s.keeps i m))) ||
      (s.holdState i == 4 && h.recalled))

/-- The image step is recorded on a facet that sends SOF for the image (R169, R229) (DEDUCED, log 34). -/
def State.logImageStep (s : State) (i : Image) (kind : Nat) : State :=
  let h := s.hold i
  let last := (h.lastSof + h.boundary * 125000) % 2 ^ 32
  let phase := signedOf 32 ((s.now + 2 ^ 32 - last) % 2 ^ 32) - 125000
  let rows := s.imageRows i
  if rows.isEmpty then s else s.logStep kind i.val s.now h.count (s.frameCount i) phase rows

/-- H, the image step (R169, R172, R229). -/
def State.cmdImageStep (s : State) (i : Image) : State :=
  if s.stepDecided i then (s.logImageStep i (if s.holdState i = 6 then 2 else 3)).imageStep i else s

/-- `AdoptImageTimeout` passes: the step follows (R169) (DEDUCED, log 34). -/
def State.cmdAdoptImageTimeout (s : State) (i : Image) : State :=
  if s.holdState i = 6 then s.modHold i fun h => { h with stepDue := true } else s

/-! ### What another facet tells (R143, R147, R148, R170) -/

/-- What a member that has no host of an image does with it as another facet tells that it is armed again: the step of R169 or the recall of
R172, the end of an intent, or a resume (R144, R147). -/
def State.followArmed (s : State) (i : Image) : State :=
  let st := s.holdState i
  let put := fun (s : State) => s.set (.hold4 i .holdoverState) 1
  if st = 6 ∨ st = 4 then (put ((s.logImageStep i (if st = 6 then 2 else 3)).stepPorts i (st == 4))).showMirror i
  else if st = 3 then ((put (s.endIntent i)).modHub i fun h => { h with resuming := true }).resumePorts i
  else if s.armed i then put (s.endIntent i)
  else s

/-- A member follows the hold-over state that another facet tells (R147): `code` as `tellHold` sends it, 9 a suspend and 11 a resume of an
unarmed image (DEDUCED, log 35). -/
def State.followState (s : State) (i : Image) (code : Nat) : State :=
  let st := s.holdState i
  let put := fun (s : State) (v : Nat) => s.set (.hold4 i .holdoverState) v
  let holding := fun (s : State) => if st = 1 ∨ st = 2 ∨ st = 3 then s.takeHeld i s.now else s
  match code with
  | 0 => put (s.endIntent i) 0
  | 1 => s.followArmed i
  | 2 => if st = 1 then put (s.openIntent i) 2 else s
  | 4 =>
    if st = 6 then (put s 4).failBack i
    else if st = 5 ∧ !(s.hold i).waking then (put s 4).activateWoken i
    else s
  | 5 => (put s 5).takeHeld i s.now
  | 6 =>
    let s := (put (holding s) 6).adoptReset i false
    (s.mirrorUp i).elim s s.presentStandby
  | 7 => (put (holding s) 6).adoptReset i true
  | 8 => (s.modHold i fun h => { h with attached := true, exchanged := !h.exchanged }).reportPorts i
  | 10 => put (s.abandonPorts i) 1
  | 11 => if (s.hub i).suspended then (s.modHub i fun h => { h with resuming := true }).resumePorts i else s
  | _ => ((if s.armed i then put s 3 else s).modHub i fun h => { h with suspended := true, resuming := false }).suspendImage i

/-- A port of this facet whose copy of its record was lost with HUB takes it from what another member holds, while the device is still
there (R22, R170, R420). -/
def State.regainRecord (s : State) (i : Image) (m : Nat) (p : Port) (r : AdoptRec) : State :=
  if r.valid ∧ (s.pst p = 4 ∨ s.pst p = 5) then
    let d : DevInfo := { config := r.config, alts := r.alts, vid := r.vid, pid := r.pid, toggleIn := r.inToggle, toggleOut := r.outToggle,
                         haltedIn := r.haltedIn, haltedOut := r.haltedOut }
    (s.setRecord i m { r with info := d, stage := .held }).set (.port p .portDeviceAddress) r.devAddr
  else s

/-- A facet takes a record another one sent (R170): its own port's slots stop when the record says that the device was adopted, and the
entry facet keeps what it has done itself in a running adoption, and until the device is adopted the configuration by which it judges it
(DESIGN CHOICE, log 59). -/
def State.takeRecord (s : State) (i : Image) (m : Nat) (bytes : List Byte) : State :=
  let r := recordOfBytes bytes
  let old := s.record i m
  let info := { old.info with config := r.config, alts := r.alts, vid := r.vid, pid := r.pid, toggleIn := r.inToggle,
                              toggleOut := r.outToggle, haltedIn := r.haltedIn, haltedOut := r.haltedOut }
  match s.place i m with
  | .own p =>
    if !old.valid then s.regainRecord i m p r
    else if s.heldPort i m ∧ r.valid then
      let newly := r.adopted && !old.adopted
      let s := s.setRecord i m { old with adopted := r.adopted, adoptTime := r.adoptTime, hostAddr := r.hostAddr, divergent := r.divergent,
                                          seamless := r.seamless, flipIn := r.flipIn, flipOut := r.flipOut,
                                          stage := if newly then .adopted else old.stage,
                                          stopping := old.stopping || newly }
      if newly then s.setHeld i m false else s
    else s
  | _ =>
    let stage := if r.adopted && s.heldPort i m then .adopted else old.stage
    if s.entryHere i ∧ old.valid ∧ r.valid ∧ (old.stage = .addressed ∨ old.stage = .adopted) then
      let configured := old.stage = .adopted
      s.setRecord i m { r with resetOrder := old.resetOrder, stage := old.stage, adopted := old.adopted, adoptTime := old.adoptTime,
                               hostAddr := old.hostAddr, divergent := old.divergent, seamless := old.seamless, stopping := old.stopping,
                               slotsOff := old.slotsOff, flipIn := old.flipIn, flipOut := old.flipOut,
                               config := if configured then r.config else old.config, alts := if configured then r.alts else old.alts,
                               info := if configured then info else { info with config := old.config, alts := old.alts } }
    else s.setRecord i m { r with resetOrder := old.resetOrder, stage := stage, alone := old.alone, info := info }

/-- What reads the same on every member of an image, as one facet tells the others (R174): state, cause, time, result, refusal, the three
counts, the roles and who holds them, the grid's origin, and the divergent ports. -/
def State.holdValues (s : State) (i : Image) : List Nat :=
  let h := s.hold i
  [.holdoverState, .holdoverEntryCause, .holdoverEntryTime, .adoptResult, .adoptRefusal, .holdoverCount, .adoptCount, .adoptFailCount,
    .holdoverRolesSwapped].map (fun r => s.get (.hold4 i r)) ++ [boolNat h.exchanged, h.lastSof % 2 ^ 32, h.lastCount] ++
    (List.range 8).map fun k => s.get (.hold4 i .adoptDivergentPorts) / 2 ^ (32 * k) % 2 ^ 32

/-- The entries that another facet tells (R174). A facet that joins a running hold-over takes its state and its grid with them; one that
still wakes its ports stays dormant until they have resumed (R147). -/
def State.takeHoldValues (s : State) (i : Image) (l : List Nat) : State :=
  match l with
  | st :: cause :: time :: result :: refusal :: n :: done :: failed :: swapped :: exchanged :: last :: count :: ports =>
    let st := if s.holdState i = 5 ∧ (s.hold i).waking then 5 else st
    let joins := s.holdState i != st && (st == 4 || st == 6)
    let s := [(.holdoverState, st % 8), (.holdoverEntryCause, cause), (.holdoverEntryTime, time), (.adoptResult, result),
      (.adoptRefusal, refusal), (.holdoverCount, n), (.adoptCount, done), (.adoptFailCount, failed),
      (.holdoverRolesSwapped, swapped % 2),
      (.adoptDivergentPorts, (ports.take 8).foldr (fun x acc => x % 2 ^ 32 + 2 ^ 32 * acc) 0)].foldl
        (fun s e => s.set (.hold4 i e.1) e.2) s
    let s := s.modHold i fun h => { h with exchanged := exchanged == 1 }
    if joins then s.startGrid i s.extended (s.momentOf last) count else s
  | _ => s

/-- A port's place in HoldoverHeldPorts as its owning facet tells it (R148, R174); for a port of this facet, what another member has kept of
it while this one was down (R170). The entry facet knows better than the owning one that it has adopted a device. -/
def State.takeHeldBit (s : State) (i : Image) (m : Nat) (v : Bool) : State :=
  match s.place i m with
  | .own _ =>
      if v && (s.record i m).valid && (s.holdState i == 4 || s.holdState i == 5 || s.holdState i == 6) then s.setHeld i m true
      else s
  | _ => if v && s.entryHere i && s.holdState i == 6 && (s.record i m).stage == .adopted then s else s.setHeld i m v

/-- The record and the HeldPorts bit of a port, to every other member (R170, R174). -/
def State.tellRecord (s : State) (i : Image) (m : Nat) : State :=
  let s := s.broadcast 4 i.val (.sync (.record i m ((s.record i m).bytes m)))
  s.broadcast 4 i.val (.sync (.held i m (s.heldPort i m)))

/-- What this facet's upstreams are to an image, for the facets that cannot see them (R116, R160) (DEDUCED, log 94). -/
def State.tellUpstream (s : State) (i : Image) : State :=
  let s := match s.activeUp i with
    | some u => s.broadcast 4 i.val (.sync (.upstream i false (s.up u).attached))
    | none => s
  match s.mirrorUp i with
  | some u => s.broadcast 4 i.val (.sync (.upstream i true (s.standbyReady u)))
  | none => s

/-- A member that asks for records without adopting an image has lost its adoption with its HUB (R171). -/
def State.adoptionGone (s : State) (u adopting : Nat) : State :=
  s.forEach ((List.finRange 4).filter fun i => s.holdState i == 6 && s.adoptingFacet i == u && !adopting.testBit i.val) State.adoptLost

/-- A member that syncs is given what it cannot know (R22, R170, R420): by each owning facet the records of its ports, by the lowest other
member those of the asking facet's, and by each entry facet the arming and the state of its images, the state by the lowest other member
where the asking facet is the entry facet (DEDUCED, log 94). -/
def State.answerFetch (s : State) (asker : Nat) : State :=
  let lowest := (s.members.map Prod.snd).all fun u => u == asker || !s.reachable u || decide (s.ident.uniqueId ≤ u)
  s.forEach ((List.finRange 4).filter fun i => s.enabled i) fun s i =>
    let s := s.tellUpstream i
    let s := if s.entryHere i then
        (s.broadcast 4 i.val (.sync (.arm i (s.armed i)))).broadcast 4 i.val (.sync (.holdInfo i (s.holdValues i)))
      else if lowest ∧ s.memberAt (s.activeByte i % 16) = asker then s.broadcast 4 i.val (.sync (.holdInfo i (s.holdValues i)))
      else s
    s.forEach ((s.logicalPorts i).filter fun m => (s.record i m).valid &&
      match s.place i m with
      | .own _ => true
      | .remote slot _ => s.memberAt slot == asker && lowest
      | _ => false) fun s m => s.tellRecord i m

end Sys2Proof.Machine
end

