-- ==== Sys2Proof/Machine/Usb.lean ====
section
/-! DEFINITION. What a host, a device or the engine does at the hub core (R25 to R65): requests to the hub function, upstream events,
tokens and splits, and the ends of engine and translator transactions. -/

namespace Sys2Proof.Machine

/-! ### Descriptors (R26 to R30) -/

/-- `PartName` as printed (R1). -/
def partName (v : Ident) : String :=
  (if v.ports = 16 then "CT4816" else if v.ports = 12 then "CT4812" else if v.ports = 8 then "CT4808" else "CT4804") ++
    (if v.wyhelen && v.dram then "-WD" else if v.wyhelen then "-W" else if v.dram then "-D" else "")

/-- One upper-case hex digit. -/
def hexDigit (n : Nat) : Char := Char.ofNat (if n % 16 < 10 then 48 + n % 16 else 55 + n % 16)

/-- A number as `n` upper-case hex digits. -/
def hexText : Nat → Nat → String
  | 0, _ => ""
  | n + 1, x => hexText n (x / 16) ++ String.singleton (hexDigit x)

/-- A string descriptor (USB 2.0): each character as 16 bits, low byte first (PRESUMED, log 24). -/
def stringDesc (t : String) : List Byte :=
  let b := (textBytes t).flatMap fun c => [c, 0]
  [byteOf (b.length + 2), 3] ++ b

/-- `UniqueId` of facet index 0 (R26, R29). -/
def State.rootId (s : State) : Nat := (s.memberOfIndex 0).getD s.ident.uniqueId

/-- The serial-number string of an image (R26). -/
def State.serialText (s : State) (i : Image) : String :=
  hexText 16 s.rootId ++ "-" ++ hexText 1 (if s.alone then 0 else i.val)

/-- A device descriptor: classes, protocol and product are the function's own. -/
def deviceDesc (cls proto product : Nat) : List Byte :=
  [18, 1] ++ bytesLe 2 0x0210 ++ [byteOf cls, 0, byteOf proto, 64] ++ bytesLe 2 0x3A5D ++ bytesLe 2 product ++ bytesLe 2 0x0B00 ++
    [1, 2, 3, 1]

/-- A device-qualifier descriptor for the other speed. -/
def qualifierDesc (cls proto : Nat) : List Byte :=
  [10, 6] ++ bytesLe 2 0x0210 ++ [byteOf cls, 0, byteOf proto, 64, 1, 0]

/-- An endpoint descriptor. -/
def endpointDesc (addr attr size interval : Nat) : List Byte :=
  [7, 5, byteOf addr, byteOf attr] ++ bytesLe 2 size ++ [byteOf interval]

/-- A configuration descriptor around its interfaces. -/
def configDesc (typ attr : Nat) (ifaces : List Byte) : List Byte :=
  [9, byteOf typ] ++ bytesLe 2 (9 + ifaces.length) ++ [1, 1, 0, byteOf attr, 0] ++ ifaces

/-- Bytes of the status-change bitmap (R27). -/
def State.bitmapBytes (s : State) (i : Image) : Nat := (s.portCount i + 8) / 8

/-- The hub's configuration at a speed (R27). -/
def State.hubConfig (s : State) (i : Image) (typ : Nat) (hs : Bool) : List Byte :=
  let ep := endpointDesc 0x81 3 (s.bitmapBytes i) (if hs then 12 else 255)
  let iface := fun (alt proto : Nat) => [9, 4, 0, byteOf alt, 1, 9, 0, byteOf proto, 0] ++ ep
  configDesc typ 0xE0 (if hs then iface 0 1 ++ iface 1 2 else iface 0 0)

/-- The configuration of the embedded or standby function at a speed (R30). -/
def mgmtConfig (typ proto : Nat) (hs : Bool) : List Byte :=
  let bulk := if hs then 512 else 64
  configDesc typ 0xC0 ([9, 4, 0, 0, 3, 0xFF, 0x48, byteOf proto, 0] ++ endpointDesc 0x01 2 bulk 0 ++ endpointDesc 0x81 2 bulk 0 ++
    endpointDesc 0x82 3 64 (if hs then 4 else 1))

/-- The BOS descriptor with its two capabilities (R29). -/
def State.bosDesc (s : State) (i : Image) : List Byte :=
  [5, 15] ++ bytesLe 2 32 ++ [2] ++ [7, 16, 2, 0, 0, 0, 0] ++ [20, 16, 4, 0] ++ bytesBe 8 s.rootId ++
    [byteOf (0x80 + (if s.alone then 0 else i.val)), 0x48] ++ List.replicate 6 0

/-- The logical port of the embedded function (R5, R25). -/
def State.embeddedPort (s : State) (i : Image) : Nat :=
  ((s.logicalPorts i).find? fun m => s.place i m == .embedded).getD 0

/-- The hub descriptor (R28). -/
def State.hubDesc (s : State) (i : Image) : List Byte :=
  let n := s.bitmapBytes i
  [byteOf (7 + 2 * n), 0x29, byteOf (s.portCount i), 0x0D, 0x00, byteOf (s.get (.hub .portPowerGoodTime)), 0] ++
    bytesLe n (2 ^ s.embeddedPort i) ++ List.replicate n 0xFF

/-- A string of one of the functions; the language list is PRESUMED to name US English. -/
def State.textOf (s : State) (product : String) (i : Image) (index : Nat) : Option (List Byte) :=
  match index with
  | 0 => some [4, 3, 9, 4]
  | 1 => some (stringDesc "Adetrum")
  | 2 => some (stringDesc product)
  | 3 => some (stringDesc (s.serialText i))
  | _ => none

/-- A descriptor of one of the facet's functions, at the speed of its upstream (R26 to R30) (PRESUMED, log 24). -/
def State.descriptor (s : State) (f : Fn) (kind index : Nat) : Option (List Byte) :=
  let one := fun (l : List Byte) => if index = 0 then some l else none
  match f with
  | .hub i =>
    let hs := !s.fullSpeed i
    let proto := fun (h : Bool) => if h then 2 else 0
    let product := if s.alone then 0x4800 + s.ident.ports else 0x48A0 + i.val
    if kind = 1 then one (deviceDesc 9 (proto hs) product)
    else if kind = 2 then one (s.hubConfig i 2 hs)
    else if kind = 3 then s.textOf (if s.alone then partName s.ident else "Camtur prism image " ++ hexText 1 i.val) i index
    else if kind = 6 then one (qualifierDesc 9 (proto !hs))
    else if kind = 7 then one (s.hubConfig i 7 !hs)
    else if kind = 15 then one (s.bosDesc i)
    else if kind = 0x29 then one (s.hubDesc i)
    else none
  | .emb i =>
    let hs := !s.fullSpeed i
    if kind = 1 then one (deviceDesc 0 0 0x48E0)
    else if kind = 2 then one (mgmtConfig 2 1 hs)
    else if kind = 3 then s.textOf "Camtur CT48 management" i index
    else if kind = 6 then one (qualifierDesc 0 0)
    else if kind = 7 then one (mgmtConfig 7 1 !hs)
    else if kind = 15 then one (s.bosDesc i)
    else none
  | .standby u =>
    let i := (s.imageOfMirror u).getD 0
    let hs := (s.up u).speed == 3
    if kind = 1 then one (deviceDesc 0 0 0x48E8)
    else if kind = 2 then one (mgmtConfig 2 2 hs)
    else if kind = 3 then s.textOf "Camtur CT48 standby" i index
    else if kind = 6 then one (qualifierDesc 0 0)
    else if kind = 7 then one (mgmtConfig 7 2 !hs)
    else if kind = 15 then one (s.bosDesc i)
    else none

/-! ### Requests to the facet's functions (R32 to R34) -/

/-- A function of the facet answers a host: the hub and the embedded function of an image not while its host is lost, nor one that has come
back without a reset (R147, R172). -/
def State.fnHere (s : State) : Fn → Bool
  | .hub i => s.hubServes i
  | .emb i => s.hubServes i
  | .standby u => s.upShows u == .standby

/-- The run of the embedded or a standby function. -/
def State.fnDev (s : State) : Fn → DevFn
  | .emb i => s.emb i
  | .standby u => (s.up u).standby
  | .hub _ => {}
def State.setFnDev (s : State) (f : Fn) (x : DevFn) : State :=
  match f with
  | .emb i => s.setEmb i x
  | .standby u => s.modUp u fun y => { y with standby := x }
  | .hub _ => s

/-- The run of a function with its pending control transfer marked (R34). -/
def State.setControl (s : State) (f : Fn) (v : Bool) : State :=
  match f with
  | .hub i => s.modHub i fun h => { h with control := v }
  | f => s.setFnDev f { s.fnDev f with control := v }

/-- A control transfer of a function has been taken and has not reached its status packet (R34). -/
def State.controlOpen (s : State) : Fn → Bool
  | .hub i => (s.hub i).control || (s.hub i).waitsOn.isSome
  | f => (s.fnDev f).control

/-- A SETUP to one of the facet's functions (R34): it abandons a request that has not reached its status packet, and opens its own unless
it asks for data (DEDUCED, log 87). -/
def State.setupSeen (s : State) (f : Fn) (data : List Byte) : State :=
  let s := if s.controlOpen f then s.abortControl else s
  let s := match f with
    | .hub i => s.modHub i fun h => { h with waitsOn := none }
    | _ => s
  s.setControl f (byteAt data 0 < 128)

/-- The request that a function was asked has reached its status stage (R34). -/
def State.served (s : State) (f : Fn) : State := s.setControl f false

/-- A request to a function that no host is attached to does not happen; one that runs is served. -/
def State.atFn (s : State) (f : Fn) (g : State → State) : State := if s.fnHere f then (g s).served f else s

def State.stall (s : State) : State := s.emit .controlStall
def State.ack (s : State) : State := s.emit .controlAck
def State.reply (s : State) (b : List Byte) : State := s.emit (.controlData b)

/-- The bit of an endpoint address in `DevFn.halted`. -/
def haltBit (ep : Nat) : Nat := ep % 16 * 2 + boolNat (ep.testBit 7)

/-- The endpoints of the embedded and standby functions. -/
def mgmtEndpoint (ep : Nat) : Bool := ep == 0x01 || ep == 0x81 || ep == 0x82

/-- GET_STATUS (R32). -/
def State.cmdGetStatus (s : State) (f : Fn) (r : Recipient) (ep : Nat) : State :=
  s.atFn f fun s =>
    match r, f with
    | .device, .hub i => s.reply [byteOf (1 + 2 * boolNat (s.hub i).remoteWake), 0]
    | .device, _ => s.reply [1, 0]
    | .iface, _ => s.reply [0, 0]
    | .endpoint, .hub i => if ep % 128 = 0 then s.reply [0, 0]
        else if ep = 0x81 then s.reply [byteOf (boolNat (s.hub i).halted), 0] else s.stall
    | .endpoint, f =>
      if ep % 128 = 0 then s.reply [0, 0]
      else if mgmtEndpoint ep then s.reply [byteOf (boolNat ((s.fnDev f).halted.testBit (haltBit ep))), 0]
      else s.stall

/-- DEVICE_REMOTE_WAKEUP: the embedded and standby functions have no remote wake-up (R30, R32). -/
def State.remoteWakeFeature (s : State) (f : Fn) (v : Bool) : State :=
  s.atFn f fun s =>
    match f with
    | .hub i => (s.modHub i fun h => { h with remoteWake := v }).ack
    | _ => s.stall

def State.cmdSetFeatureDeviceRemoteWakeup (s : State) (f : Fn) : State := s.remoteWakeFeature f true
def State.cmdClearFeatureDeviceRemoteWakeup (s : State) (f : Fn) : State := s.remoteWakeFeature f false

/-- ENDPOINT_HALT of a function or a device (R32, R132, R164). -/
def State.haltFeature (s : State) (t : CtlTarget) (ep : Nat) (v : Bool) : State :=
  match t with
  | .dev i a _ => if s.hubServes i then s.haltChanged i a ep v else s
  | .fn f =>
    s.atFn f fun s =>
      match f with
      | .hub i =>
        if ep = 0x81 then (s.modHub i fun h => { h with halted := v, toggle := v && h.toggle }).ack else s.stall
      | f =>
        if mgmtEndpoint ep then
          let x := s.fnDev f
          (s.setFnDev f { x with halted := setBit x.halted (haltBit ep) v,
                                 toggle := if v then x.toggle else setBit x.toggle (haltBit ep) false }).ack
        else s.stall

def State.cmdSetFeatureEndpointHalt (s : State) (t : CtlTarget) (ep : Nat) : State := s.haltFeature t ep true
def State.cmdClearFeatureEndpointHalt (s : State) (t : CtlTarget) (ep : Nat) : State := s.haltFeature t ep false

/-- SET_FEATURE TEST_MODE on the upstream port (R32). -/
def State.cmdSetFeatureTestMode (s : State) (i : Image) (sel : Nat) : State :=
  match s.hubUp i with
  | none => s
  | some u => s.atFn (.hub i) fun s =>
    if 1 ≤ sel ∧ sel ≤ 4 then ((s.modHub i fun h => { h with testMode := sel }).ack).emit (.up u (.test sel)) else s.stall

/-- SET_ADDRESS (R32, R34, R49, R163, R164). -/
def State.cmdSetAddress (s : State) (t : CtlTarget) (addr : Nat) (cut : Cut) : State :=
  match t with
  | .fn f =>
    s.atFn f fun s =>
      if cut ≠ .whole then s.abortControl
      else if 127 < addr then s.stall
      else
        match f with
        | .hub i => (s.modHub i fun h => { h with addr := addr }).ack
        | .emb i =>
          let old := (s.emb i).addr
          let s := if old = 0 then s else s.putEntry i old none
          let s := s.setEmb i { s.emb i with addr := addr }
          let s := if addr = 0 then s
            else s.putEntry i addr
              (some { devAddr := addr, port := s.embeddedPort i, speed := if s.fullSpeed i then 0 else 2, toggle := false })
          s.ack
        | .standby u => (s.modUp u fun x => { x with standby := { x.standby with addr := addr } }).ack
  | .dev i a m =>
    if s.hubServes i ∧ cut = .whole ∧ addr ≤ 127 then
      let mine := s.keeps i (s.portAt i a m) && (s.record i (s.portAt i a m)).valid
      let s := s.addressSet i a m addr
      if mine then s.ack else s
    else s

/-- GET_DESCRIPTOR: a function answers, a device's answer is learned from (R26 to R30, R127). -/
def State.cmdGetDescriptor (s : State) (t : CtlTarget) (kind index : Nat) (answer : List Byte) : State :=
  match t with
  | .fn f =>
    s.atFn f fun s =>
      match s.descriptor f kind index with
      | some b => s.reply b
      | none => s.stall
  | .dev i a _ => if s.hubServes i then s.descriptorRead i a kind answer else s

def State.cmdGetConfiguration (s : State) (f : Fn) : State :=
  s.atFn f fun s =>
    match f with
    | .hub i => s.reply [byteOf (s.hub i).config]
    | f => s.reply [byteOf (s.fnDev f).config]

/-- Held ports are presented once the adopting host has configured the hub function (R161, R162): to one at full speed only FS and LS
devices on ports that become direct (R171). -/
def State.presentHeld (s : State) (i : Image) : State :=
  if s.holdState i = 6 then
    (s.forEach (s.logicalPorts i) fun s m =>
      if s.heldPort i m then
        match s.place i m with
        | .own p => if s.fullSpeed i ∧ s.get (.port p .portSpeed) = 3 then s else s.setPc p psConn
        | _ =>
          let x := s.remotePort i m
          if s.fullSpeed i then s else s.setRemotePort i m { x with change := setBit x.change psConn true }
      else s).modHold i fun h => { h with configured := true }
  else s

/-- SET_CONFIGURATION (R32, R34, R127, R166) (PRESUMED, log 24). -/
def State.cmdSetConfiguration (s : State) (t : CtlTarget) (value : Nat) (cut : Cut) : State :=
  match t with
  | .fn f =>
    s.atFn f fun s =>
      if cut ≠ .whole then s.abortControl
      else if 1 < value then s.stall
      else
        match f with
        | .hub i =>
          let s := s.modHub i fun h => { h with config := value, alt := 0, halted := false, toggle := false }
          let s := s.setRegBit (.hub .singleTtImages) i.val true
          (if value = 1 then s.presentHeld i else s).ack
        | f => (s.setFnDev f { s.fnDev f with config := value, halted := 0, toggle := 0 }).ack
  | .dev i a _ =>
    if s.hubServes i ∧ cut = .whole then
      let mine := s.configIsAbsorbed i a value
      let s := s.configurationSet i a value
      if mine then s.ack else s
    else s

def State.cmdGetInterface (s : State) (f : Fn) : State :=
  s.atFn f fun s =>
    match f with
    | .hub i => s.reply [byteOf (s.hub i).alt]
    | _ => s.reply [0]

/-- SET_INTERFACE: single or multiple TT for the hub function (R27, R32, R56) (PRESUMED, log 24). -/
def State.cmdSetInterface (s : State) (t : CtlTarget) (iface alt : Nat) : State :=
  match t with
  | .fn (.hub i) =>
    s.atFn (.hub i) fun s =>
      if iface = 0 ∧ (alt = 0 ∨ (alt = 1 ∧ !s.fullSpeed i)) then
        ((s.modHub i fun h => { h with alt := alt, halted := false, toggle := false }).setRegBit (.hub .singleTtImages) i.val (alt = 0)).ack
      else s.stall
  | .fn f => s.atFn f fun s => if iface = 0 ∧ alt = 0 then s.ack else s.stall
  | .dev i a _ => if s.hubServes i then s.interfaceSet i a iface alt else s

/-- GET_HUB_STATUS (R43, R45). -/
def State.cmdGetHubStatus (s : State) (i : Image) : State :=
  s.atFn (.hub i) fun s => s.reply [byteOf (2 * boolNat (s.tripped chanColl)), 0, byteOf (s.hub i).hubChange, 0]

/-- CLEAR_HUB_FEATURE C_HUB_LOCAL_POWER or C_HUB_OVER_CURRENT (R32). -/
def State.cmdClearHubFeature (s : State) (i : Image) (feature : Nat) : State :=
  s.atFn (.hub i) fun s =>
    if feature ≤ 1 then (s.modHub i fun h => { h with hubChange := setBit h.hubChange feature false }).ack else s.stall

/-! ### Port requests (R32, R123) -/

/-- What GET_PORT_STATUS answers for a logical port: status and change (R31, R32, R36, R123, R139). -/
def State.portView (s : State) (i : Image) (m : Nat) : Nat × Nat :=
  match s.place i m with
  | .embedded => (0x0103 + (if s.fullSpeed i then 0 else 0x400), 0)
  | .own p =>
    let (st, ch) := s.portReport p
    if s.fullSpeed i && s.adoptView i m && s.get (.port p .portSpeed) == 3 then (setBit (setBit st psConn false) psEnable false, ch)
    else (st, ch)
  | .remote _ _ =>
    let x := s.remotePort i m
    if s.outside i m || s.fullSpeed i || s.farGone i m || !s.domainOn 6 || !s.carriesImages then
      (setBit (setBit x.status psConn false) psEnable false, x.change)
    else (x.status, x.change)
  | .absent => (0, 0)

def State.cmdGetPortStatus (s : State) (i : Image) (m : Nat) : State :=
  s.atFn (.hub i) fun s =>
    if 1 ≤ m ∧ m ≤ s.portCount i then (let (st, ch) := s.portView i m; s.reply (bytesLe 2 st ++ bytesLe 2 ch)) else s.stall

/-- A PORT_REQ record (R123, R124): its EndpointSeq tells its answer from other PORT_STATUS records
(DESIGN CHOICE, log 88). -/
def portReqRecord (port seq : Nat) (q : PortReq) : RingBody :=
  portRecord { relayHdr 3 port 0 0 false with seq := seq } fun r => .portReq r q

/-- A request of the host for a relayed port travels to the owning facet, and its status stage waits for the answer (R123): a request that
still waits is abandoned (R34) (DEDUCED, log 87). -/
def State.carryRequest (s : State) (i : Image) (m slot port : Nat) (q : PortReq) : State :=
  let s := if (s.hub i).waitsOn.isSome then s.abortControl else s
  let seq := (s.hub i).portSeq % 65535 + 1
  let s := s.modHub i fun h => { h with portSeq := seq, waitsOn := some (m, seq) }
  (s.sendTo (s.memberAt slot) 8 i.val 0 (portReqRecord port seq q)).emit .controlNak

/-- A port request of the host: direct, carried to the owning facet, or without effect on the embedded function's port (R32, R123). -/
def State.portRequestAt (s : State) (i : Image) (m : Nat) (q : PortReq) : State :=
  s.atFn (.hub i) fun s =>
    if m = 0 ∨ s.portCount i < m then s.stall
    else
      match s.place i m with
      | .embedded => s.ack
      | .own p => (s.portRequest p q).ack
      | .remote slot port =>
        let s := match q with
          | .clearChange b =>
            let x := s.remotePort i m
            s.setRemotePort i m { x with change := setBit x.change b false }
          | _ => s
        s.carryRequest i m slot port q
      | .absent => s.stall

def State.cmdSetPortFeaturePortPower (s : State) (i : Image) (m : Nat) : State := s.portRequestAt i m (.power true)
def State.cmdClearPortFeaturePortPower (s : State) (i : Image) (m : Nat) : State := s.portRequestAt i m (.power false)
def State.cmdSetPortFeaturePortReset (s : State) (i : Image) (m : Nat) : State := 
  s.portRequestAt i m (.reset (s.get (.hold4 i .adoptResetAbsorbLimit)))
def State.cmdSetPortFeaturePortSuspend (s : State) (i : Image) (m : Nat) : State := s.portRequestAt i m (.suspend true)
def State.cmdClearPortFeaturePortSuspend (s : State) (i : Image) (m : Nat) : State := s.portRequestAt i m (.suspend false)
def State.cmdClearPortFeaturePortEnable (s : State) (i : Image) (m : Nat) : State := s.portRequestAt i m .disable

/-- SET_PORT_FEATURE PORT_TEST (R33). -/
def State.cmdSetPortFeaturePortTest (s : State) (i : Image) (m sel : Nat) : State :=
  s.atFn (.hub i) fun s =>
    match s.place i m with
    | .own p => if 1 ≤ sel ∧ sel ≤ 5 ∧ s.testAllowed p then (s.portRequest p (.test sel)).ack else s.stall
    | _ => s.stall

/-- CLEAR_PORT_FEATURE of a C_PORT_ feature: `bit` is its place in wPortChange (R32, R36). -/
def State.cmdClearPortFeatureCPort (s : State) (i : Image) (m bit : Nat) : State :=
  if bit ≤ 4 then s.portRequestAt i m (.clearChange bit) else s.atFn (.hub i) State.stall

/-! ### TT requests (R55 to R57) -/

/-- A TT request on a logical port (R57), refused at full speed (R31). `keep` tells which splits carried for it the entry facet goes on
with; a translator on another facet is told in a PORT_REQ record (DESIGN CHOICE, log 88). -/
def State.ttRequest (s : State) (i : Image) (m : Nat) (q : PortReq) (keep : EntrySplit → Bool) : State :=
  if s.hubServes i && s.fullSpeed i then s.atFn (.hub i) State.stall
  else
    let s := if s.hubServes i then
        { s with splits := s.splits.filter fun (x : EntrySplit) => !(x.image == i.val && x.port == m) || keep x }
      else s
    s.portRequestAt i m q

/-- The address and the endpoint on the wire of a host's (R50, R51). -/
def State.wireAddr (s : State) (i : Image) (addr m : Nat) : Nat :=
  (s.entry i addr).elim (if s.keeps i m ∧ addr = 0 then (s.record i m).devAddr else addr) fun e => e.devAddr

/-- CLEAR_TT_BUFFER (R57): the host names the device by its own address. -/
def State.cmdClearTtBuffer (s : State) (i : Image) (m addr ep : Nat) : State :=
  s.ttRequest i m (.ttClear (s.wireAddr i addr m) (s.mapEp i addr ep)) fun x => !(x.addr == addr && x.ep == ep && !x.periodic)

/-- RESET_TT (R57). -/
def State.cmdResetTt (s : State) (i : Image) (m : Nat) : State := s.ttRequest i m .ttReset fun _ => false

/-- STOP_TT (R57). -/
def State.cmdStopTt (s : State) (i : Image) (m : Nat) : State := s.ttRequest i m .ttStop fun _ => true

/-- A request that R32 does not list, or that lies outside its ranges (R32, R65). -/
def State.cmdStalledRequest (s : State) (f : Fn) : State := s.atFn f State.stall

/-! ### Upstream events (R35, R46, R59, R60) -/

/-- R35 for an unarmed image: every port goes to Powered-off, the entries are invalidated, all change bits read 0. -/
def State.resetUnarmed (s : State) (i : Image) : State :=
  let s := s.forEach (s.ownPorts i) State.resetOff
  let s := s.forEach (s.logicalPorts i) fun s m =>
    match s.place i m with
    | .remote slot port =>
      let s := s.sendTo (s.memberAt slot) 8 i.val 0 (portReqRecord port 0 .upstreamReset)
      ((s.dropRelay i m).dropEntries i m).setRemotePort i m ⟨0, 0, 0, 0⟩
    | _ => s
  s.emptyXlate i

/-- An upstream connects at a speed found at its reset: 3 high, 2 full (R31). -/
def State.setUpSpeed (s : State) (u : Upstream) (v : Nat) : State :=
  (s.modUp u fun x => { x with speed := v }).set (.hub .upstreamSpeed)
    (putBits (s.get (.hub .upstreamSpeed)) (2 * u.num + 1) (2 * u.num) v)

/-- The commands that a door behind an upstream holds are discarded (R367). -/
def State.dropCommands (s : State) (u : Upstream) : State :=
  let s := (s.cutReads (upDoor u)).modUp u fun x => { x with answers := [], notes := [], part := none }
  { s with doors := { s.doors with forwarded := s.doors.forwarded.filter fun f => f.door != upDoor u } }

/-- An upstream reset of an armed image starts adoption by its active upstream (R147, R160). -/
def State.resetAdopts (s : State) (i : Image) : State :=
  (s.startAdoption i false).modHold i fun h => { h with resetAt := some s.time.elapsed }

/-- The image whose adoption by AdoptAutoDelay began in this cycle and has taken this upstream off its host: a reset of the cycle wins over
it (R160) (DESIGN CHOICE, log 82). -/
def State.autoOvertaken (s : State) (u : Upstream) : Option Image :=
  (List.finRange 4).find? fun i => s.activeUp i == some u && s.holdState i == 6 && (s.hold i).viaMirror && !(s.hold i).attached &&
    (s.hold i).autoAt == some s.time.elapsed && s.domainOn 2

/-- The control transfers that an upstream reset finds cut short: those open at the hub and the embedded function of the image, and one that
the host was in where neither is known to be open (R34). -/
def State.openControls (s : State) (u : Upstream) (midControl : Bool) : Nat :=
  max (boolNat midControl) ((s.imageOfUp u).elim 0 fun i => boolNat (s.controlOpen (.hub i)) + boolNat (s.controlOpen (.emb i)))

/-- Reset on an upstream (R35, R147, R160, R172). `hs`: the host completes the high-speed handshake. -/
def State.cmdUpstreamReset (s : State) (u : Upstream) (midControl hs : Bool) : State :=
  let speed := if hs then 3 else 2
  match s.upShows u with
  | .nothing =>
    match s.autoOvertaken u with
    | some i =>
      let s := (((s.present u .hub).setUpSpeed u speed).defaultHub i).resetAdopts i
      match s.mirrorUp i with
      | some v => s.presentStandby v
      | none => s
    | none => s
  | .standby =>
    let s := if midControl || s.controlOpen (.standby u) then s.abortControl else s
    (((s.cutDelivery (upDoor u)).dropCommands u).modUp u fun x => { x with standby := {}, hostIdle := false }).setUpSpeed u speed
  | .hub =>
    let s := s.forEach (List.range (s.openControls u midControl)) fun s _ => s.abortControl
    match s.imageOfUp u with
    | none => s.setUpSpeed u speed
    | some i =>
      let st := s.holdState i
      let wasFull := s.fullSpeed i
      let s := ((s.defaultHub i).cutDelivery (upDoor u)).dropCommands u
      let s := s.setUpSpeed u speed
      if st = 0 then s.resetUnarmed i
      else
        let s := s.forEach (s.ownPorts i) State.endTest
        if st = 4 ∨ st = 5 then s.resetAdopts i
        else if st = 3 ∨ (st = 1 ∧ wasFull) then ((s.takeHeld i s.now).resetAdopts i).endIntent i
        else s

/-- SOF flows to the image's ports on this facet from a host's frame (R31, R46, R47, R228): `source` 1 repeated, 2 generated. A full-speed
image has no translators, and repeats the frame to its FS ports and as a keep-alive to its LS ports. In state 5 no SOF is sent (R149). -/
def State.repeatSof (s : State) (i : Image) (frame micro source : Nat) : State :=
  let s := if s.holdState i = 4 ∨ s.holdState i = 5 then s else s.firstSof i (frame * 8 + micro)
  s.forEach (if s.holdState i = 5 then [] else s.ownPorts i) fun s p =>
    match s.logicalOf p with
    | none => s
    | some (_, m) =>
      let open_ := !s.outside i m || s.armed i
      let v := s.get (.port p .portSpeed)
      if !s.awake p ∨ s.onGrid i m ∨ !open_ then s
      else if s.fullSpeed i ∧ (v = 1 ∨ v = 2) then
        ((s.emit (.line p (if v = 1 then .keepAlive else .sof frame 0))).lensCount 8 (placePort p) 1).writeRow
          p.val (frame * 8) source i.val
      else if v = 3 then
        let s := (s.emit (.line p (.sof frame micro))).lensCount 8 (placePort p) 1
        let s := if micro = 0 then s.usbSeen (placePort p) true 0xA5 (frame % 128) (16 * i.val + 128) [] else s
        if micro = 0 then s.writeRow p.val (frame * 8 + micro) source i.val else s
      else s

/-- A recalled image locks to eight consecutive SOFs (R172). -/
def State.countRecall (s : State) (i : Image) (count : Nat) : State :=
  if s.holdState i = 4 ∧ s.get (.hold4 i .holdoverEntryCause) = 3 then
    if s.isTrue (.hold4 i .holdoverRecall) then
      let h := s.hold i
      let prev := s.frameCount i
      let n := if h.recallSofs ≠ 0 ∧ (prev + 1) % 16384 = count then h.recallSofs + 1 else 1
      s.setHold i { h with recallSofs := n, recalled := h.recalled || decide (8 ≤ n) }
    else s.modHold i fun h => { h with blocked := true }
  else s

/-- A host SOF (R46, R47, R49, R60, R172): every upstream that shows a function records it (R227, R228). -/
def State.cmdHostSof (s : State) (u : Upstream) (frame micro : Nat) : State :=
  let pl := placeUp u
  let shows := s.upShows u
  if shows = .nothing then s
  else
    let s := (s.lensCount 8 pl 1)
    let i := if shows = .hub then s.imageOfUp u else s.imageOfMirror u
    let s := if micro = 0 then (s.usbSeen pl false 0xA5 (frame % 128) 0 []).writeRow (16 + u.num) (frame * 8 + micro) 1 (i.elim 0 Fin.val)
      else s
    if shows = .standby then s.modUp u fun x => { x with hostIdle := false }
    else
    match s.imageOfUp u with
    | none => s
    | some i =>
      let s := s.countRecall i (frame * 8 + micro)
      let wasSusp := (s.hub i).suspended || (s.hub i).resuming
      let s := s.modHub i fun h =>
        { h with locked := true, frame := frame, micro := micro, lastSof := s.extended, suspended := false, resuming := false,
                 wakeEnd := 0 }
      let s := if wasSusp ∧ s.holdState i ≠ 5 then s.unsuspendImage i else s
      let s := { s with engineMissed := false }
      let s := s.repeatSof i frame micro 1
      let s := if micro = 0 ∧ !(s.hold i).started then s.frameBoundary i else s
      let s := if s.alone ∨ s.holdState i = 4 ∨ s.holdState i = 5 then s else s.broadcast 4 i.val (.sync (.frame i frame micro s.now))
      (s.retryRelay i).grantAll

/-- A micro-frame without SOF (R46, R65). -/
def State.cmdMicroframeWithoutSof (s : State) (u : Upstream) : State :=
  let s := { s with engineMissed := false }
  match s.imageOfUp u with
  | none => s
  | some i =>
    let missed := s.upShows u == .hub && (s.up u).speed == 3 && (s.hub i).config == 1 && !(s.hub i).suspended &&
      s.holdState i != 4 && s.holdState i != 5
    let s := ((s.modHold i fun h => { h with recallSofs := 0 }).retryRelay i).grantAll
    s.when missed fun s => (s.bump (.hub .sofMissCount)).flag (.hub .hubEvents) hubSofMiss

/-- The upstream has been idle for 3 ms (R46, R59, R144, R147) (DEDUCED, log 79). -/
def State.cmdUpstreamIdleSuspend (s : State) (u : Upstream) : State :=
  if s.upShows u = .standby then s.modUp u fun x => { x with hostIdle := true }
  else
  match s.imageOfUp u with
  | none => s
  | some i =>
    let st := s.holdState i
    if s.upShows u = .hub ∧ (st = 0 ∨ st = 2 ∨ (st = 1 ∧ s.fullSpeed i)) ∧ !(s.hub i).suspended then
      let s := (s.modHub i fun h => { h with suspended := true, resuming := false }).suspendImage i
      let s := s.modHold i fun h => { h with windowOpen := false }
      if st = 0 then (if s.alone then s else s.broadcast 4 i.val (.sync (.holdState i 9))) else s.setHoldState i 3
    else s

/-- Resume signalled on the upstream (R60, R62, R147): it absorbs a device's wake that still drives K (DEDUCED, log 29). A
host whose loss has made its image dormant resumes nothing, for R147 gives no such row. -/
def State.cmdHostResume (s : State) (u : Upstream) : State :=
  if s.upShows u = .standby then s.modUp u fun x => { x with hostIdle := false }
  else
  match s.imageOfUp u with
  | none => s
  | some i =>
    if s.upShows u = .hub ∧ (s.hub i).suspended ∧ (s.holdState i = 0 ∨ s.holdState i = 3) then
      let s := if s.time.elapsed < (s.hub i).wakeEnd then s.wakeMerged else s
      let s := (s.modHub i fun h => { h with resuming := true, wakeEnd := 0 }).resumePorts i
      if s.holdState i = 3 then (s.endIntent i).setHoldState i 1
      else if s.alone then s
      else s.broadcast 4 i.val (.sync (.holdState i 11))
    else s

/-- A TT's SOF or keep-alive at a 1 ms frame (R48, R228). -/
def State.cmdTtFrameSof (s : State) (p : Port) : State :=
  let v := s.get (.port p .portSpeed)
  match s.logicalOf p with
  | none => s
  | some (i, m) =>
    if s.awake p ∧ (v = 1 ∨ v = 2) ∧ !s.onGrid i m ∧ s.holdState i ≠ 5 ∧ !s.fullSpeed i then
      let f := (s.hub i).frame
      let s := (s.emit (.line p (if v = 1 then .keepAlive else .sof f 0))).lensCount 8 (placePort p) 1
      s.writeRow p.val (f * 8) 4 i.val
    else s

/-! ### Tokens (R49, R50, R65) -/

/-- The status-change report of the hub function (R27). -/
def State.changeBitmap (s : State) (i : Image) : Nat :=
  boolNat ((s.hub i).hubChange ≠ 0) +
    ((s.logicalPorts i).map fun m => if (s.portView i m).2 = 0 then 0 else 2 ^ m).sum

/-- An IN to the status-change endpoint. -/
def State.statusChange (s : State) (i : Image) (acked : Bool) : State :=
  let h := s.hub i
  if h.config ≠ 1 then s.answerHs i h.addr 1 .silent
  else if h.halted then s.answerHs i h.addr 1 .stall
  else
    let b := s.changeBitmap i
    if b = 0 then s.answerHs i h.addr 1 .nak
    else
      let s := s.answerData i h.addr 1 h.toggle (bytesLe (s.bitmapBytes i) b)
      if acked then s.modHub i fun h => { h with toggle := !h.toggle } else s

/-- A token leaves on a port, with the data packet that follows it; provocation may spoil it (R50, R434) (DEDUCED, log 76). -/
def State.sendToken (s : State) (i : Image) (p : Port) (t : Token) (addr ep crc : Nat) (toggle : Bool) : State :=
  let (bad, s) := s.provoke 4 (placePort p)
  let crc := if bad then crc ^^^ 31 else crc
  let s := s.emit (.token p t.pid addr ep crc toggle t.data)
  let b10 := ep % 16 + 16 * i.val + 64 * speedCode (s.get (.port p .portSpeed))
  let s := s.usbSeen (placePort p) true (tokenPid t.pid) addr b10 []
  if t.pid = .out ∨ t.pid = .setup then (s.usbSeen (placePort p) true (dataPid toggle) addr b10 t.data).spoil (placePort p) else s

/-- The flip bit of a host endpoint on a direct port (R50, R167). -/
def State.flipOf (s : State) (i : Image) (m : Nat) (x : Xlate) (ep : Nat) (dirIn : Bool) : Bool :=
  let r := s.record i m
  x.toggle && ep != 0 && (if dirIn then r.flipIn else r.flipOut).testBit ep

/-- The device on a direct port answers a token (R49, R50, R167). -/
def State.directAnswer (s : State) (i : Image) (p : Port) (x : Xlate) (addr ep : Nat) (t : Token) (a : DevAnswer) (acked : Bool) : State :=
  let e := s.mapEp i addr ep
  let pl := placePort p
  let b10 := e % 16 + 16 * i.val + 64 * speedCode (s.get (.port p .portSpeed))
  let (lost, s) := s.provoke 3 pl
  if lost then s
  else
    match a with
    | .data bytes toggle =>
      if t.pid = .input then
        let s := (s.usbSeen pl false (dataPid toggle) x.devAddr b10 bytes).answerData i addr ep (toggle != s.flipOf i x.port x e true) bytes
        if acked ∧ e ≠ 0 then s.setDevToggle i x.port addr e true toggle else s
      else s
    | .ack =>
      let s := (s.usbSeen pl false 0xD2 x.devAddr b10 []).answerHs i addr ep .ack
      if t.pid = .out ∧ e ≠ 0 then s.setDevToggle i x.port addr e false (t.toggle != s.flipOf i x.port x e false) else s
    | .nyet =>
      let s := (s.usbSeen pl false 0x96 x.devAddr b10 []).answerHs i addr ep .nyet
      if t.pid = .out ∧ e ≠ 0 then s.setDevToggle i x.port addr e false (t.toggle != s.flipOf i x.port x e false) else s
    | .nak => (s.usbSeen pl false 0x5A x.devAddr b10 []).answerHs i addr ep .nak
    | .stall => (s.usbSeen pl false 0x1E x.devAddr b10 []).answerHs i addr ep .stall
    | .crcError => s.lensCount 6 pl 1
    | .badPid => s.lensCount 6 pl 1

/-- A direct port that a token may go to: enabled, awake, inside the aperture, at the image's speed (R31, R49). -/
def State.directOpen (s : State) (i : Image) (m : Nat) (p : Port) : Bool :=
  s.awake p && s.portOn p && !s.outside i m && (s.fullSpeed i || s.get (.port p .portSpeed) == 3)

/-- A token that reaches a relayed device is answered by the entry side of relay (R129 to R131). -/
def State.relayToken (s : State) (i : Image) (addr ep : Nat) (t : Token) (acked : Bool) : State :=
  match t.pid with
  | .input => s.cmdHostHsInRelayed i addr ep acked
  | .out => s.cmdHostHsOutRelayed i addr ep t.toggle t.data
  | .setup => s.cmdHostSetupRelayed i addr ep t.data
  | _ => s.cmdHostPingRelayed i addr ep

/-- The direct ports of an image that a token to address 0 reaches: every enabled one outside adoption (R49), the one of R165 in it. -/
def State.addr0Direct (s : State) (i : Image) : List Port :=
  (s.ownPorts i).filter fun p => (s.logicalOf p).any fun e => s.directOpen i e.2 p && !s.relayed i e.2 &&
    (s.holdState i != 6 || s.addr0Port i == some e.2)

/-- A token to address 0 (R49, R165): it leaves on the direct ports, and the port that answers does so on the wire when it is a direct one
and through relay when it is relayed. -/
def State.addr0Token (s : State) (i : Image) (ep : Nat) (t : Token) (a : DevAnswer) (acked : Bool) : State :=
  let s := if s.holdState i = 6 ∧ 1 < (s.addr0Ports i).length then
      (s.bump (.hold .adoptAddr0ConflictCount)).flag (.hold .holdoverEvents) holdAddr0Conflict
    else s
  let ps := s.addr0Direct i
  let s := s.forEach ps fun s p => s.sendToken i p t 0 ep (crc5 0 ep) t.toggle
  match s.addr0Port i with
  | none => s
  | some m =>
    if s.relayed i m then (if (s.relayTarget i 0).any fun x => x.speed == 2 || s.fullSpeed i then s.relayToken i 0 ep t acked else s)
    else
      match s.place i m with
      | .own p =>
        if ps.contains p then s.directAnswer i p { devAddr := 0, port := m, speed := 0, toggle := false } 0 ep t a acked else s
      | _ => s

/-- A token with a bad CRC5 (R50, R65): counted, and routed under its unrewritten address with its CRC5 inverted. -/
def State.badToken (s : State) (i : Image) (u : Upstream) (ep : Nat) (t : Token) : State :=
  let s := ((s.bump (.hub .tokenCrcErrorCount)).flag (.hub .hubEvents) hubTokenCrc).lensCount 6 (placeUp u) 1
  let crc := crc5 t.addr ep ^^^ 31
  if t.addr = 0 then s.forEach (s.addr0Direct i) fun s p => s.sendToken i p t 0 ep crc t.toggle
  else
    match s.entry i t.addr with
    | some x =>
      match s.place i x.port with
      | .own p => if s.directOpen i x.port p && !s.keeps i x.port then s.sendToken i p t t.addr ep crc t.toggle else s
      | _ => s
    | none => s

/-- A token goes nowhere (R49, R54, R65). -/
def State.unrouted (s : State) : State := (s.bump (.hub .unroutedTokenCount)).flag (.hub .hubEvents) hubUnrouted

/-- A token to a device with a translation entry (R49, R50). -/
def State.deviceToken (s : State) (i : Image) (x : Xlate) (ep : Nat) (t : Token) (a : DevAnswer) (acked : Bool) : State :=
  if s.relayed i x.port then s.relayToken i t.addr ep t acked
  else
    match s.place i x.port with
    | .own p =>
      if s.directOpen i x.port p then
        let e := s.mapEp i t.addr ep
        let toggle := t.toggle != s.flipOf i x.port x e false
        (s.sendToken i p t x.devAddr e (crc5 x.devAddr e) toggle).directAnswer i p x t.addr ep t a acked
      else s
    | .embedded => if t.pid = .setup then s.setupSeen (.emb i) t.data else s
    | _ => s

/-- A token to the hub function (R27, R34). -/
def State.hubToken (s : State) (i : Image) (ep : Nat) (t : Token) (acked : Bool) : State :=
  if t.pid = .setup ∧ ep = 0 then s.setupSeen (.hub i) t.data
  else if t.pid = .input ∧ ep = 1 then s.statusChange i acked
  else s

/-- The rewrite stage routes a host token (R49, R50, R65, R165). -/
def State.cmdHostToken (s : State) (u : Upstream) (t : Token) (a : DevAnswer) (acked : Bool) : State :=
  match s.imageOfUp u with
  | none => s
  | some i =>
    let pl := placeUp u
    if s.upShows u ≠ .hub ∨ (s.hold i).blocked ∨ s.holdState i = 4 ∨ s.holdState i = 5 then s
    else
      let (lost, s) := s.provoke 3 pl
      let s := s.usbSeen pl false (tokenPid t.pid) t.addr (t.ep % 16 + 16 * i.val) []
      let s := if t.pid = .out ∨ t.pid = .setup then s.usbSeen pl false (dataPid t.toggle) t.addr (t.ep % 16 + 16 * i.val) t.data else s
      let ep := t.ep % 16
      if lost then s
      else if !t.pidOk then ((s.bump (.hub .badPidCount)).flag (.hub .hubEvents) hubBadPid).lensCount 6 pl 1
      else if t.pid = .ext then (s.bump (.hub .lpmTokenIgnoredCount)).flag (.hub .hubEvents) hubLpmIgnored
      else if !t.crcOk then s.badToken i u ep t
      else if t.addr = 0 then
        ((if (s.hub i).addr = 0 then s.hubToken i ep t acked else s).modHub i fun h => { h with port0 := t.port }).addr0Token i ep t a acked
      else if t.addr = (s.hub i).addr then s.hubToken i ep t acked
      else
        match s.entry i t.addr with
        | none => s.unrouted
        | some x => s.deviceToken i x ep t a acked

/-! ### Splits (R55 to R57, R125, R126, R140) -/

/-- A handshake for a host's split (DEDUCED, log 31). -/
def State.splitAnswer (s : State) (u : Upstream) (h : HostHs) : State :=
  let s := s.emit (.handshake h)
  if h = .silent then s else s.usbSeen (placeUp u) true (hsPid h) 0 0 []

/-- A full- or low-speed port that a split may name on this facet (R57, R65). -/
def State.splitPort (s : State) (i : Image) (p : Port) : Bool :=
  let v := s.get (.port p .portSpeed)
  s.pst p == 4 && (v == 1 || v == 2) && !s.fullSpeed i

def State.splitBad (s : State) : State := (s.bump (.hub .splitBadPortCount)).flag (.hub .hubEvents) hubSplitBadPort

/-- What a device or an external hub answers to a host on a direct port goes on to the host. -/
def State.splitResultAnswer (s : State) (u : Upstream) (r : DevAnswer) : State :=
  match r with
  | .data bytes toggle => ((s.emit (.hostData toggle bytes)).usbSeen (placeUp u) true (dataPid toggle) 0 0 bytes).spoil (placeUp u)
  | .ack => s.splitAnswer u .ack
  | .nak => s.splitAnswer u .nak
  | .nyet => s.splitAnswer u .nyet
  | .stall => s.splitAnswer u .stall
  | .crcError => s.splitAnswer u .err
  | .badPid => s.splitAnswer u .err

/-- A device's answer as the host sees it: data PIDs are exchanged while the endpoint's toggle translation is active (R50, R167). -/
def exchanged (a : DevAnswer) (flip : Bool) : DevAnswer :=
  match a with
  | .data bytes toggle => .data bytes (toggle != flip)
  | a => a

/-- A split addressed to an external hub (R50, R54): on a direct port it is repeated to that hub, the hub's address and the device's own
address, endpoint and data PIDs rewritten by their entries, and the hub's answer goes to the host; on a relayed port, or without an entry,
its token has no route. -/
def State.externalSplit (s : State) (u : Upstream) (i : Image) (x : Split) (hub : Nat) (answer : Option DevAnswer)
    (complete : Bool) : State :=
  match s.entry i hub with
  | none => s.unrouted
  | some e =>
    if s.relayed i e.port then s.unrouted
    else
      match s.place i e.port with
      | .own p =>
        if s.directOpen i e.port p then
          let d := (s.entry i x.addr).getD { devAddr := x.addr, port := e.port, speed := 0, toggle := false }
          let ep := s.mapEp i x.addr x.ep
          let flip := s.flipOf i d.port d ep x.dirIn
          let s := (s.emit (.hubSplit p e.devAddr x.port d.devAddr ep complete (x.toggle != (flip && !x.dirIn)) x.data)).usbSeen
            (placePort p) true 0x78 e.devAddr (ep % 16 + 16 * i.val) x.data
          answer.elim s fun r => s.splitResultAnswer u (exchanged r flip)
        else s
      | _ => s.unrouted

/-- The upstream takes splits for an image: not while its host is lost or its answers are held back (R147, R172). -/
def State.splitsOpen (s : State) (u : Upstream) (i : Image) : Bool :=
  s.upShows u == .hub && !(s.hold i).blocked && s.holdState i != 4 && s.holdState i != 5

/-- The translation of a split (R50): the device address on the wire, the device's endpoint, and whether data PIDs are exchanged for it. A
held device keeps its toggles from its absorbed SET_CONFIGURATION on, so that its flip bits hold before the step as well (R167). -/
def State.splitRewrite (s : State) (i : Image) (x : Split) : Nat × Nat × Bool :=
  let e := s.mapEp i x.addr x.ep
  (s.wireAddr i x.addr x.port, e, (s.entry i x.addr).any fun q =>
    s.flipOf i q.port { q with toggle := q.toggle || (s.keeps i q.port && (s.record i q.port).hostAddr == x.addr) } e x.dirIn)

/-- The transaction of a split as the translator runs it. -/
def State.ttSplitOf (s : State) (i : Image) (x : Split) : TtSplit :=
  let (w, e, flip) := s.splitRewrite i x
  { addr := w, ep := e, dirIn := x.dirIn, setup := x.setup, iso := x.iso, micro := x.micro, toggle := x.toggle != (flip && !x.dirIn),
    data := x.data, remote := none, periodic := x.periodic }

/-- A start-split for a translator of this facet (R55 to R57) (DESIGN CHOICE, log 28). -/
def State.localStart (s : State) (u : Upstream) (i : Image) (p : Port) (x : Split) : State :=
  let q := s.ttSplitOf i x
  if (s.port p).tt.stopped then s.splitAnswer u .nak
  else if s.ttRoom i x.port p x.periodic x.data.length then
    if x.periodic then
      (s.modPort p fun y => { y with tt := { y.tt with pipeline := y.tt.pipeline ++ [q] } }).emit (.ttSplit p q.addr q.ep)
    else
      ((s.modPort p fun y => { y with tt := { y.tt with buffers := y.tt.buffers ++ [q] } }).emit
        (.ttSplit p q.addr q.ep)).splitAnswer u .ack
  else if x.periodic then
    (s.modPort p fun y => { y with tt := { y.tt with dropped := y.tt.dropped ++ [(q.addr, q.ep, q.dirIn)] } }).ttError p
  else s.splitAnswer u .nak

/-- A relayed port that a split may name (R31, R65, R139): an enabled FS or LS port within reach. -/
def State.remoteSplitPort (s : State) (i : Image) (m : Nat) : Bool :=
  let r := s.remotePort i m
  r.status.testBit psEnable && !r.status.testBit psSuspend && (r.speed == 1 || r.speed == 2) && !s.outside i m && !s.farGone i m &&
    !s.fullSpeed i && s.carriesImages

/-- EpType of a split's transaction (R124). -/
def splitType (ep : Nat) (periodic iso : Bool) : Nat := if iso then 3 else if periodic then 2 else if ep = 0 then 0 else 1

/-- The largest packet of a device's endpoint as learned, 64 for a full-speed endpoint that is not (R124, R127). -/
def State.splitPacket (s : State) (i : Image) (addr m e : Nat) (dirIn : Bool) : Nat :=
  if e = 0 then 64 else ((s.infoOf i addr m).endpoint e dirIn).elim 64 fun q => q.maxPacket % 2048

/-- The host side of a carried control transfer begins with its SETUP (R132): IN data from DATA1 on. -/
def State.carrySetup (s : State) (i : Image) (x : Split) : State :=
  if x.setup then
    let s := s.setRelayEp i x.addr 0 false { (s.relayEp i x.addr 0 false) with lastOut := some false, control := 0 }
    s.setRelayEp i x.addr 0 true { (s.relayEp i x.addr 0 true) with hostToggle := true }
  else s

/-- A start-split carried to the translator of another facet (R125, R126): the two sides keep their toggles apart (R132, R167), and the
record has no place for one. OUT data that the device has already taken are not carried again (DEDUCED, log 31). -/
def State.carryStart (s : State) (u : Upstream) (i : Image) (slot port : Nat) (x : Split) : State :=
  let q := s.ttSplitOf i x
  let busy := (s.splits.filter fun q => q.image == i.val && q.port == x.port && !q.periodic).length
  if !x.periodic ∧ 4 ≤ busy then s.splitAnswer u .nak
  else
    let r := s.relayEp i x.addr q.ep x.dirIn
    let again := !x.dirIn && !x.setup && !x.iso && r.lastOut == some x.toggle
    let (tag, s) := s.newTag
    let seq := (r.seq + 1) % 65536
    let s := s.carrySetup i x
    let s := if again then s
      else
        let hdr : RelayHdr := { relayHdr 6 port q.addr q.ep x.dirIn with
          setup := x.setup, epType := splitType q.ep x.periodic x.iso, maxPacket := s.splitPacket i x.addr x.port q.ep x.dirIn,
          seq := seq, stamp := x.micro % 16384 }
        ((s.setRelayEp i x.addr q.ep x.dirIn { (s.relayEp i x.addr q.ep x.dirIn) with seq := seq }).bump (.relay .relayReqCount)).sendTo
          (s.memberAt slot) 10 i.val tag (relayRecord hdr x.data)
    let s := if x.iso ∧ !x.dirIn then s
      else { s with splits := s.splits ++ [{ image := i.val, port := x.port, addr := x.addr, ep := x.ep, dirIn := x.dirIn,
                                             periodic := x.periodic, micro := x.micro, tag := tag, seq := seq, toggle := x.toggle,
                                             result := if again then some (0, []) else none }] }
    if x.periodic then s else s.splitAnswer u .ack

/-- The host's data toggle of an IN result that was carried (R132): of an isochronous endpoint always DATA0, of others it advances with each
packet (DEDUCED, log 31). -/
def State.carriedData (s : State) (u : Upstream) (i : Image) (x : Split) (data : List Byte) : State :=
  let e := s.mapEp i x.addr x.ep
  let r := s.relayEp i x.addr e true
  if x.iso then s.splitResultAnswer u (.data data false)
  else (s.splitResultAnswer u (.data data r.hostToggle)).setRelayEp i x.addr e true { r with hostToggle := !r.hostToggle }

/-- A split of a control transfer that the hub itself completes for a held device (R164, R166). -/
def State.splitAbsorbed (s : State) (i : Image) (x : Split) : Bool :=
  x.external.isNone && x.ep % 16 == 0 &&
    (if x.setup then s.absorbs i x.addr x.port x.data else (s.relayEp i x.addr 0 false).control == 5)

/-- The start-split of such a transfer is taken, and nothing goes to the device (R164, R166). -/
def State.absorbStart (s : State) (u : Upstream) (i : Image) (x : Split) : State :=
  let s := if x.setup then
      s.setRelayEp i x.addr 0 false { (s.relayEp i x.addr 0 false) with control := 5, setup := x.data, lastOut := some false }
    else s
  s.splitAnswer u .ack

/-- Its complete-split: the SETUP is acknowledged, and the IN status stage completes the transfer (R164, R166). -/
def State.absorbComplete (s : State) (u : Upstream) (i : Image) (x : Split) : State :=
  if x.dirIn then (s.splitResultAnswer u (.data [] true)).relayControlDone i x.addr x.port else s.splitAnswer u .ack

/-- A start-split of a host (R54, R57, R125, R126, R164, R166). -/
def State.cmdHostStartSplit (s : State) (u : Upstream) (x : Split) : State :=
  match s.imageOfUp u with
  | none => s
  | some i =>
    if !s.splitsOpen u i then s
    else
      let s := s.usbSeen (placeUp u) false 0x78 x.addr (x.ep % 16 + 16 * i.val) x.data
      match x.external with
      | some (hub, answer) => s.externalSplit u i x hub answer false
      | none =>
        let absorbed := s.splitAbsorbed i x
        let s := if x.setup ∧ !absorbed ∧ (s.relayEp i x.addr 0 false).control = 5 then
            s.setRelayEp i x.addr 0 false { (s.relayEp i x.addr 0 false) with control := 0, setup := [] }
          else s
        match s.place i x.port with
        | .own p => if !s.splitPort i p then s.splitBad else if absorbed then s.absorbStart u i x else s.localStart u i p x
        | .remote slot port =>
          if !s.remoteSplitPort i x.port then s.splitBad else if absorbed then s.absorbStart u i x else s.carryStart u i slot port x
        | _ => s.splitBad

/-- A complete-split for a translator of this facet (R57). -/
def State.localComplete (s : State) (u : Upstream) (i : Image) (p : Port) (x : Split) : State :=
  let (w, e, flip) := s.splitRewrite i x
  let tt := (s.port p).tt
  let hit := fun (q : TtResult) => q.addr == w && q.ep == e && q.dirIn == x.dirIn
  if tt.stopped then s.splitAnswer u .nak
  else if x.periodic then
    if tt.dropped.contains (w, e, x.dirIn) then
      (s.modPort p fun y => { y with tt := { y.tt with dropped := y.tt.dropped.erase (w, e, x.dirIn) } }).splitAnswer u .err
    else
      match tt.results.find? hit with
      | some r => (s.modPort p fun y => { y with tt := { y.tt with results := y.tt.results.erase r } }).splitResultAnswer
        u (exchanged r.answer flip)
      | none =>
        s.splitAnswer u (if tt.pipeline.any fun q => q.addr == w && q.ep == e && q.dirIn == x.dirIn then .nyet else .err)
  else
    match tt.done.find? hit with
    | some r => (s.modPort p fun y => { y with tt := { y.tt with done := y.tt.done.erase r } }).splitResultAnswer
        u (exchanged r.answer flip)
    | none => s.splitAnswer u .nyet

/-- A complete-split that comes late: micro-frame X + 4 of its start-split has begun. Frame numbers wrap at 2048, and with them the
micro-frame count at 16384 (R126) (DEDUCED, log 31). -/
def splitLate (now start : Nat) : Bool := decide (4 ≤ (now + 16384 - start % 16384) % 16384 ∧ (now + 16384 - start % 16384) % 16384 < 8192)

/-- A complete-split for a split carried to another facet (R125, R126, R140). The Detail of TT_ERROR is the logical port: the port has no
local number here (R332, R336) (DESIGN CHOICE, log 110). -/
def State.carriedComplete (s : State) (u : Upstream) (i : Image) (x : Split) : State :=
  match s.splits.find? fun q => q.image == i.val && q.port == x.port && q.addr == x.addr && q.ep == x.ep && q.dirIn == x.dirIn &&
      q.periodic == x.periodic with
  | none => s.hostError.splitAnswer u (if x.periodic then .err else .nyet)
  | some q =>
    match q.result with
    | some (res, bytes) =>
      let s := { s with splits := s.splits.erase q }
      if res = 0 then (if x.dirIn then s.carriedData u i x bytes else s.splitAnswer u .ack)
      else s.splitAnswer u (if res = 1 then .nak else if res = 2 then .stall else .err)
    | none =>
      if !q.periodic || !splitLate x.micro q.micro then s.splitAnswer u .nyet
      else
        let s := { s with splits := s.splits.erase q }
        let s := (s.bump (.relay .relaySplitLateCount)).flag (.relay .relayEvents) relaySplitLate
        (s.raise 37 x.port).splitAnswer u .err

/-- A complete-split of a host (R54, R57, R65, R125, R126, R140, R164, R166). -/
def State.cmdHostCompleteSplit (s : State) (u : Upstream) (x : Split) : State :=
  match s.imageOfUp u with
  | none => s
  | some i =>
    if !s.splitsOpen u i then s
    else
      let s := s.usbSeen (placeUp u) false 0x78 x.addr (x.ep % 16 + 16 * i.val) []
      match x.external with
      | some (hub, answer) => s.externalSplit u i x hub answer true
      | none =>
        let absorbed := s.splitAbsorbed i { x with setup := x.setup && (s.relayEp i x.addr 0 false).control != 5 }
        match s.place i x.port with
        | .own p => if !s.splitPort i p then s.splitBad else if absorbed then s.absorbComplete u i x else s.localComplete u i p x
        | .remote _ _ =>
          if !s.remoteSplitPort i x.port then s.splitBad else if absorbed then s.absorbComplete u i x else s.carriedComplete u i x
        | _ => s.splitBad

/-! ### Ends of transactions (R57, R64, R126, R234) -/

/-- A bad PID check of a device toward the engine or a TT (R65). -/
def State.deviceBadPid (s : State) (p : Port) : State :=
  ((s.bump (.hub .badPidCount)).flag (.hub .hubEvents) hubBadPid).lensCount 6 (placePort p) 1

/-- The host address of the device that a translator's transaction addresses. -/
def State.ttHostAddr (s : State) (i : Image) (m w : Nat) : Nat :=
  if (s.record i m).valid ∧ (s.record i m).devAddr = w then (s.record i m).hostAddr else (s.hostAddrOf i m w).getD 0

/-- The device-side toggle follows an acknowledged data packet of a TT (R167). -/
def State.ttToggle (s : State) (p : Port) (q : TtSplit) (answer : DevAnswer) : State :=
  match s.logicalOf p with
  | none => s
  | some (i, m) =>
    let a := s.ttHostAddr i m q.addr
    match answer with
    | .data _ t => if q.dirIn ∧ q.ep ≠ 0 ∧ !q.iso then s.setDevToggle i m a q.ep true t else s
    | .ack => if !q.dirIn ∧ q.ep ≠ 0 ∧ !q.iso then s.setDevToggle i m a q.ep false q.toggle else s
    | _ => s

/-- Result code of R124. -/
def answerCode : DevAnswer → Nat
  | .data _ _ => 0
  | .ack => 0
  | .nyet => 0
  | .nak => 1
  | .stall => 2
  | .crcError => 3
  | .badPid => 3
def answerBytes : DevAnswer → List Byte
  | .data b _ => b
  | _ => []

/-- A launch on an FS or LS port that runs through the port's TT (R234). -/
def State.ttLaunch (s : State) (p : Port) : Option Launch :=
  s.time.launches.find? fun l => l.running && (s.place (imageOf l.image) l.port == .own p) && s.get (.port p .portSpeed) != 3

/-- After a NYET the next OUT of an endpoint begins with a PING, until a PING is acknowledged (R63). -/
def State.notePing (s : State) (x : Xact) (result : Nat) (nyet : Bool) : State :=
  if x.dirIn || x.setup then s
  else
    let o := s.ownEp x.port x.addr x.ep false
    s.setOwnEp x.port x.addr x.ep false { o with ping := nyet || (result == 1 && x.ping) }

/-- A context's transaction ends with a result to its requester (R64): 0 data or ACK, 1 NAK, 2 STALL, 3 error. -/
def State.engineFinish (s : State) (n : Nat) (x : Xact) (result : Nat) (nyet : Bool) (data : List Byte) : State :=
  let s := (s.setContext n none).modPort x.port fun y => { y with tt := y.tt.release n }
  let s := match s.logicalOf x.port with
    | some (i, m) =>
      let r := s.record i m
      let a := if r.valid ∧ r.devAddr = x.addr then r.hostAddr else (s.hostAddrOf i m x.addr).getD 0
      if result = 0 ∧ x.ep ≠ 0 ∧ !x.setup then
        match x.who with
        | .launch _ => s
        | _ => s.setDevToggle i m a x.ep x.dirIn x.toggle
      else s
    | none => s
  let s := match x.who with
    | .entryAction j => (s.notePing x result nyet).entryResult j result
    | .slot j => (s.notePing x result nyet).slotResult j x result data
    | .launch tag => s.launchAnswer tag result
    | .relay i src tag => s.relayResult i src tag x result nyet data
  s.grantAll

/-- An error of an engine transaction: the third in a row ends it, another is tried again (R64). -/
def State.engineError (s : State) (n : Nat) (x : Xact) : State :=
  if 2 ≤ x.errors then s.engineFinish n x 3 false [] else s.startContext n { x with errors := x.errors + 1 }

/-- No response within 816 HS bit times (R64, R65). -/
def State.cmdHsEngineResponseTimeout (s : State) (n : Fin 4) : State :=
  match s.context n.val with
  | none => s
  | some x =>
    let s := ((s.bump (.hub .hsEngineTimeoutCount)).flag (.hub .hubEvents) hubEngineTimeout).lensCount 6 (placePort x.port) 1
    s.engineError n.val x

/-- An engine transaction's packet from the device (R64, R65). -/
def State.cmdHsEngineTransactionEnd (s : State) (n : Fin 4) (answer : DevAnswer) : State :=
  match s.context n.val with
  | none => s
  | some x =>
    let pl := placePort x.port
    let b10 := x.ep % 16 + 64 * speedCode (s.get (.port x.port .portSpeed))
    let s := s.usbSeen pl true (if x.setup then 0x2D else if x.ping then 0xB4 else if x.dirIn then 0x69 else 0xE1) x.addr b10 []
    let s := if x.dirIn ∨ x.ping then s else s.usbSeen pl true (dataPid x.toggle) x.addr b10 x.data
    let (lost, s) := s.provoke 3 pl
    if lost then s
    else
      match answer with
      | .data bytes toggle =>
        let s := s.usbSeen pl false (dataPid toggle) x.addr b10 bytes
        if !x.dirIn then s.engineError n.val x
        else if toggle ≠ x.toggle then
          let s := (s.bump (.hub .deviceToggleMismatchCount)).flag (.hub .hubEvents) hubToggleMismatch
          s.engineFinish n.val x 1 false []
        else s.engineFinish n.val x 0 false bytes
      | .ack =>
        let s := s.usbSeen pl false 0xD2 x.addr b10 []
        if x.dirIn then s.engineError n.val x
        else if x.ping then s.startContext n.val { x with ping := false, errors := 0 }
        else s.engineFinish n.val x 0 false []
      | .nyet =>
        let s := s.usbSeen pl false 0x96 x.addr b10 []
        if x.dirIn ∨ x.ping then s.engineError n.val x else s.engineFinish n.val x 0 true []
      | .nak => (s.usbSeen pl false 0x5A x.addr b10 []).engineFinish n.val x 1 false []
      | .stall => (s.usbSeen pl false 0x1E x.addr b10 []).engineFinish n.val x 2 false []
      | .crcError => (s.lensCount 6 pl 1).engineError n.val x
      | .badPid => (s.deviceBadPid x.port).engineError n.val x

/-- A result awaits its complete-split (R55): the periodic ones share 2 KiB, and one that finds no room is lost (DESIGN CHOICE, log 28). -/
def TtRt.keepResult (t : TtRt) (q : TtSplit) (answer : DevAnswer) : TtRt :=
  if (q.iso && !q.dirIn) || decide (2048 < (t.results.map fun r => (answerBytes r.answer).length).sum + (answerBytes answer).length) then t
  else { t with results := t.results ++ [{ addr := q.addr, ep := q.ep, dirIn := q.dirIn, answer := answer }] }

/-- The toggle that a control transfer's next IN data has at a translator (R65): DATA1 after its SETUP, and the other one after each data
packet taken. -/
def TtRt.controlToggle (t : TtRt) (addr : Nat) : Option Bool := (t.ctl.find? fun e => e.1 = addr).map Prod.snd

/-- A control transfer's toggle moves on: its SETUP was taken, or IN data. -/
def TtRt.control (t : TtRt) (q : TtSplit) (answer : DevAnswer) : TtRt :=
  let go := fun (v : Bool) => { t with ctl := (q.addr, v) :: t.ctl.filter fun e => decide (e.1 ≠ q.addr) }
  match answer with
  | .ack => if q.setup && q.ep == 0 then go true else t
  | .data _ v => if q.dirIn && q.ep == 0 then go (!v) else t
  | _ => t

/-- A device returns IN data to a translator with another toggle than the one tracked for its endpoint (R65, R167) (DEDUCED, log 89). -/
def State.ttWrongToggle (s : State) (p : Port) (q : TtSplit) (answer : DevAnswer) : Bool :=
  match s.logicalOf p, answer with
  | some (i, m), .data _ t =>
    let a := s.ttHostAddr i m q.addr
    if q.ep = 0 then q.dirIn && ((s.port p).tt.controlToggle q.addr).any fun v => v != t
    else q.dirIn && !q.iso && a != 0 && t != (s.infoOf i a m).toggleIn.testBit q.ep
  | _, _ => false

/-- What a translator makes of a device's answer (R65): IN data with the wrong toggle are acknowledged and discarded, which the host sees as
a NAK. -/
def State.ttJudge (s : State) (p : Port) (q : TtSplit) (answer : DevAnswer) : DevAnswer × State :=
  if s.ttWrongToggle p q answer then (.nak, (s.bump (.hub .deviceToggleMismatchCount)).flag (.hub .hubEvents) hubToggleMismatch)
  else
    let s := if answer = .badPid then s.deviceBadPid p else s
    (answer, (s.ttToggle p q answer).modPort p fun x => { x with tt := x.tt.control q answer })

/-- The result of a split carried for another facet goes back in a SPLIT_RESULT (R126). -/
def State.returnSplit (s : State) (p : Port) (q : TtSplit) (answer : DevAnswer) : State :=
  match q.remote with
  | some (src, tag, seq) =>
    if q.iso ∧ !q.dirIn then s
    else
      s.sendIndex src 10 ((s.logicalOf p).elim 0 fun e => e.1.val) tag
        (relayRecord { relayHdr 7 (p.val + 1) q.addr q.ep q.dirIn with
          setup := q.setup, epType := splitType q.ep q.periodic q.iso, maxPacket := q.maxPacket, result := answerCode answer,
          seq := seq, stamp := s.now } (answerBytes answer))
  | none => s

/-- The toggle with which a carried OUT goes on the wire: the device side's own (R132, R167), in a control transfer the one of its stage. -/
def State.carriedToggle (s : State) (p : Port) (q : TtSplit) : Bool :=
  if q.setup || q.iso || q.dirIn then false
  else if q.ep = 0 then (s.ownEp p q.addr 0 false).toggle
  else (s.logicalOf p).any fun e => (s.infoOf e.1 (s.ttHostAddr e.1 e.2 q.addr) e.2).toggleOut.testBit q.ep

/-- The owning facet follows the control transfers of the splits that it carries out for an entry facet (R127, R132, R170). -/
def State.carriedLearn (s : State) (p : Port) (q : TtSplit) (answer : DevAnswer) : State :=
  let o := s.ownEp p q.addr 0 false
  let src := q.remote.elim s.ownIndex Prod.fst
  if q.ep ≠ 0 then s
  else
    match answer with
    | .ack =>
      if q.setup then s.setOwnEp p q.addr 0 false { o with toggle := true, setup := q.data, gather := [] }
      else if q.dirIn then s
      else (s.setOwnEp p q.addr 0 false { o with toggle := !o.toggle }).ownLearn src p q.addr false 0 []
    | .data bytes _ => if q.dirIn then s.ownLearn src p q.addr true 0 bytes else s
    | _ => s

/-- A TT's full-speed transaction ends (R57, R63, R65, R126): a launch that runs in it, then periodic work, carried splits, and the buffers.
(DESIGN CHOICE, log 28) -/
def State.cmdTtFsTransactionDone (s : State) (p : Port) (answer : DevAnswer) : State :=
  let tt := (s.port p).tt
  let bad := fun (s : State) => if answer = .badPid then s.deviceBadPid p else s
  match s.ttLaunch p with
  | some l => (bad s).launchAnswer l.tag (answerCode answer)
  | none =>
    match tt.pipeline, tt.staging, tt.buffers with
    | q :: rest, _, _ =>
      match q.engine with
      | some n => s.cmdHsEngineTransactionEnd (Fin.ofNat 4 n) answer
      | none =>
        let (answer, s) := s.ttJudge p q answer
        s.modPort p fun x => { x with tt := { x.tt with pipeline := rest }.keepResult q answer }
    | [], q :: rest, _ =>
      let q := { q with toggle := s.carriedToggle p q }
      let (answer, s) := (s.modPort p fun x => { x with tt := { x.tt with staging := rest } }).ttJudge p q answer
      (s.carriedLearn p q answer).returnSplit p q answer
    | [], [], q :: rest =>
      match q.engine with
      | some n => s.cmdHsEngineTransactionEnd (Fin.ofNat 4 n) answer
      | none =>
        let (answer, s) := s.ttJudge p q answer
        s.modPort p fun x => { x with tt := { x.tt with buffers := rest, done := x.tt.done ++ [⟨q.addr, q.ep, q.dirIn, answer⟩] } }
    | [], [], [] => s

/-- A free context is granted to waiting work (R21). -/
def State.cmdHsEngineContextGrant (s : State) : State := s.grant

end Sys2Proof.Machine
end

