-- ==== Sys2Proof/Machine/Entries.lean ====
section
/-! DEFINITION. Values of dictionary entries as bytes (R357, R358, R390, R391, R394): what an entry reads as, live or staged, which
domain it lies in, what a write carries into its registers, and the set that the configuration check covers (R383, R403). -/

namespace Sys2Proof.Machine

/-- Who reads or writes an entry: the door whose rights count, the door the command first arrived at, and the facet it was
forwarded from, if it was (R362). -/
structure Caller where
  via  : Door
  door : Door
  src  : Option Nat := none
  deriving DecidableEq, Repr

/-- A caller at a door of this facet. -/
def callerAt (d : Door) : Caller := { via := d, door := d }

/-! ### Domains and entries the variant lacks (R358, R390) -/

/-- The power domain of an entry: 0 AON, 1 HUB, 5 PWR, 6 RING, 7 RSV (R358). -/
def entryDomainOf (idx sub : Nat) : Nat :=
  if idx = 0x4000 ∨ idx = 0x4C05 ∨ (idx = 0x4400 ∧ sub ≤ 8) then 0
  else if (0x3800 ≤ idx ∧ idx ≤ 0x3820) ∨ (0x3C00 ≤ idx ∧ idx ≤ 0x3C22) then 5
  else if (0x3000 ≤ idx ∧ idx ≤ 0x3013) ∨ (0x3410 ≤ idx ∧ idx ≤ 0x3413) then 6
  else if (0x2C00 ≤ idx ∧ idx ≤ 0x2C0C) ∨ (0x2D00 ≤ idx ∧ idx ≤ 0x2DFF) then 7
  else 1

/-- The far domains post their writes (R358, R373). -/
def farDomain (d : Nat) : Bool := d == 0 || d == 5 || d == 6

/-- An entry of the prism and Wyhelen blocks (R6). -/
def wyhelenIndex (idx : Nat) : Bool :=
  idx == 0x2400 || (decide (0x2410 ≤ idx) && decide (idx ≤ 0x2413)) || (decide (0x3000 ≤ idx) && decide (idx ≤ 0x3013)) ||
    (decide (0x3410 ≤ idx) && decide (idx ≤ 0x3413))

/-- The prism-wide entries (R104, R392). -/
def prismIndex (idx : Nat) : Bool := idx == 0x2400 || (decide (0x2410 ≤ idx) && decide (idx ≤ 0x2413))

/-- An entry that configures DRAM (R7). -/
def dramEntry (idx sub : Nat) : Bool :=
  (idx == 0x2C00 && sub == 2) || (idx == 0x2C01 && sub == 3) || (idx == 0x4800 && (sub == 6 || sub == 7))

/-- Whether the variant lacks what an entry belongs to: it then reads its default, and writes are refused (R390). -/
def lacking (v : Ident) (idx sub : Nat) : Bool :=
  (!v.wyhelen && wyhelenIndex idx) || (!v.dram && dramEntry idx sub) ||
    (decide (0x2011 ≤ idx) && decide (idx ≤ 0x2020) && decide (v.ports < idx - 0x2010)) ||
    (decide (0x3811 ≤ idx) && decide (idx ≤ 0x3820) && decide (v.ports < idx - 0x3810)) ||
    (decide (0x3C13 ≤ idx) && decide (idx ≤ 0x3C22) && decide (v.ports < idx - 0x3C12))

/-! ### Bytes of values -/

/-- The bytes of one element: bit n of a bitmap lies in byte n / 8; other values go most significant byte first (R357).
(DESIGN CHOICE, log 10) -/
def Entry.elemBytes (e : Entry) (v : Nat) : List Byte := if e.bitmap then bytesLe e.width v else bytesBe e.width v

/-- The element that bytes spell (DESIGN CHOICE, log 10). -/
def Entry.ofElem (e : Entry) (b : List Byte) : Nat := if e.bitmap then ofBytesLe b else ofBytesBe b

/-- Bytes of the elements of an entry. -/
def Entry.bytes (e : Entry) (f : Reg → Nat) : List Byte := e.regs.flatMap fun r => e.elemBytes (f r)

/-- A committed value waits for its domain (R358); otherwise it is live. -/
def State.committed (s : State) (r : Reg) : Nat := (Table.get none s.parked r).getD (s.get r)

/-- The staged value of a register (R377). -/
def State.stagedValue (s : State) (r : Reg) : Nat :=
  ((Table.get none s.staged r).orElse fun _ => Table.get none s.pstaged r).getD (s.committed r)

/-! ### Entries computed when they are read -/

/-- `CandidateList` (R91, R92), lowest ID first: at a committed prism the reachable facets that no slot holds, in an automatic one those
beyond the 16 that it takes; a candidate lists none (DEDUCED, log 22). -/
def State.candidates (s : State) : List Nat :=
  if s.get (.ring .ringMemberState) = 1 then []
  else if s.get (.ring .prismOrigin) = 0 then ((s.provisional).drop 16).take 16
  else
    (rising (((s.routesFrom s.ident.uniqueId none).map fun r => r.uid).filter fun u => (s.slotOf u).isNone)).take 16

/-- CANDIDATE is flagged when a candidate appears that was not among `had` (R91, R92, R114). -/
def State.noteCandidates (s : State) (had : List Nat) : State :=
  s.when (s.candidates.any fun u => !had.contains u) fun s => s.flag (.ring .ringEvents) ringCandidate

/-- One record of `TopologyMap` (R112): the partner index of a link without a partner, or whose partner is no member, is 0xFF; its partner
link is then 0xFF too for a link without one, and its latency 0, and a record beyond the last index is 0 (DESIGN CHOICE, log 93). -/
def State.topologyRecord (s : State) (n : Nat) : List Byte :=
  match s.memberOfIndex n with
  | none => List.replicate 32 0
  | some u =>
    bytesBe 8 u ++ (List.range 4).flatMap fun k =>
      match ((s.upLinks u).find? fun e => e.1 = k) with
      | none => [0xFF, 0xFF, 0, 0, 0, 0]
      | some e => [byteOf (if (s.slotOf e.2.partner).isSome then s.indexOf e.2.partner else 0xFF), byteOf e.2.partnerLink] ++
          bytesBe 4 e.2.latency

/-- `TopologyMap` (R112): its default 0 until a link has come up or an LSF has been taken, from when on there is a topology to show (R96)
(DESIGN CHOICE, log 93). -/
def State.topologyMap (s : State) : List Byte :=
  if s.ring.lsdb.isEmpty && (s.upLinks s.ident.uniqueId).isEmpty then List.replicate 512 0
  else (List.range 16).flatMap s.topologyRecord

/-- `PrismLockState` as a caller reads it (R105, R111): the door whose requests were given up reads 5 even while another holds the lock. -/
def State.lockState (s : State) (c : Caller) : Nat :=
  let o := s.get (.lock .prismLockOwner)
  if o.testBit 23 ∧ bitField o 19 16 = s.ownIndex ∧ bitField o 22 20 = c.door.num ∧ s.ring.lockFrom = c.src then 2
  else if s.ring.lockGaveUp = some c.door then 5
  else if o.testBit 23 then 3
  else if !s.isTrue (.ring .quorumState) then 4
  else if s.ring.lockPending.isSome then 1
  else 0

/-- `TcStatus` (R284). -/
def State.tcStatus (s : State) (p : Port) : Nat :=
  let x := s.tc p
  boolNat x.corroded * 2 ^ 13 + x.partnerRev % 4 * 2 ^ 11 + boolNat x.nonPd * 2 ^ 10 + boolNat x.cableKnown * 512 +
    boolNat x.cable5A * 256 + boolNat x.vconn * 128 + boolNat x.ra * 64 + boolNat x.dfp * 32 + boolNat x.source * 16 + x.rp % 4 * 4 +
    boolNat x.orientValid * 2 + x.orient % 2

/-- `DictBusy` (R373). -/
def State.dictBusy (s : State) : Nat :=
  boolNat (s.doors.posted.any fun w => w.domain == 0) + 2 * boolNat (s.doors.posted.any fun w => w.domain == 5) +
    4 * boolNat (s.doors.posted.any fun w => w.domain == 6)

/-- `WakeTimer` and `ProvokeRemaining` in ms on the model's own clock (R325, R433). -/
def State.wakeTimer (s : State) : Nat := (s.domains.timerEnd.map fun t => t - s.elapsedMs).getD 0
def State.provokeRemaining (s : State) : Nat :=
  if s.lens.armed then s.get (.provoke .provokeRunTime) * 1000 - (s.elapsedMs - s.lens.armedAt) else 0

/-- Version text of 100Ah (R393): the bank's letter, and its version in hexadecimal (DESIGN CHOICE, log 16). -/
def State.versionText (s : State) : String :=
  let b := s.get (.fw .fwRunningBank)
  (if b = 0 then "A" else if b = 1 then "B" else "R") ++ hexText 8 (if h : b < 2 then s.get (.fw (.fwVersion ⟨b, h⟩)) else 0xFFFFFFFF)

/-- Entries of a DOMAIN read from a table of byte strings. -/
def tableBytes (t : Table Nat (List Byte)) (n size : Nat) : List Byte :=
  (List.range n).flatMap fun k => (Table.get [] t k ++ List.replicate size 0).take size

/-- `HoldoverTableRunning` (R153). -/
def State.runningBytes (s : State) : List Byte := (List.range 256).flatMap fun j => bytesBe 8 (Table.get 0 s.running j)

/-- `ImagePortLatency` (R137); a port to which no route leads reads 0 (DESIGN CHOICE, log 86). -/
def State.latencyBytes (s : State) (i : Image) : List Byte :=
  (List.range 255).flatMap fun m =>
    bytesBe 4 (if s.entryHere i && decide (m < s.portCount i) then (s.portLatency i (m + 1)).getD 0 else 0)

/-- The bytes of an entry that holds no register of its own. -/
def State.derived (s : State) (c : Caller) (idx sub : Nat) : List Byte :=
  let i := imageOf (idx % 16)
  if idx = 0x2000 then [0]
  else if 0x2040 ≤ idx ∧ idx ≤ 0x2043 then
    if sub = 1 then (List.range 127).flatMap fun k => bytesBe 4 (s.xlateWord i (k + 1))
    else [byteOf ((List.range 128).filter fun a => (s.entry i a).isSome).length]
  else if idx = 0x2400 then [byteOf (s.lockState c)]
  else if 0x2410 ≤ idx ∧ idx ≤ 0x2413 then (if sub = 11 then [byteOf (s.entryFacet i)] else s.latencyBytes i)
  else if idx = 0x2430 then bytesBe 2 s.cellsFree
  else if idx = 0x2800 then s.runningBytes
  else if 0x2810 ≤ idx ∧ idx ≤ 0x2813 then (List.range 255).flatMap fun m => (s.record i (m + 1)).bytes (m + 1)
  else if 0x2D00 ≤ idx ∧ idx ≤ 0x2DFF then
    if sub = 11 then bytesBe 4 (s.fill (idx - 0x2D00)) else bytesBe 2 (s.streamStatus (idx - 0x2D00))
  else if idx = 0x3000 then
    if sub = 9 then s.topologyMap
    else (s.candidates.flatMap (bytesBe 8) ++ List.replicate 128 0).take 128
  else if idx = 0x3400 then
    if sub = 1 then bytesBe 4 s.now
    else if sub = 2 then bytesBe 4 s.time.latched
    else if sub = 3 then bytesBe 8 s.extended
    else bytesBe 8 s.increment
  else if idx = 0x3420 then (if sub = 1 then s.sofTable else tableBytes s.time.log 16 16)
  else if idx = 0x3430 then (if sub = 3 then [byteOf s.time.launches.length] else if sub = 4 then tableBytes s.time.results 64 8 else [])
  else if idx = 0x3800 then (if sub = 3 then bytesBe 4 s.budget else bytesBe 4 s.allocated)
  else if 0x3811 ≤ idx ∧ idx ≤ 0x3820 then (if h : idx - 0x3811 < 16 then bytesBe 2 (s.tcStatus ⟨idx - 0x3811, h⟩) else [])
  else if idx = 0x4000 then bytesBe 4 s.wakeTimer
  else if idx = 0x4801 then
    (List.range 512).flatMap fun j => bytesBe 4 (Table.get 0 (s.lens.snapshot.getD s.lens.counters) j)
  else if idx = 0x4808 then bytesBe 2 s.provokeRemaining
  else if idx = 0x4C00 then
    if sub = 1 then bytesBe 2 s.ident.variantCode
    else if sub = 2 then [byteOf s.ident.ports]
    else if sub = 3 then [byteOf s.ident.packageCode]
    else if sub = 4 then [byteOf s.ident.stepping]
    else if sub = 5 then bytesBe 8 s.ident.uniqueId
    else textBytes (partName s.ident)
  else if idx = 0x4C02 then (if sub = 2 then [byteOf (s.straps % 32)] else [byteOf s.dictBusy])
  else if idx = 0x4C03 then (if sub = 8 then bytesBe 4 s.boot.jedecId else if sub = 9 then bytesBe 4 s.boot.qspiKiB else [])
  else if idx = 0x4C06 then (if sub = 1 then bytesBe 4 (s.straps % 65536) else bytesBe 4 s.ident.powerDieId)
  else if idx = 0x1008 then (textBytes (partName s.ident)).take 16
  else if idx = 0x100A then (textBytes s.versionText).take 16
  else if idx = 0x1018 then
    bytesBe 4 (if sub = 1 then 0x3A5D else if sub = 2 then s.ident.variantCode else if sub = 3 then s.ident.stepping
      else s.ident.uniqueId % 2 ^ 32)
  else if idx = 0x1200 then bytesBe 4 ((if sub = 1 then 0x600 else 0x580) + s.get (.can .canNodeIdActive))
  else []

/-! ### What an entry reads as -/

/-- Rights of a closed door read 0 (R361); with WYH_FIXED every `LinkMode` reads 1 (R69). -/
def State.shownValue (s : State) (r : Reg) (v : Nat) : Nat :=
  match r with
  | .link _ .linkMode => if s.straps.testBit 5 then 1 else v
  | .doors (.doorRights k) => if s.straps.testBit k.val && !s.doors.shut.testBit k.val then v else 0
  | _ => v

/-- The bytes of an entry as the board reads them (R394): its live value, or with `staged` its staged value. What the variant lacks reads
its default, which for an entry without a register is 0 (R6). -/
def State.entryBytes (s : State) (c : Caller) (idx sub : Nat) (staged : Bool) : List Byte :=
  if 0x2000 ≤ idx ∧ sub = 0 then [byteOf (highestSub idx)]
  else
    match entryAt idx sub with
    | none => []
    | some e =>
      if e.regs.isEmpty then (if lacking s.ident idx sub then (s.derived c idx sub).map fun _ => 0 else s.derived c idx sub)
      else if lacking s.ident idx sub then e.bytes fun r => r.default s.ident
      else if staged && e.access == .rwc then e.bytes fun r => s.shownValue r (s.stagedValue r)
      else e.bytes fun r => s.shownValue r (s.get r)

/-! ### What a write carries (R363 checks 7 and 8, R365) -/

/-- Abort codes of R363. -/
abbrev abNoIndex : Nat := 0x06020000
abbrev abNoSub : Nat := 0x06090011
abbrev abRights : Nat := 0x06010000
abbrev abReadOnly : Nat := 0x06010002
abbrev abWriteOnly : Nat := 0x06010001
abbrev abSize : Nat := 0x06070010
abbrev abLong : Nat := 0x06070012
abbrev abShort : Nat := 0x06070013
abbrev abBusy : Nat := 0x08000020
abbrev abLocal : Nat := 0x08000021
abbrev abEpoch : Nat := 0x08000000
abbrev abMalformed : Nat := 0x05040001
abbrev abStorage : Nat := 0x06060000

/-- Bytes of the type (R357), 0 for strings and DOMAINs. -/
def EType.size : EType → Nat
  | .boolean => 1
  | .u8 => 1
  | .u16 => 2
  | .u32 => 4
  | .u64 => 8
  | .i32 => 4
  | .str => 0
  | .domain => 0

/-- The length of an entry in bytes, 0 when it varies. -/
def Entry.length (e : Entry) : Nat := if e.regs.isEmpty then e.width else e.regs.length * e.width

/-- Check 7 for a write (R365). -/
def Entry.sizeCheck (e : Entry) (offset len : Nat) : Nat :=
  match e.typ with
  | .domain => if e.length = 0 then 0 else if len = 0 ∨ e.length < offset + len then (if len = 0 then abShort else abLong) else 0
  | .str => if offset = 0 then 0 else abSize
  | t => if offset ≠ 0 then abSize else if t.size < len then abLong else if len < t.size then abShort else 0

/-- Elements from `k` on with the bytes of a write laid over them: each element that the write touches, with its new value. -/
def Entry.splice (e : Entry) (cur : Reg → Nat) (offset : Nat) (data : List Byte) : List (Reg × Nat) :=
  let first := offset / e.width
  let last := (offset + data.length + e.width - 1) / e.width
  ((e.regs.drop first).zip (List.range (last - first))).map fun x =>
    let base := (first + x.2) * e.width
    let old := e.elemBytes (cur x.1)
    let new := (List.range e.width).map fun j =>
      if offset ≤ base + j ∧ base + j < offset + data.length then (data[base + j - offset]?).getD 0 else (old[j]?).getD 0
    (x.1, e.ofElem new)

/-- Check 8 (R363): every element written lies in its range. -/
def Entry.rangeCheck (e : Entry) (l : List (Reg × Nat)) : Nat :=
  if l.all fun x => e.range.ok (8 * e.width) x.2 then 0 else 0x06090030

/-- Writes a list of registers. -/
def State.setAll (s : State) (l : List (Reg × Nat)) : State := s.forEach l fun s x => s.set x.1 x.2

/-- Lays staged values of local entries, or of prism-wide ones, over the committed values (R104, R377). -/
def State.stageAll (s : State) (l : List (Reg × Nat)) : State :=
  s.forEach l fun s x =>
    { s with staged := Table.put Reg.addr none s.staged x.1 (if x.2 = s.committed x.1 then none else some x.2) }
def State.stagePrism (s : State) (l : List (Reg × Nat)) : State :=
  s.forEach l fun s x =>
    { s with pstaged := Table.put Reg.addr none s.pstaged x.1 (if x.2 = s.get x.1 then none else some x.2) }

/-- Any write of a commit-class entry leaves the configuration check unreferenced (R384): source 55 is no longer live (DEDUCED, log 69). -/
def State.unreference (s : State) : State :=
  ({ s.set (.commit .configCrcState) 0 with cfg := { s.cfg with refArmed := false } }).endLive 55

/-- The staged local set goes back to the live values, and its ownership ends (R377, R378). -/
def State.endStage (s : State) : State :=
  { s.set (.commit .configStageOwner) 0 with staged := [], cfg := { s.cfg with owner := none, lost := [] } }

/-- The ownership lapses (R377). -/
def State.lapseStage (s : State) : State :=
  let was : StageSave := ⟨s.time.elapsed, s.cfg.owner, s.staged, s.cfg.lost, s.get (.commit .configStageOwner), s.get (.doors .doorEvents)⟩
  let s := s.endStage.flag (.doors .doorEvents) doorStageLapse
  { s with cfg := { s.cfg with lapsed := some was } }

/-- A commit by the owner whose ownership has lapsed in this very cycle: the lapse is undone and not recorded (R381)
(DESIGN CHOICE, log 82). -/
def State.unlapse (s : State) (owner : Door × Option Nat) : State :=
  match s.cfg.lapsed.filter fun x => x.at_ == s.time.elapsed && x.owner == some owner && s.cfg.owner.isNone with
  | none => s
  | some x =>
    let s := (s.set (.commit .configStageOwner) x.shown).set (.doors .doorEvents)
      (if x.events.testBit doorStageLapse then s.get (.doors .doorEvents) else setBit (s.get (.doors .doorEvents)) doorStageLapse false)
    { s with staged := x.staged, cfg := { s.cfg with owner := x.owner, lost := x.lost, lapsed := none } }

/-! ### The configuration check (R383, R403) -/

/-- Every commit-class entry, in ascending index and sub-index, among index blocks that `sel` takes. -/
def commitEntries (sel : Nat → Bool) : List (Nat × Nat × Entry) :=
  (indexBlocks.flatMap fun b => (List.range (b.2 + 1 - b.1)).map fun k => b.1 + k).flatMap fun idx =>
    if sel idx then
      (List.range 32).filterMap fun sub => (entryAt idx sub).bind fun e => if e.access = .rwc then some (idx, sub, e) else none
    else []

/-- The bytes that a set of entries contributes to a check code (R383). -/
def checkBytes (l : List (Nat × Nat × Entry)) (f : Reg → Nat) : List Byte :=
  l.flatMap fun x => bytesBe 2 x.1 ++ [byteOf x.2.1] ++ x.2.2.bytes f

/-- `ConfigCrcLive` as a pass computes it (R383). -/
def State.configCrc (s : State) : Nat := crc32 (checkBytes (commitEntries fun _ => true) s.get)

/-- The registers of the local commit-class entries, and of the prism-wide ones. -/
def localRegs : List (Nat × Nat × Entry) := commitEntries fun idx => decide (0x2000 ≤ idx) && !prismIndex idx
def commRegs : List (Nat × Nat × Entry) := commitEntries fun idx => decide (idx < 0x2000)
def prismRegs : List (Nat × Nat × Entry) := commitEntries prismIndex

/-- Digest of the staged prism-wide set (R107): the CRC-32 over the staged set laid out as R383 lays the live set out (DEDUCED, log 18). -/
def State.stagedDigest (s : State) : Nat := crc32 (checkBytes prismRegs s.stagedValue)

end Sys2Proof.Machine
end

