-- ==== Sys2Proof/Machine/Links.lean ====
section
/-! DEFINITION. Wyhelen links (R68 to R102): training and retraining, the acknowledgement of frames, link-state floods, member states,
SYNC frames, and a facet's own withdrawal and return. -/

namespace Sys2Proof.Machine

/-! ### Link layer (R69, R73, R77 to R80, R86, R99) -/

/-- Whether a link may train (R69, R73, R74): RING is on, and the link is fixed or its port has entered Wyhelen mode. -/
def State.linkMode (s : State) (k : Link) : Bool :=
  match s.linkPort k with
  | none => false
  | some p => s.domainOn 6 && (s.modeOf k == 1 || (s.tc p).entered)

/-- Training starts with TS1 on both lanes (R78). -/
def State.cmdLinkTrainingStart (s : State) (k : Link) : State :=
  let st := s.get (.link k .linkState)
  if s.linkMode k ∧ (st = 0 ∨ st = 1) then
    match s.linkPort k with
    | none => s
    | some p => ((s.setPst p 8).startTraining k).modLink k fun x => { x with fails := 0 }
  else s

/-- An attempt fails (R79); after three in a row the link reads failed (DEDUCED, log 14). -/
def State.cmdLinkTrainTimeout (s : State) (k : Link) : State :=
  if s.get (.link k .linkState) = 2 then
    let n := (s.link k).fails + 1
    let s := (s.bump (.link k .linkTrainFailCount)).modLink k fun x => { x with fails := n }
    if 3 ≤ n then (s.showLinkState k 5).raiseLive (40 + k.val) 5 else s.showLinkState k 0
  else s

/-- The next attempt starts (R74, R79). -/
def State.cmdLinkTrainRetry (s : State) (k : Link) : State :=
  let st := s.get (.link k .linkState)
  if s.linkMode k ∧ (st = 0 ∨ st = 5) then s.startTraining k else s

/-- Another facet that can be reached has the partner's unique ID (R110): another link of this facet leads to the same link of it, or its
own table does not tell of this link (DEDUCED, log 15). -/
def State.takenId (s : State) (k : Link) (g : Ts2) : Bool :=
  let beside := (List.finRange 4).any fun j =>
    j != k && s.get (.link j .linkState) == 3 && s.get (.link j .linkPartnerId) == g.uid && s.get (.link j .linkPartnerLink) == g.link
  let elsewhere := ((s.lsfOf g.uid).links[g.link]?).any fun e =>
    !(e.state == 2 || e.state == 4 || ((e.state == 3 || e.state == 6) && e.partner == s.ident.uniqueId && e.partnerLink == k.val))
  s.reachable g.uid && g.uid != s.ident.uniqueId && (beside || elsewhere)

/-- What a partner's identity makes of the link (R91 to R93, R110): foreign when both prisms are committed and differ, when a committed
one meets an automatic one of several facets, and when the partner's unique ID is taken (DEDUCED, log 15). -/
def State.foreignPartner (s : State) (k : Link) (g : Ts2) : Bool :=
  let own := s.get (.ring .prismOrigin)
  g.uid == s.ident.uniqueId || s.takenId k g ||
    (g.prismId != s.get (.ring .prismId) &&
      ((own == 1 && g.origin == 1) || (own == 1 && g.origin == 0 && g.memberState != 0 && g.memberState != 1) ||
        (own == 0 && g.origin == 1 && decide (1 < s.members.length))))

/-- What is known of a facet's prism origin; 2 for a candidate (R89, R91) (DEDUCED, log 15). -/
def State.noteOrigin (s : State) (uid v : Nat) : State :=
  s.modRing fun r => { r with origins := (uid, v) :: r.origins.filter fun e => decide (e.1 ≠ uid) }

/-- This facet's TS2 group (R78). -/
def State.ts2Group (s : State) (k : Link) : List Byte :=
  bytesBe 8 s.ident.uniqueId ++ bytesBe 8 (s.get (.ring .prismId)) ++ bytesBe 4 (s.get (.ring .prismEpoch)) ++
    [byteOf k.val, byteOf (s.get (.ring .ringMemberState)), 0x11, byteOf (s.get (.ring .prismOrigin))] ++ List.replicate 24 0

/-- A trained link: what it sends in steps 5 and 6 of R78, its state, its partner and lanes, no failed attempts, its fault source over, and
the partner's prism origin noted. A link that comes up foreign is up as well, and flags both (DEDUCED, log 15). -/
def State.linkComesUp (s : State) (k : Link) (g : Ts2) (laneMap : Nat) (foreign : Bool) : State :=
  let s := s.emit (.block k (.ts2 (s.ts2Group k)))
  let s := s.forEach (List.range 16) fun s _ => s.emit (.block k .idl)
  let s := s.setLinkState k (if foreign then 6 else 3)
  let s := ((s.set (.link k .linkPartnerId) g.uid).set (.link k .linkPartnerLink) g.link).set (.link k .linkLaneMap) (laneMap % 8)
  let s := (s.modLink k fun x => { x with fails := 0, partner := some g }).endLive (40 + k.val)
  let s := s.noteOrigin g.uid (if g.memberState = 1 then 2 else g.origin)
  (s.flag (.ring .ringEvents) ringLinkUp).when foreign fun s => s.flag (.ring .ringEvents) ringForeign

/-- A member meets a newer epoch of its prism (R94): it is Syncing, and asks for the committed configuration (DEDUCED, log 95). -/
def State.enterSync (s : State) (uid : Nat) : State :=
  (s.set (.ring .ringMemberState) 3).sendTo uid 6 0 0 (.commit .fetch)

/-- The committed prism-wide configuration goes to a member that catches up (R94) (DEDUCED, log 95). -/
def State.serveSync (s : State) (uid : Nat) : State :=
  s.forEach prismRegs fun s x => s.sendTo uid 6 0 0 (.commit (.epochSync ⟨x.1, x.2.1, 0, x.2.2.bytes s.get⟩))

/-- This facet is the one that serves a member behind: the lowest other member that can be reached (R94) (DEDUCED, log 95). -/
def State.servesSync (s : State) (uid : Nat) : Bool :=
  s.get (.ring .ringMemberState) == 2 && (s.slotOf uid).isSome &&
    (s.members.map Prod.snd).all fun u => u == uid || !s.reachable u || decide (s.ident.uniqueId ≤ u)

/-- A facet has been met at an epoch (R94): of two members of one prism the older catches up with the newer. `member` tells that it is a
member of this facet's prism though no slot here holds it yet. -/
def State.meetEpoch (s : State) (uid epoch : Nat) (member : Bool) : State :=
  let s := if ((s.slotOf uid).isSome ∨ member) ∧ s.ring.seenEpoch < epoch then
      { s with ring := { s.ring with seenEpoch := epoch, seenFrom := uid } }
    else s
  if s.get (.ring .ringMemberState) = 2 ∧ s.get (.ring .prismEpoch) < s.ring.seenEpoch ∧ s.ring.applyAt.isNone then
    s.enterSync s.ring.seenFrom
  else s

/-- What a link that came up changes around it: the member state, the topology and its flood, new candidates, the epochs that meet, and
the frames that waited or were not acknowledged before a retrain. `before` and `had` are the links in routing and the candidates before
the link came up. -/
def State.linkJoins (s : State) (k : Link) (g : Ts2) (foreign retrained : Bool) (before : List LinkEnds) (had : List Nat) : State :=
  let s := ((s.placeMember).retopo before).flood
  let s := s.noteCandidates had
  let s := if g.prismId = s.get (.ring .prismId) ∧ !foreign then
      (let s := s.meetEpoch g.uid g.epoch (g.memberState != 1)
       if g.epoch < s.get (.ring .prismEpoch) ∧ (s.slotOf g.uid).isSome ∧ s.get (.ring .ringMemberState) = 2 then s.serveSync g.uid else s)
    else s
  let s := if retrained then s.replayAll k else s
  (s.drain k).fetchRecords.afterRoutes

/-- Training completes and the link is up (R78, R80, R91 to R94). -/
def State.cmdLinkUp (s : State) (k : Link) (g : Ts2) (laneMap : Nat) : State :=
  let st := s.get (.link k .linkState)
  if ¬ (st = 2 ∨ st = 4) then s
  else if st = 4 ∧ g.uid ≠ s.get (.link k .linkPartnerId) then ((s.linkDown k 0).startTraining k).afterRoutes
  else (s.linkComesUp k g laneMap (s.foreignPartner k g)).linkJoins k g (s.foreignPartner k g) (st == 4) s.inRouting s.candidates

/-- A link that is up, also one to a foreign prism (R80, R93). -/
def State.linkIsUp (s : State) (k : Link) : Bool := s.get (.link k .linkState) == 3 || s.get (.link k .linkState) == 6

/-- Errors reach the threshold (R80). -/
def State.cmdLinkErrorThreshold (s : State) (k : Link) : State := if s.linkIsUp k then (s.retrain k).afterRoutes else s

/-- TS1 from the partner (R80, R99). -/
def State.cmdTs1Received (s : State) (k : Link) : State := if s.linkIsUp k then (s.retrain k).afterRoutes else s

/-- A retrain is not complete in time (R80). -/
def State.cmdRetrainTimeout (s : State) (k : Link) : State :=
  if s.get (.link k .linkState) = 4 then ((s.linkDown k 0).startTraining k).afterRoutes else s

/-- No valid block for 1 µs (R99). -/
def State.cmdLinkSignalLoss (s : State) (k : Link) : State :=
  let st := s.get (.link k .linkState)
  if st = 3 ∨ st = 4 ∨ st = 6 then (s.linkDown k 0).afterRoutes else s

/-- A LINK frame: acknowledgements, a NAK that starts a replay, credits (R86). -/
def State.cmdLinkFrame (s : State) (k : Link) (h : FrameHdr) (nak : Option Nat) (credits : List Nat) : State :=
  let (mine, s) := s.receive k h 1 (.link h.ackSeq nak credits)
  if !mine then s
  else
    let s := if credits.length = 7 then s.modLink k fun x => { x with credits := credits } else s
    let s := match nak with
      | none => s
      | some n => ((s.acknowledge k n).replayAfter k n).lensCount 4 (placeLink k) 1
    s.drain k

/-- Four microseconds without an acknowledgement: replay from the oldest (R86). -/
def State.cmdReplayTimeout (s : State) (k : Link) : State :=
  if s.get (.link k .linkState) = 3 then s.replayAll k else s

/-- A LINK frame is due (R86). -/
def State.cmdLinkAckDue (s : State) (k : Link) : State :=
  if (s.link k).ackDue ∧ s.get (.link k .linkState) = 3 then s.sendLinkFrame k false else s

/-- An SKP block is due (R77). -/
def State.cmdSkpDue (s : State) (k : Link) : State :=
  let st := s.get (.link k .linkState)
  if 2 ≤ st ∧ st ≠ 5 then s.emit (.block k .skp) else s

/-! ### Link-state floods (R94, R97, R98, R100) -/

/-- A sequence number is newer than another: 16-bit numbers wrap, and the newer is less than half the range ahead (DESIGN CHOICE, log 96).
-/
def newerSeq (a b : Nat) : Bool := decide (0 < (a + 65536 - b) % 65536) && decide ((a + 65536 - b) % 65536 < 32768)

/-- What the header of an LSF tells of its originator (R89, R91): its index, and by the index 0xF of a facet without one that it is a
candidate; an index of its own with epoch 0 takes that back (DEDUCED, log 15). -/
def State.hearFacet (s : State) (index epoch uid : Nat) : State :=
  let s := s.modRing fun r => { r with heard := (index, uid) :: r.heard.filter fun e => decide (e.1 ≠ index ∧ e.2 ≠ uid) }
  if index = 15 ∧ s.memberOfIndex 15 ≠ some uid then s.noteOrigin uid 2
  else if s.ring.origins.contains (uid, 2) then s.noteOrigin uid (if epoch = 0 then 0 else 1)
  else s

/-- A newer LSF is taken: topology, routes, member state, candidates, a return from withdrawal, and the epochs that meet
(DEDUCED, log 15). -/
def State.takeLsf (s : State) (index epoch : Nat) (b : LsfBody) : State :=
  let before := s.inRouting
  let had := s.candidates
  let s := s.modRing fun r => { r with lsdb := b :: r.lsdb.filter (fun (e : LsfBody) => decide (e.uid ≠ b.uid)),
                                       withdrawn := r.withdrawn.filter fun u => decide (u ≠ b.uid) }
  let s := (((s.hearFacet index epoch b.uid).placeMember).retopo before).noteCandidates had
  let s := s.meetEpoch b.uid epoch (s.get (.ring .prismOrigin) == 1 && index != 15 && !s.ring.origins.contains (b.uid, 2))
  let s := if epoch < s.get (.ring .prismEpoch) ∧ s.servesSync b.uid then s.serveSync b.uid else s
  s.afterRoutes

/-- A received LSF (R97): forwarded by the link layer, used when it is newer than the last from its originator. -/
def State.cmdLsf (s : State) (k : Link) (h : FrameHdr) (b : LsfBody) : State :=
  let (mine, s) := s.receive k h 2 (.lsf b)
  let old := s.ring.lsdb.find? fun e => e.uid == b.uid
  if mine ∧ b.uid ≠ s.ident.uniqueId ∧ old.all (fun e => newerSeq b.seq e.seq) then s.takeLsf h.src h.epoch b else s

/-- The periodic flood (R97); a withdrawn facet, which is not in routing, floods none (R102). -/
def State.cmdLsfPeriodic (s : State) : State := s.flood

/-! ### SYNC frames (R47, R51, R61, R143, R147, R148, R170, R230) -/

/-- A copy of a translation entry (R51): the owning facet learns the device's wire address from it, and its record follows. -/
def State.copyXlate (s : State) (i : Image) (addr word pairs : Nat) : State :=
  let a := addr % 128
  let x := xlateOfWord word
  let s := (s.setEntry i a x).setPairs i a pairs
  match x with
  | none => s
  | some e =>
    match s.place i e.port with
    | .own p =>
      let s := if s.get (.port p .portDeviceAddress) = 0 then s.set (.port p .portDeviceAddress) e.devAddr else s
      if s.keeps i e.port then
        s.modRecord i e.port fun r =>
          if r.devAddr = e.devAddr then { r with hostAddr := a, stage := if r.stage = .absorbed then .addressed else r.stage } else r
      else s.writeRecord i e.port
    | _ => s

/-- SOF numbers of an image's host reach another facet (R47). -/
def State.takeFrame (s : State) (i : Image) (frame micro time : Nat) : State :=
  let wasSusp := (s.hub i).suspended
  let s := s.modHub i fun h => { h with frame := frame, micro := micro, lastSof := s.momentOf time, locked := true, suspended := false,
                                        resuming := false }
  let s := if wasSusp then s.unsuspendImage i else s
  let s := { s with engineMissed := false }
  let s := s.repeatSof i frame micro 2
  let s := if micro = 0 ∧ !(s.hold i).started then s.frameBoundary i else s
  (s.retryRelay i).grantAll

/-- Active hold-over is told to this facet (R148) (DEDUCED, log 35). -/
def State.toldHold (s : State) (i : Image) (cause time lastSof count : Nat) : State :=
  let st := s.holdState i
  if st = 4 ∨ st = 5 ∨ st = 6 then s else s.holdEntry i cause time lastSof count

/-- What a SYNC frame of a facet carries takes effect. -/
def State.takeSync (s : State) (src : Nat) : SyncBody → State
  | .frame i f m t => s.takeFrame i f m t
  | .xlate i a w q => s.copyXlate i a w q
  | .wakeK i _ =>
    if s.holdState i = 5 then s.startWake i
    else if !s.entryHere i ∨ s.holdState i = 4 ∨ s.holdState i = 6 then s
    else if (s.hub i).resuming then s.wakeMerged
    else s.wakeUpstream i
  | .record i m b => s.takeRecord i m b
  | .arm i v =>
    if s.entryHere i then (s.applyArm i v).broadcast 4 i.val (.sync (.arm i v)) else s.applyArm i v
  | .holdEntry i c t l n => s.toldHold i c t l n
  | .holdState i code => s.followState i code
  | .held i m v => s.takeHeldBit i m v
  | .holdInfo i l => s.takeHoldValues i l
  | .upstream i mirror v => s.modHold i fun h => if mirror then { h with mirrorReady := v } else { h with upThere := v }
  | .recordFetch a => (s.memberOfIndex src).elim s fun u => (s.adoptionGone u a).answerFetch u
  | .anchor b => s.set (.time .timeCivilAnchor) (ofBytesBe (b.take 14))

/-- A received SYNC frame (R83). -/
def State.cmdSyncFrame (s : State) (k : Link) (h : FrameHdr) (b : SyncBody) : State :=
  let (mine, s) := s.receive k h 4 (.sync b)
  if mine then s.takeSync h.src b else s

/-! ### Withdrawal (R102) -/

/-- The facet starts to withdraw: WITHDRAW is broadcast, and frames in flight are still passed on for 20 µs (DEDUCED, log 23). -/
def State.withdraw (s : State) (fault : Option Nat) : State :=
  if s.ring.withdrawing ∨ s.get (.ring .ringMemberState) = 4 then s
  else
    let s := s.broadcast 11 0 .withdraw
    { s with ring := { s.ring with withdrawing := true, faultWithdrawn := fault } }

/-- The facet returns to routing by its flood (R102). -/
def State.comeBack (s : State) : State :=
  (s.modRing fun r => { r with returning := false }).flood.fetchRecords.afterRoutes

/-- A write of `FacetWithdraw` (R102): 1 withdraws; 2 returns once the fault of an S4 withdrawal is no longer live, after epoch sync when a
newer epoch has been seen. -/
def State.writeWithdraw (s : State) (v : Nat) : Nat × State :=
  if v = 1 then (0, s.withdraw none)
  else if v = 2 then
    if (s.ring.faultWithdrawn.any fun n => s.live n) then (abortState, s)
    else if s.get (.ring .ringMemberState) = 4 ∨ s.ring.withdrawing then
      let s := { s with ring := { s.ring with withdrawing := false, faultWithdrawn := none } }
      let s := (s.set (.ring .ringMemberState) 0).placeMember
      if s.get (.ring .ringMemberState) = 2 ∧ s.get (.ring .prismEpoch) < s.ring.seenEpoch then
        (0, (s.modRing fun r => { r with returning := true }).enterSync s.ring.seenFrom)
      else (0, s.comeBack)
    else (0, s)
  else (abortRange, s)

/-- A received WITHDRAW frame: routes avoid its sender (R100, R102). -/
def State.cmdWithdraw (s : State) (k : Link) (h : FrameHdr) : State :=
  let (mine, s) := s.receive k h 11 .withdraw
  match (if mine then s.memberOfIndex h.src else none) with
  | none => s
  | some u =>
    if u = s.ident.uniqueId ∨ s.ring.withdrawn.contains u then s
    else
      let before := s.inRouting
      let s := { s with ring := { s.ring with withdrawn := u :: s.ring.withdrawn } }
      (s.retopo before).afterRoutes

end Sys2Proof.Machine
end

