-- ==== Sys2Proof/Machine/Prism.lean ====
section
/-! DEFINITION. The prism's agreements (R91, R92, R94, R104 to R109, R117 to R121): formation, the prism lock and its lease, staging and
commit, and what a commit changes in the images. -/

namespace Sys2Proof.Machine

/-! ### The lock and its lease (R104 to R106) -/

/-- `PrismLockOwner` names a holder, and its fields (R111). -/
def State.lockHeld (s : State) : Bool := (s.get (.lock .prismLockOwner)).testBit 23
def State.lockFacet (s : State) : Nat := bitField (s.get (.lock .prismLockOwner)) 19 16
def State.lockHere (s : State) : Bool := s.lockHeld && s.lockFacet == s.ownIndex

/-- A lease lasts 50 ms of prism time (R106). -/
def State.leaseEnd (s : State) : Nat := (s.now + 50000000) % 2 ^ 32

/-- The staged prism-wide set is discarded. -/
def State.dropPrismStage (s : State) : State := { s with pstaged := [] }

/-- A prism commit is refused (R107, R108). -/
def State.refuseCommit (s : State) (reason facet detail : Nat) : State :=
  let s := s.set (.lock .prismCommitRefusal) (reason % 256 + facet % 16 * 256 + detail % 65536 * 65536)
  (s.set (.lock .prismCommitResult) 2).flag (.ring .ringEvents) ringCommitRefused

/-- What runs of a commit ends here without an apply. -/
def State.endCommit (s : State) : State :=
  s.modRing fun r => { r with commitRunning := false, commitWaiting := [], prepared := false, applyAt := none, formation := [] }

/-- The lock goes from under a commit that has no APPLY yet (R107 to R109): refused with code 1 at the lock facet; at another member, whose
PrismCommitResult then reads 2 (DESIGN CHOICE, log 97), its prepared state is discarded. The staged set of the lock's owner goes with the
lock (DESIGN CHOICE, log 17). -/
def State.commitUnlocked (s : State) : State :=
  if s.ring.applyAt.isSome then s
  else
    let s := if s.ring.commitRunning then s.refuseCommit 1 s.ownIndex 0
      else if s.ring.prepared then s.set (.lock .prismCommitResult) 2
      else s
    s.endCommit.dropPrismStage

/-- The lock ends at its holder's word, at its facet or with its lease (R102, R105, R106): a commit whose APPLY has gone out goes on
(R109). -/
def State.freeLock (s : State) : State :=
  ((s.set (.lock .prismLockOwner) 0).modRing fun r => { r with lockFrom := none, lockRenewing := false, lapseAt := none }).commitUnlocked

/-- The lease lapses (R106, R109): an APPLY that has been received wins over it. -/
def State.lapse (s : State) : State :=
  if s.lockHeld ∧ s.ring.applyAt.isNone then
    (((s.bump (.lock .prismLeaseLapseCount)).flag (.ring .ringEvents) ringLockLapse).raise 45 s.lockFacet).freeLock
  else s

/-- A lapse found here (R106): the keeper tells it to the members, so that none misses it (DEDUCED, log 23). -/
def State.lapseHere (s : State) : State :=
  let tell := s.lockHeld && s.ring.applyAt.isNone && s.keeper == some s.ownIndex
  s.lapse.when tell fun s => s.broadcast 5 0 (.lock (.tell .lapse))

/-- Prism time has passed the recorded expiry (R106) (DEDUCED, log 8). -/
def State.leaseOver (s : State) : Bool := s.ahead s.ring.lockExpiry == 0 || decide (2 ^ 31 ≤ s.ahead s.ring.lockExpiry)

/-- The lock is granted, as every member records it (R105, R106). -/
def State.takeGrant (s : State) (q : LockReq) (expiry : Nat) : State :=
  let s := s.when (s.ring.prepared && s.ring.applyAt.isNone) State.commitUnlocked
  let s := s.set (.lock .prismLockOwner) (q.tag % 65536 + q.facet % 16 * 65536 + q.door.num * 2 ^ 20 + 2 ^ 23)
  let s := s.modRing fun r => { r with lockExpiry := expiry, lapseAt := none }
  if q.facet = s.ownIndex then
    if s.ring.lockPending = some (q.door, q.tag) then
      s.modRing fun r => { r with lockPending := none, lockLosses := 0, lockGaveUp := none, lockRenewing := true, lockTime := s.elapsedMs }
    else
      let s := s.freeLock
      s.broadcast 5 0 (.lock (.tell .release))
  else s.modRing fun r => { r with lockFrom := none }

/-- A request was lost (R105): back-off 1 ms, doubling to 128 ms; after eight the steward stops. -/
def State.takeLoss (s : State) : State :=
  let n := s.ring.lockLosses + 1
  let s := s.bump (.lock .prismLockLossCount)
  if 8 ≤ n then
    s.modRing fun r => { r with lockPending := none, lockLosses := 0, lockGaveUp := r.lockPending.map Prod.fst, lockFrom := none }
  else s.modRing fun r => { r with lockLosses := n, lockBackoff := s.elapsedMs + min 128 (2 ^ (n - 1)) }

/-- Requests that reach the keeper in one cycle (R105): a free lock goes to the lower facet index; the others are told. A lease that is over
lapses first (R109). -/
def State.keeperDecide (s : State) (reqs : List LockReq) : State :=
  if !s.isTrue (.ring .quorumState) then s
  else
    let s := if s.lockHeld && s.leaseOver then s.lapseHere else s
    let sorted := sortBy (fun a b => decide (a.facet ≤ b.facet)) reqs
    let told := fun (s : State) (q : LockReq) =>
      if q.facet = s.ownIndex then s.takeLoss else s.sendIndex q.facet 5 0 0 (.lock (.tell .lost))
    match sorted with
    | [] => s
    | q :: rest =>
      if s.lockHeld then s.forEach sorted told
      else
        let e := s.leaseEnd
        let s := (s.takeGrant q e).broadcast 5 0 (.lock (.tell (.grant q e)))
        s.forEach rest told

/-- A pending request goes to the keeper (R105). -/
def State.sendRequest (s : State) : State :=
  match s.ring.lockPending, s.keeper with
  | some (d, tag), some n =>
    if !s.isTrue (.ring .quorumState) then s
    else if n = s.ownIndex then s.keeperDecide [⟨s.ownIndex, d, tag⟩]
    else s.sendIndex n 5 0 0 (.lock (.request ⟨s.ownIndex, d, tag⟩))
  | _, _ => s

/-- A write of `PrismLockRequest` (R105). A request of another door of this facet stands in the way (the steward holds one).
(DESIGN CHOICE, log 17) -/
def State.writeLockRequest (s : State) (c : Caller) (v : Nat) : Nat × State :=
  let mine := s.lockState c == 2
  let pending := s.ring.lockPending.any fun e => e.1 == c.door
  if v = 0 then
    if mine then (0, s.freeLock.broadcast 5 0 (.lock (.tell .release)))
    else if pending then (0, s.modRing fun r => { r with lockPending := none, lockLosses := 0 })
    else (0, s)
  else if mine then (0, s)
  else if s.ring.lockPending.isSome ∧ !pending then (abortState, s)
  else
    let s := s.modRing fun r => { r with lockPending := some (c.door, v % 65536), lockLosses := 0, lockGaveUp := none, lockFrom := c.src }
    (0, s.sendRequest)

/-- Requests reach this facet as the keeper. -/
def State.cmdLockRequestAtKeeper (s : State) (requests : List LockReq) : State :=
  if s.keeper = some s.ownIndex then s.keeperDecide requests else s

/-- A peer acts on a lock or a staged set it does not hold (R110). -/
def State.peerViolation (s : State) (k : Link) : State :=
  (s.bump (.link k .linkViolationCount)).flag (.ring .ringEvents) ringViolation

/-- The lease of a lock ends here, as its expiry or the keeper tells. A member that waits for APPLY leaves the lapse to the end of the
cycle, since an APPLY of that cycle wins (R109) (DESIGN CHOICE, log 82). -/
def State.lapseOrWait (s : State) (lapse : State → State) : State :=
  if s.ring.prepared ∧ !s.lockHere ∧ s.ring.applyAt.isNone then s.modRing fun r => { r with lapseAt := some s.time.elapsed } else lapse s

/-- A LOCK frame tells of a grant, a renewal, a loss, a lapse or a release (R105, R106). -/
def State.cmdLockGrant (s : State) (k : Link) (h : FrameHdr) (b : LockBody) : State :=
  let (mine, s) := s.receive k h 5 (.lock (.tell b))
  if !mine then s
  else
    match b with
    | .grant q e => s.takeGrant q e
    | .renew e => if s.lockHeld ∧ s.lockFacet = h.src then s.modRing fun r => { r with lockExpiry := e } else s.peerViolation k
    | .lost => if s.ring.lockPending.isSome then s.takeLoss else s
    | .lapse => s.lapseOrWait State.lapse
    | .release => if s.lockHeld ∧ s.lockFacet = h.src then s.freeLock else s.peerViolation k

/-- The back-off of a lost request ends (R105): the steward, while it runs, asks again (R23). -/
def State.cmdLockBackoffExpiry (s : State) : State := if s.boot.running ∧ 0 < s.ring.lockLosses then s.sendRequest else s

/-- The lease is renewed (R106). -/
def State.renewLease (s : State) : State :=
  let e := s.leaseEnd
  (s.modRing fun r => { r with lockExpiry := e }).broadcast 5 0 (.lock (.tell (.renew e)))

/-- The steward of the lock facet renews the lease while it runs and its facet is in the quorum set (R23, R106). -/
def State.cmdLockRenew (s : State) : State :=
  if s.lockHere ∧ s.ring.lockRenewing ∧ s.boot.running ∧ s.isTrue (.ring .quorumState) then s.renewLease else s

/-- Prism time passes the expiry (R106). -/
def State.cmdLeaseLapse (s : State) : State := if s.leaseOver then s.lapseOrWait State.lapseHere else s

/-- A lapse that waited for the end of its cycle (R109). -/
def State.lapseWaited (s : State) : State :=
  if s.ring.lapseAt.any fun t => decide (t < s.time.elapsed) then (s.modRing fun r => { r with lapseAt := none }).lapseHere else s

/-- The holding door has been idle for `PrismLockIdleLimit` (R106). -/
def State.cmdLockIdleLimit (s : State) : State :=
  if s.lockHere ∧ s.ring.lockTime + s.get (.lock .prismLockIdleLimit) * 1000 ≤ s.elapsedMs then
    s.modRing fun r => { r with lockRenewing := false }
  else s

/-! ### Staging (R104) -/

/-- A write of a staged prism-wide value is broadcast to every member. -/
def State.stageOut (s : State) (w : RegWrite) (l : List (Reg × Nat)) : State :=
  let s := (s.stagePrism l).unreference
  let s := s.modRing fun r => { r with lockTime := s.elapsedMs }
  s.broadcast 6 0 (.commit (.stage w))

/-- A commit runs on this facet: from PREPARE until its set is stored, while PrismCommitResult reads 3 (R107, R111). -/
def State.commitBusy (s : State) : Bool := s.ring.commitRunning || s.get (.lock .prismCommitResult) == 3

/-- The write of a door to a prism-wide entry: it needs the lock, and no commit that runs (R104, R109). -/
def State.writePrism (s : State) (c : Caller) (w : RegWrite) (l : List (Reg × Nat)) : Nat × State :=
  if s.lockState c ≠ 2 ∨ s.commitBusy then (abortState, s) else (0, s.stageOut w l)

/-- Registers that a prism-wide write sets, when the entry takes it. -/
def State.prismWrite (s : State) (w : RegWrite) : Option (List (Reg × Nat)) :=
  if prismIndex w.index then
    (entryAt w.index w.sub).bind fun e =>
      let l := e.splice s.stagedValue w.offset w.data
      if e.access = .rwc ∧ e.sizeCheck w.offset w.data.length = 0 ∧ e.rangeCheck l = 0 then some l else none
  else none

/-- A commit may run without the lock: a formation, or an automatic admission, by the facet of index 0 alone, in a formation the lowest of
its set (R91, R92) (DEDUCED, log 19). -/
def State.lockless (s : State) (src : Nat) : Bool := (s.get (.ring .prismOrigin) == 0 || s.isTrue (.lock .prismJoinAuto)) && src == 0

/-- Staging from a peer (R104): taken from the lock facet, and in a formation (R91) from the facet that forms the set (DEDUCED, log 19). -/
def State.takeStage (s : State) (k : Link) (h : FrameHdr) (w : RegWrite) : State :=
  let (mine, s) := s.receive k h 6 (.commit (.stage w))
  if !mine then s
  else if (s.lockHeld ∧ s.lockFacet = h.src ∧ !s.lockHere) ∨ (!s.lockHeld ∧ s.lockless h.src) then
    match s.prismWrite w with
    | none => s
    | some l => (s.stagePrism l).unreference
  else s.peerViolation k

/-- A write of `ImageDefaultMap` (R120): the default map is staged into subs 04 and 05. -/
def State.writeDefaultMap (s : State) (c : Caller) (i : Image) : Nat × State :=
  if s.lockState c ≠ 2 ∨ s.commitBusy then (abortState, s)
  else
    let taken := ((List.finRange 4).filter fun j => decide (j ≠ i) && decide (s.stagedValue (.image j .imageEnable) ≠ 0)).flatMap fun j =>
      (List.finRange 255).map fun m => s.stagedValue (.image j (.imagePortMap m))
    let map := s.defaultMap i taken
    let count : List (Reg × Nat) := [(.image i .imagePortCount, map.length)]
    let elems : List (Reg × Nat) := (List.finRange 255).map fun m => (.image i (.imagePortMap m), map.getD m.val 0)
    let s := s.stageOut ⟨0x2410 + i.val, 4, 0, [byteOf map.length]⟩ count
    (0, s.stageOut ⟨0x2410 + i.val, 5, 0, elems.flatMap fun e => bytesBe 2 e.2⟩ elems)

/-! ### The checks at PREPARE (R108, R117 to R119, R138) -/

/-- An image as a set of values gives it. -/
structure ImageView where
  enable  : Bool
  primary : Nat
  mirror  : Nat
  map     : List Nat
  tail    : Bool
  deriving DecidableEq, Repr

/-- The image that `f` gives; `tail` tells that an entry beyond `ImagePortCount` is not 0. -/
def imageView (f : Reg → Nat) (i : Image) : ImageView :=
  let n := f (.image i .imagePortCount)
  let all := (List.finRange 255).map fun m => f (.image i (.imagePortMap m))
  { enable := f (.image i .imageEnable) != 0, primary := f (.image i .imagePrimary), mirror := f (.image i .imageMirror),
    map := all.take n, tail := (all.drop n).any fun e => e != 0 }

/-- The unique ID in a slot of the staged membership. -/
def State.stagedMember (s : State) (n : Nat) : Nat := if h : n < 16 then s.stagedValue (.lock (.prismMembershipStaged ⟨n, h⟩)) else 0

/-- A physical port of a map, as its slot and its port. -/
def physical (e : Nat) : Option (Nat × Nat) := if bitField e 13 12 = 1 then some (bitField e 11 8, e % 256) else none

/-- The map of an enabled image holds exactly one embedded function, only used kinds, and ports that exist (R119). -/
def State.mapBad (s : State) (v : ImageView) : Bool :=
  v.tail || (v.map.filter fun e => bitField e 13 12 == 2).length != 1 || v.map.any fun e =>
    match physical e with
    | some (slot, port) =>
      s.stagedMember slot == 0 || port == 0 || decide (s.portsOf (s.stagedMember slot) < port)
    | none => bitField e 13 12 != 2 || e % 4096 != 0

/-- An upstream byte is valid and names an occupied slot (R117, R119). -/
def State.upBad (s : State) (b : Nat) : Bool := !b.testBit 7 || s.stagedMember (b % 16) == 0

/-- The first port of a map that another entry of `seen` also names (R19). -/
def doubled : List Nat → List (Nat × Nat) → Nat → Option Nat
  | [], _, _ => none
  | e :: rest, seen, m =>
    match physical e with
    | none => doubled rest seen (m + 1)
    | some q => if seen.contains q then some m else doubled rest (q :: seen) (m + 1)

/-- Latency between two facets over the topology as it stands, if there is a route (R138). -/
def State.latencyFrom (s : State) (a b : Nat) : Option Nat :=
  if a = b then some 0 else ((s.routesFrom a none).find? fun r => r.uid = b).map fun r => r.cost

/-- The first logical port of a map outside the aperture from an upstream's facet (R138). -/
def State.tooFar (s : State) (v : ImageView) (up aperture : Nat) : Option Nat :=
  ((v.map.zip (List.range 255)).find? fun x =>
    match physical x.1 with
    | none => false
    | some (slot, _) =>
      match s.latencyFrom (s.stagedMember (up % 16)) (s.stagedMember slot) with
      | none => true
      | some ps => decide (aperture * 1000000 < ps)).map fun x => x.2 + 1

/-- The refusal of one staged image, if any (R119). -/
def State.imageRefusal (s : State) (i : Image) : Option (Nat × Nat) :=
  let v := imageView s.stagedValue i
  let others := ((List.finRange 4).filter fun j => decide (j < i)).flatMap fun j => (imageView s.stagedValue j).map.filterMap physical
  let ups := ((List.finRange 4).filter fun j => decide (j ≠ i) && (imageView s.stagedValue j).enable).flatMap fun j =>
    [(imageView s.stagedValue j).primary, (imageView s.stagedValue j).mirror]
  let a := s.stagedValue (.image i .imageAperture)
  if v.enable ∧ s.mapBad v then some (9, 5)
  else if v.enable ∧ (s.upBad v.primary ∨ ups.contains v.primary) then some (9, 2)
  else if v.enable ∧ (s.upBad v.mirror ∨ ups.contains v.mirror ∨ v.mirror = v.primary) then some (9, 3)
  else
    match doubled v.map others 1 with
    | some m => some (3, m)
    | none =>
      if v.enable then ((s.tooFar v v.primary a).orElse fun _ => s.tooFar v v.mirror a).map fun m => (4, m) else none

/-- The refusal of the staged membership (R108): a doubled unique ID, or one that is neither a member nor present. -/
def State.memberRefusal (s : State) : Option (Nat × Nat) :=
  let ids := ((List.range 16).map s.stagedMember).filter fun u => u != 0
  if ids.eraseDups.length ≠ ids.length then some (6, 0)
  else if ids.any fun u => (s.slotOf u).isNone && !s.reachable u then some (5, 0)
  else none

/-- A staged value out of its range (R108): the detail names the entry's sub-index. -/
def State.rangeRefusal (s : State) : Option (Nat × Nat) :=
  (prismRegs.find? fun x => x.2.2.rangeCheck (x.2.2.regs.map fun r => (r, s.stagedValue r)) ≠ 0).map fun x => (9, x.2.1)

/-- Whether the staged membership is empty: the prism dissolves (R93). -/
def State.dissolves (s : State) : Bool := (List.range 16).all fun n => s.stagedMember n == 0

/-- The check of the staged set (R108, R119): the first refusal, if any. An empty membership dissolves the prism whatever the images. -/
def State.stagedRefusal (s : State) : Option (Nat × Nat) :=
  if s.dissolves then none
  else
    (s.rangeRefusal.orElse fun _ => s.memberRefusal).orElse fun _ =>
      ((List.finRange 4).filterMap s.imageRefusal).head?

/-! ### PREPARE, READY, REFUSE, ABORT, APPLY (R107) -/

/-- The first millisecond boundary at or after a value of the counter: a multiple of 1 000 000 ns of the counter, so that the last
millisecond before the wrap is short (R211). -/
def boundaryAt (t : Nat) : Nat :=
  let b := (t % 2 ^ 32 + 999999) / 1000000 * 1000000
  if b < 2 ^ 32 then b else 0

/-- The first 1 ms boundary of prism time at least 2 ms ahead (R107). -/
def State.applyTime (s : State) : Nat := boundaryAt (s.now + 2000000)

/-- The commit ends refused: ABORT goes out, the staged set is kept. -/
def State.abortCommit (s : State) (reason facet detail : Nat) : State :=
  (s.endCommit.refuseCommit reason facet detail).broadcast 6 0 (.commit .abort)

/-- Every member is ready: the lease is renewed and APPLY goes out, if the set has quorum still (R95, R107, R108). -/
def State.startApply (s : State) : State :=
  if !s.isTrue (.ring .quorumState) then s.abortCommit 2 s.ownIndex 0
  else
    let t := s.applyTime
    let s := if s.lockHere then s.renewLease else s
    let s := (s.modRing fun r => { r with applyAt := some t, prepared := true }).set (.lock .prismCommitApplyTime) t
    s.broadcast 6 0 (.commit (.apply t))

/-- The membership's entry among the prism-wide ones. -/
def membershipRegs : List (Nat × Nat × Entry) := prismRegs.filter fun x => x.1 == 0x2400 && x.2.1 == 11

/-- What PREPARE digests, and what a member checks at it (R91, R107, R108): the staged prism-wide set, in a formation the membership alone,
since automatic facets have no committed set in common (DEDUCED, log 19). -/
def State.digestOf (s : State) (formed : Bool) : Nat :=
  if formed then crc32 (checkBytes membershipRegs s.stagedValue) else s.stagedDigest
def State.commitCheck (s : State) (formed : Bool) : Option (Nat × Nat) := if formed then s.memberRefusal else s.stagedRefusal

/-- The unique IDs of the staged membership, by rank. -/
def State.stagedIds (s : State) : List Nat := rising (((List.range 16).map s.stagedMember).filter fun u => u != 0)

/-- PREPARE goes out with the digest of the staged set and the next epoch; this facet checks its own set as every member does. A commit
keeps its facet's PrismId: in a first formation that is the lowest facet's ID, for a facet in no prism has its own (R90, R112). A
formation keeps the automatic origin; any other commit makes the prism committed (R91) (DEDUCED, log 19). -/
def State.startCommit (s : State) (others : List Nat) (formed : Bool) : State :=
  let digest := s.digestOf formed
  let epoch := s.get (.ring .prismEpoch) + 1
  let prism := s.get (.ring .prismId)
  let s := s.set (.lock .prismCommitResult) 3
  let s := s.modRing fun r =>
    { r with commitRunning := true, commitDigest := digest, commitEpoch := epoch, commitPrism := prism,
             commitOrigin := boolNat (!formed), commitSame := true, commitFrom := s.ident.uniqueId, commitWaiting := others,
             lockTime := s.elapsedMs }
  let s := s.broadcast 6 0 (.commit (.prepare digest epoch prism (boolNat (!formed))))
  match s.commitCheck formed with
  | some (reason, detail) => s.abortCommit reason s.ownIndex detail
  | none => if others.isEmpty then s.startApply else s

/-- The staged prism-wide set is discarded, on every member (R107): the live values are staged again (DESIGN CHOICE, log 17). -/
def State.discardStage (s : State) : State :=
  let mine := prismRegs.filter fun x => x.2.2.regs.any fun r => (Table.get none s.pstaged r).isSome
  (s.forEach mine fun s x =>
    s.stageOut ⟨x.1, x.2.1, 0, x.2.2.bytes s.get⟩ (x.2.2.regs.map fun r => (r, s.get r))).dropPrismStage

/-- A write of `PrismCommit` (R107 to R109). -/
def State.writePrismCommit (s : State) (c : Caller) (v : Nat) : Nat × State :=
  if v = 1 then
    if s.commitBusy then
      (abortState, (s.set (.lock .prismCommitRefusal) (0x0A + s.ownIndex * 256)).flag (.ring .ringEvents) ringCommitRefused)
    else if s.lockState c ≠ 2 then (abortState, s.refuseCommit 1 s.ownIndex 0)
    else if !s.isTrue (.ring .quorumState) then (0, s.refuseCommit 2 s.ownIndex 0)
    else
      (0, s.startCommit ((s.members.map Prod.snd).filter fun u => decide (u ≠ s.ident.uniqueId) && s.reachable u) false)
  else if v = 2 then
    if s.lockState c ≠ 2 ∨ s.commitBusy then (abortState, s) else (0, s.discardStage)
  else (abortRange, s)

/-- This facet is a member of a prism of several. -/
def State.isMember (s : State) : Bool := decide (1 < s.members.length) && s.get (.ring .ringMemberState) != 1

/-- This facet takes part in a commit (R91, R92, R107): as a facet of the set that forms, as a member, or as a candidate that the staged
membership takes in (DEDUCED, log 19). -/
def State.takesPart (s : State) (formed : Bool) : Bool :=
  if formed then s.get (.ring .prismOrigin) == 0 && s.stagedIds.contains s.ident.uniqueId
  else s.isMember || s.stagedIds.contains s.ident.uniqueId

/-- What a PREPARE tells of its commit. -/
def State.notePrepare (s : State) (index digest epoch prism origin : Nat) : State :=
  let s := s.modRing fun r => { r with formation := if origin = 0 then s.stagedIds else [] }
  let same := digest == s.digestOf (origin == 0)
  let from_ := (s.peerOf 6 index).getD 0
  s.modRing fun r => { r with commitDigest := digest, commitEpoch := epoch, commitPrism := prism, commitOrigin := origin,
                              commitSame := same,
                              commitFrom := from_ }

/-- PREPARE at a member (R107, R119): READY, or REFUSE with the reason. A candidate that is taken in holds the set without an answer, for
only members answer. A member's PrismCommitResult reads 3 from READY on (DESIGN CHOICE, log 97). -/
def State.cmdPrepare (s : State) (k : Link) (h : FrameHdr) (digest epoch prism origin : Nat) : State :=
  let (mine, s) := s.receive k h 6 (.commit (.prepare digest epoch prism origin))
  let formed := origin == 0
  if !mine then s
  else if (s.lockHeld ∧ s.lockFacet ≠ h.src) ∨ (formed ∧ h.src ≠ 0) then s.peerViolation k
  else if !s.takesPart formed then s
  else
    let s := s.notePrepare h.src digest epoch prism origin
    if !formed && !s.isMember then s.modRing fun r => { r with prepared := true }
    else
      let refusal := if !formed ∧ !s.lockHeld ∧ !s.lockless h.src then some (1, 0)
        else if !s.ring.commitSame then some (7, 0) else s.commitCheck formed
      match refusal with
      | some (reason, detail) =>
        (s.sendIndex h.src 6 0 h.tag (.commit (.refuse reason detail))).modRing fun r => { r with formation := [] }
      | none =>
        ((s.modRing fun r => { r with prepared := true }).set (.lock .prismCommitResult) 3).sendIndex h.src 6 0 h.tag (.commit .ready)

/-- READY at the lock facet (R107). -/
def State.cmdReady (s : State) (k : Link) (h : FrameHdr) : State :=
  let (mine, s) := s.receive k h 6 (.commit .ready)
  if !mine ∨ !s.ring.commitRunning ∨ s.ring.applyAt.isSome then s
  else
    match s.peerOf 6 h.src with
    | none => s
    | some u =>
      let left := s.ring.commitWaiting.filter fun x => decide (x ≠ u)
      let s := s.modRing fun r => { r with commitWaiting := left }
      if left.isEmpty then s.startApply else s

/-- REFUSE at the lock facet (R107). -/
def State.cmdRefuse (s : State) (k : Link) (h : FrameHdr) (reason detail : Nat) : State :=
  let (mine, s) := s.receive k h 6 (.commit (.refuse reason detail))
  if mine ∧ s.ring.commitRunning ∧ s.ring.applyAt.isNone then s.abortCommit reason h.src detail else s

/-- Five milliseconds have passed (R107): a member that is reachable and has not answered ends the commit; one that contact has been lost
with is left behind, and takes the configuration later (R94). -/
def State.cmdCommitAnswerTimeout (s : State) : State :=
  if s.ring.commitRunning ∧ s.ring.applyAt.isNone ∧ !s.ring.commitWaiting.isEmpty then
    match s.ring.commitWaiting.filter fun u => s.reachable u with
    | [] => (s.modRing fun r => { r with commitWaiting := [] }).startApply
    | u :: _ => s.abortCommit 8 (s.indexFor 6 u) 0
  else s

/-- ABORT at a member (R107): the staged set is kept. A member's PrismCommitResult reads 2 (DESIGN CHOICE, log 97). -/
def State.cmdAbort (s : State) (k : Link) (h : FrameHdr) : State :=
  let (mine, s) := s.receive k h 6 (.commit .abort)
  if mine ∧ s.ring.prepared then
    (s.modRing fun r => { r with prepared := false, applyAt := none, formation := [] }).set (.lock .prismCommitResult) 2
  else s

/-- APPLY at a member (R107, R109); a facet that the commit does not concern drops what it saw staged. -/
def State.cmdApply (s : State) (k : Link) (h : FrameHdr) (time : Nat) : State :=
  let (mine, s) := s.receive k h 6 (.commit (.apply time))
  if !mine then s
  else if s.ring.prepared then
    (s.modRing fun r => { r with applyAt := some (time % 2 ^ 32), lapseAt := none }).set (.lock .prismCommitApplyTime) time
  else if s.isMember then s
  else s.dropPrismStage

/-! ### What a commit changes in the images (R121) -/

/-- The rows of R121: 1 disabled, 2 re-presentation, 3 ports replaced, 4 mirror only, 0 nothing of these. -/
def changeKind (a b : ImageView) : Nat :=
  let moved := (List.range a.map.length).any fun k =>
    let e := a.map.getD k 0
    e != 0 && b.map.getD k 0 != e && b.map.contains e
  if a.enable && !b.enable then 1
  else if !a.enable && !b.enable then 0
  else if !a.enable || a.primary != b.primary || a.map.length != b.map.length || moved then 2
  else if a.map != b.map then 3
  else if a.mirror != b.mirror then 4
  else 0

/-- What the facet holds for a logical port that leaves its image goes with it (R121, R136): relay and splits in flight, the translation
entries, a hold-over record, a place outside the aperture. -/
def State.leaveImage (s : State) (i : Image) (m : Nat) : State :=
  ((((s.dropRelay i m).dropEntries i m).dropHeld i m).setRegBit (.image i .imageApertureOut) (m - 1) false).apertureOver i

/-- Before the apply, with the old map in force: what the change makes of the image's ports. An adoption that runs fails and starts again
with the re-presentation (R171) (DEDUCED, log 20). -/
def State.beforeApply (s : State) (i : Image) (kind : Nat) (a b : ImageView) : State :=
  if kind = 1 then
    let s := s.forEach (s.logicalPorts i) fun s m => s.leaveImage i m
    let s := s.forEach (s.ownPorts i) fun s p => if 8 ≤ s.pst p then s.setPs p psPower false else s.powerOff p
    let s := (s.defaultHub i).emptyXlate i
    let s := ((s.endIntent i).set (.hold4 i .holdoverState) 0).modHold i fun h => { h with started := false }
    s.forEach ([s.activeUp i, s.mirrorUp i].filterMap id) fun s u => s.present u .nothing
  else if kind = 2 then
    let s := if s.enabled i then
        (if s.holdState i = 6 then s.adoptFail i 4 else if s.armed i then s.hostLoss i 4 else s.resetUnarmed i)
      else s
    (s.forEach ([s.activeUp i, s.mirrorUp i].filterMap id) fun s u => s.present u .nothing).defaultHub i
  else if kind = 3 then
    s.forEach (List.range b.map.length) fun s k => if a.map.getD k 0 = b.map.getD k 0 then s else s.leaveImage i (k + 1)
  else if kind = 4 then
    match s.mirrorUp i with
    | some u => s.present u .nothing
    | none => s
  else s

/-- The logical number under which a port of the old map stands in the new one, if it stays mapped. -/
def newNumber (old new : List Nat) (m : Nat) : Option Nat :=
  let e := old.getD (m - 1) 0
  if e != 0 && new.contains e then some (new.findIdx (· == e) + 1) else none

/-- What the facet holds for ports by their logical number follows their port-map entries to the new numbers (R121): held ports and their
records, the status of remote ports, translation entries, and splits in flight. What belongs to a port that leaves the map goes (R136). -/
def State.moveRecords (s : State) (i : Image) (old new : List Nat) : State :=
  let was := s
  let s := s.forEach (List.range (max old.length new.length)) fun s k =>
    match newNumber new old (k + 1) with
    | some m => ((s.setRecord i (k + 1) (was.record i m)).setHeld i (k + 1) (was.heldPort i m)).setRemotePort i (k + 1) (was.remotePort i m)
    | none => ((s.setRecord i (k + 1) {}).setHeld i (k + 1) false).setRemotePort i (k + 1) ⟨0, 0, 0, 0⟩
  let s := s.forEach (List.range 128) fun s a =>
    match s.entry i a with
    | some x => s.setEntry i a ((newNumber old new x.port).map fun m => { x with port := m })
    | none => s
  let s := (s.set (.image i .imageApertureOut) ((List.range new.length).foldl (fun v k =>
    setBit v k ((newNumber new old (k + 1)).any fun m => (was.get (.image i .imageApertureOut)).testBit (m - 1))) 0)).apertureOver i
  { s with splits := s.splits.filterMap fun x =>
      if x.image = i.val then (newNumber old new x.port).map fun m => { x with port := m } else some x }

/-- A port that takes a logical number over takes its PORT_POWER, and starts from Powered-off (R121): on another facet by a port request of
the entry facet. -/
def State.takeOver (s : State) (i : Image) (m : Nat) (power conn : Bool) : State :=
  match s.place i m with
  | .own p =>
    let s := s.when conn fun s => s.setPc p psConn
    if power then s.powerOn p else s
  | .remote slot port =>
    if power && s.entryHere i then s.sendTo (s.memberAt slot) 8 i.val 0 (portReqRecord port 0 (.power true)) else s
  | _ => s

/-- The mirror upstream presents the standby function (R121). -/
def State.standMirror (s : State) (i : Image) : State := (s.mirrorUp i).elim s s.presentStandby

/-- After the apply, with the new map in force. `power` and `conn` are PORT_POWER and PORT_CONNECTION of the old ports by logical
number (DEDUCED, log 20). -/
def State.afterApply (s : State) (i : Image) (kind : Nat) (a b : ImageView) (power conn : List Bool) : State :=
  if kind = 2 then
    let s := (s.moveRecords i a.map b.map).standMirror i
    let s := if s.holdState i = 0 ∧ s.armed i then s.set (.hold4 i .holdoverState) 1 else s
    if (s.activeUp i).isSome then s.modHold i fun h => { h with softDetach := true } else s
  else if kind = 3 then
    s.forEach (List.range b.map.length) fun s k =>
      if a.map.getD k 0 = b.map.getD k 0 then s
      else
        let s := s.setRemotePort i (k + 1) ⟨0, if conn.getD k false then 1 else 0, 0, 0⟩
        s.takeOver i (k + 1) (power.getD k false) (conn.getD k false)
  else if kind = 4 then s.standMirror i
  else s

/-- The facet stands in its own automatic prism (R91, R93): a prism that has never had a commit has its prism-wide entries at their defaults
(DEDUCED, log 20). -/
def State.standAlone (s : State) : State :=
  let s := s.forEach (prismRegs.flatMap fun x => x.2.2.regs) fun s r => s.set r (r.default s.ident)
  let s := s.forEach (List.finRange 16) fun s n =>
    let u := if n.val = 0 then s.ident.uniqueId else 0
    (s.set (.ring (.prismMembership n)) u).set (.lock (.prismMembershipStaged n)) u
  (s.set (.ring .prismId) s.ident.uniqueId).set (.ring .prismOrigin) 0

/-- The membership table takes its committed values (R90, R93), with the prism and the origin that the commit gives, and the facet's own
place follows; the holder of the prism lock keeps it under its new index, and what was seen of another prism's epochs is over (R94)
(DEDUCED, log 20). -/
def State.applyMembership (s : State) (prism origin : Nat) : State :=
  let holder := if s.lockHeld then s.memberOfIndex s.lockFacet else none
  let was := s.get (.ring .prismId)
  let ids := (List.finRange 16).map fun n => (n, s.get (.lock (.prismMembershipStaged n)))
  let s := s.forEach ids fun s e => s.set (.ring (.prismMembership e.1)) e.2
  let s := if (s.slotOf s.ident.uniqueId).isSome then (s.set (.ring .prismId) prism).set (.ring .prismOrigin) origin else s.standAlone
  let s := s.when (s.get (.ring .prismId) != was) fun s => s.modRing fun r => { r with seenEpoch := 0, seenFrom := 0 }
  let s := match holder with
    | none => s
    | some u =>
      if (s.slotOf u).isSome then
        s.set (.lock .prismLockOwner) (putBits (s.get (.lock .prismLockOwner)) 19 16 (s.indexOf u))
      else (s.set (.lock .prismLockOwner) 0).modRing fun r => { r with lockFrom := none, lockRenewing := false }
  let st := s.get (.ring .ringMemberState)
  (if st = 3 ∨ st = 1 then s.set (.ring .ringMemberState) 0 else s).placeMember

/-- The facet belongs to a prism other than its own automatic one (R91). -/
def State.inPrism (s : State) : Bool := decide (1 < s.members.length) || s.get (.ring .prismOrigin) == 1

/-- Every image takes the default map of the prism as it now stands (R91, R93) (DEDUCED, log 20). -/
def State.defaultImages (s : State) : State :=
  s.forEach (List.finRange 4) fun s i =>
    let taken := ((List.finRange 4).filter fun j => decide (j ≠ i) && s.enabled j).flatMap fun j => (imageView s.get j).map
    let map := s.defaultMap i taken
    let s := s.set (.image i .imagePortCount) map.length
    s.forEach (List.finRange 255) fun s m => s.set (.image i (.imagePortMap m)) (map.getD m.val 0)

/-- What a commit makes of a partner's identity (R90, R93): a facet of the new membership is of its prism; one that the old membership held
stays there without this facet, or stands alone in its turn. -/
def State.partnerAfter (s : State) (old : List Nat) (dissolved : Bool) (g : Ts2) : Ts2 :=
  let here := s.inPrism
  if here && (s.slotOf g.uid).isSome then
    { g with prismId := s.get (.ring .prismId), origin := s.get (.ring .prismOrigin), memberState := 2 }
  else if old.contains g.uid then
    (if here || dissolved then { g with prismId := g.uid, origin := 0, memberState := 0 } else { g with origin := 1 })
  else g

/-- The links follow a commit (R93): one whose partner is now of another prism reads foreign, and a foreign one trains again once this
facet's own prism has changed, so that both sides learn of it (DEDUCED, log 15). -/
def State.rejudge (s : State) (old : List Nat) (dissolved changed : Bool) : State :=
  s.forEach (List.finRange 4) fun s k =>
    match (s.link k).partner with
    | none => s
    | some g =>
      let g := s.partnerAfter old dissolved g
      let s := (s.modLink k fun x => { x with partner := some g }).noteOrigin g.uid (if g.memberState = 1 then 2 else g.origin)
      let st := s.get (.link k .linkState)
      if st = 3 && s.foreignPartner k g then ((s.setLinkState k 6).flag (.ring .ringEvents) ringForeign).flood
      else if st = 6 && changed then s.retrain k
      else s

/-- The image that an image view becomes where the facet stands alone (R116): image 0 enabled, the others not. -/
def defaultView (i : Image) : ImageView := if i = 0 then ⟨true, 0x80, 0x90, [], false⟩ else ⟨false, 0, 0, [], false⟩

/-- The values that come into force: the staged set; for a facet that is taken in and has yet to fetch the prism's configuration only the
membership, its own images being over (R92, R94) (DEDUCED, log 98). -/
def State.nextPrism (s : State) (behind : Bool) : List (Reg × Nat) :=
  if behind then
    ((membershipRegs.flatMap fun x => x.2.2.regs).map fun r => (r, s.stagedValue r)) ++
      (List.finRange 4).map fun i => (.image i .imageEnable, 0)
  else (prismRegs.flatMap fun x => x.2.2.regs).map fun r => (r, s.stagedValue r)

/-- The images as the staged set will have them, to tell what changes (R121). -/
def State.nextViews (s : State) (formed behind : Bool) : List ImageView :=
  let stays := s.stagedIds.contains s.ident.uniqueId
  (List.finRange 4).map fun i =>
    if !stays then defaultView i
    else if behind then { imageView s.get i with enable := false }
    else if formed then { imageView s.get i with map := [] }
    else imageView s.stagedValue i

/-- An upstream that no image names any more shows nothing, and one that an image names now shows what it stands for (R20, R91, R121). -/
def State.showRole (s : State) (u : Upstream) : State :=
  if (s.imageOfUp u).any s.enabled || (s.imageOfMirror u).any s.enabled then s.showUp u else s.present u .nothing

/-- The staged set becomes live at T with its epoch (R94, R107, R121): members, images and then the maps' consequences. `formed` gives every
image its default map (R91), `behind` leaves the configuration to be fetched (R92). -/
def State.applyPrism (s : State) (epoch prism origin : Nat) (formed behind : Bool) : State :=
  let before := s.inRouting
  let had := s.candidates
  let old := s.members.map Prod.snd
  let oldPrism := (s.get (.ring .prismId), s.get (.ring .prismOrigin))
  let none_ : ImageView := ⟨false, 0, 0, [], false⟩
  let views := (List.finRange 4).map fun i => imageView s.get i
  let dissolved := s.dissolves
  let moved := epoch != s.get (.ring .prismEpoch)
  let next := s.nextPrism behind
  let newViews := s.nextViews formed behind
  let kinds := (List.finRange 4).map fun (i : Image) =>
    if formed && (s.hub i).config == 0 then 0 else changeKind (views.getD i.val none_) (newViews.getD i.val none_)
  let power := (List.finRange 4).map fun i => (s.logicalPorts i).map fun m => match s.place i m with
    | .own p => s.ps p psPower
    | _ => (s.remotePort i m).status.testBit psPower
  let conn := (List.finRange 4).map fun i => (s.logicalPorts i).map fun m => match s.place i m with
    | .own p => s.ps p psConn
    | _ => (s.remotePort i m).status.testBit psConn
  let mapped := s.allPorts.filter fun p => (s.logicalOf p).isSome
  let was := s.allPorts.map fun p => s.logicalOf p
  let s := s.forEach (List.finRange 4) fun s i =>
    s.beforeApply i (kinds.getD i.val 0) (views.getD i.val none_) (newViews.getD i.val none_)
  let s := { s.setAll next with pstaged := [] }
  let s := (s.applyMembership prism origin).set (.ring .prismEpoch) epoch
  let s := if formed || !s.inPrism then s.defaultImages else s
  let s := s.forEach mapped fun s p =>
    if (s.logicalOf p).isNone ∨ (s.logicalOf p ≠ was.getD p.val none ∧
        ((was.getD p.val none).any fun e => let kind := kinds.getD e.1.val 0
          kind == 3 || (kind == 2 && (s.logicalOf p).any fun q => q.1 != e.1))) then
      (if 8 ≤ s.pst p then s.setPs p psPower false else s.powerOff p)
    else s
  let s := s.forEach (List.finRange 4) fun s i =>
    s.afterApply i (kinds.getD i.val 0) (views.getD i.val none_) (imageView s.get i) (power.getD i.val []) (conn.getD i.val [])
  let s := (s.when moved fun s => s.flag (.ring .ringEvents) ringMembership).unreference
  let s := (s.showRole .UA).showRole .UB
  let s := s.rejudge old dissolved (oldPrism != (s.get (.ring .prismId), s.get (.ring .prismOrigin)))
  let s := (((s.placeMember).retopo before).noteCandidates had).endCommit.afterRoutes
  { s with cfg := { s.cfg with prismStore := true } }

/-- T comes (R107, R109, R121). The facet that has committed gives the configuration to the facets that it has taken in; one that is taken
in with another configuration than the prism's fetches that (R92, R94) (DEDUCED, log 98). -/
def State.cmdPrismApplyTime (s : State) : State :=
  if s.ring.applyAt.isNone then s
  else
    let r := s.ring
    let old := s.members.map Prod.snd
    let formed := r.commitOrigin == 0
    let behind := !r.commitSame
    let s := s.applyPrism (if behind then s.get (.ring .prismEpoch) else r.commitEpoch) r.commitPrism r.commitOrigin formed behind
    if behind then s.enterSync r.commitFrom
    else if r.commitRunning && !formed then
      s.forEach ((s.members.map Prod.snd).filter fun u => !old.contains u) fun s u => s.serveSync u
    else s

/-- A Syncing facet has fetched the newer configuration (R94): its prism's origin is committed unless the facet that it met is known to be
of an automatic one. What it cannot know of its images and ports it asks for (R22, R420); a return from withdrawal follows (R102). -/
def State.cmdSyncingComplete (s : State) (epoch : Nat) (values : List RegWrite) : State :=
  if s.get (.ring .ringMemberState) = 3 then
    let s := s.forEach values fun s w => match s.prismWrite w with
      | some l => s.stagePrism l
      | none => s
    let origin := if s.ring.origins.contains (s.ring.seenFrom, 0) then s.get (.ring .prismOrigin) else 1
    let s := s.applyPrism epoch (s.get (.ring .prismId)) origin false false
    if s.ring.returning then s.comeBack else s.fetchRecords
  else s

/-! ### Formation (R91, R92) -/

/-- A membership is staged and committed without the lock (R91, R92) (DEDUCED, log 19). -/
def State.commitMembership (s : State) (ids : List Nat) (others : List Nat) (formed : Bool) : State :=
  let l : List (Reg × Nat) := (List.finRange 16).map fun n => (.lock (.prismMembershipStaged n), ids.getD n.val 0)
  let s := s.stageOut ⟨0x2400, 11, 0, l.flatMap fun e => bytesBe 8 e.2⟩ l
  s.startCommit others formed

/-- The set has been unchanged for `FormationSettleTime` (R91, R92). A facet beyond the 16 lowest of an automatic set is a candidate. -/
def State.cmdFormationSettle (s : State) : State :=
  if s.ring.commitRunning ∨ s.lockHeld ∨ s.get (.ring .ringMemberState) = 1 then s
  else if s.get (.ring .prismOrigin) = 0 then
    let ids := s.provisionalSet
    let now := rising (s.members.map Prod.snd)
    if ids.head? = some s.ident.uniqueId ∧ ids ≠ now ∧ s.isTrue (.ring .quorumState) then
      let s := s.modRing fun r => { r with formation := ids }
      s.commitMembership ids (ids.filter fun u => decide (u ≠ s.ident.uniqueId)) true
    else s.placeMember
  else if s.isTrue (.lock .prismJoinAuto) ∧ s.ownIndex = 0 ∧ s.isTrue (.ring .quorumState) then
    match s.candidates, (List.range 16).find? fun n => s.memberAt n = 0 with
    | u :: _, some n =>
      s.commitMembership (((List.range 16).map s.memberAt).set n u)
        ((s.members.map Prod.snd).filter fun x => decide (x ≠ s.ident.uniqueId) && s.reachable x) false
    | _, _ => s
  else s

/-- Twenty microseconds after WITHDRAW (R102): transit and image traffic stop, and a lock held here is released. -/
def State.cmdWithdrawForwardEnd (s : State) : State :=
  if s.ring.withdrawing then
    let s := if s.lockHere then s.freeLock.broadcast 5 0 (.lock (.tell .release)) else s
    (s.modRing fun r => { r with withdrawing := false }).set (.ring .ringMemberState) 4
  else s

/-- The soft-detach of a re-presentation ends (R121): the active upstream attaches with the new map. -/
def State.cmdSoftDetachEnd (s : State) (i : Image) : State :=
  if (s.hold i).softDetach then
    let s := s.modHold i fun h => { h with softDetach := false }
    match s.activeUp i with
    | some u => if (s.up u).attached && !(s.up u).disabled then s.present u .hub else s
    | none => s
  else s

end Sys2Proof.Machine
end

