-- ==== Sys2Proof/Machine/Sessions.lean ====
section
/-! DEFINITION. The reservoir's commands (R176 to R199): read sessions and EP1 IN, stream commands, the rules of a stream commit, DRAM
training, scrubbing, and the DRAM arbiter. -/

namespace Sys2Proof.Machine

/-! ### Commands in frames (R364) -/

/-- The 16-byte header of a command or an answer, and its data (R364). -/
def doorBytes (op facet tag idx sub flags offset length : Nat) (data : List Byte) : List Byte :=
  [byteOf op, byteOf facet] ++ bytesBe 2 tag ++ bytesBe 2 idx ++ [byteOf sub, byteOf flags] ++ bytesBe 4 offset ++ bytesBe 2 length ++
    bytesBe 2 0 ++ data

/-- Sends a command to another facet in a DOOR frame (R362): its tag, and the state. -/
def State.doorTo (s : State) (d : Door) (uid op idx sub length : Nat) (data : List Byte) : Nat × State :=
  let (tag, s) := s.newTag
  (tag, s.sendTo uid 7 0 tag (.door d (.command (doorBytes op 0xFF tag idx sub 0 0 length data))))

/-! ### Sessions (R184) -/

/-- The reachable member that a session on another facet names. -/
def State.sessionPeer (s : State) (d : Door) : Option Nat :=
  (s.memberOfIndex (s.get (.session d .sessionFacet))).filter fun u => s.reachable u

/-- No abort code: the answer to the write follows with that of the other facet (R184, R362). -/
abbrev abWaits : Nat := 2 ^ 32

/-- A session opens (R184). -/
def State.openSession (s : State) (d : Door) (owner : Option Nat) : State :=
  ((((s.modSession d fun x => { x with opened := true, served := [], opening := none, owner := owner, whole := 0 }).set
    (.session d .sessionOpen) 1).set (.session d .sessionState) 1).set (.session d .sessionRecords) 0)

/-- A write of `SessionOpen` (R184). A session on another facet opens the session of that facet's RING door, and is open once that facet
has answered; that session belongs to the facet that opened it (DESIGN CHOICE, log 40). -/
def State.writeSessionOpen (s : State) (c : Caller) (d : Door) (v : Nat) : Nat × State :=
  let streams := s.get (.session d .sessionStreams)
  let x := s.session d
  if 1 < v then (abortRange, s)
  else if d = .ring ∧ c.src.isSome ∧ x.owner.isSome ∧ x.owner ≠ c.src then (abortState, s)
  else if v = 0 then
    let s := if (x.opened || x.opening.isSome) && !s.sessionHere d then
        (match s.sessionPeer d with
         | some u => (s.doorTo d u 2 0x2C0C 3 1 [0]).2
         | none => s)
      else s
    (0, (s.closeSession d).set (.session d .sessionOpen) 0)
  else if x.opened then (0, s)
  else if x.opening.isSome then (abortState, s)
  else if s.sessionHere d then
    if allDoors.any fun e => e != d && (s.session e).opened && s.sessionHere e && s.get (.session e .sessionStreams) &&& streams != 0 then
      (abortState, s.set (.session d .sessionState) 3)
    else (0, s.openSession d c.src)
  else
    match s.sessionPeer d with
    | none => (0, s.set (.session d .sessionState) 2)
    | some u =>
      let (tag, s) := (s.doorTo d u 2 0x2C0C 1 32 (bytesLe 32 streams)).2.doorTo d u 2 0x2C0C 3 1 [1]
      (abWaits, s.modSession d fun x => { x with opening := some (tag, .quiet) })

/-- The answer to an open that waits for another facet is to go on as `how` says. -/
def State.awaitOpen (s : State) (how : OpenBy) : State :=
  s.forEach allDoors fun s d => s.modSession d fun x =>
    { x with opening := x.opening.map fun o => if o.2 = .quiet then (o.1, how) else o }

/-- The session whose open waits for the answer to a DOOR frame. -/
def State.openingOf (s : State) (tag : Nat) : Option Door := allDoors.find? fun d => (s.session d).opening.any fun o => o.1 == tag

/-- Another facet has answered an open, or not in time (R184, R362): the abort code for the door, and the state. -/
def State.openAnswered (s : State) (d : Door) (answer : Option (List Byte)) : Nat × State :=
  let none_ := (0, (s.modSession d fun x => { x with opening := none }).set (.session d .sessionState) 2)
  match answer with
  | none => none_
  | some a =>
    if byteAt a 1 = 0 then (0, s.openSession d none)
    else if byteAt a 1 = 0xA ∨ byteAt a 1 = 0xB then none_
    else (fieldAt a 8 4, (s.modSession d fun x => { x with opening := none }).set (.session d .sessionState) 3)

/-- A read of `SessionData` (R187) through door `via`: on the UPA and UPB doors the session delivers on EP1 IN. A session on another facet
is read there by a DOOR frame, and `remote` is what its reader delivers (DESIGN CHOICE, log 40). What a read of an earlier door has not
completed is cut off (R188). -/
def State.readSessionData (s : State) (via d : Door) (limit : Nat) (remote : List Byte) : List Byte × State :=
  if !(s.session d).opened || d == .upa || d == .upb then ([], s)
  else if s.sessionHere d then
    let s := if (s.session d).readBy.isSome then s.cutDelivery d else s
    let (b, s) := s.readSession d 80 limit []
    (b, s.modSession d fun x => { x with readBy := some via })
  else
    match s.sessionPeer d with
    | none => ([], s)
    | some u => (remote.take limit, (s.doorTo d u 1 0x2C0C 5 limit []).2.countRemote d (remote.take limit))

/-! ### EP1 IN (R186) -/

/-- The function that serves the management endpoints of an upstream: the embedded one behind a hub, or the standby function. -/
def State.mgmtFn (s : State) (u : Upstream) : Option Fn :=
  match s.upShows u with
  | .nothing => none
  | .standby => some (.standby u)
  | .hub => ((s.imageOfUp u).filter fun i => s.hubServes i).map Fn.emb

/-- wMaxPacketSize of EP1 (R30). -/
def State.ep1Size (s : State) (u : Upstream) : Nat := if (s.up u).speed = 3 then 512 else 64

/-- The next transfer of EP1 IN: answers go between records. A session on another facet reads there by a DOOR frame (R187). An empty read,
with no closed record at the read pointer of any stream of the session, may be an IDLE record (R186). -/
def State.startPart (s : State) (u : Upstream) (remote : List Byte) : State :=
  let d := upDoor u
  if (s.up u).part.isSome then s
  else
    match (s.up u).answers with
    | a :: rest => s.modUp u fun x => { x with part := some (1, a), answers := rest }
    | [] =>
      if !(s.session d).opened then s
      else
        let here := s.sessionHere d
        let s := if here then s.startDelivery d
          else match s.sessionPeer d with
            | none => s
            | some v => (s.doorTo d v 1 0x2C0C 5 1024 []).2
        let empty := if here then (s.ready d).isEmpty else remote.isEmpty
        if (s.session d).bytes ≠ [] then s.modUp u fun x => { x with part := some (0, []) }
        else if !here && !empty then s.modUp u fun x => { x with part := some (3, remote) }
        else if empty && s.isTrue (.res .resIdleRecord) then
          s.modUp u fun x => { x with part := some (2, recordHeader 2 0 0xFF 0 s.now 0) }
        else s

/-- The host has acknowledged a packet of EP1 IN (R186, R188): `size` is the packet's. A transfer of kind 0 is a record of this facet, 1 an
answer, 2 an IDLE record or the zero-length packet that ends a transfer, 3 a record of another facet. -/
def State.ackPart (s : State) (u : Upstream) (kind size mps : Nat) (bytes : List Byte) : State :=
  let d := upDoor u
  let rest := bytes.drop size
  let next : Option (Nat × List Byte) := if size < mps then none else some (if rest = [] then 2 else kind, if kind = 0 then [] else rest)
  let s := s.modUp u fun x => { x with part := next }
  if bytes = [] ∨ kind = 2 then s
  else if kind = 1 then (if rest = [] then s.readDone d else s)
  else if kind = 3 then (if rest = [] then s.bump (.session d .sessionRecords) else s)
  else if rest = [] then (s.modSession d fun x => { x with bytes := [] }).passRecord d
  else s.sentBytes d size

/-- A management function answers an IN on endpoint `ep`: a handshake, or data that the host may acknowledge (R425). -/
def State.mgmtHs (s : State) (u : Upstream) (addr ep : Nat) (h : HostHs) : State :=
  let s := s.usbSeen (placeUp u) false 0x69 addr ep []
  (s.emit (.handshake h)).when (h != .silent) fun s => s.usbSeen (placeUp u) true (hsPid h) addr ep []
def State.mgmtData (s : State) (u : Upstream) (addr ep : Nat) (toggle acked : Bool) (bytes : List Byte) : State :=
  let s := (s.usbSeen (placeUp u) false 0x69 addr ep []).usbSeen (placeUp u) true (dataPid toggle) addr ep bytes
  ((s.emit (.hostData toggle bytes)).spoil (placeUp u)).when acked fun s => s.usbSeen (placeUp u) false 0xD2 addr ep []

/-- A host IN on EP1 (R186): one transaction. -/
def State.cmdHostEp1In (s : State) (u : Upstream) (acked : Bool) (remote : List Byte) : State :=
  match s.mgmtFn u with
  | none => s
  | some f =>
    let x := s.fnDev f
    if x.config ≠ 1 then s.mgmtHs u x.addr 1 .silent
    else if x.halted.testBit (haltBit 0x81) then s.mgmtHs u x.addr 1 .stall
    else
      let s := s.startPart u remote
      match (s.up u).part with
      | none => s.mgmtHs u x.addr 1 .nak
      | some (kind, b) =>
        let mps := s.ep1Size u
        let bytes := if kind = 0 then (s.session (upDoor u)).bytes else b
        if kind = 0 ∧ (s.sendable (upDoor u)).length < min mps bytes.length then s.mgmtHs u x.addr 1 .nak else
        let t := x.toggle.testBit (haltBit 0x81)
        let s := if kind = 0 then s.modSession (upDoor u) fun y => { y with begun := true } else s
        let s := s.mgmtData u x.addr 1 t acked (bytes.take mps)
        if acked then
          (s.setFnDev f { x with toggle := setBit x.toggle (haltBit 0x81) (!t) }).ackPart u kind (min mps bytes.length) mps bytes
        else s

/-! ### Stream commands (R189 to R191) -/

/-- A stream as a release or a rewind finds it (R192). -/
def State.saveStream (s : State) (d : Door) (n v : Nat) : StreamSave :=
  let x := s.stream n
  { time := s.time.elapsed, door := d.num, value := v, records := x.records, passed := x.passed, mark := x.mark, full := x.full,
    need := x.need, readPtr := s.get (streamReg n .streamReadPtr), freePtr := s.get (streamReg n .streamReleasePtr),
    markPtr := s.get (streamReg n .streamMarkPtr), events := s.get (streamReg n .streamEvents) }

/-- The stream before a command that is overtaken (R192). -/
def State.restoreStream (s : State) (n : Nat) (w : StreamSave) : State :=
  ((((s.modStream n fun x => { x with records := w.records, passed := w.passed, mark := w.mark, full := w.full, need := w.need,
                                      saved := none }).set (streamReg n .streamReadPtr) w.readPtr).set
    (streamReg n .streamReleasePtr) w.freePtr).set (streamReg n .streamMarkPtr) w.markPtr).set (streamReg n .streamEvents) w.events

/-- A release or a rewind alone. -/
def State.moveStream (s : State) (n v : Nat) : State := if v = 2 then s.rewindCommand n else s.releaseStream n

/-- A command of door d to a stream (R189): of a release and a rewind in one cycle, the lower door's goes first (R192). -/
def State.streamCommand (s : State) (d : Door) (n v : Nat) : State :=
  if v = 1 then (s.modStream n fun x => { x with saved := none }).markStream n
  else if v = 4 then s.flushStream n
  else
    match (s.stream n).saved.filter fun w => w.time == s.time.elapsed && w.value != v && decide (d.num < w.door) with
    | some w => ((s.restoreStream n w).moveStream n v).moveStream n w.value
    | none => (s.modStream n fun x => { x with saved := some (s.saveStream d n v) }).moveStream n v

/-- A write of `StreamCommand` (R189, R190). -/
def State.writeStreamCommand (s : State) (d : Door) (n : Nat) (v : Nat) : Nat × State :=
  if v = 0 ∨ 4 < v then (abortRange, s)
  else if !s.configured n then (abortState, s)
  else (0, s.streamCommand d n v)

/-! ### The rules of a stream commit (R178) -/

/-- Units of memory that streams may take: 64 KiB each with DRAM, 4 KiB each without. -/
def State.resUnits (s : State) : Nat := if s.sramOnly then 256 else 16 * s.get (.res .reservoirDramSize)

/-- The region of a stream under the values `f`, be the stream enabled or not. -/
def regionOf (f : Reg → Nat) (n : Nat) : Option (Nat × Nat) :=
  if f (streamReg n .streamSize) = 0 then none else some (f (streamReg n .streamBase), f (streamReg n .streamSize))

/-- Two regions overlap. -/
def overlap (a b : Nat × Nat) : Bool := decide (a.1 < b.1 + b.2) && decide (b.1 < a.1 + a.2)

/-- The Lens extension region under the values `f` (R429). -/
def State.lensRegion (s : State) (f : Reg → Nat) : Option (Nat × Nat) :=
  if s.sramOnly || f (.lens .lensExtSize) == 0 then none else some (f (.lens .lensExtBase), f (.lens .lensExtSize))

/-- A region that was committed for the DRAM, before its training failed, and that a commit of the values `f` leaves as it is: the memory it
lacks is no rule that this commit breaks, so the declaration can be corrected (R7) (DESIGN CHOICE, log 107). -/
def State.regionStays (s : State) (f : Reg → Nat) (n : Nat) : Bool :=
  s.ident.dram && s.sramOnly && f (streamReg n .streamBase) == s.get (streamReg n .streamBase) &&
    f (streamReg n .streamSize) == s.get (streamReg n .streamSize)

/-- Why a commit of the values `f` breaks R178: the first failing stream (0xFF the Lens extension), and 1 beyond the memory or 2 an
overlap (DEDUCED, log 68). -/
def State.regionRefusal (s : State) (f : Reg → Nat) : Option (Nat × Nat) :=
  let rs := (List.range 256).filterMap fun n => (regionOf f n).map fun r => (n, r)
  let lens := s.lensRegion f
  let bad := rs.filterMap fun x =>
    if s.resUnits < x.2.1 + x.2.2 ∧ !s.regionStays f x.1 then some (x.1, 1)
    else if (rs.any fun y => y.1 != x.1 && overlap x.2 y.2) || lens.any fun l => overlap x.2 l then some (x.1, 2)
    else none
  bad.head?.orElse fun _ => lens.bind fun l => if s.resUnits < l.1 + l.2 then some (0xFF, 1) else none

/-- A refused stream commit shows its reason (R178, R201). -/
def State.refuseRegions (s : State) (r : Nat × Nat) : State :=
  (s.set (.res .resConfigRefusal) (r.2 + 256 * r.1)).flag (.res .resEvents) resConfigRefused

/-! ### DRAM training, spills, scrubbing (R176, R177, R195) -/

/-- Data size in MiB of a declared geometry (R176). -/
def geometrySize (g : Nat) : Nat := [0, 1024, 2048, 4096, 2048, 4096].getD g 0

/-- DRAM training ends: `size` is the size found in MiB. A training that finds no memory has failed, whatever is declared (R7). -/
def State.cmdDramTrainingDone (s : State) (size : Nat) (ok : Bool) : State :=
  if s.get (.res .reservoirDramState) ≠ 1 ∨ !s.domainOn 7 then s
  else if ok ∧ size ≠ 0 ∧ size = geometrySize (s.get (.res .reservoirDramGeometry)) then
    (s.set (.res .reservoirDramSize) size).setDramState 2
  else ((s.set (.res .reservoirDramSize) 0).setDramState 4).raise 53 0

/-- A partial tail burst spills, unless its spill is held up. -/
def State.cmdTailPartialSpill (s : State) (n : Stream) : State :=
  if s.sramOnly ∨ !s.spills n.val then s else s.modStream n.val fun x => { x with tail := 0 }

/-- DRAM serves accesses. -/
def State.dramReady (s : State) : Bool := !s.sramOnly && s.get (.res .reservoirDramState) == 2

/-- A corrected DRAM error at a byte address (R193). -/
def State.dramCorrected (s : State) (addr : Nat) : State :=
  ((s.bump (.res .dramCeCount)).flag (.res .resEvents) resCorrected).raise 48 (addr / 8)

def State.cmdDramCorrectedError (s : State) (addr : Nat) : State := if s.dramReady then s.dramCorrected addr else s

/-- The record slot of the Lens extension that holds a byte address, if one does (R429). -/
def State.lensSlotAt (s : State) (addr : Nat) : Option Nat :=
  (s.lensRegion s.get).bind fun l =>
    if l.1 * 65536 ≤ addr ∧ addr < (l.1 + l.2) * 65536 then
      some ((262144 + (addr - l.1 * 65536)) / s.get (.lens .lensRecordSize))
    else none

/-- An uncorrectable DRAM error at a byte address (R193, R194, R429) (DESIGN CHOICE, log 38). -/
def State.cmdDramUncorrectableError (s : State) (addr : Nat) : State :=
  if s.dramReady then
    let s := ((s.bump (.res .dramUeCount)).set (.res .dramUeAddress) (addr / 8)).flag (.res .resEvents) resDramUe
    let s := s.raise 49 (addr / 8)
    match s.streamAt addr with
    | some (n, off) => s.damageStream n off
    | none =>
      match s.lensSlotAt addr with
      | some k => { s with lens := { s.lens with trace := Table.put id [] s.lens.trace k [0xF0] } }
      | none => s
  else s

/-- A corrected error of SRAM bank j (R193) (DESIGN CHOICE, log 38). -/
def State.cmdSramCorrectedError (s : State) (bank : Fin 22) : State :=
  ((s.bump (.res (.sramCeCount bank))).flag (.res .resEvents) resCorrected).raise 50 bank.val

/-- The memory the scrubber reads serves accesses: DRAM, or the on-chip streams (R195, R200). -/
def State.scrubs (s : State) : Bool := s.domainOn 7 && (s.sramOnly || s.dramReady)

/-- The scrubber reads a burst at a byte address of the streams' memory (R195): one in which it corrects an error is counted and written
back; without DRAM the address lies in banks 0 to 7 (R200) (DEDUCED, log 39). -/
def State.cmdScrubBurst (s : State) (addr : Nat) (corrected : Bool) : State :=
  if s.scrubs ∧ (s.sramOnly ∨ s.granted 10) ∧ corrected ∧ ((s.streamAt addr).isSome ∨ (s.lensSlotAt addr).isSome) then
    if s.sramOnly then s.cmdSramCorrectedError ⟨addr / 131072 % 8, by omega⟩ else s.dramCorrected addr
  else s

def State.cmdScrubPassComplete (s : State) : State :=
  if s.scrubs then (s.bump (.res .scrubPassCount)).flag (.res .resEvents) resScrubPass else s

/-! ### The arbiter (R196 to R199) -/

/-- The requesters. -/
abbrev requesters : List Nat := List.range 11

/-- A requester's limit. -/
def State.waitLimit (s : State) (n : Nat) : Nat := if h : n < 11 then s.get (.arb (.arbWaitLimit ⟨n, h⟩)) else 0

/-- The requester that the choice of R197 names. -/
def State.arbChoice (s : State) : Option Nat :=
  let asking := requesters.filter fun n => (s.req n).asking
  let forced := asking.filter fun n => (s.req n).forced
  let top := forced.foldl (fun m n => max m (s.req n).wait) 0
  let last := s.get (.arb .arbParkedOwner)
  if forced.isEmpty then (asking.find? fun n => decide (last < n)).or asking.head?
  else forced.find? fun n => (s.req n).wait = top

/-- A grant of a requester that spills tails: the first of its streams whose tail holds a whole burst spills up to 16 bursts (R177, R196).
While bursts are left, the requester goes on waiting for its next grant (DEDUCED, log 37). -/
def State.spillGrant (s : State) (q : Nat) : State :=
  let full := fun (s : State) (n : Nat) => decide (64 ≤ (s.stream n).tail ∧ (s.stream n).tailBy = q)
  let l := rising (s.streams.map Prod.fst)
  let s := match l.find? (full s) with
    | some n => s.modStream n fun x => { x with tail := x.tail - 64 * min 16 (x.tail / 64) }
    | none => s
  if l.any (full s) then s.setReq q { waiting := true, asking := true } else s

/-- What a requester's grant lets through at once (R196): the relay and hold-over engines' tails, or the staged trace records of the Lens.
The readers' fetches and the scrubber's burst find the grant when they go on. -/
def State.arbServe (s : State) (n : Nat) : State :=
  if n = 4 ∨ n = 5 ∨ n = 6 then s.spillGrant n else if n = 8 then s.lensDrain else s

/-- A requester is granted. -/
def State.arbGrant (s : State) (n : Nat) : State :=
  if h : n < 11 then
    let r := s.req n
    let s := ((s.setReq n {}).arbServe n).bump (.arb (.arbGrantCount ⟨n, h⟩))
    let s := s.set (.arb (.arbMaxWait ⟨n, h⟩)) (max (s.get (.arb (.arbMaxWait ⟨n, h⟩))) r.wait)
    let s := if r.forced then (s.bump (.arb (.arbForcedWinCount ⟨n, h⟩))).flag (.res .resEvents) resArbForced else s
    s.set (.arb .arbParkedOwner) n
  else s

/-- The arbiter as a decision finds it, with the winner (R199). -/
def State.saveArb (s : State) (w : Nat) : ArbSave :=
  let c := fun (r : Fin 11 → ArbReg) => if h : w < 11 then s.get (.arb (r ⟨w, h⟩)) else 0
  { time := s.time.elapsed, reqs := s.arb, winner := w, grants := c .arbGrantCount, most := c .arbMaxWait, wins := c .arbForcedWinCount,
    parked := s.get (.arb .arbParkedOwner), events := s.get (.res .resEvents), flags := 0,
    tails := s.streams.map fun e => (e.1, e.2.tail) }

/-- A decision of the same cycle as a freeze issues no grant (R199). -/
def State.undoGrant (s : State) : State :=
  match s.arbSaved.filter fun w => w.time == s.time.elapsed with
  | none => s
  | some w =>
    if h : w.winner < 11 then
      let s := { s with arb := w.reqs, arbSaved := none }
      let s := s.forEach w.tails fun s e => s.modStream e.1 fun x => { x with tail := e.2 }
      let s := ((s.set (.arb (.arbGrantCount ⟨w.winner, h⟩)) w.grants).set (.arb (.arbMaxWait ⟨w.winner, h⟩)) w.most).set
        (.arb (.arbForcedWinCount ⟨w.winner, h⟩)) w.wins
      let s := s.set (.arb .arbParkedOwner) w.parked
      if s.get (.res .resEvents) = w.flags then s.set (.res .resEvents) w.events else s
    else s

/-- A decision (R197): `cycles` have passed since the last one, and the requesters in `asks` have a new request. -/
def State.cmdArbDecision (s : State) (asks cycles : Nat) : State :=
  if !s.dramReady ∨ s.get (.arb .arbFreezeState) ≠ 0 then s
  else
    let s := s.forEach requesters fun s n =>
      let r := s.req n
      if r.waiting then
        let w := min 65535 (r.wait + cycles)
        let f := r.forced || decide (s.waitLimit n ≤ w)
        s.setReq n { r with wait := w, forced := f, asking := r.asking || f }
      else if asks.testBit n then (s.holdHeads fun q => q == n).setReq n { waiting := true, asking := true }
      else s
    match s.arbChoice with
    | none => s
    | some w =>
      let saved := s.saveArb w
      let s := s.forEach requesters fun s n =>
        let r := s.req n
        if r.asking ∧ n ≠ w then s.setReq n { r with losses := r.losses + 1, asking := r.forced } else s
      let s := s.arbGrant w
      { s with arbSaved := some { saved with flags := s.get (.res .resEvents) } }

/-- A back-off ends. -/
def State.cmdArbBackoffEnd (s : State) (n : Fin 11) : State :=
  s.modReq n.val fun r => { r with asking := r.waiting }

/-- A wait reaches its limit (DEDUCED, log 39). -/
def State.cmdArbWaitLimit (s : State) (n : Fin 11) : State :=
  if (s.req n.val).waiting ∧ s.get (.arb .arbFreezeState) = 0 then
    s.modReq n.val fun r => { r with forced := true, asking := true, wait := max r.wait (s.waitLimit n.val) }
  else s

/-- A wait reaches the bound of R198. -/
def State.cmdArbStarve (s : State) (n : Fin 11) : State :=
  if (s.req n.val).waiting ∧ s.get (.arb .arbFreezeState) = 0 then
    let w := min 65535 (s.waitLimit n.val + 384)
    let s := (s.modReq n.val fun r => { r with wait := max r.wait w }).set (.arb (.arbMaxWait n)) (max (s.get (.arb (.arbMaxWait n))) w)
    (s.flag (.res .resEvents) resArbStarve).raise 54 n.val
  else s

/-- The arbiter runs again: tails spill their whole bursts, unless their requester waits, and staged trace records enter the trace. -/
def State.resumeArb (s : State) : State :=
  let s := s.set (.arb .arbFreezeState) 0
  let s := s.forEach (s.streams.map Prod.fst) fun s n => if s.spills n then s.modStream n fun x => { x with tail := x.tail % 64 } else s
  if s.granted 8 then s.lensDrain else s

/-- A write of `ArbFreeze` (R199). -/
def State.writeFreeze (s : State) (v : Nat) : Nat × State :=
  if 1 < v then (abortRange, s)
  else
    let s := s.set (.arb .arbFreeze) v
    if s.sramOnly then (0, s)
    else if v = 1 then (0, if s.get (.arb .arbFreezeState) = 0 then s.undoGrant.holdHeads.set (.arb .arbFreezeState) 1 else s)
    else (0, s.resumeArb)

/-- The freeze has drained. -/
def State.cmdArbDrained (s : State) : State :=
  if s.get (.arb .arbFreezeState) = 1 then (s.set (.arb .arbFreezeState) 2).flag (.res .resEvents) resFreezeDrained else s

end Sys2Proof.Machine
end

