-- ==== Sys2Proof/Machine/TimeDoor.lean ====
section
/-! DEFINITION. Prism time's commands that doors and the CAN bus give (R212, R226, R230 to R235): reads of the counter, the compare
values, the civil anchor, CANopen TIME and SYNC, and the launch queue. -/

namespace Sys2Proof.Machine

/-! ### Reads (R212, R237) -/

/-- A read of `TimeNow` latches the fraction. -/
def State.latchFraction (s : State) : State := { s with time := { s.time with latched := s.time.frac } }

/-! ### Compare values (R226, R231) -/

/-- A compare value is taken when it lies less than 2.1 s ahead. -/
def State.writeCompare (s : State) (r : Reg) (v : Nat) : Nat × State :=
  if 2100000000 ≤ s.ahead v then (abortRange, s) else (0, s.set r v)

/-- The rule of a commit of the values `f` for PPS_OUT (R226) (DEDUCED, log 68). -/
def ppsRule (f : Reg → Nat) : Bool := decide (f (.pps .ppsOutWidth) * 1000 < f (.pps .ppsOutPeriod))

/-! ### The civil anchor, TIME and SYNC (R230, R231) -/

/-- The anchor's bytes: extended time, days, milliseconds. -/
def State.anchorBytes (s : State) : List Byte := bytesBe 14 (s.get (.time .timeCivilAnchor))

/-- The anchor is rewritten here and copied to every member (DEDUCED, log 44). -/
def State.setAnchor (s : State) (v : Nat) : State :=
  let s := s.set (.time .timeCivilAnchor) v
  if s.alone then s else s.broadcast 4 0 (.sync (.anchor s.anchorBytes))

/-- The CAN services send and receive process messages: HUB and the steward run with their clocks (R17), the node is Pre-operational or
Operational, and the controller is on the bus (R23, R335, R371) (DEDUCED, log 44). -/
def State.canRuns (s : State) : Bool :=
  s.domainOn 1 && s.time.pll && s.boot.running && !s.boot.recovery && !s.doors.canOff && !s.doors.busOff && !s.faults.safeRun &&
    (s.get (.can .canState) == 5 || s.get (.can .canState) == 127)

/-- A TIME producer sends TIME (R230): `late` is how long after its scheduled instant, in ns, the start-of-frame bit leaves.
(DEDUCED, log 44) -/
def State.cmdCanTimeSend (s : State) (late : Nat) : State :=
  let period := s.get (.canTime .canTimePeriod) * 1000000
  let cob := s.get (.comm .cobIdTime)
  if !s.canRuns || !cob.testBit 30 || period == 0 then s
  else
    let due := s.extended / period * period
    let a := s.anchorBytes
    let ms : Int := (fieldAt a 10 4 : Int) + ((due : Int) - (fieldAt a 0 8 : Int)) / 1000000
    let days := (fieldAt a 8 2 : Int) + ms / 86400000
    let s := s.sendCan (cob % 2048) (bytesLe 4 (ms % 86400000).toNat ++ bytesLe 2 (ofSigned 16 days))
    let s := s.set (.canTime .canTimeTxStamp) ((due + late) % 2 ^ 32)
    if 500000 < late then (s.bump (.canTime .canTimeLateCount)).flag (.time .timeEvents) timeCanTimeLate else s

/-- A received TIME message rewrites a consumer's anchor (R230) (DEDUCED, log 44). -/
def State.cmdCanTimeReceive (s : State) (ms days : Nat) : State :=
  let cob := s.get (.comm .cobIdTime)
  if s.canRuns && cob.testBit 31 && !cob.testBit 30 then
    s.setAnchor (ofBytesBe (bytesBe 8 s.extended ++ bytesBe 2 days ++ bytesBe 4 (ms % 2 ^ 28)))
  else s

/-- Every SYNC sent or received is stamped and counted (R231). -/
def State.stampSync (s : State) : State := (s.set (.canTime .canSyncStamp) s.now).bump (.canTime .canSyncCount)

/-- The compare of a SYNC producer fires (R231) (DEDUCED, log 44). -/
def State.sendSync (s : State) : State :=
  let cob := s.get (.comm .cobIdSync)
  if !s.canRuns || !cob.testBit 30 || s.get (.comm .commCyclePeriod) == 0 then s
  else
    let s := (s.sendCan (cob % 2048) []).stampSync
    s.set (.canTime .canSyncPhase) ((s.get (.canTime .canSyncPhase) + s.get (.comm .commCyclePeriod) * 1000) % 2 ^ 32)

/-! ### Launches (R232 to R235) -/

/-- A write of `LaunchSubmit` (R233). -/
def State.writeLaunchSubmit (s : State) (b : List Byte) : Nat × State :=
  let r := s.launchRefusal b
  if r = 0 then (0, { s with time := { s.time with launches := s.time.launches ++ [launchOf b] } })
  else
    let s := (s.set (.launch .launchRefusal) r).bump (.launch .launchRefusedCount)
    (if r = 1 ∨ r = 4 then abortRange else abortState, s)

/-- A write of `LaunchCancel` (R233): a launch that has not started is removed. -/
def State.writeLaunchCancel (s : State) (tag : Nat) : Nat × State :=
  match s.time.launches.find? fun l => l.tag = tag with
  | some l => (0, if l.attempts = 0 then s.endLaunch l 6 else s)
  | none => (0, s)

/-- A launch's transaction ends (R234, R235): on the engine or in the port's TT (DEDUCED, log 77). -/
def State.cmdLaunchEnd (s : State) (tag : Nat) (answer : DevAnswer) : State :=
  match (List.finRange 4).find? fun (n : Fin 4) => (s.context n.val).any fun x => x.who == .launch tag with
  | some n => s.cmdHsEngineTransactionEnd n answer
  | none =>
    match s.time.launches.find? fun l => l.tag = tag && l.running with
    | none => s
    | some l =>
      match s.place (imageOf l.image) l.port with
      | .own p => if s.get (.port p .portSpeed) = 3 then s else s.cmdTtFsTransactionDone p answer
      | _ => s.endLaunch l 7

end Sys2Proof.Machine
end

