-- ==== Sys2Proof/Machine/Typec.lean ====
section
/-! DEFINITION. Type-C attachment, moisture, VCONN and the message layer of a port's PD controller (R243 to R258, R273 to R275,
R281): what is sent and received, the AMSs the hub starts, Soft_Reset, Hard Reset and contracts. -/

namespace Sys2Proof.Machine

/-! ### Conditions -/

/-- The PD message layer of a port runs (R14, R17, R252): PWR is on, the PLL is locked, and a partner is attached. -/
def State.pdReady (s : State) (p : Port) : Bool :=
  s.domainOn 5 && s.time.pll && !s.faults.safeRun && (s.get (.tc p .tcState) == 3 || s.get (.tc p .tcState) == 4)

/-- Policy runs (R17, R22, R255): the steward does, and its clock. -/
def State.policy (s : State) : Bool := s.boot.running && s.time.pll && !s.faults.safeRun

/-- The CC logic of a port runs (R14). -/
def State.ccRuns (s : State) (p : Port) : Bool := s.hasPort p && s.domainOn 5 && !s.faults.safeRun && !s.unitHeld (.port p)

/-- A partner served at Revision 2.0 (R254). -/
def State.rev2 (s : State) (p : Port) : Bool := (s.tc p).partnerRev == 1

/-! ### Messages on the wire (R252, R254, R428, R434) -/

/-- A message header, as USB PD lays it out (PRESUMED, log 45). -/
def pdHeader (typ n id : Nat) (ext src dfp : Bool) (rev : Nat) : Nat :=
  typ % 32 + boolNat dfp * 32 + rev % 4 * 64 + boolNat src * 256 + id % 8 * 512 + n % 8 * 4096 + boolNat ext * 32768

/-- A structured VDM header: kind 0 a request, 1 ACK, 2 NAK; `svdm` is 0 at version 1.0 and 1 at 2.0 (PRESUMED, log 45). -/
def vdmHeader (svid pos kind cmd svdm : Nat) : Nat :=
  svid * 65536 + 32768 + svdm % 4 * 8192 + pos % 8 * 256 + kind % 4 * 64 + cmd % 32

/-- Type code, data objects, and whether the message is extended and on SOP′. -/
def PdMsg.wire : PdMsg → Nat × List Nat × Bool × Bool
  | .goodCrc => (1, [], false, false)
  | .cableGoodCrc => (1, [], false, true)
  | .accept => (3, [], false, false)
  | .reject => (4, [], false, false)
  | .psRdy => (6, [], false, false)
  | .notSupported => (16, [], false, false)
  | .softReset => (13, [], false, false)
  | .hardReset => (0, [], false, false)
  | .sourceCapabilities o => (1, o, false, false)
  | .sinkCapabilities o => (4, o, false, false)
  | .request w => (2, [w], false, false)
  | .getSinkCap => (8, [], false, false)
  | .alert w => (6, [w], false, false)
  | .status b => (2, b, true, false)
  | .ppsStatus b => (12, b, true, false)
  | .revision w => (12, [w], false, false)
  | .sourceInfo w => (11, [w], false, false)
  | .vdm sp cmd kind svid o svdm => (15, vdmHeader svid (if cmd = 4 ∨ cmd = 5 then 1 else 0) kind cmd svdm :: o, false, sp)
  | .bist => (3, [], false, false)

/-- A PD message in the trace (R428): `sop` is 0 SOP, 1 SOP′, 2 Hard Reset. -/
def State.lensPd (s : State) (p : Port) (sent : Bool) (header sop retries : Nat) (objs : List Nat) : State :=
  s.lensNote 1 (placePort p) sent (bytesBe 2 header ++ [byteOf sop, byteOf retries] ++ bytesBe 4 (objs.getD 0 0))
    ((objs.drop 1).flatMap (bytesBe 4))

/-- The header under which a message of the hub leaves; SOP and SOP′ count their MessageIDs apart (R252). -/
def State.txHeader (s : State) (p : Port) (m : PdMsg) : Nat :=
  let x := s.tc p
  let (typ, objs, ext, sp) := m.wire
  pdHeader typ objs.length (if sp then x.txIdP else x.txId) ext (!sp && x.source) (!sp && x.dfp) (if s.rev2 p then 1 else 2)

/-- The next MessageID after a message on SOP, or on SOP′ (R252). -/
def TcRt.nextId (x : TcRt) (sp : Bool) : TcRt :=
  if sp then { x with sent := none, txIdP := (x.txIdP + 1) % 8 } else { x with sent := none, txId := (x.txId + 1) % 8 }

/-- The message last sent has its GoodCRC: it is traced and counted (R425, R431) (DEDUCED, log 46). -/
def State.ackTx (s : State) (p : Port) : State :=
  match (s.tc p).sent with
  | none => s
  | some (m, retries) =>
    let (_, objs, _, sp) := m.wire
    let s := (s.lensPd p true (s.txHeader p m) (boolNat sp) retries objs).lensCount 11 (placePort p) 1
    s.modTc p fun x => x.nextId sp

/-- A message leaves, unless the PD clock has stopped (R17); provocation may spoil its CRC (R434) (DEDUCED, log 46). -/
def State.pdSend (s : State) (p : Port) (m : PdMsg) : State :=
  if !s.time.pll then s
  else
    let s := s.ackTx p
    let (bad, s) := s.provoke 6 (placePort p)
    (s.emit (.pd p m bad)).modTc p fun x => { x with sent := some (m, 0) }

/-! ### Hard Reset and Soft_Reset (R273, R281) -/

/-- A Hard Reset starts, sent or received (R273): any transition, swap or AMS is abandoned, and Wyhelen mode ends (R73). A Sink port removes
VCONN at once (R251). With the PD clock stopped none starts and the contract in force stays (R17). -/
def State.hardReset (s : State) (p : Port) (sent : Bool) : State :=
  if !s.time.pll then s else
  let s := if (s.tc p).entered then s.leaveWyhelen p else s.entering p false
  let s := if sent then s.emit (.pd p .hardReset false) else s
  let s := s.lensPd p sent 0 2 0 []
  let s := (s.bump (.tc p .pdHardResetCount)).flag (.pd .pdEvents) pdHardReset
  let source := (s.tc p).asSource
  let s := s.modTc p fun x =>
    { x with sent := none, txId := 0, lastId := none, lastIdP := none, txIdP := 0, bleeding := false, vconn := source && x.vconn,
             trans := none, swap := 0, vswap := 0, own := [], window := false, await := .nothing,
             offerOut := none, target := none, explicit := false, pps := false, offered := [], entryStep := 0, detectOff := false,
             caps := 0, sinkCaps := none, hardRow := if sent then x.hardRow + 1 else x.hardRow, hardStage := if source then 1 else 0 }
  (s.set (.tc p .pdContractState) (if source then 6 else 0)).set (.tc p .pdRdo) 0

/-- `LinkRefusal` of the port's link (R72). -/
def State.refuseLink (s : State) (p : Port) (code : Nat) : State :=
  match s.portLink p with
  | some k => s.set (.link k .linkRefusal) code
  | none => s

/-- The exchange of R70 is lost with the AMS it runs in, or with an exchange's ACK that nothing followed: it ends as unanswered (R72)
(DEDUCED, log 14). -/
def State.loseEntry (s : State) (p : Port) : State :=
  if (s.tc p).entryStep = 0 ∨ (s.tc p).entryStep = 9 ∨ (s.tc p).entered then s
  else ((s.refuseLink p 1).modTc p fun x => { x with entryStep := 9 }).entering p false

/-- A Soft_Reset leaves (R281): what the hub had under way on the port is abandoned (DEDUCED, log 46). -/
def State.sendSoftReset (s : State) (p : Port) : State :=
  let s := (s.loseEntry p).when (s.get (.tc p .pdContractState) == 4) fun s =>
    s.set (.tc p .pdContractState) (if (s.tc p).explicit then 3 else 1)
  let s := s.modTc p fun x =>
    { x with txId := 0, lastId := none, await := .softAccept, window := false, offerOut := none, trans := none, vswap := 0,
             bleeding := false }
  (s.pdSend p .softReset).flag (.pd .pdEvents) pdSoftReset

/-- A message that the port's state does not expect (R281). -/
def State.unexpected (s : State) (p : Port) : State := (s.bump (.tc p .pdSoftResetCount)).sendSoftReset p

/-- A violation that is counted (R281). -/
def State.pdBreach (s : State) (p : Port) : State :=
  (s.bump (.tc p .pdViolationCount)).flag (.pd .pdEvents) pdViolation

/-- The answer to a message without a service (R254, R259, R281). -/
def State.notSupported (s : State) (p : Port) : State :=
  (s.bump (.tc p .pdNotSupportedCount)).pdSend p (if s.rev2 p then .reject else .notSupported)

/-! ### Receiving (R254, R273 to R275, R281) -/

/-- A partner message ahead of the hub's own (R274, R275). -/
def State.collision (s : State) (p : Port) : State := (s.bump (.tc p .pdCollisionCount)).flag (.pd .pdEvents) pdCollision

/-! ### Source capabilities (R256, R262) -/

/-- The cable limit C in mA (R251, R256). -/
def State.cableLimit (s : State) (p : Port) : Nat := if (s.tc p).cable5A && !(s.tc p).vconnOut then 5000 else 3000

/-- A fixed supply object, as USB PD lays it out: voltage in mV, current in mA (PRESUMED, log 45). -/
def fixedPdo (flags mv ma : Nat) : Nat := flags + mv / 50 * 1024 + ma / 10

/-- A programmable supply object: voltages in mV, current in mA (PRESUMED, log 45). -/
def ppsApdo (lo hi ma : Nat) : Nat := 0xC0000000 + hi / 100 * 2 ^ 17 + lo / 100 * 256 + ma / 50

/-- The objects that a power in mW covers (R256). -/
def State.offerObjects (s : State) (p : Port) (mw : Nat) : List Nat :=
  let c := s.cableLimit p
  let least := s.get (.pd .pdMinPdoCurrent)
  let drp := s.get (.tc p .tcRoleMode) == 1 || s.isTrue (.tc p .pdPrSwapAccept)
  let flags := boolNat drp * 2 ^ 29 + boolNat (s.isTrue (.pd .pdUnconstrained)) * 2 ^ 27 + 2 ^ 26
  let fixed := fun (mv : Nat) => min c (mw * 1000 / mv) / 10 * 10
  let apdo := fun (mv : Nat) => min (min 5000 c) (mw * 1000 / mv) / 50 * 50
  [fixedPdo flags 5000 (min 3000 (fixed 5000))] ++
    ([9000, 15000, 20000].filterMap fun mv => if least ≤ fixed mv then some (fixedPdo 0 mv (fixed mv)) else none) ++
    (if s.isTrue (.tc p .pdPpsEnable) && !s.rev2 p then
      [11000, 16000, 21000].filterMap fun mv => if least ≤ apdo mv then some (ppsApdo 3300 mv (apdo mv)) else none
     else [])

/-- Source_Capabilities leaves (R256, R260, R262): under R263 with the reduced power. -/
def State.sendCaps (s : State) (p : Port) : State :=
  let mw := ((s.tc p).target).getD (s.offerPower p)
  let objs := s.offerObjects p mw
  let s := s.pdSend p (.sourceCapabilities objs)
  let s := s.modTc p fun x =>
    { x with offered := objs, offerOut := some mw, await := .request, caps := x.caps + 1, target := none,
             own := x.own.filter fun a => a != .sourceCaps }
  let s := if (s.tc p).explicit then s.set (.tc p .pdOfferPower) mw else s
  s.set (.tc p .pdContractState) 2

/-! ### AMSs that the hub starts (R260, R274, R275) -/

/-- The VDM of a step of R70. -/
def entryVdm (step : Nat) : PdMsg :=
  if step = 2 then .vdm false 1 0 0xFF00 [] 1
  else if step = 3 then .vdm false 2 0 0xFF00 [] 1
  else if step = 4 then .vdm false 3 0 0x3A5D [] 1
  else .vdm false 4 0 0x3A5D [] 1

/-- Discover Identity leaves on SOP′ (R257). -/
def State.askCable (s : State) (p : Port) : State :=
  (s.modTc p fun x => { x with cableTries := x.cableTries + 1 }).pdSend p (.vdm true 1 0 0xFF00 [] 1)

/-- Rp returns to SinkTxOK when no AMS of the hub waits in a 3.x contract. -/
def State.sinkTxOk (s : State) (p : Port) : State :=
  if (s.tc p).explicit && !s.rev2 p && (s.tc p).source then s.modTc p fun x => { x with rp := 3 } else s

/-- The first AMS that waits starts. -/
def State.startAms (s : State) (p : Port) : State :=
  match (s.tc p).own with
  | [] => (s.modTc p fun x => { x with window := false }).sinkTxOk p
  | a :: rest =>
    let s := s.modTc p fun x => { x with own := rest, window := false }
    match a with
    | .sourceCaps => s.sendCaps p
    | .sinkCap => (s.pdSend p .getSinkCap).modTc p fun x => { x with await := .sinkCaps }
    | .alert =>
      let s := s.pdSend p (.alert (2 ^ 27))
      if rest.isEmpty then s.sinkTxOk p else s.modTc p fun x => { x with window := true }
    | .cable => (s.askCable p).modTc p fun x => { x with await := .cable }
    | .wyhelen step => (s.pdSend p (entryVdm step)).modTc p fun x => { x with await := .vdm step }

/-- An AMS that waits gets its window, or starts at once outside a 3.x contract (R274). -/
def State.kick (s : State) (p : Port) : State :=
  let x := s.tc p
  if x.own.isEmpty ∨ x.window ∨ x.await ≠ .nothing ∨ x.trans.isSome ∨ x.swap ≠ 0 ∨ x.vswap ≠ 0 ∨ x.hardStage ≠ 0 ∨ !s.policy ∨ !s.pdReady p ∨
      !x.source ∨ s.shed p then s
  else if x.explicit ∧ !s.rev2 p then s.modTc p fun x => { x with rp := 2, window := true }
  else s.startAms p

/-- The hub wants an AMS. -/
def State.queueAms (s : State) (p : Port) (a : Ams) : State :=
  if (s.tc p).own.contains a then s else (s.modTc p fun x => { x with own := x.own ++ [a] }).kick p

/-- The hub's AMS ends. -/
def State.endAms (s : State) (p : Port) : State :=
  ((s.modTc p fun x => { x with await := .nothing }).kick p |> fun s => if (s.tc p).own.isEmpty then s.sinkTxOk p else s)

/-- The AMS that waits for an answer. -/
def Await.ams : Await → List Ams
  | .request => [.sourceCaps]
  | .sinkCaps => [.sinkCap]
  | .cable => [.cable]
  | .vdm step => [.wyhelen step]
  | _ => []

/-- A transmission that has no GoodCRC yet is discarded for a partner of Revision 2.0, and its AMS waits to start again (R275). -/
def State.withdrawTx (s : State) (p : Port) : State :=
  s.modTc p fun x =>
    let a := x.await.ams
    { x with sent := none, await := .nothing, offerOut := if x.await = .request then none else x.offerOut,
             own := a ++ x.own.filter fun y => !a.contains y }

/-- A message arrives with a good CRC: GoodCRC answers it, and unless it is a repetition, needs policy that does not run, or meets a
state that does not expect it, `f` serves it. `fits` says that the hub's own AMS waits for it. A partner that has declared Revision 2.0 or
1.0 is served at 2.0 from then on (R254); a message served ahead of an AMS of the hub leaves it to start afresh, with a new window (R274,
R275). -/
def State.pdIn (s : State) (p : Port) (h : PdHdr) (typ : Nat) (objs : List Nat) (ext fits : Bool) (f : State → State) : State :=
  if !s.pdReady p then s
  else
    let (lost, s) := s.provoke 5 (placePort p)
    if lost then s
    else
      let crossed := h.crossed && (s.tc p).sent.isSome && (s.rev2 p || decide (h.rev < 2))
      let s := if crossed then s.withdrawTx p else s.ackTx p
      let x := s.tc p
      let s := s.lensPd p false (pdHeader typ objs.length h.id ext (!x.source) (!x.dfp) h.rev) 0 0 objs
      let s := (s.lensCount 10 (placePort p) 1).set (.canTime (.pdRxStamp p)) s.now
      let s := s.emit (.pd p .goodCrc false)
      if x.lastId = some h.id ∧ typ ≠ 13 then s.pdBreach p
      else
        let s := s.modTc p fun x =>
          { x with lastId := some h.id, partnerRev := if h.rev < 2 ∨ x.partnerRev = 1 then 1 else 2, hardRow := 0,
                   rp := if x.source then x.rp else h.rp }
        if !s.policy ∨ x.fallback ∨ x.hardStage ≠ 0 then s
        else if x.trans.isSome then s.hardReset p true
        else if x.window ∨ crossed then ((f ((s.collision p).modTc p fun x => { x with window := false })).kick p)
        else if x.await ≠ .nothing ∧ !fits ∧ typ ≠ 13 then s.unexpected p
        else f s

/-- A re-offer (R251, R257, R263, R264): Source_Capabilities in a contract, or after the transition that makes one (R276), otherwise a new
advertisement. -/
def State.reoffer (s : State) (p : Port) (mw : Nat) : State :=
  if (s.tc p).explicit || (s.tc p).trans.isSome then
    (s.modTc p fun x => { x with target := some mw }).queueAms p .sourceCaps
  else if (s.tc p).source && s.get (.tc p .tcState) == 3 && s.get (.chan (chanOf p) .brkState) != 0 then s.advertise p (rpFor mw)
  else s

/-! ### Contracts (R258, R266) -/

/-- The allocation of a request (R258): its voltage in mV, its current in mA, and whether it is programmable (PRESUMED, log 45). -/
def requestOf (obj rdo : Nat) : Nat × Nat × Nat × Bool :=
  if obj / 2 ^ 30 = 3 then
    let mv := bitField rdo 20 9 * 20
    let ma := bitField rdo 6 0 * 50
    (mv, ma, mv * ma / 1000, true)
  else
    let mv := bitField obj 19 10 * 50
    (mv, 6000, mv * (bitField rdo 9 0 * 10) / 1000, false)

/-- A request lies within the object it names (R258) (DEDUCED, log 47). -/
def requestFits (obj rdo : Nat) : Bool :=
  if obj / 2 ^ 30 = 3 then decide (bitField rdo 6 0 ≤ bitField obj 6 0)
  else decide (bitField rdo 9 0 ≤ bitField obj 9 0) && decide (bitField rdo 19 10 ≤ bitField obj 9 0)

/-- The object that a request names, if the hub offered it. -/
def State.requestedObject (s : State) (p : Port) (rdo : Nat) : Option Nat :=
  if bitField rdo 30 28 = 0 then none else (s.tc p).offered[bitField rdo 30 28 - 1]?

/-- A transition completes (R266): PS_RDY, and the new allocation stands. -/
def State.completeTrans (s : State) (p : Port) (t : TransRt) : State :=
  let first := !(s.tc p).explicit || (s.tc p).newContract
  let offer := ((s.tc p).offerOut).getD t.alloc
  let s := s.pdSend p .psRdy
  let s := s.modTc p fun x =>
    { x with explicit := true, pps := t.pps, trans := none, offerOut := none, newContract := false, lowerTo := none, bleeding := false }
  let s := ((s.set (.tc p .pdAllocation) t.alloc).set (.tc p .pdContractState) 3).set (.tc p .pdRdo) t.rdo
  let s := s.set (.tc p .pdOfferPower) (if first then offer else s.get (.tc p .pdOfferPower))
  let s := if (s.tc p).own.isEmpty then s.sinkTxOk p else s
  if first then s.queueAms p .sinkCap else s.kick p

/-! ### VBUS, VCONN and the regulator (R251, R265, R301) -/

/-- A voltage in mV as linear16 with the exponent of VOUT_MODE, to the nearest step (R265) (PRESUMED, log 48). -/
def linear16 (mode : BitVec 5) (mv : Nat) : Nat :=
  match mode.toInt with
  | .ofNat e => (mv + 500 * 2 ^ e) / (1000 * 2 ^ e)
  | .negSucc e => (mv * 2 ^ (e + 1) + 500) / 1000

/-- A command to a port's regulator, with packet error checking when `PdRegPec` is TRUE (R265). -/
def State.pmb1 (s : State) (p : Port) (cmd data : Nat) : State :=
  s.emit (.pmbus 1 (s.get (.tc p .pdRegAddress)) cmd data (s.isTrue (.pd .pdRegPec)))

/-- VOUT_COMMAND to a port's regulator (R265) (PRESUMED, log 48). -/
def State.pmb1Vout (s : State) (p : Port) (mv : Nat) : State := s.pmb1 p 0x21 (linear16 (Config.voutMode (p.val + 1)) mv)

/-- The regulator of a port is commanded to 5.00 V and 6.0 A (R265, R273). -/
def State.regulatorDefault (s : State) (p : Port) : State :=
  ((s.pmb1Vout p 5000).pmb1 p 0x46 6000).modTc p fun x => { x with mv := 5000, ma := 6000 }

/-- The regulator of a port is initialised when PWR turns on (R265): VOUT_MODE, voltage, limits, OPERATION (PRESUMED, log 48). -/
def State.regulatorInit (s : State) (p : Port) : State :=
  (((s.pmb1 p 0x20 0).regulatorDefault p).pmb1 p 0x47 0).pmb1 p 0x01 0x80

/-- VCONN goes on when the other CC pin shows Ra (R244, R251). -/
def State.vconnOn (s : State) (p : Port) : State :=
  s.modTc p fun x => { x with vconn := x.vconn || (x.ra && !x.vconnOut) }

/-- A regulator failure fails the contract (R267); with the PD clock stopped none is judged (R17). -/
def State.regFail (s : State) (p : Port) : State :=
  if !s.time.pll then s
  else ((s.bump (.tc p .pdRegFailCount)).flag (.pd .pdEvents) pdRegFail).hardReset p true

/-- The port enters error recovery (R267, R271): VBUS stays off. -/
def State.errorRecovery (s : State) (p : Port) (regulator : Bool) : State :=
  ((s.tcRelease p).set (.tc p .tcState) 6).modTc p fun x => { x with recovery := regulator }

/-! ### Attach and detach (R244 to R246) -/

/-- A port is in its unattached or attach-wait state, with no partner. -/
def State.unattached (s : State) (p : Port) : Bool := s.get (.tc p .tcState) == 1 || s.get (.tc p .tcState) == 2

/-- An attach as Source is confirmed: orientation, VCONN, VBUS (R244). -/
def State.confirmAttach (s : State) (p : Port) (pin2 ra : Bool) : State :=
  let s := s.modTc p fun x =>
    { x with attach := none, attachAt := none, trying := 0, orientValid := true, orient := boolNat pin2, ra := ra, source := true,
             dfp := true,
             asSource := true, vconnOut := false, caps := 0, hardRow := 0, drpSink := false }
  ((s.set (.tc p .tcState) 3).vconnOn p).vbusOn p

/-- The attach debounce of a Source ends, in Try.SRC too (R243, R244, R249, R281), or a connection is first seen and the port waits to
attach (R248). -/
def State.cmdCcSourceAttach (s : State) (p : Port) (cc : CcSeen) (safe : Bool) : State :=
  if !s.ccRuns p ∨ !s.unattached p ∨ (s.tc p).attach.isSome then s
  else
    match cc with
    | .first => s.set (.tc p .tcState) 2
    | .rd pin2 ra =>
      if (s.tc p).trying = 2 then s
      else if !safe then
        let s := s.set (.tc p .tcState) 2
        if (s.tc p).backfed then s
        else ((s.modTc p fun x => { x with backfed := true }).bump (.tc p .pdViolationCount)).flag (.pd .pdEvents) pdBackfeed
      else
        let s := s.modTc p fun x => { x with backfed := false }
        if s.isTrue (.pd .moistureEnable) then
          (s.set (.tc p .tcState) 2).modTc p fun x =>
            { x with attach := some (boolNat pin2, ra), attachAt := if x.measuring then some s.time.elapsed else none, measuring := true }
        else s.confirmAttach p pin2 ra
    | _ => s.bump (.tc p .tcUnsupportedCount)

/-- Rp and the partner's VBUS are seen for tCCDebounce: a dual-role port first tries to be the Source (Try.SRC), and attaches as Sink when
it has found no Sink there (TryWait.SNK) (R243, R245). `rp` is the partner's level. -/
def State.cmdCcSinkAttach (s : State) (p : Port) (pin2 : Bool) (rp : Nat) : State :=
  if s.ccRuns p ∧ s.unattached p ∧ (s.tc p).attach.isNone ∧ s.get (.tc p .tcRoleMode) = 1 ∧ (s.tc p).trying ≠ 1 then
    if (s.tc p).trying = 0 then (s.modTc p fun x => { x with trying := 1, drpSink := false }).set (.tc p .tcState) 2
    else
      (s.modTc p fun x => { x with orientValid := true, orient := boolNat pin2, source := false, dfp := false, asSource := false,
                                   rp := rp % 4,
                                   drpSink := true, trying := 0 }).set (.tc p .tcState) 4
  else s

/-- The attach that was under way on a port ends without a partner. -/
def State.endWait (s : State) (p : Port) : State :=
  (s.modTc p fun x => { x with attach := none, attachAt := none, measuring := x.measuring && x.attach.isNone, trying := 0,
                               backfed := false }).set
    (.tc p .tcState) 1

/-- A Source port's partner is gone (R246), or the attach that was under way. In Try.SRC an open CC pin means that no Sink has come yet. -/
def State.cmdSourceDetach (s : State) (p : Port) : State :=
  if s.get (.tc p .tcState) = 2 then (if (s.tc p).trying = 1 ∧ (s.tc p).attach.isNone then s else s.endWait p)
  else if s.get (.tc p .tcState) = 3 then s.tcDetach p
  else s

/-- A Sink port's partner is gone (R246), or the Source that a port in TryWait.SNK waited for. -/
def State.cmdSinkDetach (s : State) (p : Port) : State :=
  if s.get (.tc p .tcState) = 4 then s.tcDetach p
  else if s.get (.tc p .tcState) = 2 ∧ (s.tc p).trying ≠ 1 ∧ (s.tc p).attach.isNone then s.endWait p
  else s

/-- A lowered advertisement counts (R247). -/
def State.cmdRpLowerAllocation (s : State) (p : Port) : State :=
  match (s.tc p).lowerTo with
  | none => s
  | some mw => (s.set (.tc p .pdAllocation) mw).modTc p fun x => { x with lowerTo := none }

/-- An unattached dual-role port changes its side, and one in Try.SRC that has found no Sink within tDRPTry goes to TryWait.SNK (R243). -/
def State.cmdDrpToggle (s : State) (p : Port) : State :=
  if !s.ccRuns p ∨ s.get (.tc p .tcRoleMode) ≠ 1 then s
  else if s.get (.tc p .tcState) = 1 ∧ !(s.tc p).measuring then s.modTc p fun x => { x with drpSink := !x.drpSink }
  else if s.get (.tc p .tcState) = 2 ∧ (s.tc p).trying = 1 ∧ (s.tc p).attach.isNone then
    s.modTc p fun x => { x with trying := 2, drpSink := true }
  else s

/-- Type-C error recovery ends (R248): a regulator that has not acknowledged keeps the port there (R267). -/
def State.cmdErrorRecoveryEnd (s : State) (p : Port) : State :=
  if s.get (.tc p .tcState) = 6 ∧ !(s.tc p).recovery then s.set (.tc p .tcState) 1 else s

/-! ### Moisture (R249, R250) -/

/-- Wet under R249: the readings of CC1, CC2, SBU1, SBU2 in Ω. -/
def State.wetReading (s : State) (z : List Nat) : Bool :=
  let t := s.get (.pd .moistureThreshold)
  let cc := fun (v : Nat) => decide (v < t) && !(decide (4100 ≤ v) && decide (v ≤ 6100)) && !(decide (800 ≤ v) && decide (v ≤ 1200))
  cc (z.getD 0 0xFFFFFFFF) || cc (z.getD 1 0xFFFFFFFF) || decide (z.getD 2 0xFFFFFFFF < t) || decide (z.getD 3 0xFFFFFFFF < t)

/-- A reading as `MoistureImpedance` shows it: above 10 MΩ it reads 0xFFFFFFFF (R283). -/
def shownImpedance (z : Nat) : Nat := if 10000000 < z then 0xFFFFFFFF else z

/-- The readings are kept. -/
def State.keepReadings (s : State) (p : Port) (z : List Nat) : State :=
  (s.forEach (List.finRange 4) fun s j => s.set (.tc p (.moistureImpedance j)) (shownImpedance (z.getD j.val 0xFFFFFFFF))).modTc p fun x =>
    { x with measuring := false }

/-- Some port is wet (DEDUCED, log 47). -/
def State.anyWet (s : State) : Bool := s.allPorts.any fun p => s.get (.tc p .tcState) == 5

/-- A port becomes wet (R250). -/
def State.goWet (s : State) (p : Port) : State :=
  let s := ((s.usbDisconnect p).tcRelease p).set (.tc p .tcState) 5
  let s := (s.setPst p 9).modTc p fun x => { x with dryRun := 0 }
  ((s.bump (.tc p .moistureWetCount)).flag (.pd .pdEvents) pdWet).raiseLive 21 (p.val + 1)

/-- A wet port returns to Unattached (R250). -/
def State.leaveWet (s : State) (p : Port) : State :=
  let s := s.modTc p fun x => { x with corroded := false, dryRun := 0, measuring := false }
  let s := s.set (.tc p .tcState) 0
  let s := s.set (.tc p .tcState) (s.tcIdle p)
  let s := if s.pst p = 9 then s.setPst p (if s.ps p psPower then 1 else 0) else s
  if s.anyWet then s else s.endLive 21

/-- A measurement starts (R249). -/
def State.cmdMoistureCheck (s : State) (p : Port) : State :=
  let st := s.get (.tc p .tcState)
  if s.ccRuns p ∧ s.isTrue (.pd .moistureEnable) ∧ (st = 1 ∨ st = 5) then s.modTc p fun x => { x with measuring := true } else s

/-- A measurement of an unattached or wet port ends (R250): also one that ends in the cycle of an attach debounce, whose wet result abandons
the attach. -/
def State.cmdMoistureResult (s : State) (p : Port) (z : List Nat) : State :=
  let st := s.get (.tc p .tcState)
  if (s.tc p).attach.isSome then
    if (s.tc p).attachAt = some s.time.elapsed then
      let t := (s.keepReadings p z).modTc p fun x => { x with measuring := true, attachAt := none }
      if s.wetReading z then t.goWet p else t
    else s
  else if !(s.tc p).measuring ∨ ¬ (st = 1 ∨ st = 2 ∨ st = 5) then s
  else
    let s := s.keepReadings p z
    if s.wetReading z then (if st = 5 then s.modTc p fun x => { x with dryRun := 0 } else s.goWet p)
    else if st = 5 then
      let n := (s.tc p).dryRun + 1
      let s := s.modTc p fun x => { x with corroded := false, dryRun := n }
      if 3 ≤ n then (s.leaveWet p).flag (.pd .pdEvents) pdDry else s
    else s

/-- The measurement after an attach debounce ends (R244, R249, R250). -/
def State.cmdAttachMoistureResult (s : State) (p : Port) (z : List Nat) : State :=
  match (s.tc p).attach with
  | none => s
  | some (pin, ra) =>
    if !(s.tc p).measuring then s
    else
      let s := s.keepReadings p z
      if s.wetReading z then s.goWet p else s.confirmAttach p (pin == 1) ra

/-- A port has been wet for 10 minutes (R250). -/
def State.cmdCorrosionTimeout (s : State) (p : Port) : State :=
  if s.get (.tc p .tcState) = 5 then s.modTc p fun x => { x with corroded := true } else s

/-- `MoistureEnable` is committed FALSE (R250); an attach that waits for its result goes on. -/
def State.moistureOff (s : State) : State :=
  s.forEach s.allPorts fun s p =>
    let s := if s.get (.tc p .tcState) = 5 then s.leaveWet p else s
    match (s.tc p).attach with
    | some (pin, ra) => s.confirmAttach p (pin == 1) ra
    | none => s.modTc p fun x => { x with measuring := false }

/-! ### VCONN and the cable (R251, R257) -/

/-- VCONN is overloaded (R251). -/
def State.cmdVconnOverload (s : State) (p : Port) : State :=
  if (s.tc p).vconn then
    let was := s.cableLimit p
    let s := ((s.vconnOff p).modTc p fun x => { x with vconnOut := true, cableTries := 20, own := x.own.filter fun a => a != .cable }).when
      ((s.tc p).await == .cable) fun s => s.endAms p
    let s := ((s.bump (.tc p .vconnFaultCount)).flag (.pd .pdEvents) pdVconnFault).raise 22 (p.val + 1)
    if was ≠ s.cableLimit p then s.reoffer p (s.offerPower p) else s
  else s

/-- Discover Identity leaves on SOP′ (R257): 4 attempts before the first Source_Capabilities, 16 more after the first contract. -/
def State.cmdCableDiscoveryAttempt (s : State) (p : Port) : State :=
  let x := s.tc p
  if s.pdReady p ∧ s.policy ∧ x.source ∧ x.vconn ∧ !x.cableKnown ∧ x.hardStage = 0 ∧ x.trans.isNone ∧
      (if x.explicit then x.cableTries < 20 else x.cableTries < 4 ∧ x.caps = 0) then
    if x.explicit ∧ !s.rev2 p then s.queueAms p .cable else s.askCable p
  else s

/-- A cable answers on SOP′ (R257): `vdo` is its first cable VDO. GoodCRC acknowledges it and a repeated MessageID is discarded (R252). An
answer that is no ACK leaves C at 3 A, and the hub asks no more. -/
def State.cmdCableIdentity (s : State) (p : Port) (ack : CableAnswer) (vdo : Nat) : State :=
  let x := s.tc p
  if !s.pdReady p ∨ !x.vconn then s
  else
    let s := if x.sent.any fun e => e.1.onPrime then s.ackTx p else s
    let s := (s.lensPd p false (pdHeader 15 5 ack.id false false false 2) 1 0 []).lensCount 10 (placePort p) 1
    let s := s.emit (.pd p .cableGoodCrc false)
    if x.lastIdP = some ack.id then s.pdBreach p
    else
      let s := s.modTc p fun x => { x with lastIdP := some ack.id }
      if x.cableKnown ∨ x.cableTries = 0 then s
      else
        let s := s.modTc p fun x => { x with cableKnown := true, cable5A := ack.ack && bitField vdo 6 5 == 2 }
        let s := if ack.ack then s.set (.tc p .pdCableVdo) vdo else s
        let s := if x.await = .cable then s.endAms p else s
        if x.explicit ∧ (s.tc p).cable5A then s.reoffer p (s.offerPower p) else s

end Sys2Proof.Machine
end

