-- ==== Sys2Proof/Machine/Pd.lean ====
section
/-! DEFINITION. The PD messages and timers of a port (R258 to R281) and the Wyhelen entry exchange of structured VDMs (R70 to R73,
R277, R278). -/

namespace Sys2Proof.Machine

/-! ### The power budget (R261 to R264) -/

/-- Ports in ascending priority, and within a level in descending port number (R263). -/
def State.shedOrder (s : State) : List Port :=
  sortBy (fun a b => decide (s.get (.tc a .pdPortPriority) ≤ s.get (.tc b .pdPortPriority))) s.allPorts.reverse

/-- A port is shed (R263): VBUS off, PORT_POWER and VCONN kept (R251), no connection reported. -/
def State.shedPort (s : State) (p : Port) : State :=
  let s := if s.pst p = 0 ∨ 8 ≤ s.pst p then s else s.usbDisconnect p
  let s := ((s.vbusOff p).endContract p).when (!(s.tc p).entered) fun s => s.entering p false
  (s.setRegBit (.pd .pdShedPorts) p.val true).flag (.pd .pdEvents) pdShed

/-- The manager meets a budget below what is allocated (R263 steps 1 and 2). -/
def State.reduceBudget (s : State) : State :=
  if s.policy ∧ s.budget < s.allocated then
    (s.shedOrder.foldl (fun (acc : Nat × State) p =>
      let (x, s) := acc
      let a := s.alloc p
      let t := max 2500 (a - x)
      if x = 0 ∨ a ≤ t then (x, s)
      else (x - (a - t), ((s.reoffer p t).bump (.pd .pdReofferCount)).flag (.pd .pdEvents) pdReoffer)) (s.allocated - s.budget, s)).2
  else s

/-- `PdShedDelay` has passed and A still exceeds B (R263 step 3). -/
def State.cmdShedDelayExpiry (s : State) : State :=
  if s.policy then
    s.forEach s.shedOrder fun s p => if s.budget < s.allocated ∧ 0 < s.alloc p then s.shedPort p else s
  else s

/-- Ports in descending priority, and within a level in ascending port number (R264). -/
def State.restoreOrder (s : State) : List Port := s.shedOrder.reverse

/-- The manager's shedding is due (R263): A has exceeded B for `PdShedDelay`. -/
def State.shedDue (s : State) : Bool :=
  s.path.overFrom.any fun t => decide (s.budget < s.allocated ∧ t + s.get (.pd .pdShedDelay) * msUnits ≤ s.time.elapsed)

/-- One port of a restoring pass (R264): `more` is what the offers of the pass that wait for their window hold beyond A′ (R262). -/
def State.restorePort (s : State) (more : Nat) (p : Port) : Nat × State :=
  let mw := s.offerBeside p more
  if s.get (.tc p .tcState) = 3 ∧ (s.tc p).source ∧ !s.shed p ∧ s.get (.tc p .pdOfferPower) < s.get (.tc p .pdPortMaxPower) ∧
      s.alloc p < (if (s.tc p).explicit then mw else rpPower (rpFor mw)) then
    let s := ((s.reoffer p mw).bump (.pd .pdReofferCount)).flag (.pd .pdEvents) pdReoffer
    (if (s.tc p).target.isSome then more + (mw - max (s.alloc p) ((s.tc p).offerOut.getD 0)) else more, s)
  else (more, s)

/-- B − A has stayed at least 2.5 W for 1 s (R264). -/
def State.cmdBudgetRestore (s : State) : State :=
  if s.policy ∧ s.allocated + 2500 ≤ s.budget then
    let s := s.forEach s.restoreOrder fun s p =>
      if s.shed p ∧ s.allocatedOrOffered + 2500 ≤ s.budget then
        ((s.setRegBit (.pd .pdShedPorts) p.val false).flag (.pd .pdEvents) pdRestore).vbusOn p
      else s
    (s.restoreOrder.foldl (fun (acc : Nat × State) p => acc.2.restorePort acc.1 p) (0, s)).2
  else s

/-- The entries of the budget follow the feeds (R261, R304); a fall is met at once (R263). -/
def State.budgetChanged (s : State) : State :=
  let limit := s.feedLimit
  let s := if s.get (.pd .pdBudgetFeedLimit) = limit then s
    else (s.set (.pd .pdBudgetFeedLimit) limit).flag (.power .powerEvents) powBudgetChange
  s.reduceBudget

/-! ### Offers and requests (R256, R258, R259) -/

/-- Source_Capabilities is due: 150 ms after VBUS is in its window or after the last one, or at a re-offer that needs no window. -/
def State.cmdSourceCapabilitiesSend (s : State) (p : Port) : State :=
  let x := s.tc p
  if !s.pdReady p ∨ !s.policy ∨ !x.source ∨ x.nonPd ∨ s.shed p ∨ x.hardStage ≠ 0 ∨ x.trans.isSome ∨ x.swap ≠ 0 ∨
      s.get (.chan (chanOf p) .brkState) ≠ 2 then s
  else if x.explicit then (if x.own.contains .sourceCaps ∧ !x.window ∧ x.await = .nothing then s.startAms p else s)
  else if x.caps < 50 then s.sendCaps p
  else s

/-- A Request (R258): on a port that the manager sheds in the same cycle it gets no answer (R276) (DEDUCED, log 47). -/
def State.cmdRequest (s : State) (p : Port) (h : PdHdr) (rdo : Nat) : State :=
  s.pdIn p h 2 [rdo] false ((s.tc p).await == .request) fun s =>
    let x := s.tc p
    if !x.source then s.unexpected p
    else if s.shed p || (s.shedDue && s.cmdShedDelayExpiry.shed p) then s
    else
      let s := s.modTc p fun x => { x with await := .nothing }
      let reject := fun (s : State) =>
        let s := ((s.bump (.tc p .pdRejectCount)).pdSend p .reject).modTc p fun x => { x with offerOut := none }
        (s.set (.tc p .pdContractState) (if x.explicit then 3 else 1)).endAms p
      match s.requestedObject p rdo with
      | none => reject s
      | some obj =>
        if !requestFits obj rdo ∨ (obj / 2 ^ 30 = 3 ∧ s.rev2 p) ∨ s.unitHeld .pmb then reject s
        else
          let (mv, ma, mw, pps) := requestOf obj rdo
          let s := s.pdSend p .accept
          let s := s.modTc p fun x => { x with trans := some { rdo := rdo, mv := mv, ma := ma, pps := pps, alloc := mw } }
          (s.set (.tc p .pdAllocation) (max (s.alloc p) mw)).set (.tc p .pdContractState) 4

/-- Get_Source_Cap (R259): a new negotiation (DEDUCED, log 47). -/
def State.cmdGetSourceCap (s : State) (p : Port) (h : PdHdr) : State :=
  s.pdIn p h 7 [] false false fun s => if (s.tc p).source && !s.shed p then s.sendCaps p else s.notSupported p

/-- The Sink_Capabilities of R245 (PRESUMED, log 45). -/
def sinkCapsObject : Nat := 2 ^ 29 + fixedPdo 0 5000 10

/-- Get_Sink_Cap (R245, R259). -/
def State.cmdGetSinkCap (s : State) (p : Port) (h : PdHdr) : State :=
  s.pdIn p h 8 [] false false fun s =>
    if s.get (.tc p .tcRoleMode) = 1 ∨ s.isTrue (.tc p .pdPrSwapAccept) then s.pdSend p (.sinkCapabilities [sinkCapsObject])
    else s.notSupported p

/-- The partner's Sink_Capabilities (R260). -/
def State.cmdSinkCapabilities (s : State) (p : Port) (h : PdHdr) (objects : List Nat) : State :=
  s.pdIn p h 4 objects false ((s.tc p).await == .sinkCaps) fun s =>
    if (s.tc p).await = .sinkCaps then (s.modTc p fun x => { x with sinkCaps := some objects }).endAms p else s.unexpected p

/-- Soft_Reset from the partner (R259): accepted, and Source_Capabilities follows. -/
def State.cmdPdSoftReset (s : State) (p : Port) (h : PdHdr) : State :=
  s.pdIn p h 13 [] false true fun s =>
    let s := ((s.loseEntry p).modTc p fun x =>
      { x with txId := 0, lastId := none, await := .nothing, newContract := true, vswap := 0 }).pdSend p .accept
    if (s.tc p).source then s.modTc p fun x => { x with own := .sourceCaps :: x.own.filter fun a => a != .sourceCaps, window := false }
    else s

/-- Accept from the partner: it answers the hub's Soft_Reset, or a Sink port's Request (R245, R271, R281). -/
def State.cmdAcceptReceived (s : State) (p : Port) (h : PdHdr) : State :=
  s.pdIn p h 3 [] false ((s.tc p).await == .softAccept || (s.tc p).await == .accept) fun s =>
    match (s.tc p).await with
    | .softAccept =>
      let s := s.modTc p fun x => { x with txId := 0, lastId := none, await := .nothing, newContract := true }
      if (s.tc p).source then s.sendCaps p else s
    | .accept => s.modTc p fun x => { x with await := .psRdy }
    | _ => s.unexpected p

/-- The partner's Source_Capabilities to a Sink port: 5 V at 10 mA is requested (R245, R271). -/
def State.cmdSourceCapabilitiesReceived (s : State) (p : Port) (h : PdHdr) (objects : List Nat) : State :=
  s.pdIn p h 1 objects false false fun s =>
    if (s.tc p).source then s.unexpected p
    else
      let s := (s.pdSend p (.request 0x10000401)).modTc p fun x => { x with await := .accept, swap := if x.swap = 4 then 4 else 0 }
      s.set (.tc p .pdContractState) 2

/-- PS_RDY from the partner: it advances a PR_Swap or a VCONN_Swap, or ends a Sink port's negotiation (R271, R272). -/
def State.cmdPsRdyReceived (s : State) (p : Port) (h : PdHdr) : State :=
  let x := s.tc p
  s.pdIn p h 6 [] false (x.await == .psRdy) fun s =>
    if x.vswap = 1 then
      (((s.vconnOff p).modTc p fun x => { x with vswap := 0 }).flag (.pd .pdEvents) pdVconnSwap).kick p
    else if x.swap = 3 then s.modTc p fun x => { x with swap := 4 }
    else if x.swap = 5 then
      let s := (s.modTc p fun x => { x with swap := 6, source := true, discharging := false, explicit := false }).set (.tc p .tcState) 3
      s.vbusOn p
    else if x.await = .psRdy then
      let s := s.modTc p fun x => { x with await := .nothing, explicit := true, swap := 0 }
      let s := (s.set (.tc p .pdContractState) 3).set (.tc p .pdRdo) 0x10000401
      if x.swap = 4 then s.flag (.pd .pdEvents) pdPrSwap else s
    else s.unexpected p

/-! ### Information (R254, R259) -/

/-- The die temperature in °C, below 2 °C as 1, and whether THERM_WARN is live (PRESUMED, log 45). -/
def State.statusBytes (s : State) : List Nat :=
  let t := s.getInt (.fault .dieTemperature) / 10
  [if t < 2 then 1 else min 255 t.toNat, 0, 0, 0, if s.live 29 then 4 else 2, 0, 0]

/-- An extended request of a partner, which a 2.0 partner is not served (R254). -/
def State.extendedAnswer (s : State) (p : Port) (m : PdMsg) : State := if s.rev2 p then s.notSupported p else s.pdSend p m

/-- Get_Status. -/
def State.cmdPdGetStatus (s : State) (p : Port) (h : PdHdr) : State :=
  s.pdIn p h 18 [] false false fun s => s.extendedAnswer p (.status s.statusBytes)

/-- Get_PPS_Status. -/
def State.cmdGetPpsStatus (s : State) (p : Port) (h : PdHdr) : State :=
  s.pdIn p h 20 [] false false fun s =>
    let x := s.tc p
    if x.explicit && x.pps then
      let mv := s.get (.chan (chanOf p) .chanVoltage) / 20
      s.extendedAnswer p (.ppsStatus
        [mv % 256, mv / 256, min 255 ((s.getInt (.chan (chanOf p) .chanCurrent)).toNat / 50), if x.limited then 8 else 0])
    else s.notSupported p

/-- Get_Revision: Revision 3.1, version 1.8. -/
def State.cmdGetRevision (s : State) (p : Port) (h : PdHdr) : State :=
  s.pdIn p h 24 [] false false fun s => s.pdSend p (.revision 0x31180000)

/-- Get_Source_Info: managed capability, maximum, present and reported PDP in W (DEDUCED, log 47). -/
def State.cmdGetSourceInfo (s : State) (p : Port) (h : PdHdr) : State :=
  s.pdIn p h 22 [] false false fun s =>
    if (s.tc p).source then
      let offer := s.get (.tc p .pdOfferPower) / 1000
      s.pdSend p (.sourceInfo (s.get (.tc p .pdPortMaxPower) / 1000 % 256 * 65536 + offer % 256 * 256 + offer % 256))
    else s.notSupported p

/-- Messages without a service (R259, R281). -/
def State.cmdPdUnsupportedMessage (s : State) (p : Port) (h : PdHdr) (kind : PdOther) : State :=
  match kind with
  | .extended => s.pdIn p h 17 [] false false fun s => s.notSupported p
  | .unknown => s.pdIn p h 31 [] false false fun s => s.notSupported p
  | .unstructuredVdm => s.pdIn p h 15 [] false false fun s => s.notSupported p
  | .unchunked => s.pdIn p h 1 [] true false fun s => (s.pdBreach p).pdSend p (if s.rev2 p then .reject else .notSupported)
  | .vdmUnknown cmd svid =>
    s.pdIn p h 15 [vdmHeader svid 0 0 cmd h.svdm] false false fun s => (s.pdBreach p).pdSend p (.vdm false cmd 2 svid [] (min h.svdm 1))

/-- BIST Carrier Mode at 5 V: the carrier, which is no message, is sent; ignored at any other voltage (R259) (PRESUMED, log 45). -/
def State.cmdBistCarrierMode (s : State) (p : Port) (h : PdHdr) : State :=
  s.pdIn p h 3 [] false false fun s => if (s.tc p).mv = 5000 then s.emit (.pd p .bist false) else s

/-- BIST Test Data is answered with GoodCRC alone, at 5 V as at any other voltage (R259) (PRESUMED, log 45). -/
def State.cmdBistTestData (s : State) (p : Port) (h : PdHdr) : State := s.pdIn p h 3 [] false false id

/-- The exchange of R70 ends without the mode, with the reason of R72 (DEDUCED, log 14). -/
def State.endEntry (s : State) (p : Port) (code : Nat) : State :=
  (((s.refuseLink p code).modTc p fun x => { x with entryStep := 9 }).entering p false).endAms p

/-- A step of R70 that the partner leaves unanswered, or does not support (R72): it does not speak for the SVID, and records code 1
(DEDUCED, log 14). -/
def State.entryUnanswered (s : State) (p : Port) : State := s.endEntry p 1

/-- Not_Supported, Reject and Alert are recorded; a refusal ends the AMS of the hub that it answers. -/
def State.cmdPdPartnerNotice (s : State) (p : Port) (h : PdHdr) (kind : PdNotice) : State :=
  let a := (s.tc p).await
  let typ := match kind with
    | .notSupported => 16
    | .reject => 4
    | .alert => 6
  s.pdIn p h typ [] false (kind == .alert || a != .softAccept) fun s =>
    match kind, a with
    | .alert, _ => s
    | _, .sinkCaps => s.endAms p
    | _, .vdm _ => s.entryUnanswered p
    | _, .request => s
    | _, .accept => s.modTc p fun x => { x with await := .nothing }
    | _, _ => s

/-! ### Swaps (R269 to R272) -/

/-- A swap is rejected with a code (R269, R270). -/
def State.rejectSwap (s : State) (p : Port) (code : Nat) : State :=
  ((s.set (.tc p .pdSwapRefusal) code).flag (.pd .pdEvents) pdSwapRefused).pdSend p .reject

def State.cmdDrSwap (s : State) (p : Port) (h : PdHdr) : State := s.pdIn p h 9 [] false false fun s => s.rejectSwap p 7

def State.cmdFrSwap (s : State) (p : Port) (h : PdHdr) : State := s.pdIn p h 19 [] false false fun s => s.notSupported p

/-- The first condition of R270 that a PR_Swap of a Source port does not meet. -/
def State.swapRefusal (s : State) (p : Port) : Nat :=
  let x := s.tc p
  let first := (x.sinkCaps.bind List.head?).getD 0
  if !s.isTrue (.tc p .pdPrSwapAccept) then 1
  else if x.sinkCaps.isNone then 2
  else if !first.testBit 27 || !first.testBit 29 then 3
  else if x.entered then 4
  else if !x.asSource then 5
  else if x.trans.isSome || x.await != .nothing || x.swap != 0 || x.vswap != 0 then 6
  else 0

/-- PR_Swap (R245, R270, R271). A port that became Sink by a swap takes the role back when it can offer 2.5 W. -/
def State.cmdPrSwap (s : State) (p : Port) (h : PdHdr) : State :=
  s.pdIn p h 10 [] false false fun s =>
    let x := s.tc p
    if x.source then
      let code := s.swapRefusal p
      if code ≠ 0 then s.rejectSwap p code
      else
        let s := (s.pdSend p .accept).modTc p fun x => { x with swap := 1, detectOff := true }
        s.set (.tc p .pdContractState) 5
    else if !x.asSource then s.rejectSwap p 5
    else if x.swap ≠ 0 then s.rejectSwap p 6
    else if s.offerPower p < 2500 then s.pdSend p .reject
    else ((s.pdSend p .accept).modTc p fun x => { x with swap := 5 }).set (.tc p .pdContractState) 5

/-- 30 ms after Accept VBUS goes off (R271 step 3); a re-offer that waited is dropped (R276). -/
def State.cmdPrSwapVbusOff (s : State) (p : Port) : State :=
  if (s.tc p).swap = 1 ∧ s.time.pll then
    let s := (s.ackTx p).vbusOff p
    let s := s.modTc p fun x => { x with swap := 2, own := [], window := false, offerOut := none, target := none, explicit := false,
                                         pps := false }
    ((s.set (.tc p .pdAllocation) 0).set (.tc p .pdOfferPower) 0).set (.tc p .pdRdo) 0
  else s

/-- VBUS is at vSafe0V: Rd replaces Rp (R271 step 4). -/
def State.cmdPrSwapVsafe0v (s : State) (p : Port) : State :=
  if (s.tc p).swap = 2 ∧ s.time.pll then
    let s := (s.modTc p fun x => { x with swap := 3, source := false, rp := 0 }).set (.tc p .tcState) 4
    s.pdSend p .psRdy
  else s

/-- The partner does not come up in time (R271). -/
def State.cmdPrSwapSourceTimeout (s : State) (p : Port) : State :=
  if (s.tc p).swap = 3 ∧ s.time.pll then s.errorRecovery p false else s

/-- Disconnect detection resumes (R271 step 7): `pullup` says whether the device still shows its pull-up. -/
def State.cmdPrSwapDetectResume (s : State) (p : Port) (pullup : Bool) : State :=
  if (s.tc p).detectOff ∧ (s.tc p).swap ≠ 1 ∧ (s.tc p).swap ≠ 2 ∧ (s.tc p).swap ≠ 3 then
    let s := s.modTc p fun x => { x with detectOff := false }
    if pullup then s else s.cmdDeviceDisconnect p
  else s

/-- VCONN_Swap is accepted in every role (R272); VCONN goes on only as R251 lets it. -/
def State.cmdVconnSwap (s : State) (p : Port) (h : PdHdr) : State :=
  s.pdIn p h 11 [] false false fun s =>
    let s := s.pdSend p .accept
    if (s.tc p).vconn then s.modTc p fun x => { x with vswap := 1 }
    else ((s.vconnOn p).pdSend p .psRdy).flag (.pd .pdEvents) pdVconnSwap

/-- The partner's PS_RDY does not come (R272). -/
def State.cmdVconnSwapTimeout (s : State) (p : Port) : State := if (s.tc p).vswap = 1 then s.hardReset p true else s

/-! ### Hard Reset (R273) -/

/-- A Hard Reset is received. -/
def State.cmdHardReset (s : State) (p : Port) : State :=
  if !s.pdReady p then s
  else if (s.tc p).hardStage = 1 then s
  else s.hardReset p false

/-- 30 ms into a Hard Reset (R273 step 2). -/
def State.cmdHardResetVbusOff (s : State) (p : Port) : State :=
  if (s.tc p).hardStage = 1 ∧ s.time.pll then
    let s := (((s.vbusOff p).vconnOff p).regulatorDefault p).modTc p fun x => { x with hardStage := 2 }
    (s.set (.tc p .pdAllocation) 0).set (.tc p .pdOfferPower) 0
  else s

/-- 800 ms after vSafe0V (R273 step 3): `regulator` says whether 5.00 V is acknowledged (R267). -/
def State.cmdHardResetRecover (s : State) (p : Port) (regulator : Bool) : State :=
  if (s.tc p).hardStage = 2 ∧ s.time.pll then
    if !regulator then s.errorRecovery p true
    else
      let s := s.modTc p fun x => { x with hardStage := 0, source := true, dfp := true, discharging := false }
      (((s.set (.tc p .tcState) 3).set (.tc p .pdContractState) (if (s.tc p).fallback then 7 else 1)).vconnOn p).vbusOn p
  else s

/-- The regulator of a port in error recovery is commanded again (R267). -/
def State.cmdErrorRecoveryRetry (s : State) (p : Port) : State := if (s.tc p).recovery then s.regulatorDefault p else s

/-! ### Timers (R266 to R268, R274, R281) -/

/-- Source capabilities went unanswered too often (R281): Type-C current until detach. -/
def State.typeCOnly (s : State) (p : Port) : State :=
  (s.modTc p fun x => { x with nonPd := true, await := .nothing, offerOut := none }).set (.tc p .pdContractState) 1

/-- No GoodCRC comes in time (R281) (DEDUCED, log 46). -/
def State.cmdGoodcrcTimeout (s : State) (p : Port) : State :=
  match (s.tc p).sent with
  | none => s
  | some (m, retries) =>
    if !s.pdReady p then s
    else if retries < (if s.rev2 p then 3 else 2) then
      let s := (s.lensCount 12 (placePort p) 1).modTc p fun x => { x with sent := some (m, retries + 1) }
      let (bad, s) := s.provoke 6 (placePort p)
      s.emit (.pd p m bad)
    else
      let (_, objs, _, sp) := m.wire
      let s := s.lensPd p true (s.txHeader p m) (boolNat sp) retries objs
      let s := s.modTc p fun x => x.nextId sp
      let x := s.tc p
      if sp then (if x.await = .cable then s.endAms p else s)
      else if x.explicit then
        let s := s.bump (.tc p .pdTxFailCount)
        if m = .softReset then s.hardReset p true else s.sendSoftReset p
      else
        match m with
        | .sourceCapabilities _ =>
          let s := s.modTc p fun x => { x with await := .nothing, offerOut := none }
          if 50 ≤ x.caps then s.typeCOnly p else s.set (.tc p .pdContractState) 1
        | .softReset => s.hardReset p true
        | _ => s

/-- No answer to the hub's Soft_Reset (R281). -/
def State.cmdSoftResetResponseTimeout (s : State) (p : Port) : State :=
  if (s.tc p).await = .softAccept then s.hardReset p true else s

/-- tSenderResponse passes (R262, R273, R281); the timer stands with the PD clock (R17). -/
def State.cmdSenderResponseTimeout (s : State) (p : Port) : State :=
  let x := s.tc p
  if !s.time.pll then s else
  match x.await with
  | .request =>
    let s := (s.ackTx p).modTc p fun x => { x with await := .nothing, offerOut := none }
    if 2 ≤ x.hardRow then
      ((s.modTc p fun x => { x with nonPd := true, fallback := true }).set (.tc p .pdContractState) 7).flag (.pd .pdEvents) pdNonPdFallback
    else s.hardReset p true
  | .sinkCaps => (s.ackTx p).endAms p
  | .cable => (s.ackTx p).endAms p
  | .vdm _ => (s.ackTx p).entryUnanswered p
  | _ => s

/-- Accept + 30 ms (R265, R266 step 3): the limit, then the voltage; a change of current alone in a programmable contract writes the
limit alone, and for a lower voltage the discharge path is engaged. `nacked`: a write is NACKed three times (R267) (PRESUMED, log 48). -/
def State.cmdTransitionStart (s : State) (p : Port) (nacked : Bool) : State :=
  match (s.tc p).trans with
  | none => s
  | some t =>
    if t.written ∨ !s.time.pll then s
    else
      let s := s.ackTx p
      let x := s.tc p
      let s := s.pmb1 p 0x46 t.ma
      let s := if t.pps ∧ x.pps ∧ t.mv = x.mv then s else s.pmb1Vout p t.mv
      let s := s.modTc p fun x => { x with mv := t.mv, ma := t.ma, trans := some { t with written := true },
                                           bleeding := decide (t.mv < x.mv) }
      if nacked then (s.raise 24 (p.val + 1)).regFail p else s

/-- VBUS lies in the acknowledgement window of R265. -/
def inRegWindow (target mv : Nat) : Bool :=
  decide (target ≤ mv + max (target / 20) 100) && decide (mv ≤ target + max (target / 20) 100)

/-- A poll of the regulator (R265 to R268). -/
def State.cmdRegulatorPoll (s : State) (p : Port) (r : RegPoll) : State :=
  if !s.hasPort p ∨ !s.domainOn 5 ∨ !s.policy then s
  else
    let s := s.modTc p fun x => { x with vbus := r.mv, limited := r.limit }
    let s := s.measure (chanOf p) r.mv r.ma
    let ok := r.good && inRegWindow (s.tc p).mv r.mv
    let s := if inRegWindow (s.tc p).mv r.mv then s.modTc p fun x => { x with bleeding := false } else s
    if (s.tc p).recovery then
      (if r.good then (s.modTc p fun x => { x with recovery := false }).set (.tc p .tcState) 1 else s)
    else
      match (s.tc p).trans with
      | none => s
      | some t => if t.written ∧ ok ∧ s.time.pll then s.completeTrans p t else s

/-- No acknowledgement in time (R267). -/
def State.cmdRegulatorTimeout (s : State) (p : Port) : State :=
  if ((s.tc p).trans).any fun t => t.written then s.regFail p else s

/-- VBUS outside its window outside a transition (R267). -/
def State.cmdVbusOutOfWindow (s : State) (p : Port) : State :=
  if (s.tc p).explicit ∧ (s.tc p).source ∧ (s.tc p).trans.isNone then s.regFail p else s

/-- A silent PPS sink (R255, R268). -/
def State.cmdPpsTimeout (s : State) (p : Port) : State :=
  if (s.tc p).explicit ∧ (s.tc p).pps ∧ (s.tc p).trans.isNone ∧ s.policy then s.hardReset p true else s

/-- tSinkTx has passed (R274). -/
def State.cmdSinkTxWindowEnd (s : State) (p : Port) : State :=
  let x := s.tc p
  if x.window ∧ x.trans.isNone ∧ x.await = .nothing ∧ x.swap = 0 ∧ x.vswap = 0 ∧ s.pdReady p ∧ s.policy then s.startAms p else s

/-- A received Cable Reset has no effect (R252) (DEDUCED, log 73). -/
def State.cmdCableReset (s : State) (_ : Port) : State := s

/-- A message with an error is discarded (R281). -/
def State.cmdPdRxError (s : State) (p : Port) : State := if s.pdReady p then s.bump (.tc p .pdRxErrorCount) else s

/-! ### Structured VDMs (R70 to R73, R277, R278) -/

/-- Modal Operation Supported (R277): a ring-capable port of a Wyhelen variant with `LinkMode` 0. -/
def State.modal (s : State) (p : Port) : Bool :=
  s.ident.wyhelen && (s.portLink p).any fun k => s.modeOf k == 0

/-- The objects of R277 (PRESUMED, log 45). -/
def State.identityObjects (s : State) (p : Port) : List Nat :=
  [0x80000000 + boolNat (s.modal p) * 2 ^ 26 + 0x00800000 + 0x00400000 + 0x3A5D, 0, (0x4800 + s.ident.ports) * 65536 + 0x0B00,
   0x40000000 + 0x01000000 + 0x00800000 + (p.val + 1)]

/-- The Mode VDO of R71. -/
def State.modeVdo (s : State) (k : Link) : Nat := 0x11000000 + s.get (.ring .ringMemberState) * 256 + k.val

def State.cmdDiscoverIdentitySop (s : State) (p : Port) (h : PdHdr) : State :=
  s.pdIn p h 15 [vdmHeader 0xFF00 0 0 1 h.svdm] false false fun s => s.pdSend p (.vdm false 1 1 0xFF00 (s.identityObjects p) (min h.svdm 1))

def State.cmdDiscoverSvids (s : State) (p : Port) (h : PdHdr) : State :=
  s.pdIn p h 15 [vdmHeader 0xFF00 0 0 2 h.svdm] false false fun s =>
    if s.modal p then s.pdSend p (.vdm false 2 1 0xFF00 [0x3A5D0000] (min h.svdm 1))
    else s.pdSend p (.vdm false 2 2 0xFF00 [] (min h.svdm 1))

def State.cmdDiscoverModes (s : State) (p : Port) (h : PdHdr) (svid : Nat) : State :=
  s.pdIn p h 15 [vdmHeader svid 0 0 3 h.svdm] false false fun s =>
    match s.portLink p with
    | some k =>
      if svid = 0x3A5D ∧ s.modal p then s.pdSend p (.vdm false 3 1 svid [s.modeVdo k] (min h.svdm 1))
      else (s.pdBreach p).pdSend p (.vdm false 3 2 svid [] (min h.svdm 1))
    | none => (s.pdBreach p).pdSend p (.vdm false 3 2 svid [] (min h.svdm 1))

/-- Enter Mode from an initiator (R72). -/
def State.cmdEnterMode (s : State) (p : Port) (h : PdHdr) (svid position : Nat) : State :=
  s.pdIn p h 15 [vdmHeader svid position 0 4 h.svdm] false false fun s =>
    if svid ≠ 0x3A5D ∨ position ≠ 1 then
      ((s.pdBreach p).when (svid == 0x3A5D) fun s => s.refuseLink p 6).pdSend p (.vdm false 4 2 svid [] (min h.svdm 1))
    else if s.modal p ∧ s.domainOn 6 then
      ((s.pdSend p (.vdm false 4 1 svid [] (min h.svdm 1))).modTc p fun x => { x with entryStep := 6 }).entering p true
    else (s.refuseLink p 6).pdSend p (.vdm false 4 2 svid [] (min h.svdm 1))

/-- The mode is entered on the ACK (R73): USB leaves the port, its pairs go to the SerDes, and training starts. -/
def State.cmdEnterModeAck (s : State) (p : Port) : State :=
  match s.portLink p with
  | none => s
  | some k =>
    if (s.tc p).entryStep = 6 ∧ !(s.tc p).entered ∧ s.time.pll then
      let s := (s.ackTx p).usbDisconnect p
      let s := (s.modTc p fun x => { x with entered := true, entryStep := 9 }).set (.link k .linkRefusal) 0
      (s.setPst p 8).cmdLinkTrainingStart k
    else s

/-- Exit Mode (R73, R278). -/
def State.cmdExitMode (s : State) (p : Port) (h : PdHdr) : State :=
  s.pdIn p h 15 [vdmHeader 0x3A5D 1 0 5 h.svdm] false false fun s =>
    if (s.tc p).entered then (s.pdSend p (.vdm false 5 1 0x3A5D [] (min h.svdm 1))).leaveWyhelen p
    else s.pdSend p (.vdm false 5 2 0x3A5D [] (min h.svdm 1))

/-- Attention is ignored (R278) (DEDUCED, log 73). -/
def State.cmdAttention (s : State) (p : Port) (h : PdHdr) : State := s.pdIn p h 15 [vdmHeader 0x3A5D 1 0 6 h.svdm] false true id

/-- A step of R70 is sent. -/
def State.entryGo (s : State) (p : Port) (step : Nat) : State :=
  ((s.modTc p fun x => { x with entryStep := step, await := .nothing }).entering p true).queueAms p (.wyhelen step)

/-- 50 ms after an explicit contract the initiator starts (R70): step 1 is decided by the stored cable identity (R257) (DEDUCED, log 47). -/
def State.cmdWyhelenEntryStart (s : State) (p : Port) : State :=
  let x := s.tc p
  match s.portLink p with
  | none => s
  | some k =>
    if !s.ident.wyhelen ∨ !x.explicit ∨ !x.source ∨ !x.dfp ∨ x.entryStep ≠ 0 ∨ !s.policy ∨ !s.pdReady p ∨ x.entered then s
    else if s.modeOf k ≠ 0 ∨ !s.domainOn 6 then s.endEntry p 5
    else if !x.cableKnown ∨ bitField (s.get (.tc p .pdCableVdo)) 2 0 < 2 then s.endEntry p 2
    else s.entryGo p 2

/-- The partner's answer to a step of R70. -/
def State.cmdStructuredVdmAnswer (s : State) (p : Port) (h : PdHdr) (cmd : VdmCmd) (ack : Bool) (vdos : List Nat) : State :=
  let a := (s.tc p).await
  let code := match cmd with
    | .cableIdentity => 1
    | .identity => 1
    | .svids => 2
    | .modes => 3
    | .enterMode => 4
  let step := match cmd with
    | .cableIdentity => 1
    | .identity => 2
    | .svids => 3
    | .modes => 4
    | .enterMode => 5
  let svid := if code < 3 then 0xFF00 else 0x3A5D
  if cmd = .cableIdentity then s.cmdCableIdentity p ⟨ack, h.id⟩ (vdos.getD 3 0)
  else
    s.pdIn p h 15 (vdmHeader svid (code / 4) (if ack then 1 else 2) code h.svdm :: vdos) false (a == .vdm step) fun s =>
      if a ≠ .vdm step then s.unexpected p
      else
        let v := vdos.getD 0 0
        match cmd with
        | .cableIdentity => s
        | .identity => if ack ∧ v % 65536 = 0x3A5D ∧ v.testBit 26 then s.entryGo p 3 else s.endEntry p 1
        | .svids =>
          if ack ∧ vdos.any fun w => w / 65536 == 0x3A5D || w % 65536 == 0x3A5D then s.entryGo p 4 else s.endEntry p 1
        | .modes => if ack ∧ bitField v 31 24 = 0x11 then s.entryGo p 5 else s.endEntry p 4
        | .enterMode =>
          if ack then (s.modTc p fun x => { x with entryStep := 6, await := .nothing }).kick p else s.endEntry p 3

/-! ### The steward returns (R255) -/

/-- The steward returns (R255): Source_Capabilities on every Source port outside an explicit contract. -/
def State.policyReturns (s : State) : State :=
  s.forEach s.allPorts fun s p =>
    let x := s.tc p
    if s.pdReady p && x.source && !x.explicit && !x.nonPd && x.hardStage == 0 && s.get (.chan (chanOf p) .brkState) == 2 && s.policy then
      s.sendCaps p
    else s.kick p

end Sys2Proof.Machine
end

