-- ==== Sys2Proof/Machine/Power.lean ====
section
/-! DEFINITION. The power path (R286 to R309): the start of a feed step by step, the breakers, power-good, port VBUS, measurement,
and the energy checkpoint. -/

namespace Sys2Proof.Machine

/-- The power die runs (R286). -/
def State.pwr (s : State) : Bool := s.domainOn 5

/-- A channel of the variant: those of ports above N are inert (R286). -/
def State.hasChan (s : State) (c : Channel) : Bool :=
  match portOfChan c with
  | some p => s.hasPort p
  | none => true

/-! ### Feeds (R287 to R293) -/

/-- After a change of a feed's conditions: both feeds start their insertion delay if they may, and the entries follow. -/
def State.feedsRefresh (s : State) : State := ((s.tryFeed .A).tryFeed .B).showFeeds

/-- A condition of R287 is lost: the feed's switches open, and a delay that runs starts again. -/
def State.stopFeed (s : State) (x : Feed) : State := (s.openFeed x).feedsRefresh

/-- FEEDx_EN goes low; both low at once toggle the collector (R287, R298). -/
def State.cmdFeedEnFall (s : State) (x : Feed) : State :=
  let s := s.modFeed x fun f => { f with en := false }
  if s.pwr then
    let s := s.stopFeed x
    if !(s.feed x.other).en then s.clearTrip chanColl else s
  else s

/-- FEEDx_EN goes high: it toggles a tripped feed (R298). -/
def State.cmdFeedEnRise (s : State) (x : Feed) : State :=
  let was := (s.feed x).en
  let s := s.modFeed x fun f => { f with en := true }
  if s.pwr ∧ !was then (s.clearTrip (chanOfFeed x)).feedsRefresh else s

/-- A feed leaves its window (R287): not a trip; a feed that was on raises its source. -/
def State.leaveWindow (s : State) (x : Feed) : State :=
  let was := (s.feed x).step = 5
  let s := (s.modFeed x fun f => { f with inside := false }).bump (.feed x .feedWindowExitCount)
  let s := (s.flag (.power .powerEvents) powFeedWindow).when was fun s => s.raise (16 + x.num) 0x10
  s.stopFeed x

/-- A feed has stayed below `FeedUvFall` for 20 µs (R287). -/
def State.cmdFeedUndervoltage (s : State) (x : Feed) (mv : Nat) : State :=
  if s.pwr then
    let s := s.measure (chanOfFeed x) mv (s.getInt (.chan (chanOfFeed x) .chanCurrent))
    if (s.feed x).inside ∧ mv < s.get (.feed x .feedUvFall) then s.leaveWindow x else s
  else s

/-- A feed rises above `FeedOvRise` (R287). -/
def State.cmdFeedOvervoltage (s : State) (x : Feed) (mv : Nat) : State :=
  if s.pwr then
    let s := s.measure (chanOfFeed x) mv (s.getInt (.chan (chanOfFeed x) .chanCurrent))
    if (s.feed x).inside ∧ s.get (.feed x .feedOvRise) < mv then s.leaveWindow x else s
  else s

/-- A feed enters its window: above `FeedUvRise` and below `FeedOvFall` (R287). It ends the wait of a fast reverse turn-off (R289). -/
def State.cmdFeedWindowEntry (s : State) (x : Feed) (mv : Nat) : State :=
  if s.pwr then
    let s := s.measure (chanOfFeed x) mv (s.getInt (.chan (chanOfFeed x) .chanCurrent))
    if !(s.feed x).inside ∧ s.get (.feed x .feedUvRise) < mv ∧ mv < s.get (.feed x .feedOvFall) then
      (s.modFeed x fun f => { f with inside := true, revHold := false }).feedsRefresh
    else s
  else s

/-- A damaged pass device (R293): the channel trips, PASS_DEV is raised and the channel recorded. -/
def State.passDevice (s : State) (c : Channel) (cause : Nat) (mA : Int) : State :=
  let s := s.trip c cause mA
  ((s.set (.power .passDevChannel) c.val).flag (.power .powerEvents) powPassDev).raise 19 c.val

/-- What the watch of the last 5 ms says of a feed's main FET (R293): a collector below 10 % of the feed passes at once; above it, it is
shorted if the collector rose by more than 2 % of the feed or the feed carried 50 mA. -/
def State.fetShorted (s : State) (x : Feed) (w : CollWatch) : Bool :=
  let mv := s.get (.chan (chanOfFeed x) .chanVoltage)
  decide (mv ≤ w.last * 10) && decide (2 * mv < (w.last - w.first) * 100 ∨ 50 ≤ w.most)

/-- The insertion delay has elapsed (R290 step 2): the drain-source check, which counts only while the other feed is not on (R293),
then FA_IDG is driven. -/
def State.cmdInsertionDelayExpiry (s : State) (x : Feed) (w : CollWatch) : State :=
  if (s.feed x).step = 1 then
    if s.fetShorted x w ∧ (s.feed x.other).step ≠ 5 then s.passDevice (chanOfFeed x) 6 w.most
    else (s.modFeed x fun f => { f with step := 2 }).showFeeds
  else s

/-- The diode gate passes 4.5 V: pre-charge closes (R290 step 3). -/
def State.cmdDiodeGateReady (s : State) (x : Feed) : State :=
  if (s.feed x).step = 2 then (s.modFeed x fun f => { f with step := 3 }).showFeeds else s

/-- The collector lies within 5 % of the feed: the main FET ramps (R290 step 4). A feed that leaves its window first does not get
here (R305). -/
def State.cmdPrechargeComplete (s : State) (x : Feed) : State :=
  if (s.feed x).step = 3 then
    ((s.modFeed x fun f => { f with step := 4 }).showFeeds).lensBreaker (chanOfFeed x) 3
  else s

/-- `PrechargeTimeout` (R291). -/
def State.cmdPrechargeTimeout (s : State) (x : Feed) : State :=
  if (s.feed x).step = 3 then (s.trip (chanOfFeed x) 3 (s.getInt (.chan (chanOfFeed x) .chanCurrent))).flag (.power .powerEvents) powTimeout
  else s

/-- A channel's ramp has ended in this cycle. -/
def State.rampEnds (s : State) (c : Channel) : State := s.setChan c.val { s.chan c.val with rampedAt := some s.time.elapsed }

/-- A channel ramps, or its ramp ended in this very cycle, in which the expiry of `BrkRampTime` wins (R305) (DESIGN CHOICE, log 82). -/
def State.inRamp (s : State) (c : Channel) : Bool :=
  s.get (.chan c .brkState) == 1 || (s.get (.chan c .brkState) == 2 && (s.chan c.val).rampedAt == some s.time.elapsed)

/-- The ramp is complete: FA_PRE opens and the feed is on (R290 step 5). -/
def State.cmdRampComplete (s : State) (x : Feed) : State :=
  if (s.feed x).step = 4 then
    let s := s.rampEnds (chanOfFeed x)
    let s := if s.get (.chan chanColl .brkState) = 1 then s.rampEnds chanColl else s
    let s := ((s.modFeed x fun f => { f with step := 5 }).bump (.feed x .feedStartCount)).flag (.power .powerEvents) powFeedUp
    (s.showFeeds).lensBreaker (chanOfFeed x) 4
  else s

/-- A start that the expiry of its cycle overrules is not counted (R290, R305) (DESIGN CHOICE, log 82). -/
def State.uncountStart (s : State) (c : Channel) : State :=
  if c.val < 2 ∧ s.get (.chan c .brkState) = 2 then
    let r := Reg.feed (if c.val = 0 then .A else .B) .feedStartCount
    s.set r (s.get r - 1)
  else s

/-- `BrkRampTime` passes in a ramp or a soft-start (R292, R301). -/
def State.cmdRampTimeout (s : State) (c : Channel) (mA : Nat) : State :=
  if s.hasChan c ∧ s.inRamp c then ((s.uncountStart c).trip c 4 mA).flag (.power .powerEvents) powTimeout else s

/-- A gate that is not above 4.5 V 5 ms after its ramp started: the diode's in step 2, the main FET's in step 4, a port's in
soft-start (R293). It wins over a ramp timeout of its cycle (R305) (DESIGN CHOICE, log 82). -/
def State.cmdGateFailure (s : State) (c : Channel) : State :=
  let started : Bool := match portOfChan c with
    | some _ => s.get (.chan c .brkState) == 1
    | none => c != chanColl && ((s.feed (if c.val = 0 then .A else .B)).step == 2 || (s.feed (if c.val = 0 then .A else .B)).step == 4)
  let timedOut := (s.chan c.val).tripAt == some s.time.elapsed && s.get (.chan c .brkTripCause) == 4
  if s.hasChan c ∧ started then s.passDevice c 5 (s.getInt (.chan c .chanCurrent))
  else if s.hasChan c ∧ timedOut ∧ c ≠ chanColl then (s.set (.chan c .brkTripCause) 5).passDevice c 5 0
  else s

/-- The voltage over an ideal diode that conducts reaches −60 mV (R289). A trip of the feed in the same cycle does not hide it (R305)
(DESIGN CHOICE, log 82). -/
def State.cmdFastReverseTurnOff (s : State) (x : Feed) : State :=
  if 2 ≤ (s.feed x).step ∨ (s.chan (chanOfFeed x).val).tripAt = some s.time.elapsed then
    let s := ((s.bump (.feed x .idealRevCount)).raise 20 x.num).flag (.power .powerEvents) powIdealRev
    let s := (s.openFeed x).modFeed x fun f => { f with revHold := true }
    s.showFeeds.lensBreaker (chanOfFeed x) 7
  else s

/-- 1 s after a fast reverse turn-off with the feed still in its window (R289). -/
def State.cmdReverseHoldExpiry (s : State) (x : Feed) : State :=
  if s.pwr ∧ (s.feed x).revHold ∧ (s.feed x).inside then (s.modFeed x fun f => { f with revHold := false }).feedsRefresh else s

/-- A port's pair conducts though nothing is attached and it is not driven (R293). -/
def State.cmdPortPairShort (s : State) (p : Port) : State :=
  if s.pwr ∧ s.hasPort p ∧ (s.tc p).attach.isNone ∧ s.get (.tc p .tcState) = 1 ∧ s.get (.chan (chanOf p) .brkState) = 0 ∧
      !(s.tc p).discharging then s.passDevice (chanOf p) 6 (s.getInt (.chan (chanOf p) .chanCurrent))
  else s

/-! ### Breakers (R294 to R299) -/

/-- Heat at the trip point: H counts 10⁻¹² (R296) (DESIGN CHOICE, log 49). -/
def heatFull : Nat := 1000000000000

/-- A used point of a channel's curve: its current in mA and its time in µs (R294). -/
def State.curvePoints (s : State) (c : Channel) : List (Nat × Nat) :=
  (List.finRange 8).filterMap fun k =>
    let w := s.get (.chan c (.brkCurve k))
    if bitField w 63 32 = 0 then none else some (bitField w 63 32, bitField w 31 0)

/-- The time of the highest used point that a current reaches, if any: then the channel's fault timer runs (R296) (DESIGN CHOICE, log 49).
-/
def State.curveTime (s : State) (c : Channel) (mA : Nat) : Option Nat :=
  ((s.curvePoints c).reverse.find? fun k => k.1 ≤ mA).map Prod.snd

/-- Pre-charge, ramp or soft-start: H is held and the curve and the instantaneous trip are out of use (R292, R297, R299). -/
def State.ramping (s : State) (c : Channel) : Bool :=
  if c.val = 0 then decide (3 ≤ (s.feed .A).step ∧ (s.feed .A).step < 5)
  else if c.val = 1 then decide (3 ≤ (s.feed .B).step ∧ (s.feed .B).step < 5)
  else if c = chanColl then decide (s.feedsOn = 0 ∧ (3 ≤ (s.feed .A).step ∨ 3 ≤ (s.feed .B).step))
  else s.get (.chan c .brkState) == 1

/-- `BrkHeat` shows H in thousandths. -/
def State.setHeat (s : State) (c : Channel) (h : Nat) : State :=
  (s.setChan c.val { s.chan c.val with heat := h }).set (.chan c .brkHeat) (h / 1000000000)

/-- A current without a trip is a sample like any other (R296, R302), while the channel's switch is closed (DESIGN CHOICE, log 49). -/
def State.sampleOnly (s : State) (c : Channel) (mA : Nat) : State :=
  if s.pwr ∧ s.hasChan c ∧ (s.get (.chan c .brkState) = 1 ∨ s.get (.chan c .brkState) = 2) then s.measureCurrent c mA else s

/-- H reaches 1 (R296); a current below point 0 cannot bring it there, and is a sample (DESIGN CHOICE, log 49). -/
def State.cmdCurveTrip (s : State) (c : Channel) (mA : Nat) : State :=
  if s.pwr ∧ s.hasChan c ∧ !s.tripped c ∧ !s.ramping c ∧ (s.curveTime c mA).isSome then (s.setHeat c heatFull).trip c 1 mA
  else s.sampleOnly c mA

/-- The comparator of `BrkInstLevel` (R297): a current above it trips outside a ramp, and any other is a sample of the channel
(DESIGN CHOICE, log 49). -/
def State.cmdInstantaneousTrip (s : State) (c : Channel) (mA : Nat) : State :=
  if s.pwr ∧ s.hasChan c ∧ !s.ramping c ∧ s.get (.chan c .brkInstLevel) < mA then s.trip c 2 mA else s.sampleOnly c mA

/-- A write of 1 to `BrkRearm` (R298): it changes nothing on a channel that is not tripped, nor on a port that an S2 reaction holds
(R335). -/
def State.rearm (s : State) (c : Channel) : State :=
  if s.tripped c && !((portOfChan c).any fun p => s.unitHeld (.port p)) then (s.clearTrip c).feedsRefresh else s

/-- One 10 µs sample of a channel (R296, R299, R302): energy, and heat outside a hold (DESIGN CHOICE, log 49). -/
def State.sampleChannel (s : State) (c : Channel) : State :=
  let i := s.getInt (.chan c .chanCurrent)
  let power := s.getInt (.chan c .chanPower)
  let total := (s.chan c.val).frac + power.toNat
  let s := (s.setChan c.val { s.chan c.val with frac := total % 100 }).count (.chan c .chanEnergy) (total / 100)
  if s.ramping c then s
  else
    let h := (s.chan c.val).heat
    match s.curveTime c i.toNat with
    | none => s.setHeat c (h - h * 10 / (max 1 (s.get (.chan c .brkCoolTau)) * 1000))
    | some t =>
      let h := h + heatFull * 10 / max 1 t
      if heatFull ≤ h then (s.setHeat c heatFull).when (!s.tripped c) fun s => s.trip c 1 i.toNat else s.setHeat c h

/-- The samples of one 10 µs period (DESIGN CHOICE, log 4). -/
def State.sampleAll (s : State) : State :=
  if s.pwr then s.forEach ((List.finRange 19).filter fun c => s.hasChan c) fun s c => s.sampleChannel c else s

/-! ### Power-good (R300) -/

/-- The collector lies within 5 % of the highest voltage among the feeds that are on. -/
def State.collectorNear (s : State) (mv : Nat) : Bool :=
  let top := max (if (s.feed .A).step = 5 then s.get (.chan 0 .chanVoltage) else 0)
    (if (s.feed .B).step = 5 then s.get (.chan 1 .chanVoltage) else 0)
  decide (top * 95 ≤ mv * 100 ∧ mv * 100 ≤ top * 105)

/-- The conditions of power-good that a channel's readings and states show: a feed on and in its window; the collector near the highest feed
that is on; a port's soft-start complete and its VBUS in the window around the commanded voltage. -/
def State.sound (s : State) (c : Channel) : Bool :=
  s.get (.chan c .brkState) == 2 &&
    match portOfChan c with
    | some p => inRegWindow (s.tc p).mv (s.get (.chan c .chanVoltage))
    | none =>
      if c = chanColl then s.collectorNear (s.get (.chan c .chanVoltage)) else (s.feed (if c.val = 0 then .A else .B)).inside

/-- A channel's conditions have held for 1 ms without a running fault timer: its measured voltage and current are given. -/
def State.cmdPowerGoodRise (s : State) (c : Channel) (mv mA : Nat) : State :=
  if s.pwr ∧ s.hasChan c then
    let s := s.measure c mv mA
    if s.sound c ∧ (s.curveTime c mA).isNone then s.setGood c true else s
  else s

/-- Power-good falls in the cycle in which a condition fails. -/
def State.dropGood (s : State) : State :=
  if s.pwr then s.forEach ((List.finRange 19).filter fun c => s.good c && !s.sound c) fun s c => s.setGood c false else s

/-! ### Port VBUS (R301) -/

/-- The soft-start ends: the curve takes over. A port on its way back from a PR_Swap sends PS_RDY (R271). -/
def State.cmdSoftStartComplete (s : State) (p : Port) : State :=
  if s.pwr ∧ s.get (.chan (chanOf p) .brkState) = 1 then
    let s := ((s.rampEnds (chanOf p)).set (.chan (chanOf p) .brkState) 2).lensBreaker (chanOf p) 4
    if (s.tc p).swap = 6 then
      (((s.modTc p fun x => { x with swap := 0 }).pdSend p .psRdy).set (.tc p .pdContractState) 1).flag (.pd .pdEvents) pdPrSwap
    else s
  else s

/-- VBUS has fallen below 0.8 V: the resistor is released. A port that meets the conditions of R42 again switches on. -/
def State.cmdPortDischargeComplete (s : State) (p : Port) : State :=
  let s := s.modTc p fun x => { x with discharging := false, vbus := 0 }
  let x := s.tc p
  if s.pwr ∧ x.hardStage = 0 ∧ x.swap = 0 then s.vbusOn p else s

/-- VBUS is not below 0.8 V within 650 ms (DEDUCED, log 8). -/
def State.cmdDischargeTimeout (s : State) (p : Port) : State :=
  if s.pwr ∧ (s.tc p).discharging then
    (((s.trip (chanOf p) 7 (s.getInt (.chan (chanOf p) .chanCurrent))).flag (.power .powerEvents) powDischargeTimeout)).modTc p
      fun x => { x with discharging := false }
  else s

/-! ### Energy (R303) -/

/-- Writes a checkpoint. -/
def State.checkpoint (s : State) : State :=
  let saved := (List.finRange 19).map fun c => s.get (.chan c .chanEnergy)
  let was := (s.time.elapsed, s.path.saved, s.get (.power .energyCheckpointTime), s.get (.power .energyCheckpointCount))
  let s := { s with path := { s.path with saved := saved, due := false, replaced := some was } }
  ((s.set (.power .energyCheckpointTime) s.now).bump (.power .energyCheckpointCount)).flag (.power .powerEvents) powCheckpoint

/-- The loss of both feeds in the cycle of a checkpoint: the last-gasp record is written instead of it (R305) (DESIGN CHOICE, log 82). -/
def State.undoCheckpoint (s : State) : State :=
  match s.path.replaced with
  | some (t, saved, time, count) =>
    if t = s.time.elapsed then
      (({ s with path := { s.path with saved := saved, replaced := none } }).set (.power .energyCheckpointTime) time).set
        (.power .energyCheckpointCount) count
    else s
  | none => s

/-- The period passes: a stopped steward writes nothing, and writes at once when it returns. A last gasp goes first (R305). -/
def State.cmdEnergyCheckpoint (s : State) : State :=
  if s.faults.gaspRun.isSome then s
  else if s.boot.running then s.checkpoint
  else { s with path := { s.path with due := true } }

/-! ### Commit checks (R294, R307) -/

/-- The first reason to refuse a channel's configuration, with the values a commit would give (DEDUCED, log 50). -/
def chanRefusal (f : Reg → Nat) (c : Channel) : Option Nat :=
  let points := (List.finRange 8).map fun k => (bitField (f (.chan c (.brkCurve k))) 63 32, bitField (f (.chan c (.brkCurve k))) 31 0)
  let used := points.takeWhile fun k => k.1 ≠ 0
  let rises := (used.zip (used.drop 1)).all fun e => decide (e.1.1 < e.2.1 ∧ e.2.2 < e.1.2)
  if used.isEmpty then some 5
  else if (points.drop used.length).any (fun k => k.1 != 0) ∨ !rises then some 1
  else if used.any fun k => k.2 < 20 ∨ 3600000000 < k.2 then some 2
  else if f (.chan c .brkInstLevel) ≤ ((used.getLast?).getD (0, 0)).1 then some 3
  else if 80000000 < f (.chan c .brkInstLevel) * f (.chan c .brkShunt) then some 4
  else none

/-- The windows of a feed in order (DEDUCED, log 50). -/
def feedOrdered (f : Reg → Nat) (x : Feed) : Bool :=
  decide (f (.feed x .feedUvFall) < f (.feed x .feedUvRise) ∧ f (.feed x .feedUvRise) < f (.feed x .feedOvFall) ∧
    f (.feed x .feedOvFall) < f (.feed x .feedOvRise))

/-- The value `PowerConfigRefusal` takes, if a commit breaks a check: the lowest channel first (DEDUCED, log 50). -/
def State.powerRefusal (s : State) (f : Reg → Nat) : Option Nat :=
  ((List.finRange 19).filterMap fun c =>
    if s.hasChan c then
      match chanRefusal f c with
      | some r => some (c.val * 256 + r)
      | none =>
        if c.val = 0 ∧ !feedOrdered f .A then some 6
        else if c.val = 1 ∧ !feedOrdered f .B then some 0x106
        else none
    else none).head?

/-- The feeds after a commit (R287): a window that a feed now lies outside is left, and `FeedEnable` may have changed. -/
def State.powerCommitted (s : State) : State :=
  if s.pwr then
    let s := s.forEach [Feed.A, Feed.B] fun s x =>
      let mv := s.get (.chan (chanOfFeed x) .chanVoltage)
      let s := if (s.feed x).inside ∧ (mv < s.get (.feed x .feedUvFall) ∨ s.get (.feed x .feedOvRise) < mv) then s.leaveWindow x else s
      if (s.feed x).step ≠ 0 ∧ !s.feedMayRun x then s.openFeed x else s
    s.feedsRefresh
  else s

end Sys2Proof.Machine
end

