-- ==== Sys2Proof/Machine/Domains.lean ====
section
/-! DEFINITION. The power domains (R310 to R331): what a domain loses and keeps, sleeping, the core supply, the PLL, the wake
sources, and waking step by step. -/

namespace Sys2Proof.Machine

/-! ### Masks (R310 to R312) -/

/-- The variant has domain d (R312) (DEDUCED, log 78). -/
def State.hasDomain (s : State) (d : Nat) : Bool := decide (d < 8) && (d != 3 || decide (8 < s.ident.ports)) && (d != 6 || s.ident.wyhelen)

/-- The domains of a mask. -/
def domainsIn (mask : Nat) : List Nat := (List.range 8).filter fun d => mask.testBit d

/-- The mask of a list of domains. -/
def maskOf (l : List Nat) : Nat := l.foldl (fun m d => m ||| 2 ^ d) 0

/-- The core domains draw on VDD_CORE (R314): every one but AON and PWR. -/
def coreDomain (d : Nat) : Bool := d != 0 && d != 5

/-- The domains that may be on only while HUB is (R311). -/
def underHub (d : Nat) : Bool := d == 2 || d == 3 || d == 4 || d == 6 || d == 7

/-- Domains in transition. -/
def State.wakingMask (s : State) : Nat := (s.domains.wake.map fun w => maskOf (w.doms.map DomWake.d)).getD 0

def State.modDomains (s : State) (f : DomainRt → DomainRt) : State := { s with domains := f s.domains }

/-! ### What a domain loses (R310) -/

/-- The index and sub-index of a register. -/
def Reg.place (r : Reg) : Nat × Nat := (r.addr / 2 ^ 24, r.addr / 2 ^ 16 % 256)

/-- The domain in which a register lies (R358). -/
def Reg.dom (r : Reg) : Nat := entryDomainOf r.place.1 r.place.2

/-- A register that holds a commit-class value: HUB keeps a copy of it (R358, R383). -/
def Reg.commitClass (r : Reg) : Bool := (entryAt r.place.1 r.place.2).any fun e => e.access == .rwc

/-- What flash holds of the registers outside the stored configuration, and the prism's identity, which a committed prism keeps
(R94, R222, R415) (DESIGN CHOICE, log 54). -/
def Reg.kept : Reg → Bool
  | .time .timeStoredFreq => true
  | .fw .fwRollbackCount => true
  | .ring .prismId => true
  | .ring .prismEpoch => true
  | .ring .prismOrigin => true
  | .ring .facetIndex => true
  | .ring (.prismMembership _) => true
  | _ => false

/-- The registers of a domain go back to their defaults; a far or reservoir domain's commit-class values are HUB's (R358). -/
def State.loseRegs (s : State) (d : Nat) : State :=
  { s with regs := s.regs.filter fun e => e.1.dom != d || e.1.kept || (d != 1 && e.1.commitClass) }

/-! ### What a changed commit-class value does to a running function (R379) -/

/-- A committed change of `LinkMode` restarts the port in its new mode (R69): Wyhelen mode is left, VBUS goes off, the port starts again. -/
def State.restartLink (s : State) (k : Link) : State :=
  match s.linkPort k with
  | none => s
  | some p =>
    let st := s.get (.link k .linkState)
    let s := if (s.tc p).entered then s.leaveWyhelen p
      else if st = 3 ∨ st = 4 ∨ st = 6 then s.linkDown k 0
      else if st = 0 ∨ s.unitHeld (.link k) then s
      else if st = 5 then (s.showLinkState k 0).endLive (40 + k.val)
      else s.showLinkState k 0
    let s := s.afterRoutes
    let s := if s.pst p = 8 then s.setPst p (if s.ps p psPower then 1 else 0) else s
    let s := ((s.tcRelease p).usbDisconnect p).modTc p fun x => { x with entryStep := 0 }
    if s.modeOf k = 1 then s.cmdLinkTrainingStart k else s

/-- PPS_IN and PPS_OUT follow their enables (R224 to R226). -/
def State.ppsEnables (s : State) (inChanged outChanged : Bool) : State :=
  let s := if !inChanged then s
    else
      let s : State := { s with time := { s.time with ppsEdges := [], ppsMiss := 0 } }
      if s.isTrue (.pps .ppsInEnable) then s.set (.pps .ppsInState) 1 else ((s.set (.pps .ppsInState) 0).endLive 47).chooseFocal
  if outChanged && !s.isTrue (.pps .ppsOutEnable) then s.cmdPpsOutWidthEnd else s

/-- A stream whose region has a new size starts at its offset 0 (R179) (DEDUCED, log 37). -/
def State.startPointers (s : State) (n : Nat) : State :=
  ((((s.set (streamReg n .streamWritePtr) 0).set (streamReg n .streamReadPtr) 0).set (streamReg n .streamReleasePtr) 0).set
    (streamReg n .streamMarkPtr) 0)

/-- Committed values become live together, with what their chapters say of a change: streams are flushed (R178), the trace is
discarded (R429), links restart (R69), a free-running focal takes its trim (R216), PPS follows its enables, wet ports are released
when the moisture check goes off, and the feeds follow their windows (R287). -/
def State.setLive (s : State) (l : List (Reg × Nat)) : State :=
  let before := s
  let new := l.filter fun e => s.get e.1 != e.2
  let touched := fun (r : Reg) => new.any fun e => e.1 == r
  let flushed := (List.range 256).filter fun n => s.configured n &&
    (touched (streamReg n .streamEnable) || touched (streamReg n .streamBase) || touched (streamReg n .streamSize))
  let s := s.forEach flushed fun s n => s.flushStream n
  let s := if (List.finRange 64).any fun n => touched (.fault (.faultSeverity n)) then
      let old := (List.finRange 64).map fun n => s.get (.fault (.faultSeverity n))
      { s with faults := { s.faults with sevWas := some (s.time.elapsed, old) } }
    else s
  let s := s.setAll new
  let s := s.forEach ((List.range 256).filter fun n => touched (streamReg n .streamSize)) fun s n => s.startPointers n
  let s := if touched (.lens .lensRecordSize) || touched (.lens .lensExtBase) || touched (.lens .lensExtSize) then
      s.set (.lens .lensReadPtr) (s.get (.lens .lensWritePtr))
    else s
  let s := s.forEach ((List.finRange 4).filter fun k => before.modeOf k != s.modeOf k) fun s k => s.restartLink k
  let s := if touched (.time .timeFocalTrim) && s.get (.time .servoState) == 0 && !s.ppsValid then
      let b := s.getInt (.time .timeFocalTrim) * 256
      ({ s with time := { s.time with base := b, integral := 0 } }).setFreq b
    else s
  let s := s.ppsEnables (touched (.pps .ppsInEnable)) (touched (.pps .ppsOutEnable))
  let s := if touched (.pd .moistureEnable) && !s.isTrue (.pd .moistureEnable) then s.moistureOff else s
  if new.any fun e => e.1.dom == 5 then s.powerCommitted else s

/-- Values that waited for a domain become live (R358, R379) (DEDUCED, log 69). -/
def State.unpark (s : State) (d : Nat) : State :=
  let mine := s.parked.filterMap fun e => if e.1.dom = d then e.2.map fun v => (e.1, v) else none
  ({ s with parked := s.parked.filter fun e => e.1.dom != d }).setLive mine

/-- HUB loses everything (R310): hub core, relay, hold-over, doors, configuration, Lens and the time logic outside AON's counter. What
flash holds stays, and the ports go off with the logic that enables them (R404) (DESIGN CHOICE, log 54). -/
def State.loseHub (s : State) : State :=
  let s := s.forEach s.allPorts fun s p => s.powerOff p
  let s := s.loseRegs 1
  let ups : Table Bool UpRt := s.ups.map fun e => (e.1, { attached := e.2.attached, vbus := e.2.vbus })
  { s with
    staged := [], pstaged := [], parked := [], hubs := [], embs := [], ups := ups, ports := [], remote := [], xlate := [], devices := [],
    records := [], holds := [], slots := [], running := [],
    runPayload := [], switched := 0, swapping := false, engine := [], waiting := [], lastImage := 0, engineMissed := false,
    relayEps := [], ownEps := [], splits := [], poolLow := false,
    doors := {}, lens := {},
    cfg := { copyA := s.cfg.copyA, copyB := s.cfg.copyB },
    faults := { gasp := s.faults.gasp, gaspSeq := s.faults.gaspSeq, gaspRun := s.faults.gaspRun,
                pulse := s.faults.pulse, pulsed := s.faults.pulsed,
                safeRun := s.faults.safeRun },
    boot := { s.boot with running := false, started := false, waiting := true, recovery := false, restart := false, counted := true,
                          owner := none, target := none, pages := [], badSram := 0 },
    time := { ns := s.time.ns, frac := s.time.frac, elapsed := s.time.elapsed, pll := s.time.pll } }

/-- UPL off (R279, R310): the upstream ports are detached, without termination. -/
def State.loseUpl (s : State) : State :=
  (s.forEach [Upstream.UA, Upstream.UB] fun s u =>
    ((s.present u .nothing).modUp u fun x => { x with attached := false, vbus := false }).emit (.up u .rdOff)).set (.pd .tcUpstreamRp) 0

/-- DNA or DNB off (R310): its ports report Disconnected; VBUS stays. -/
def State.losePorts (s : State) (d : Nat) : State :=
  s.forEach (s.allPorts.filter fun p => s.portDomain p == d) fun s p => s.usbDisconnect p

/-- PWR off (R310): every port VBUS off with discharge, every feed switch open, no PD, no breakers, H at 0 (DESIGN CHOICE, log 54). -/
def State.losePwr (s : State) : State :=
  let s := s.forEach s.allPorts fun s p =>
    let s := if s.pst p = 0 ∨ 8 ≤ s.pst p then s else s.usbDisconnect p
    s.tcRelease p
  let s := s.loseRegs 5
  let feeds : Table Bool FeedRt := s.feeds.map fun e => (e.1, { en := e.2.en })
  let s := { s with tcs := s.tcs.filter fun e => e.2.entered, chans := [], feeds := feeds }
  s.forEach s.allPorts fun s p =>
    (s.overCurrentEnd p).set (.tc p .tcState) (if (s.portLink p).any fun k => s.modeOf k == 1 then 7 else 0)

/-- RING off (R310): the link state, routes, lock and frames are lost (DESIGN CHOICE, log 54). -/
def State.loseRing (s : State) : State :=
  let before := s.inRouting
  let s := s.forEach (List.finRange 4) fun s k => s.endLive (40 + k.val)
  let s := s.loseRegs 6
  let s := { s with links := [], ring := { tagNext := s.ring.tagNext } }
  (((s.set (.lock .prismLockOwner) 0).retopo before).afterRoutes).set (.ring .ringMemberState) 0

/-- RSV off (R310): DRAM is held in reset and the contents of every stream are lost. `ReservoirDramSize` keeps the last trained size, by
which a commit is checked until the next training (R178) (DEDUCED, log 100). -/
def State.loseRsv (s : State) : State :=
  let size := s.get (.res .reservoirDramSize)
  let s := { s with streams := [], sessions := [], arb := [], arbSaved := none }
  ((s.loseRegs 7).set (.res .reservoirDramSize) size).setDramState 0

/-- A domain goes off. -/
def State.lose (s : State) (d : Nat) : State :=
  if d = 1 then s.loseHub
  else if d = 2 then s.loseUpl
  else if d = 3 ∨ d = 4 then s.losePorts d
  else if d = 5 then s.losePwr
  else if d = 6 then s.loseRing
  else if d = 7 then s.loseRsv
  else s

/-! ### Retention (R310, R313) -/

/-- Banks whose contents the selection does not keep. -/
def State.dropsBank (s : State) (lo hi : Nat) : Bool :=
  (List.range (hi + 1 - lo)).any fun k => !(s.get (.domain .retainBanks)).testBit (lo + k)

/-- HUB in retention keeps its state; unretained banks of R24 lose theirs. -/
def State.retainHub (s : State) : State :=
  let s := if s.dropsBank 8 11 then { s with relayEps := [], ownEps := [], splits := [] } else s
  let s := if s.dropsBank 12 12 then s.forEach s.allPorts fun s p => s.resetTt p else s
  let s := if s.dropsBank 13 14 then
      { s with lens := { s.lens with trace := [], staging := [] } }.set (.lens .lensReadPtr) (s.get (.lens .lensWritePtr))
    else s
  let s := if s.dropsBank 15 18 then { s with boot := { s.boot with running := false, restart := true } } else s
  if s.dropsBank 19 20 then { s with records := [] } else s

/-- RING withdraws and goes to electrical idle; its tables stay. -/
def State.retainRing (s : State) : State :=
  let s := s.withdraw none
  let s := s.modRing fun r => { r with withdrawing := false, faultWithdrawn := none }
  let s := s.set (.ring .ringMemberState) 4
  s.forEach (List.finRange 4) fun s k =>
    if 3 ≤ s.get (.link k .linkState) ∨ s.get (.link k .linkState) = 2 then
      (s.setLinkState k 0).modLink k fun x => { fails := x.fails, retrains := x.retrains }
    else s

/-- RSV spills its tails, freezes and enters self-refresh; an on-chip reservoir keeps what its banks keep. -/
def State.retainRsv (s : State) : State :=
  let s := s.forEach (s.streams.map Prod.fst) fun s n => s.modStream n fun x => { x with tail := 0 }
  if s.sramOnly then
    (if s.dropsBank 0 7 then s.forEach (s.streams.map Prod.fst) fun s n => s.loseStream n else s)
  else s.when (s.get (.res .reservoirDramState) == 2) fun s =>
    let s := s.when (s.get (.arb .arbFreezeState) != 2) fun s => s.flag (.res .resEvents) resFreezeDrained
    (s.holdHeads.set (.arb .arbFreezeState) 2).setDramState 3

/-- A domain goes to retention; UPL, DNA and DNB keep their suspended ports. -/
def State.retain (s : State) (d : Nat) : State :=
  if d = 1 then s.retainHub else if d = 6 then s.retainRing else if d = 7 then s.retainRsv else s

/-! ### The core supply and the PLL (R314 to R316) -/

/-- VDD_CORE by the rule of R314, as `CoreRegState` codes it. -/
def State.coreWanted (s : State) : Nat :=
  let states := ((List.range 8).filter coreDomain).map s.domainState
  if states.any fun v => v == 2 || v == 3 then 2 else if states.any fun v => v == 1 then 1 else 0

/-- Commands the core regulator: off, 0.60 V or 0.80 V (R314) (PRESUMED, log 48). -/
def State.commandCore (s : State) (v : Nat) : State :=
  let a := s.get (.domain .coreRegAddress)
  let pec := s.isTrue (.domain .coreRegPec)
  let s := s.set (.domain .coreRegState) 3
  if v = 0 then s.emit (.pmbus 0 a 1 0 pec)
  else if v = 1 then s.emit (.pmbus 0 a 0x21 (linear16 (Config.voutMode 0) 600) pec)
  else (s.emit (.pmbus 0 a 1 0x80 pec)).emit (.pmbus 0 a 0x21 (linear16 (Config.voutMode 0) 800) pec)

/-- `ClockStatus` (R316). -/
def State.setClock (s : State) (enabled locked : Bool) : State :=
  ({ s with time := { s.time with pll := locked } }).set (.domain .clockStatus)
    (boolNat s.domains.xo + 2 * boolNat enabled + 4 * boolNat locked)

/-- The PLL stops when every domain but AON is in retention or off (R316). -/
def State.pllRule (s : State) : State :=
  if (List.range 8).any fun d => d != 0 && decide (2 ≤ s.domainState d) then s else s.setClock false false

/-- The PLL locks (R17): frames that waited for the ring's clock leave. -/
def State.lockPll (s : State) : State := (s.setClock true true).forEach (List.finRange 4) fun s k => s.drain k

/-- Whether the PLL is enabled. -/
def State.pllEnabled (s : State) : Bool := (s.get (.domain .clockStatus)).testBit 1

/-! ### Waking (R326 to R329) -/

/-- The domains a wake brings on: those named that the variant has and that are not on, and HUB with any that needs it. -/
def State.wakeMask (s : State) (mask : Nat) : Nat :=
  let l := (domainsIn mask).filter fun d => d != 0 && s.hasDomain d && decide (s.domainState d < 2)
  let l := if s.domainState 1 < 2 ∧ l.any underHub then 1 :: l else l
  maskOf l

/-- The record of R329. -/
def State.wakeRecord (s : State) (source detail woken flags time : Nat) : State :=
  let took := min 65535 ((s.now + 2 ^ 32 - time) % 2 ^ 32 / 1000)
  s.set (.domain .lastWakeRecord) (ofBytesBe ([byteOf source, byteOf detail, byteOf woken, byteOf flags] ++ bytesBe 4 time ++
    bytesBe 4 s.domains.sleepTime ++ bytesBe 2 took ++ [byteOf s.domains.sleepMask, 0]))

/-- Each channel's energy resumes from the last checkpoint after a start of PWR (R303, R421) (DESIGN CHOICE, log 54). -/
def State.resumeEnergy (s : State) : State :=
  if s.path.fresh then
    let s := s.forEach (List.finRange 19) fun s c => s.count (.chan c .chanEnergy) (s.path.saved.getD c.val 0)
    { s with path := { s.path with fresh := false } }
  else s

/-- A domain's logic step is done: the domain is on (R326), and works again. A start of HUB leaves the steward to boot. -/
def State.domainStarts (s : State) (d : Nat) (cold : Bool) : State :=
  let s := (s.setDomain d 2).unpark d
  if d = 1 then
    if cold then { s with boot := { s.boot with running := false, started := false, waiting := true } }
    else if s.boot.restart then { s with boot := { s.boot with running := false } } else s
  else if d = 2 then
    s.forEach ([Upstream.UA, Upstream.UB].filter fun u => cold && !(s.up u).disabled) fun s u => s.emit (.up u .rdOn)
  else if d = 5 then
    let s := if cold then { s with path := { s.path with fresh := true } } else s
    let s := if s.boot.started then s.resumeEnergy else s
    let s := s.forEach s.allPorts fun s p =>
      (s.regulatorInit p).when (s.get (.tc p .tcState) == 0) fun s => s.set (.tc p .tcState) (s.tcIdle p)
    s.feedsRefresh
  else if d = 6 then
    let s := s.set (.ring .ringMemberState) 0
    s.forEach (List.finRange 4) fun s k => if s.linkMode k then s.cmdLinkTrainingStart k else s
  else if d = 7 then
    if !s.ident.dram then s
    else if cold then s.setDramState 1
    else if s.get (.res .reservoirDramState) = 3 then (s.setDramState 2).when (s.get (.arb .arbFreeze) == 0) State.resumeArb
    else s
  else s

/-- The wake has no domain left: its record is written (R326, R329). A start of the logic die writes none (DESIGN CHOICE, log 52). -/
def State.wakeEnds (s : State) (w : WakeRt) : State :=
  let s := s.modDomains fun x => { x with wake := none }
  if w.source = 0 then s
  else
    let s := ((s.wakeRecord w.source w.detail w.woken w.flags w.time).bump (.domain .wakeCount)).flag (.domain .domainEvents) domWake
    s.lensDomain 4 w.woken w.source 0 (min 65535 ((s.now + 2 ^ 32 - w.time) % 2 ^ 32 / 1000))

/-- The wake goes on: past the rails the oscillator is started, unless the PLL is locked, and then the memory steps run. -/
def State.wakeGo (s : State) (w : WakeRt) : State :=
  if w.doms.isEmpty then s.wakeEnds w
  else
    let s' := fun (w : WakeRt) => s.modDomains fun x => { x with wake := some w }
    if w.shared = 0 ∧ (w.doms.all fun x => x.step != 1) ∧ (w.doms.any fun x => x.step == 2) then
      if s.time.pll then s' { w with doms := w.doms.map fun x => if x.step = 2 then { x with step := 3 } else x }
      else (s' { w with shared := 2, failed := 0, resting := false }).setClock true false
    else s' w

/-- A wake begins or grows by the domains of a mask (R326, R328) (DEDUCED, log 53). -/
def State.wakeFor (s : State) (asks : List WakeAsk) (flags : Nat) : State :=
  match asks with
  | [] => s
  | first :: rest =>
    let best := rest.foldl (fun (a : WakeAsk) b => if b.source < a.source then b else a) first
    let mask := s.wakeMask (asks.foldl (fun m a => m ||| a.mask) 0)
    let fresh : List DomWake := (domainsIn mask).map fun d =>
      { d := d, step := 1, failed := 0, resting := false, cold := s.domainState d == 0 }
    if mask = 0 then s
    else
      let core := (domainsIn mask).any coreDomain
      let s := s.forEach (domainsIn mask) fun s d => s.setDomain d 3
      let raise := core && s.get (.domain .coreRegState) != 2
      match s.domains.wake with
      | some w =>
        let w := { w with flags := setBit w.flags 2 true, doms := w.doms ++ fresh,
                          shared := if w.shared = 0 ∧ raise then 1 else w.shared }
        (s.when (w.shared == 1 && raise) fun s => s.commandCore 2).wakeGo w
      | none =>
        let flags := setBit flags 2 (flags.testBit 2 || !rest.isEmpty)
        let w : WakeRt := { source := best.source, detail := best.detail, time := best.time, flags := flags,
                            shared := if raise then 1 else 0, failed := 0, resting := false, doms := fresh, woken := 0 }
        let s := if best.source = 0 then s else s.lensDomain 3 mask best.source 0 0
        (s.when raise fun s => s.commandCore 2).wakeGo w

/-- A sleep is complete (R319): asks latched during it now wake the facet (R328) (DESIGN CHOICE, log 52). -/
def State.sleepEnds (s : State) (done : Bool) : State :=
  let mask := s.domains.sleeping
  let s := s.modDomains fun x => { x with sleeping := 0 }
  let s := if done then
      let s := s.flag (.domain .domainEvents) domSleepDone
      s.lensDomain 2 mask 0 0 ((s.now + 2 ^ 32 - s.domains.sleepTime) % 2 ^ 32 / 1000)
    else s
  let asks := s.domains.latched
  (s.modDomains fun x => { x with latched := [] }).wakeFor asks 2

/-- Step 6 of R319: the PLL and VDD_CORE (DESIGN CHOICE, log 52). -/
def State.settleSupply (s : State) : State :=
  let s := s.pllRule
  let now := s.get (.domain .coreRegState)
  if now = 3 then s
  else if s.coreWanted < now ∨ (now = 4 ∧ s.coreWanted < 2) then s.commandCore s.coreWanted
  else s

/-- A domain leaves the on state, or retention for off (R319 steps 2 to 5). -/
def State.domainSleeps (s : State) (goal d : Nat) : State :=
  let was := s.domainState d
  if was ≤ goal then s
  else
    let s := if d = 6 ∧ was = 2 then s.retainRing else s
    ((if goal = 0 then s.lose d else s.retain d)).setDomain d goal

/-- An accepted sleep runs (R319). Every domain that needs HUB goes before it (DESIGN CHOICE, log 52). -/
def State.runSleep (s : State) (mask goal : Nat) : State :=
  let s := s.modDomains fun x => { x with sleepTime := s.now, sleepMask := mask }
  let s := s.lensDomain 1 mask 0 0 0
  let order := ((domainsIn mask).filter fun d => d != 1) ++ (domainsIn mask).filter fun d => d == 1
  let s := s.forEach order fun s d => s.domainSleeps goal d
  let s := s.modDomains fun x => { x with sleeping := mask }
  let s := s.settleSupply
  if s.get (.domain .coreRegState) = 3 then s else s.sleepEnds true

/-- A wake ask meets a running sleep, a running wake, or none (R328). -/
def State.askWake (s : State) (asks : List WakeAsk) : State :=
  if asks.isEmpty then s
  else if s.domains.sleeping ≠ 0 then
    (s.modDomains fun x => { x with latched := x.latched ++ asks }).flag (.domain .domainEvents) domLatchedWake
  else s.wakeFor asks 0

/-! ### Commands (R317, R318) -/

/-- The states the domains will hold. -/
def State.resulting (s : State) (mask goal d : Nat) : Nat :=
  if mask.testBit d then goal else if s.wakingMask.testBit d then 2 else s.domainState d

/-- The domains of a fault's unit (R349). -/
def State.unitDomains (s : State) (source detail : Nat) : Nat :=
  if source < 16 then 0x20 + (if h : source < 16 then 2 ^ s.portDomain ⟨source, h⟩ else 0)
  else if source ≤ 20 ∨ source = 24 then 0x20
  else if source = 21 ∨ source = 22 ∨ source = 36 ∨ source = 37 then
    (if h : detail - 1 < 16 then 0x20 + 2 ^ s.portDomain ⟨detail - 1, h⟩ else 0x20)
  else if source = 32 ∨ source = 33 then 4
  else if 40 ≤ source ∧ source ≤ 45 then 0x40
  else if 48 ≤ source ∧ source ≤ 54 then 0x80
  else if (34 ≤ source ∧ source ≤ 39) ∨ 46 ≤ source then 2
  else 0

/-- An upstream has a host that is not suspended (R318 reason 7). -/
def State.hostRuns (s : State) : Bool :=
  (List.finRange 4).any fun i =>
    s.enabled i &&
      (((s.activeUp i).any fun u => (s.up u).presents == .hub && !(s.hub i).suspended) ||
        ((s.mirrorUp i).any fun u => (s.up u).presents == .standby && !(s.up u).hostIdle))

/-- A port of a domain is busy with its device (R318 reason 7). -/
def State.portsRun (s : State) (d : Nat) : Bool :=
  s.allPorts.any fun p =>
    s.portDomain p == d && (s.pst p == 3 || (s.pst p == 4 && !(s.port p).globalSusp) || s.pst p == 6 || s.pst p == 7)

/-- The first check a command breaks, with the first failing domain (R318). `now`: at its trigger or immediate, so that reason 7 is
judged (DEDUCED, log 51). -/
def State.domainRefusal (s : State) (word : Nat) (now : Bool) : Option (Nat × Nat) :=
  let mask := word % 256
  let target := bitField word 9 8
  let trigger := bitField word 12 10
  let l := domainsIn mask
  let first := fun (p : Nat → Bool) => l.find? p
  let bad := if target < 2 then
      ([2, 3, 4, 6, 7] : List Nat).find? fun d =>
        let v := s.resulting mask target d
        let h := s.resulting mask target 1
        (v == 2 && h != 2) || (v == 1 && h == 0)
    else none
  let states := (List.finRange 4).map s.holdState
  if word / 2 ^ 15 ≠ 0 ∨ 4 < trigger ∨ (trigger = 4 ∧ !now ∧ 2100000000 ≤ s.ahead (s.get (.domain .domainTriggerTime))) then
    some (6, (l.head?).getD 0)
  else if target = 3 then none
  else if mask.testBit 0 then some (1, 0)
  else if mask.testBit 5 ∧ target = 1 then some (1, 5)
  else
    match first fun d => target != 0 && !s.hasDomain d with
    | some d => some (2, d)
    | none =>
      match bad with
      | some d => some (3, d)
      | none =>
        if mask.testBit 1 ∧ ((target < 2 ∧ (states.contains 4 ∨ states.contains 6)) ∨ (target = 0 ∧ states.contains 5)) then some (4, 1)
        else
          let reacting := (s.faults.running.map fun r => if r.level = 2 ∨ r.level = 3 then s.unitDomains r.source r.detail else 0).getD 0
          match first fun d => s.wakingMask.testBit d || (target < 2 && (s.domains.sleeping ||| reacting).testBit d) with
          | some d => some (5, d)
          | none =>
            if !now ∨ 2 ≤ target then none
            else if mask.testBit 2 ∧ s.hostRuns then some (7, 2)
            else (first fun d => target == 1 && (d == 3 || d == 4) && s.portsRun d).map fun d => (7, d)

/-- The abort code of a reason (DEDUCED, log 51). -/
def refusalCode (reason : Nat) : Nat := if reason = 6 then 0x06090030 else 0x08000022

/-- A command is refused (R318) (DEDUCED, log 51). -/
def State.refuseDomain (s : State) (r : Nat × Nat) : State :=
  let s := (s.set (.domain .domainCmdRefusal) (r.1 + 256 * r.2)).flag (.domain .domainEvents) domCmdRefused
  s.lensDomain 7 (2 ^ r.2) 0 r.1 0

/-- An accepted command takes effect after the answer (R317). -/
def State.applyDomain (s : State) (door word : Nat) : State :=
  let target := bitField word 9 8
  if target < 2 then { s with due := s.due ++ [.sleep (word % 256) target] }
  else { s with due := s.due ++ [.wake ⟨8, door, word % 256, s.now⟩] }

/-- The lowest domain a command names. -/
def firstDomain (word : Nat) : Nat := ((domainsIn (word % 256)).head?).getD 0

/-- The door that has written `DomainCommand` in this very cycle, if another one has. -/
def State.rivalDoor (s : State) (d : Door) : Option Nat :=
  (s.domains.written.filter fun e => e.1 == s.time.elapsed && e.2 != d.num).map Prod.snd

/-- A rival's command that this door's one of the same cycle beats is refused: an armed one is disarmed, and one that has already been
applied stands (R328) (DESIGN CHOICE, log 82). -/
def State.beatRival (s : State) (d : Door) : State :=
  let armed := s.get (.domain .domainArmed)
  if (s.rivalDoor d).any (fun e => decide (d.num < e) && e == s.domains.armedDoor) ∧ armed.testBit 31 then
    (s.set (.domain .domainArmed) 0).refuseDomain (5, firstDomain armed)
  else s

/-- A write of `DomainCommand` (R317, R318): its abort code, and the state. Of two doors in one cycle, the lower number wins (R328). -/
def State.writeDomainCommand (s : State) (d : Door) (word : Nat) : Nat × State :=
  let trigger := bitField word 12 10
  let lost := (s.rivalDoor d).any fun e => decide (e < d.num)
  let s := (s.beatRival d).modDomains fun x => { x with written := if lost then x.written else some (s.time.elapsed, d.num) }
  match (if lost then some (5, firstDomain word) else s.domainRefusal word (trigger = 0)) with
  | some r => (refusalCode r.1, s.refuseDomain r)
  | none =>
    if bitField word 9 8 = 3 then (0, s.set (.domain .domainArmed) 0)
    else if trigger = 0 then (0, s.applyDomain d.num word)
    else (0, (s.set (.domain .domainArmed) (2 ^ 31 + word)).modDomains fun x => { x with armedDoor := d.num })

/-- The trigger of the armed command holds (R317). -/
def State.triggerHolds (s : State) (word : Nat) : Bool :=
  let t := bitField word 12 10
  if t = 1 then s.imageSuspended (imageOf (bitField word 14 13))
  else if t = 2 then s.get (.can .canState) == 4
  else if t = 3 then !(s.up .UA).attached && !(s.up .UB).attached
  else decide (2 ^ 31 ≤ s.ahead (s.get (.domain .domainTriggerTime)) ∨ s.ahead (s.get (.domain .domainTriggerTime)) = 0)

/-! ### Wake sources (R322 to R325) -/

/-- A source is enabled, and where it needs one its place is (R322) (DEDUCED, log 53). -/
def State.sourceEnabled (s : State) (source detail : Nat) : Bool :=
  let links := s.get (.domain .wakeLinkPorts)
  decide (0 < source ∧ source < 8) && (s.get (.domain .wakeSourceEnable)).testBit (source - 1) &&
    (if source = 1 ∨ source = 2 then links.testBit (detail - 1) else if source = 3 then links.testBit (detail - 32 + 18) else true)

/-- The ask that a source makes. -/
def State.askOf (s : State) (x : WakeSeen) : WakeAsk := ⟨x.source, x.detail, s.get (.domain .wakeDomains), s.now⟩

/-- A source fires, with others of the same cycle (R322, R328): it must be enabled, and some domain must sleep (DEDUCED, log 53). -/
def State.heard (s : State) (source detail : Nat) (also : List WakeSeen) : State :=
  if !s.domainOn 0 then s
  else s.askWake (((⟨source, detail⟩ :: also).filter fun x => s.sourceEnabled x.source x.detail).map s.askOf)

/-- A wake source fires in the cycle of a sleep request (R328): the only enabled source abandons it, another one is latched.
(DESIGN CHOICE, log 52, DEDUCED, log 53) -/
def State.meetSleep (s : State) (wakes : List WakeSeen) : State :=
  let heard := wakes.filter fun x => s.sourceEnabled x.source x.detail
  let sleeps := s.due.filterMap fun d => match d with
    | .sleep mask _ => some mask
    | _ => none
  match sleeps, heard with
  | mask :: _, x :: rest =>
    if bitCount 8 (s.get (.domain .wakeSourceEnable)) = 1 then
      let s := { s with due := s.due.filter fun d => match d with
        | .sleep _ _ => false
        | _ => true }
      let s := s.modDomains fun x => { x with sleepTime := s.now, sleepMask := mask }
      let s := ((s.bump (.domain .sleepAbandonCount)).flag (.domain .domainEvents) domSleepAbandoned).lensDomain 6 mask x.source 0 0
      let flags := 1 + (if rest.isEmpty then 0 else 4)
      if s.wakeMask (s.get (.domain .wakeDomains)) = 0 then s.wakeRecord x.source x.detail 0 flags s.now
      else s.wakeFor (heard.map s.askOf) flags
    else
      (s.modDomains fun d => { d with latched := d.latched ++ heard.map s.askOf }).flag (.domain .domainEvents) domLatchedWake
  | _, _ => s

/-- The armed command's trigger fires: it is disarmed, checked again and applied (R317, R318). -/
def State.cmdDomainTrigger (s : State) (wakes : List WakeSeen) : State :=
  let word := s.get (.domain .domainArmed) % 2 ^ 31
  if (s.get (.domain .domainArmed)).testBit 31 ∧ s.triggerHolds word then
    let s := s.set (.domain .domainArmed) 0
    match s.domainRefusal word true with
    | some r => s.refuseDomain r
    | none => (s.applyDomain s.domains.armedDoor word).meetSleep wakes
  else s

/-- Remote wake, connect, disconnect or Type-C attach on a sleeping port. -/
def State.cmdWakeDownstreamPort (s : State) (p : Port) (how : PortWake) (also : List WakeSeen) : State :=
  let st := s.domainState (s.portDomain p)
  let tc := how == .tcAttach || how == .tcDetach
  if s.hasPort p ∧ ((st = 1 ∧ !tc) ∨ (st = 0 ∧ s.domainOn 5 ∧ tc)) then s.heard 1 (p.val + 1) also else s

/-- Resume, reset or VBUS on an upstream. -/
def State.cmdWakeUpstream (s : State) (u : Upstream) (how : UpWake) (also : List WakeSeen) : State :=
  let st := s.domainState 2
  if (st = 1 ∧ how ≠ .vbus) ∨ (st = 0 ∧ how = .vbus) then s.heard 2 (17 + u.num) also else s

/-- Signal on a sleeping link. -/
def State.cmdWakeLink (s : State) (k : Link) (also : List WakeSeen) : State :=
  if s.domainState 6 = 1 then s.heard 3 (32 + k.val) also else s

/-- A CAN wake-up pattern. -/
def State.cmdWakeCanWup (s : State) (also : List WakeSeen) : State :=
  if !s.domainOn 1 ∧ s.isTrue (.domain .canStbyInSleep) then s.heard 4 0 also else s

/-- An SMBus address byte while HUB is not on (R323). -/
def State.cmdWakeLocAddressMatch (s : State) (addr : Nat) (also : List WakeSeen) : State :=
  if !s.domainOn 1 ∧ addr = s.get (.loc .locAddress) ∧ s.straps.testBit 3 then s.heard 5 0 also else s

/-- The wake timer reaches 0 (R325). -/
def State.cmdWakeTimerExpiry (s : State) (also : List WakeSeen) : State :=
  if s.domains.timerEnd.isSome then (s.modDomains fun x => { x with timerEnd := none }).heard 6 0 also else s

/-- A feed has entered or left `FeedState` 6. -/
def State.cmdWakeFeedChange (s : State) (also : List WakeSeen) : State := if s.domainOn 5 then s.heard 7 0 also else s

/-- A write of `WakeTimer` (R325). -/
def State.writeWakeTimer (s : State) (n : Nat) : State :=
  s.modDomains fun x => { x with timerEnd := if n = 0 then none else some (s.elapsedMs + n) }

/-! ### The regulator's answers (R314, R315) -/

/-- The core regulator has acknowledged: a lowered supply completes a sleep, a raised one the shared step of a wake. -/
def State.cmdCoreRegAck (s : State) : State :=
  if s.get (.domain .coreRegState) = 3 then
    match s.domains.wake with
    | some w =>
      if w.shared = 1 ∧ !w.resting then ((s.set (.domain .coreRegState) 2)).wakeGo { w with shared := 0 }
      else s
    | none =>
      let s := (s.set (.domain .coreRegState) s.coreWanted).modDomains fun x => { x with corePg := true }
      if s.domains.sleeping ≠ 0 then s.sleepEnds true else s
  else s

/-- A command to lower VDD_CORE is NACKed three times (R315): VDD_CORE and the domains stay as they are (DESIGN CHOICE, log 52). -/
def State.cmdCoreRegLowerFail (s : State) : State :=
  if s.get (.domain .coreRegState) = 3 ∧ s.domains.wake.isNone then
    let s := ((s.set (.domain .coreRegState) 4).raise 23 (s.get (.domain .coreRegAddress))).flag (.domain .domainEvents) domCoreRegFail
    s.sleepEnds false
  else s

/-! ### Steps of a wake (R326, R327, R412) -/

/-- The start-up test of the banks of a domain (R412): the spare replaces one failure, a second fails safe. -/
def State.sramTest (s : State) (lo hi bad : Nat) : State :=
  s.forEach ((List.range 22).filter fun b => decide (lo ≤ b) && decide (b ≤ hi) && bad.testBit b) fun s b =>
    if s.boot.badSram = 0 then
      ({ s with boot := { s.boot with badSram := 1 } }).set (.strap .sramRepairBank) (if b = 21 then 0xFF else b)
    else
      let s := s.raise 51 b
      { s with boot := { s.boot with badSram := s.boot.badSram + 1 }, due := s.due ++ [.failSafe] }

/-- A wake step is ready: `d` is a domain, or 0xFF for the shared step. `bad` names banks that fail their test at the memory step of a
domain that comes from off. -/
def State.cmdWakeStepReady (s : State) (d bad : Nat) : State :=
  match s.domains.wake with
  | none => s
  | some w =>
    if d = 255 then
      if w.resting then s
      else if w.shared = 1 then (s.set (.domain .coreRegState) 2).wakeGo { w with shared := 0 }
      else if w.shared = 2 ∧ s.domains.xo then
        s.lockPll.wakeGo { w with shared := 0, doms := w.doms.map fun x => if x.step = 2 then { x with step := 3 } else x }
      else s
    else
      match w.doms.find? fun x => x.d == d && !x.resting with
      | none => s
      | some x =>
        let put := fun (y : DomWake) => { w with doms := w.doms.map fun z => if z.d = d then y else z }
        if x.step = 1 ∧ (w.shared ≠ 1 ∨ d = 5) then s.wakeGo (put { x with step := 2, failed := 0 })
        else if x.step = 3 then
          let s := if x.cold ∧ d = 1 then s.sramTest 8 21 bad else if x.cold ∧ d = 7 then s.sramTest 0 7 bad else s
          s.wakeGo (put { x with step := 4, failed := 0 })
        else if x.step = 4 ∧ (!underHub d ∨ s.domainOn 1) then
          (s.domainStarts d x.cold).wakeGo { w with doms := w.doms.filter fun z => z.d != d, woken := w.woken ||| 2 ^ d }
        else s

/-- A step has failed four times (R327): domains of a mask are left off and lose what they retained; so do those under HUB when HUB is
among them. -/
def State.wakeFails (s : State) (w : WakeRt) (mask domain step reason : Nat) : State :=
  let all := if mask.testBit 1 then mask ||| maskOf ([2, 3, 4, 6, 7].filter fun d => s.domainState d != 0) else mask
  let order := ((domainsIn all).filter fun d => d != 1) ++ (domainsIn all).filter fun d => d == 1
  let s := s.forEach order fun s d => (s.lose d).setDomain d 0
  let record := [byteOf domain, byteOf step, 4, byteOf reason]
  let s := s.set (.domain .domainWakeFailRecord) (ofBytesBe (record ++ bytesBe 4 s.now))
  let s := (s.bump (.domain .domainWakeFailCount)).flag (.domain .domainEvents) domWakeFail
  let s := (s.raise 28 (ofBytesBe record)).lensDomain 5 all step reason 0
  let s := s.wakeGo { w with flags := setBit w.flags 3 true, shared := if domain = 255 then 0 else w.shared, failed := 0, resting := false,
                             doms := w.doms.filter fun x => !all.testBit x.d }
  if s.domains.wake.isNone then s.settleSupply else s

/-- A wake step is not ready in time, or ends by three NACKs (R327). `reason` is the code of the record. -/
def State.cmdWakeStepTimeout (s : State) (d reason : Nat) : State :=
  match s.domains.wake with
  | none => s
  | some w =>
    let s := if reason = 5 then (s.modDomains fun x => { x with xo := false }).raiseLive 26 0 else s
    let s := if reason = 1 then s.raise 23 (s.get (.domain .coreRegAddress)) else s
    if d = 255 then
      if w.shared = 0 ∨ w.resting then s
      else if w.failed < 3 then
        let s := if w.shared = 2 then s.setClock false false else s
        s.modDomains fun x => { x with wake := some { w with failed := w.failed + 1, resting := true } }
      else
        let core := maskOf ((w.doms.map DomWake.d).filter coreDomain)
        let s := if w.shared = 1 then s.set (.domain .coreRegState) 4 else s.setClock false false
        let w' := { w with doms := w.doms.map fun x => if w.shared = 2 ∧ x.step = 2 ∧ !coreDomain x.d then { x with step := 3 } else x }
        s.wakeFails w' core 255 w.shared reason
    else
      match w.doms.find? fun x => x.d == d && !x.resting with
      | none => s
      | some x =>
        if x.step = 2 then s
        else if x.failed < 3 then
          let doms := w.doms.map fun z => if z.d = d then { x with failed := x.failed + 1, resting := true } else z
          s.modDomains fun y => { y with wake := some { w with doms := doms } }
        else s.wakeFails w (2 ^ d) d x.step reason

/-- The next attempt, 1 ms later (R327). -/
def State.cmdWakeStepRetry (s : State) (d : Nat) : State :=
  match s.domains.wake with
  | none => s
  | some w =>
    if d = 255 then
      if w.resting then
        let s := s.modDomains fun x => { x with wake := some { w with resting := false } }
        if w.shared = 1 then s.commandCore 2 else s.setClock true false
      else s
    else
      let doms := w.doms.map fun z => if z.d = d then { z with resting := false } else z
      s.modDomains fun y => { y with wake := some { w with doms := doms } }

/-! ### The PLL and the supplies (R17, R210, R280, R332) -/

/-- The PLL loses lock while enabled. -/
def State.cmdPllUnlock (s : State) : State :=
  if s.time.pll then
    let s := (((s.setClock true false).bump (.domain .pllUnlockCount)).flag (.domain .domainEvents) domPllUnlock).raise 27 0
    match s.domains.wake with
    | none => s
    | some w =>
      if w.doms.isEmpty then s
      else
        let doms := w.doms.map fun x => if 2 < x.step then { x with step := 2 } else x
        let s := s.modDomains fun x => { x with wake := some { w with shared := 2, failed := 0, resting := false, doms := doms } }
        s.cmdWakeStepTimeout 255 6
  else s

/-- The PLL locks again: the counter returns to TIME edges without a step. -/
def State.cmdPllRelock (s : State) : State :=
  if s.pllEnabled ∧ !s.time.pll ∧ s.domains.xo ∧ !(s.domains.wake.any fun w => w.shared == 2) then s.lockPll else s

/-- The clock monitor sees no XO edge for 2 µs. -/
def State.cmdXoLoss (s : State) : State :=
  let s := s.modDomains fun x => { x with xo := false }
  let s := if s.time.pll then s.cmdPllUnlock else s
  (s.setClock s.pllEnabled false).raiseLive 26 0

/-- XO edges again. -/
def State.cmdXoReturn (s : State) : State :=
  let s := s.modDomains fun x => { x with xo := true }
  (s.setClock s.pllEnabled s.time.pll).endLive 26

/-- CORE_PG falls while VDD_CORE is commanded and acknowledged. -/
def State.cmdCorePgFall (s : State) : State :=
  let v := s.get (.domain .coreRegState)
  if (v = 1 ∨ v = 2) ∧ s.domains.corePg then (s.modDomains fun x => { x with corePg := false }).raiseLive 25 v else s

/-- CORE_PG rises again. -/
def State.cmdCorePgRise (s : State) : State := (s.modDomains fun x => { x with corePg := true }).endLive 25

/-- The supplies that SUPPLY_MON watches and that are out of range, in bits 0 VAON, 1 VDDIO, 2 VDDQ, 3 VSERDES. -/
def State.supplyOut (s : State) (n : Nat) : State :=
  let s := { s with path := { s.path with supplies := setBit s.path.supplies n true } }
  s.raiseLive 31 n

/-- SUPPLY_MON stops being live when every supply is back. -/
def State.supplyBack (s : State) (n : Nat) : State :=
  let v := setBit s.path.supplies n false
  let s := { s with path := { s.path with supplies := v } }
  if v = 0 then s.endLive 31 else s

/-- VAON falls below 3.0 V (R280). -/
def State.cmdVaonLow (s : State) : State :=
  let s := if s.isTrue (.pd .tcVbusAonEnable) then { s with path := { s.path with vbusAon := true } } else s
  s.supplyOut 0

/-- VAON has been at or above 3.1 V for 1 ms. -/
def State.cmdVaonRestored (s : State) : State := ({ s with path := { s.path with vbusAon := false } }).supplyBack 0

/-- VDDIO, VDDQ or VSERDES outside ±5 % for 10 µs. -/
def State.cmdSupplyMonitorExcursion (s : State) (n : Fin 3) : State := s.supplyOut (n.val + 1)
def State.cmdSupplyMonitorReturn (s : State) (n : Fin 3) : State := s.supplyBack (n.val + 1)

end Sys2Proof.Machine
end

