-- ==== Sys2Proof/Machine/Boot.lean ====
section
/-! DEFINITION. Start-up (R404 to R412), the firmware banks and their update (R415 to R424), the stored configuration (R350, R420),
attach at the upstream ports (R279, R409), and uncorrectable errors of the on-chip SRAM (R193, R348). -/

namespace Sys2Proof.Machine

def State.modBoot (s : State) (f : BootRt → BootRt) : State := { s with boot := f s.boot }

/-! ### Upstream attach (R20, R159, R279, R409) -/

/-- VBUS in its window with Rp on one CC pin for 10 ms (R279). `rp` is the host's level: 1 Default, 2 1.5 A, 3 3.0 A. -/
def State.cmdUpstreamAttach (s : State) (u : Upstream) (rp : Nat) : State :=
  if s.domainOn 2 ∧ !((s.up u).attached && (s.up u).vbus) then
    let s := s.modUp u fun x => { x with attached := true, vbus := true }
    let s := if (s.up u).presents = .nothing then s else s.setUpSpeed u 2
    let s := s.set (.pd .tcUpstreamRp) (putBits (s.get (.pd .tcUpstreamRp)) (2 * u.num + 1) (2 * u.num) rp)
    (s.endLive (32 + u.num)).showUp u
  else s

/-- Whether the membership is settled (R409): a committed prism's facet is a member, or no link has come up. -/
def State.settled (s : State) : Bool :=
  s.get (.ring .prismOrigin) == 0 || s.get (.ring .ringMemberState) == 2 ||
    ((List.finRange 4).all fun k => s.get (.link k .linkState) != 3)

/-- The pull-ups connect at step 11 of R407. -/
def State.cmdUpstreamPullupConnect (s : State) : State :=
  if s.boot.started ∧ s.boot.waiting ∧ s.settled then
    ((s.modBoot fun b => { b with waiting := false }).showUp .UA).showUp .UB
  else s

/-! ### Starts of the two dies (R404, R406 to R408) -/

/-- The power die's supply rises: it starts with its defaults, unless HUB holds the values it is to run with (R404). -/
def State.cmdPowerDieStart (s : State) : State :=
  let s := s.losePwr
  let s := { s with path := { s.path with temp := none } }
  let s := if s.domainOn 1 ∧ s.boot.started then s else { s with regs := s.regs.filter fun e => e.1.dom != 5 }
  s.domainStarts 5 true

/-- The logic die loses every domain; AON's time and domain records start again. `keep` says what survives of AON. -/
def State.dropLogic (s : State) (keep : Reg → Bool) : State :=
  let s := (((s.loseRing).loseRsv).loseUpl).loseHub
  let s := { s with regs := s.regs.filter fun e => (e.1.dom != 0 && e.1.dom != 6 && e.1.dom != 7) || e.1.kept || keep e.1 }
  let pulsed := keep (.fault .faultStatus) && s.faults.pulsed
  let faults : FaultRt := { gasp := s.faults.gasp, gaspSeq := s.faults.gaspSeq, pulsed := pulsed }
  let s := { s with domains := {}, time := {}, due := [], faults := faults, boot := { s.boot with aonLoaded := false } }
  let pwr := s.domainState 5
  let s := (s.set (.domain .domainState) 0).setDomain 5 pwr
  ((s.set (.domain .coreRegState) 0).setClock false false).drivePins

/-- The fault latch and `LastWakeRecord` keep their contents through RESET_N (R408) (DEDUCED, log 55). -/
def latchKept : Reg → Bool
  | .domain .lastWakeRecord => true
  | .fault .faultFirstSource => true
  | .fault .faultFirstTime => true
  | .fault .faultFirstDetail => true
  | .fault .faultFirstSeverity => true
  | .fault .faultStatus => true
  | .fault .faultLatched => true
  | .fault .faultMerged => true
  | _ => false

/-- A start of the logic die from step 1 (R406, R407): straps are sampled and the domain steps of HUB run (DESIGN CHOICE, log 54). -/
def State.startLogic (s : State) (cause : Nat) : State :=
  let pwr := s.domainState 5
  let s := ({ s with straps := s.pins }).set (.strap .resetCause) cause
  let s := ((s.set (.domain .domainState) 2).setDomain 5 pwr).modBoot fun b => { b with inReset := false }
  s.wakeFor [⟨0, cause, 2, s.now⟩] 0

/-- VAON above 3.1 V for 1 ms with RESET_N high: it clears the latch and `LastWakeRecord` (R408) (DEDUCED, log 55). -/
def State.cmdPowerOn (s : State) : State :=
  if s.domainState 0 = 0 ∧ !s.boot.inReset then (s.dropLogic fun _ => false).startLogic 1 else s

/-- RESET_N low holds every logic-die domain in reset; port VBUS goes off with discharge, the feeds keep running (R408) (DEDUCED, log 55).
-/
def State.cmdResetNLow (s : State) : State :=
  (s.dropLogic latchKept).modBoot fun b => { b with inReset := true }

/-- A rising edge of RESET_N. -/
def State.cmdResetNRise (s : State) : State := if s.boot.inReset then s.startLogic 2 else s

/-- VAON and VBUS_AON both absent (R310, R351): AON and the logic die go off. -/
def State.cmdPowerRemoval (s : State) : State :=
  (s.dropLogic fun _ => false).modBoot fun b => { b with inReset := false }

/-- Fail-safe is released (R338): the logic die starts as from power-on. -/
def State.releaseStart (s : State) : State := (s.dropLogic latchKept).startLogic 3

/-- XO is not stable 10 ms after a start (R407). -/
def State.cmdXoStartTimeout (s : State) : State :=
  if s.domains.wake.any fun w => w.source == 0 then
    let s := s.modDomains fun x => { x with xo := false }
    (s.setClock s.pllEnabled false).raiseLive 26 0
  else s

/-! ### Choosing the firmware (R415 to R419) -/

/-- A bank may be run: its image passes R416 and its count is below 3. -/
def State.bankFits (s : State) (b : Nat) : Bool := s.boot.valid.getD b false && decide (s.boot.fails.getD b 0 < 3)

/-- The entries of the banks. -/
def State.showBanks (s : State) : State :=
  let v := fun (b : Nat) => if s.boot.valid.getD b false then s.boot.versions.getD b 0xFFFFFFFF else 0xFFFFFFFF
  (s.set (.fw (.fwVersion 0)) (v 0)).set (.fw (.fwVersion 1)) (v 1)

/-- The steward is running again: PD policy resumes, and a checkpoint that was due is written (R255, R303). -/
def State.stewardReturns (s : State) : State :=
  let s := if s.boot.started then s.policyReturns else s
  if s.path.due then s.checkpoint else s

/-- The ROM runs bank b: the start is counted, but not after a select by the recovery loader (R417, R419). -/
def State.runBank (s : State) (b : Nat) : State :=
  let n := s.boot.fails.getD b 0 + boolNat s.boot.counted
  let s := s.modBoot fun x => { x with running := true, recovery := false, restart := x.restart && !x.started, counted := true,
                                       fails := x.fails.set b n, gaspSeen := s.faults.gaspSeq }
  let s := ((s.set (.fw .fwRunningBank) b).set (.fw .fwFailedStarts) n).showBanks
  let s := if s.get (.fw .fwUpdateState) = 4 then (s.set (.fw .fwUpdateState) 0).modBoot fun x => { x with owner := none, target := none,
                                                                                                           pages := [] }
    else s
  s.stewardReturns

/-- What SFDP tells of the flash (JESD216, R12, R407 step 6): its ID and its size in KiB. A flash that tells nothing leaves both 0, and
the boot goes on (DESIGN CHOICE, log 99). -/
def State.discoverFlash (s : State) (sfdp : Option (Nat × Nat)) : State :=
  s.modBoot fun x => { x with jedecId := (sfdp.map Prod.fst).getD 0, qspiKiB := (sfdp.map Prod.snd).getD 0 }

/-- The steward boots (R407 steps 6 and 7, R417, R418): `aOk` and `bOk` say whether each bank passes the checks of R416 when it is read,
`sfdp` what the flash tells of itself. (DESIGN CHOICE, log 56) -/
def State.cmdStewardBoot (s : State) (aOk bOk : Bool) (sfdp : Option (Nat × Nat)) : State :=
  if !s.domainOn 1 ∨ s.boot.running ∨ s.boot.inReset ∨ s.faults.safeRun ∨ s.bootSource = 0 then s
  else
    let s := s.discoverFlash sfdp
    let was := s.boot.valid
    let s := s.modBoot fun x => { x with valid := [was.getD 0 false && aOk, was.getD 1 false && bOk] }
    let powerOn := s.get (.strap .resetCause) = 1 ∧ !s.boot.started
    let s := if powerOn ∧ s.boot.gaspSeen ≠ s.faults.gaspSeq then
        s.modBoot fun x => { x with fails := x.fails.set x.bank (x.fails.getD x.bank 0 - 1) }
      else s
    let a := if s.bootSource = 2 then 0 else s.boot.bank
    let o := 1 - a
    let loader := fun (s : State) =>
      (((s.modBoot fun x => { x with running := true, recovery := true,
                                     restart := false }).set (.fw .fwRunningBank) 0xFF).showBanks).drivePins
    if s.bootSource = 1 then loader s
    else if s.bankFits a then
      (s.when (!s.boot.valid.getD o false && was.getD o false) fun s => s.raise 56 o).runBank a
    else
      let s := s.raise 56 a
      if s.bootSource = 3 ∧ s.bankFits o then
        (((s.modBoot fun x => { x with bank := o }).bump (.fw .fwRollbackCount))).runBank o
      else loader (s.when (!s.boot.valid.getD o false && was.getD o false) fun s => s.raise 56 o)

/-- 30 s of running without a watchdog expiry (R417). -/
def State.cmdFwGoodStart (s : State) : State :=
  if s.boot.running ∧ s.boot.started ∧ !s.boot.recovery then
    let b := s.get (.fw .fwRunningBank)
    (s.modBoot fun x => { x with fails := x.fails.set b 0, trial := if b = x.bank then false else x.trial }).set (.fw .fwFailedStarts) 0
  else s

/-- The steward stops to restart with HUB running (R335, R423): an update ends, its bank is left invalid (R424). -/
def State.stewardStops (s : State) : State :=
  let st := s.get (.fw .fwUpdateState)
  let s := if st = 0 ∨ st = 4 then s
    else
      (s.modBoot fun x => { x with valid := (x.target.map fun t => x.valid.set t false).getD x.valid, owner := none, target := none,
                                   pages := [] }).set (.fw .fwUpdateState) 0
  s.modBoot fun x => { x with running := false, restart := true, recovery := false }

/-! ### The stored configuration (R350, R382, R420) -/

/-- The registers of the stored configuration: local and prism-wide commit-class entries, communication objects, and the prism's identity.
(DESIGN CHOICE, log 56) -/
def storedRegs : List Reg :=
  ((localRegs ++ commRegs ++ prismRegs).flatMap fun x => x.2.2.regs) ++
    [.ring .prismId, .ring .prismEpoch, .ring .prismOrigin, .ring .facetIndex] ++
    (List.finRange 16).map fun n => .ring (.prismMembership n)

/-- The live set as a copy: values that differ from their defaults. -/
def State.liveCopy (s : State) (seq : Nat) : Stored :=
  { seq := seq, values := storedRegs.filterMap fun r => if s.committed r = r.default s.ident then none else some (r, s.committed r) }

/-- A store writes the older copy with the next sequence number (R350) (DESIGN CHOICE, log 56). -/
def State.store (s : State) : State :=
  let a := (s.cfg.copyA.map Stored.seq).getD 0
  let b := (s.cfg.copyB.map Stored.seq).getD 0
  let seq := s.get (.commit .configStoreSeq) + 1
  let copy := some (s.liveCopy seq)
  let s := if s.cfg.copyA.isNone ∨ (s.cfg.copyB.isSome ∧ a < b) then { s with cfg := { s.cfg with copyA := copy } }
    else { s with cfg := { s.cfg with copyB := copy } }
  ((s.set (.commit .configStoreSeq) seq).bump (.commit .configStoreCount))

/-- The sector of the copy that a store writes: 64 KiB each from 0x020000 (R413). -/
def State.storeSector (s : State) : Nat :=
  if s.cfg.copyA.isNone ∨ (s.cfg.copyB.isSome ∧ (s.cfg.copyA.map Stored.seq).getD 0 < (s.cfg.copyB.map Stored.seq).getD 0) then 0x020000
  else 0x030000

/-- A local commit's store ends (R379 step 4): flash writes stop with the steward, and the store goes on when it returns (R23) (DEDUCED,
log 104). -/
def State.cmdConfigStoreDone (s : State) (ok : Bool) : State :=
  if s.cfg.storing ∧ s.boot.running then
    let sector := s.storeSector
    let s := { s with cfg := { s.cfg with storing := false } }
    if ok then s.store.set (.commit .configCommitResult) 1
    else
      let s := (s.set (.commit .configCommitResult) 4).raise 57 sector
      s.flag (.doors .doorEvents) doorStoreFail
  else s

/-- A prism commit's store ends (R107 step 5), while the steward runs (R23) (DEDUCED, log 104). A store that fails leaves
`PrismCommitResult` at 3: R111 has no code for it (DESIGN CHOICE, log 97). -/
def State.cmdPrismStoreDone (s : State) (ok : Bool) : State :=
  if s.cfg.prismStore ∧ s.boot.running then
    let sector := s.storeSector
    let s := { s with cfg := { s.cfg with prismStore := false } }
    if ok then s.store.when (s.get (.lock .prismCommitResult) == 3) fun s => s.set (.lock .prismCommitResult) 1
    else (s.raise 57 sector).flag (.doors .doorEvents) doorStoreFail
  else s

/-- The copy that loads: the valid one with the higher sequence number. -/
def newerCopy (a b : Option Stored) : Option Stored :=
  match a, b with
  | some x, some y => if x.seq < y.seq then b else a
  | some _, none => a
  | none, _ => b

/-- The values of a copy become live; those of domains that are not on wait (R358, R420) (DEDUCED, log 58). -/
def State.loadCopy (s : State) (c : Option Stored) : State :=
  let values := (c.map Stored.values).getD []
  let table : Overlay := values.map fun e => (e.1, some e.2)
  let new := storedRegs.map fun r => (r, (Table.get none table r).getD (r.default s.ident))
  let s := if s.boot.restart then s.setLive new else s.setAll new
  { s with staged := [], pstaged := [], parked := [] }.set (.commit .configStoreSeq) ((c.map Stored.seq).getD 0)

/-- A COB-ID that equals its default under the old node ID follows the new one; its other bits stay (R393) (DEDUCED, log 72). -/
def State.followId (s : State) (r : Reg) (base old new : Nat) : State :=
  let v := s.get r
  if v % 2048 = (base + old) % 2048 then s.set r (v - v % 2048 + (base + new) % 2048) else s

/-- The CAN node starts (CiA 301): its node ID and bit rates are fixed, COB-IDs follow, the boot-up message leaves, and it is
Pre-operational (R371, R393). -/
def State.canBoot (s : State) : State :=
  let strap := bitField s.straps 13 7
  let old := s.get (.can .canNodeIdActive)
  let id := if strap = 0 then s.get (.can .canNodeId) else strap
  let s := s.followId (.comm .cobIdEmcy) 0x80 old id
  let s := s.forEach (List.finRange 4) fun s r => s.followId (.rpdo r .cobId) (0x200 + 0x100 * r.val) old id
  let s := s.forEach ((List.finRange 8).take 4) fun s t => s.followId (.tpdo t .cobId) (0x180 + 0x100 * t.val) old id
  let s := (s.set (.can .canNodeIdActive) id).set (.can .canState) 127
  let rates := (s.get (.can .canNominalRate), s.get (.can .canDataRate))
  let s := s.cutReads .can
  let s : State := { s with doors := { s.doors with sdo := none, rpdoHeld := [], tpdoSyncs := [], tpdoTimes := [], nominal := rates.1,
                                                    dataRate := rates.2 } }
  s.sendCan (0x700 + id) [0]

/-- The stored configuration loads (R407 steps 8 to 10, R420, R421): `aOk` and `bOk` say whether each copy passes its checks.
(DESIGN CHOICE, log 56) -/
def State.cmdConfigLoad (s : State) (aOk bOk : Bool) : State :=
  if s.domainOn 1 ∧ s.boot.running ∧ !s.boot.started ∧ !s.boot.recovery then
    let a := if aOk then s.cfg.copyA else none
    let b := if bOk then s.cfg.copyB else none
    let blank := s.cfg.copyA.isNone && s.cfg.copyB.isNone
    let c := newerCopy a b
    let s := (s.loadCopy c).when (c.isNone && !blank) fun s => s.raise 57 0x020000
    let quiet := s.boot.restart
    let s := s.modBoot fun x => { x with started := true, waiting := x.waiting || !quiet, restart := false, aonLoaded := true }
    let s := (s.forEach (s.allPorts.filter fun p => s.wired p) fun s p => s.setPst p 8).drivePins
    let base := if s.get (.time .servoState) = 0 then s.getInt (.time .timeFocalTrim) * 256 else s.storedFreq
    let s := ({ s with time := { s.time with base := base } }).setFreq base
    let s := s.powerCommitted.resumeEnergy
    let s := match s.faults.gasp with
      | some g => ((s.set (.fault .lastGaspRecord) (ofBytesBe g)).bump (.fault .lastGaspCount))
      | none => s
    if quiet then s.stewardReturns else (s.canBoot).wakeFor [⟨0, 0, 0xFC, s.now⟩] 0
  else s

/-! ### Updating the firmware (R416, R419, R422 to R424) -/

/-- Door-side refusals of R363, by the code of each. -/
abbrev fwBusy : Nat := 0x08000020
abbrev fwState : Nat := 0x08000022
abbrev fwRange : Nat := 0x06090030

/-- The image in the bank being updated: unwritten bytes read 0xFF. -/
def State.bankBytes (s : State) (n : Nat) : List Byte :=
  ((List.range ((n + 255) / 256)).flatMap fun k => (Table.get [] s.boot.pages k ++ List.replicate 256 0xFF).take 256).take n

/-- The checks of R416 (DESIGN CHOICE, log 56). -/
def State.imageGood (s : State) : Bool :=
  let h := s.bankBytes 64
  let n := fieldAt h 8 4
  fieldAt h 0 4 == 0x46574354 && fieldAt h 4 4 != 0xFFFFFFFF && decide (1 ≤ n) && decide (n ≤ 458752) && decide (byteAt h 12 ≤ 0x20) &&
    decide (0x20 ≤ byteAt h 13) && fieldAt h 14 2 == 0 && fieldAt h 20 40 == 0 && crc32 (h.take 60) == fieldAt h 60 4 &&
    crc32 ((s.bankBytes (64 + n)).drop 64) == fieldAt h 16 4

/-- A write of `FwUpdateCommand` (R422) (DEDUCED, log 57). -/
def State.writeFwCommand (s : State) (d : Door) (v : Nat) : Nat × State :=
  let st := s.get (.fw .fwUpdateState)
  let other := if s.boot.recovery then s.boot.target else some (1 - s.get (.fw .fwRunningBank))
  if v = 0 ∨ 4 < v then (fwRange, s)
  else if s.boot.owner.any fun o => o != d then (fwState, s)
  else if v = 1 then
    match other with
    | some t =>
      if st = 0 ∨ st = 5 then
        let s := s.modBoot fun x => { x with owner := some d, target := some t, pages := [], eraseCut := false,
                                             valid := x.valid.set t false }
        (0, ((s.set (.fw .fwUpdateState) 1).showBanks).emit (.flash 0x20 (0x100000 * (t + 1)) 0x100000))
      else (fwState, s)
    | none => (fwState, s)
  else
    match s.boot.target with
    | none => (fwState, s)
    | some t =>
      if v = 2 ∧ st = 2 then
        if s.imageGood then
          let s := s.modBoot fun x => { x with valid := x.valid.set t true, versions := x.versions.set t (fieldAt (s.bankBytes 64) 4 4) }
          (0, (s.set (.fw .fwUpdateState) 3).showBanks)
        else (0, (s.set (.fw .fwUpdateState) 5).raise 56 t)
      else if v = 3 ∧ st = 3 then
        let s := s.modBoot fun x => { x with bank := t, trial := true, fails := x.fails.set t 0 }
        (0, s.set (.fw .fwUpdateState) 4)
      else if v = 4 ∧ (st = 1 ∨ st = 2 ∨ st = 3 ∨ st = 5) then
        let s := s.modBoot fun x => { x with valid := x.valid.set t false, owner := none, target := none, pages := [] }
        (0, (s.set (.fw .fwUpdateState) 0).showBanks)
      else (fwState, s)

/-- The sectors of the bank are erased, unless a last-gasp record has ended the erase (R424). -/
def State.cmdFwEraseDone (s : State) : State :=
  if s.get (.fw .fwUpdateState) = 1 ∧ s.boot.running ∧ !s.boot.eraseCut then s.set (.fw .fwUpdateState) 2 else s

/-- Lays data into the pages from page k on. -/
def layPages : Nat → Nat → List Byte → Table Nat (List Byte) → Table Nat (List Byte)
  | 0, _, _, t => t
  | n + 1, k, data, t => layPages n (k + 1) (data.drop 256) (Table.put id [] t k (data.take 256))

/-- A write of `FwUpdateData` (R419, R422) (DEDUCED, log 57). -/
def State.writeFwData (s : State) (d : Door) (offset : Nat) (data : List Byte) : Nat × State :=
  let st := s.get (.fw .fwUpdateState)
  let bankBit := offset / 2 ^ 31 % 2
  let off := offset % 2 ^ 31
  if s.boot.owner.any fun o => o != d then (fwState, s)
  else if s.boot.recovery ∧ data.isEmpty ∧ st = 0 then (0, s.modBoot fun x => { x with target := some bankBit })
  else if s.boot.recovery ∧ s.boot.target ≠ some bankBit then (fwState, s)
  else if !s.boot.recovery ∧ bankBit = 1 then (fwRange, s)
  else if st ≠ 2 then (fwState, s)
  else if s.cfg.storing ∨ s.cfg.prismStore then (fwBusy, s)
  else if off % 256 ≠ 0 ∨ 0x100000 < off + data.length then (fwRange, s)
  else
    let first := off / 256
    let n := (data.length + 255) / 256
    if (List.range n).any fun k => (Table.get [] s.boot.pages (first + k)) != [] then (fwState, s)
    else (0, s.modBoot fun x => { x with pages := layPages n first data x.pages })

/-- 100 ms after a select the steward restarts into the new bank; a store that runs goes first (R423, R424). -/
def State.cmdFwSelectRestart (s : State) : State :=
  if s.get (.fw .fwUpdateState) = 4 ∧ s.boot.running ∧ !s.cfg.storing ∧ !s.cfg.prismStore then
    let loader := s.boot.recovery
    (s.stewardStops).modBoot fun x => { x with counted := !loader }
  else s

/-! ### Uncorrectable SRAM errors (R193, R194, R348) -/

/-- What an error damages (DESIGN CHOICE, log 59). -/
def State.sramDamage (s : State) (hit : SramHit) : State :=
  match hit with
  | .stream n off => s.damageStream n.val off
  | .cell i a e dirIn =>
    let r := s.relayEp i a e dirIn
    ((s.setRelayEp i a e dirIn { r with held := [], stored := [], errorOnce := true }).bump (.relay .relayErrorCount)).flag
      (.relay .relayEvents) relayError
  | .table i a => s.modDevice i a fun d => { d with endpoints := [] }
  | .split p a e dirIn =>
    s.modPort p fun x => { x with tt := { x.tt with pipeline := [], results := [], buffers := [], staging := [],
                                                    done := [⟨a, e, dirIn, .badPid⟩] } }
  | .lens => s.set (.lens .lensReadPtr) (s.get (.lens .lensWritePtr))
  | .steward => s.stewardStops
  | .staged idx sub =>
    match entryAt idx sub with
    | some e => { s with cfg := { s.cfg with lost := e.regs.filter fun r => (Table.get none s.staged r).isSome } }
    | none => s
  | .record i m => (s.setRecord i m {}).when (!s.alone) State.fetchRecords
  | .other => s

/-- An uncorrectable error of a bank: counted, raised, and its damage treated (DESIGN CHOICE, log 38). -/
def State.cmdSramUncorrectableError (s : State) (bank : Fin 22) (hit : SramHit) : State :=
  let s := { s with faults := { s.faults with hit := hit } }
  (((s.bump (.res (.sramUeCount bank))).flag (.res .resEvents) resSramUe).raise 51 bank.val).sramDamage hit

end Sys2Proof.Machine
end

