-- ==== Sys2Proof/Machine/Faults.lean ====
section
/-! DEFINITION. The fault system (R332 to R349): raises, the first-source latch, FAULT_N, EMCY messages and notifications, the
reactions S2 to S5 and their windows, the last-gasp record (R352 to R354), and what ends a command's step (`State.after`). -/

namespace Sys2Proof.Machine

def State.modFaults (s : State) (f : FaultRt → FaultRt) : State := { s with faults := f s.faults }

/-! ### FAULT_N (R345) -/

/-- FAULT_N is low. -/
def State.faultLow (s : State) : Bool := s.level .faultN == .low

/-- The pin after a change, driven when its level differs from `was`. -/
def State.driveFaultN (s : State) (was : Bool) : State :=
  if s.faultLow = was then s else s.emit (.pin .faultN (s.level .faultN))

/-! ### EMCY and notifications (R346, R347, R370) -/

/-- EMCY error code and error register bit of a source (R346). -/
def emcyClass (n : Nat) : Nat × Nat :=
  if n < 16 ∨ n = 22 then (0x2300, 1)
  else if n = 18 then (0x2100, 1)
  else if n = 16 ∨ n = 17 then (0x3100, 2)
  else if n = 23 ∨ n = 24 ∨ n = 25 ∨ n = 31 then (0x3200, 2)
  else if n = 29 ∨ n = 30 then (0x4200, 3)
  else if n ≤ 28 ∨ (48 ≤ n ∧ n ≤ 54) then (0x5000, 0)
  else if 55 ≤ n ∧ n ≤ 58 then (0x6000, 0)
  else if 32 ≤ n ∧ n ≤ 47 then (0x8100, 4)
  else if n = 59 then (0x8140, 4)
  else (0xFF00, 7)

/-- Object 1001h: the bits of the sources announced and not yet over; bit 0 while any bit is set (R393) (DEDUCED, log 62). -/
def State.showErrors (s : State) : State :=
  let on := (List.range 64).filter fun n => s.faults.noteSent.testBit n
  let v := on.foldl (fun v n => setBit v (emcyClass n).2 true) 0
  s.set (.comm .errorRegister) (if v = 0 then 0 else v ||| 1)

/-- Queues an EMCY message: the queue holds 32, and drops the oldest when full (DEDUCED, log 62). -/
def State.queueEmcy (s : State) (m : Emcy) : State :=
  if (s.get (.comm .cobIdEmcy)).testBit 31 then s
  else if s.faults.emcy.length < 32 then s.modFaults fun f => { f with emcy := f.emcy ++ [m] }
  else
    (s.modFaults fun f => { f with emcy := f.emcy.drop 1 ++ [m], emcyLost := f.emcyLost + 1 }).bump (.fault .emcyLostCount)

/-- The notification of R370. -/
def State.note (s : State) (kind item value detail : Nat) : List Byte :=
  [byteOf kind, byteOf s.ownIndex, byteOf item, byteOf value] ++ bytesBe 4 detail ++ bytesBe 4 s.now ++
    bytesBe 4 (s.get (.fault .faultStatus))

/-- Queues a notification on EP2 IN of the function behind an upstream: 32 at most, the oldest dropped and counted. -/
def State.queueNote (s : State) (u : Upstream) (b : List Byte) : State :=
  if (s.mgmtFn u).isNone then s
  else if (s.up u).notes.length < 32 then s.modUp u fun x => { x with notes := x.notes ++ [b] }
  else (s.modUp u fun x => { x with notes := x.notes.drop 1 ++ [b], lost := x.lost + 1 }).bump (.doors .notifyLostCount)

/-- A fault notification reaches the functions of this facet and the entry facets of the images that map a port of it (R347).
(DEDUCED, log 62) -/
def State.postNote (s : State) (b : List Byte) : State :=
  let s := (s.queueNote .UA b).queueNote .UB b
  if s.alone then s
  else
    s.forEach (List.finRange 4) fun s i =>
      if s.enabled i ∧ !s.entryHere i ∧ s.ownPorts i ≠ [] then s.sendIndex (s.entryFacet i) 7 i.val 0 (.door .ring (.notice b)) else s

/-- A raise is announced: EMCY and notification (DEDUCED, log 62). -/
def State.announce (s : State) (n sev detail : Nat) : State :=
  let s := (s.modFaults fun f => { f with noteSent := setBit f.noteSent n true }).showErrors
  let off := (s.get (.comm .cobIdEmcy)).testBit 31
  let s := s.queueEmcy { code := (emcyClass n).1, register := s.get (.comm .errorRegister), source := n, severity := sev,
                         first := s.get (.fault .faultFirstSource) == n, detail := detail }
  (s.modFaults fun f => { f with emcySent := setBit f.emcySent n !off }).postNote (s.note 1 n sev detail)

/-- The severity of a source: in the cycle of a commit of it, the one before (R349) (DESIGN CHOICE, log 82). -/
def State.severity (s : State) (n : Nat) : Nat :=
  match s.faults.sevWas.filter fun e => e.1 == s.time.elapsed with
  | some e => e.2.getD n 0
  | none => if h : n < 64 then s.get (.fault (.faultSeverity ⟨n, h⟩)) else 0

/-- A source is no longer live (R346, R347) (DEDUCED, log 62). -/
def State.sourceOver (s : State) (n : Nat) : State :=
  let sev := s.severity n
  let detail := Table.get 0 s.faults.details n
  let emcy := s.faults.emcySent.testBit n
  let note := s.faults.noteSent.testBit n
  let s := (s.modFaults fun f => { f with emcySent := setBit f.emcySent n false, noteSent := setBit f.noteSent n false }).showErrors
  let s := if emcy then
      s.queueEmcy { code := 0, register := s.get (.comm .errorRegister), source := n, severity := sev,
                    first := s.get (.fault .faultFirstSource) == n, detail := detail }
    else s
  let s := if note then s.postNote (s.note 2 n sev detail) else s
  s.lensFault n sev 2 detail

/-! ### The units (R335) -/

/-- A unit with an action at S2 (DEDUCED, log 64). -/
def FaultUnit.isolates : FaultUnit → Bool
  | .port _ => true
  | .feed _ => true
  | .coll => true
  | .pmb => true
  | .up _ => true
  | .image _ m => m != 0
  | .link _ => true
  | .time => true
  | .res => true
  | .can => true
  | .door _ => true
  | _ => false

/-- A unit with an action at S3 (DEDUCED, log 64). -/
def FaultUnit.resets : FaultUnit → Bool
  | .port _ => true
  | .feed _ => true
  | .coll => true
  | .pmb => true
  | .up _ => true
  | .image _ _ => true
  | .link _ => true
  | .ring => true
  | .time => true
  | .res => true
  | .steward => true
  | .can => true
  | _ => false

/-- The domains a unit lies in. -/
def State.domainsOf (s : State) : FaultUnit → List Nat
  | .port p => [5, s.portDomain p]
  | .feed _ => [5]
  | .coll => [5]
  | .pmb => [5]
  | .up _ => [2]
  | .link _ => [6]
  | .ring => [6]
  | .res => [7]
  | _ => [1]

/-- Every domain of a unit is on (R349). -/
def State.unitOn (s : State) (u : FaultUnit) : Bool := (s.domainsOf u).all fun d => s.domainOn d

/-- A logical port reports not connected, or connected again: its device stays powered (R335, R139). -/
def State.changeImagePort (s : State) (i : Image) (m : Nat) : State :=
  match s.place i m with
  | .remote _ _ =>
    let x := s.remotePort i m
    let s := if x.status.testBit psConn then s.setRemotePort i m { x with change := setBit x.change psConn true } else s
    (s.dropRelay i m).dropEntries i m
  | .own p => (s.dropOwn p).when (s.ps p psConn) fun s => s.setPc p psConn
  | _ => s

/-- S2: the unit is disabled (DEDUCED, log 64). -/
def State.isolate (s : State) (u : FaultUnit) : State :=
  match u with
  | .port p => s.powerOff p
  | .feed x => s.stopFeed x
  | .coll => s.forEach s.allPorts fun s p => s.powerOff p
  | .up u => ((s.present u .nothing).modUp u fun x => { x with disabled := true }).emit (.up u .rdOff)
  | .image i m => s.changeImagePort i m
  | .link k => (s.linkDown k 5).afterRoutes
  | .can => { s.cutReads .can with doors := { s.doors with canOff := true, sdo := none } }
  | .door d => { s with doors := { s.doors with shut := setBit s.doors.shut d true } }
  | _ => s

/-- A disabled unit returns (DEDUCED, log 64). -/
def State.unitBack (s : State) (u : FaultUnit) : State :=
  if s.unitHeld u then s
  else
    match u with
    | .port p => s.set (.tc p .tcState) (if s.get (.tc p .tcState) = 0 then s.tcIdle p else s.get (.tc p .tcState))
    | .feed _ => s.feedsRefresh
    | .up u => ((s.modUp u fun x => { x with disabled := false }).emit (.up u .rdOn)).showUp u
    | .image i m => s.changeImagePort i m
    | .link k => if s.get (.link k .linkState) = 5 then (s.showLinkState k 0).cmdLinkTrainingStart k else s
    | .can => { s with doors := { s.doors with canOff := false } }
    | .door d => { s with doors := { s.doors with shut := setBit s.doors.shut d false } }
    | _ => s

/-- The relay engines of an image leave what they were doing; R134 recovers it (R335). -/
def State.resetRelay (s : State) (i : Image) : State :=
  let relay := fun (x : Xact) => match x.who with
    | .relay j _ _ => j == i.val
    | _ => false
  let mine := fun (k : OwnKey) => (s.logicalOf k.1).any fun q => q.1 == i
  { s with ownEps := s.ownEps.map fun e => if mine e.1 then (e.1, { e.2 with jobs := [], running := false }) else e,
           waiting := s.waiting.filter fun x => !relay x,
           engine := s.engine.filter fun e => !e.2.any relay }

/-- S3: the unit is reset (DEDUCED, log 64). -/
def State.resetUnit (s : State) (u : FaultUnit) (source : Nat) : State :=
  match u with
  | .port p => (s.powerOff p).modPort p fun x => { x with tt := {} }
  | .feed x => s.stopFeed x
  | .coll => (s.openFeed .A).stopFeed .B
  | .pmb => s.forEach s.allPorts fun s p => s.regulatorInit p
  | .up u => (s.present u .nothing).modUp u fun x => { x with disabled := true }
  | .image i _ => s.resetRelay i
  | .link k =>
    let s := if 3 ≤ s.get (.link k .linkState) then (s.linkDown k 0).afterRoutes else s.showLinkState k 0
    s.cmdLinkTrainingStart k
  | .ring => ((s.loseRing).setDomain 6 0).wakeFor [⟨0, 0, 0x40, s.now⟩] 0
  | .time =>
    let s := (s.set (.time .servoState) (if s.get (.time .servoState) = 0 then 0 else 1)).set (.pps .ppsInState) 1
    { s with time := { s.time with ppsEdges := [], good := 0, bad := 0 } }
  | .res =>
    let s := s.forEach (s.streams.map Prod.fst) fun s n => if (s.stream n).current.isSome then s.truncateRecord n else s
    let s := ({ s with arb := [] }).set (.arb .arbFreezeState) (if s.get (.arb .arbFreeze) = 1 then 2 else 0)
    if s.get (.res .reservoirDramState) = 2 then s.setDramState 3 else s
  | .steward =>
    let s := (s.stewardStops).set (.strap .resetCause) 5
    if source = 55 then s.modBoot fun x => { x with started := false } else s
  | .can => ({ s.cutReads .can with doors := { s.doors with canOff := true, busOff := false, sdo := none } }).set (.can .canState) 0
  | _ => s

/-- What an S3 reaction brings back when it completes. -/
def State.resetDone (s : State) (u : FaultUnit) : State :=
  match u with
  | .up u => if s.unitHeld (.up u) then s else (s.modUp u fun x => { x with disabled := false }).showUp u
  | .can => if s.unitHeld .can then s else ({ s with doors := { s.doors with canOff := false } }).canBoot
  | .res => (if s.get (.res .reservoirDramState) = 3 ∧ s.domainOn 7 then s.setDramState 2 else s).lensDrain
  | _ => s

/-- Whether an S3 reaction's unit is back as R335 gives for it (DEDUCED, log 63). -/
def State.resetOver (s : State) (u : FaultUnit) : Bool :=
  match u with
  | .link k => s.get (.link k .linkState) != 2
  | .ring => s.domainOn 6
  | .steward => s.boot.running && s.boot.started
  | _ => true

/-! ### Windows (R342) -/

/-- The sources that a completed reaction keeps merged for its window. Those of a port are its own. -/
def Reaction.window (r : Reaction) (n detail : Nat) : Bool :=
  if r.level = 5 then n != 30
  else if r.level = 4 then n == 34 || n == 39 || n == 44 || n == 45
  else
    match r.unit with
    | .port p => n == p.val || ((n == 21 || n == 22 || n == 36 || n == 37) && portUnit detail == .port p)
    | .feed _ => (decide (16 ≤ n) && decide (n ≤ 20)) || n == 31
    | .coll => (decide (16 ≤ n) && decide (n ≤ 20)) || n == 31
    | .pmb => r.level == 3 && (decide (n < 16) || n == 24)
    | .up _ => n == 32 || n == 33 || n == 34
    | .image _ _ => n == 37 || n == 38 || n == 39
    | .link _ => decide (39 ≤ n) && decide (n ≤ 46)
    | .ring => decide (39 ≤ n) && decide (n ≤ 46)
    | .res => n == 48 || n == 49 || n == 52 || n == 53 || n == 54
    | .steward => r.level == 3 && (n == 23 || n == 24 || n == 45 || n == 55 || n == 57 || n == 59)
    | .can => n == 59
    | _ => false

/-! ### Fail-safe (R337, R338) -/

/-- The facet enters fail-safe: port power and VCONN off, the domains down, HUB's blocks held in reset, the ROM monitor.
(DESIGN CHOICE, log 65) -/
def State.enterSafe (s : State) : State :=
  if s.get (.fault .faultSafeState) = 1 then s
  else
    let was := s.faultLow
    let s := ((s.set (.fault .faultSafeState) 1).flag (.fault .faultStatus) faultSafe).modFaults fun f => { f with safeRun := true }
    let s := s.driveFaultN was
    let s := s.forEach s.allPorts fun s p => s.powerOff p
    let s := s.forEach ([2, 3, 4, 6].filter fun d => s.hasDomain d && decide (0 < s.domainState d)) fun s d => (s.lose d).setDomain d 0
    let s := if s.domainOn 7 then (s.retain 7).setDomain 7 1 else s
    let s := if s.lens.armed then
        ((({ s with lens := { s.lens with armed := false } }).set (.provoke .provokeState) 0).flag (.lens .lensEvents)
          lensProvokeDisarmed).endLive 61
      else s
    let s := { s with hubs := [], embs := [], remote := [], xlate := [], devices := [], holds := [], slots := [], engine := [],
                      waiting := [],
                      relayEps := [], ownEps := [], splits := [], doors := {}, staged := [], pstaged := [],
                      domains := { s.domains with wake := none, sleeping := 0, latched := [] } }
    (s.stewardStops).modBoot fun x => { x with started := false, restart := false }

/-- A write of `FaultSafeRelease` (R338) (DEDUCED, log 55). -/
def State.writeSafeRelease (s : State) (v : Nat) : Nat × State :=
  if v ≠ 0xA5 then (abortRange, s)
  else if s.get (.fault .faultSafeState) = 0 then (0, s)
  else if (List.range 64).any fun n => s.live n && s.severity n == 5 then (abortState, s)
  else (0, s.releaseStart)

/-! ### Reactions (R334 to R336, R341 to R344) -/

/-- The images that S4 names for a source (R336) (DEDUCED, log 63). -/
def State.handImages (s : State) (n detail : Nat) : List Image :=
  (List.finRange 4).filter fun i =>
    if n = 32 ∨ n = 33 then detail.testBit i.val
    else if n = 34 then detail % 4 == i.val
    else if n = 35 ∨ n = 38 ∨ n = 39 then detail / 256 % 4 == i.val
    else if n = 36 ∨ n = 37 then ((portNumber detail).bind fun p => s.logicalOf p).any fun q => q.1 == i
    else s.entryHere i

/-- Armed images go into hold-over with cause 5, and an adopting one returns to it (R147, R171); those in hold-over or dormant stay as
they are. -/
def State.handOff (s : State) (l : List Image) : State × List Image :=
  let go := l.filter fun i => s.armed i && s.holdState i != 0 && (decide (s.holdState i ≤ 3) || s.holdState i == 6)
  let t := s.forEach go fun s i => s.hostLoss i 5
  (t, go.filter fun i => t.holdState i == 4 && s.holdState i != 6)

/-- Starts a reaction of severity 2 to 4 (R334 to R336, R344) (DEDUCED, log 60). -/
def State.react (s : State) (n sev detail : Nat) : State :=
  let u := unitOf n detail s.faults.hit
  let now := s.elapsedMs
  let recent := s.faults.resets.filter fun e => decide (now < e.2 + 10000)
  let s := s.modFaults fun f => { f with resets := recent }
  let often := decide (3 ≤ (recent.filter fun e => e.1 == u).length)
  let up := sev == 3 && u.resets && often && s.unitOn u
  let s := if up then
      ((s.bump (.fault .faultEscalateCount)).flag (.fault .faultStatus) faultEscalated).lensFault n sev 5 detail
    else s
  let run := fun (s : State) (level : Nat) (waits : List Image) =>
    s.modFaults fun f =>
      { f with running := some { source := n, severity := if up then 4 else sev, level := level, unit := u, detail := detail,
                                                    waits := waits } }
  let low := fun (s : State) (sev : Nat) =>
    if sev = 3 ∧ u.resets then
      (if s.unitOn u then run ((s.modFaults fun f => { f with resets := f.resets ++ [(u, now)] }).resetUnit u n) 3 [] else s)
    else if u.isolates then
      let s := (s.modFaults fun f => { f with held := if f.held.contains (n, u) then f.held else f.held ++ [(n, u)] }).setRegBit
        (.fault .faultUnitsDisabled) n true
      run (if s.unitOn u then s.isolate u else s) 2 []
    else if n = 61 then { s with lens := { s.lens with armed := false } }
    else s
  if sev = 4 ∨ up then
    let r := s.handOff (s.handImages n detail)
    let named := decide (32 ≤ n) && decide (n ≤ 39)
    if named then
      if (s.handImages n detail).any fun i => s.armed i then (if r.2.isEmpty then r.1 else run r.1 4 r.2) else low s 3
    else if s.alone then (if r.2.isEmpty then r.1 else run r.1 4 r.2)
    else run (r.1.withdraw (some n)) 4 r.2
  else low s sev

/-- The latch (R339): the first source that takes part is latched, a later one sets OVERFLOW unless it is merged (DEDUCED, log 61). -/
def State.latch (s : State) (n sev detail : Nat) (merged : Bool) : State :=
  if sev < s.get (.fault .faultLatchLevel) then s
  else if s.get (.fault .faultFirstSource) = 0xFF then
    ((((s.set (.fault .faultFirstSource) n).set (.fault .faultFirstTime) s.now).set (.fault .faultFirstDetail) detail).set
      (.fault .faultFirstSeverity) sev).flag (.fault .faultStatus) faultFirst
  else if merged then s else s.flag (.fault .faultStatus) faultOverflow

/-- A source is merged: counted and shown (R341) (DEDUCED, log 61). -/
def State.mergeMark (s : State) (n sev detail : Nat) : State :=
  (((s.setRegBit (.fault .faultMerged) n true).bump (.fault .faultMergedCount)).flag (.fault .faultStatus) faultMergedFlag).lensFault
    n sev 3 detail

/-- The reaction into which a raise is merged while reactions run: the one that ran before this cycle (DEDUCED, log 61). -/
def mergeInto (prior : Option Reaction) (windows : List Reaction) (n detail : Nat) : Bool :=
  prior.isSome || windows.any fun w => w.window n detail

/-- A raise in the cycle of a latch clear: the clear was stale, and is undone (R349) (DESIGN CHOICE, log 82). -/
def State.unclear (s : State) : State :=
  match s.faults.cleared.filter fun x => x.at_ == s.time.elapsed with
  | none => s
  | some x =>
    let s := (((s.set (.fault .faultFirstSource) x.source).set (.fault .faultFirstTime) x.time).set (.fault .faultFirstDetail) x.detail).set
      (.fault .faultFirstSeverity) x.severity
    let s := ((s.set (.fault .faultMerged) (s.get (.fault .faultMerged) ||| x.merged)).set (.fault .faultLatched)
      (s.get (.fault .faultLatched) ||| x.latched)).set (.fault .faultStatus) (s.get (.fault .faultStatus) ||| (x.status % 64))
    let s := s.modFaults fun f => { f with cleared := none, pulsed := f.pulsed || x.pulsed }
    (s.bump (.doors .staleClearCount)).flag (.doors .doorEvents) doorStaleClear

/-- One raise (R333, R339, R341, R345). `prior` is the reaction that ran when the cycle began (DEDUCED, log 60). -/
def State.raiseOne (s : State) (prior : Option Reaction) (n detail : Nat) : State :=
  if h : n < 64 then
    let s := s.unclear
    let detail := detail % 2 ^ 32
    let sev := s.severity n
    let s := (s.bump (.fault (.faultSourceCount ⟨n, h⟩))).setRegBit (.fault .faultLatched) n true
    let s := s.set (.fault .faultStatus) (putBits (s.get (.fault .faultStatus)) 31 24 (eventSeq (s.get (.fault .faultStatus)) + 1))
    let s := (s.modFaults fun f => { f with details := Table.put id 0 f.details n detail }).lensFault n sev 1 detail
    let s := if s.get (.fault .faultPulseLevel) ≤ sev ∧ !s.faults.pulsed then
        let was := s.faultLow
        ((s.modFaults fun f => { f with pulse := true, pulsed := true }).flag (.fault .faultStatus) faultPulsed).driveFaultN was
      else s
    if sev = 5 then
      let s := (s.latch n sev detail false).announce n sev detail
      (s.modFaults fun f =>
        { f with safe := some { source := n, severity := 5, level := 5, unit := .nothing, detail := detail } }).enterSafe
    else if prior.any fun r => decide (r.severity < sev) then
      let s := ((s.mergeMark n sev detail).latch n sev detail true).flag (.fault .faultStatus) faultOverflow
      s.modFaults fun f => { f with higher := f.higher ++ [⟨n, sev, detail, true⟩] }
    else if prior.isSome then
      let add := fun (r : Reaction) => { r with merged := r.merged ++ [(n, detail)] }
      ((s.mergeMark n sev detail).latch n sev detail true).modFaults fun f =>
        if f.running.isSome then { f with running := f.running.map add } else { f with safe := f.safe.map add }
    else if s.faults.windows.any fun w => w.window n detail then
      let add := fun (l : List Reaction) => match l.span fun w => !w.window n detail with
        | (a, w :: b) => a ++ { w with merged := w.merged ++ [(n, detail)] } :: b
        | (a, []) => a
      ((s.mergeMark n sev detail).latch n sev detail true).modFaults fun f => { f with windows := add f.windows }
    else
      let s := s.latch n sev detail false
      let s := if sev = 0 then s else s.announce n sev detail
      if sev < 2 ∨ s.faults.safeRun then s
      else if s.faults.running.isNone then s.react n sev detail
      else s.modFaults fun f => { f with higher := f.higher ++ [⟨n, sev, detail, false⟩] }
  else s

/-- Raises of one cycle: the highest severity is first, among equals the lower number (R339). An event is live for the cycle only.
(DEDUCED, log 60) -/
def State.raiseAll (s : State) (l : List (Nat × Nat)) : State :=
  let prior := s.faults.running.orElse fun _ => s.faults.safe
  let order := sortBy (fun a b => decide (s.severity b.1 < s.severity a.1) || (s.severity a.1 == s.severity b.1 && decide (a.1 ≤ b.1))) l
  let s := s.forEach order fun s x => s.raiseOne prior x.1 x.2
  s.forEach ((order.map Prod.fst).dedup.filter fun n => !s.live n) fun s n => s.sourceOver n

/-- Raises again the merged sources that are still live (R343). -/
def State.raiseAgain (s : State) (l : List (Nat × Nat)) : State :=
  { s with due := s.due ++ (l.filter fun x => s.live x.1).map fun x => .raised x.1 x.2 }

/-- A reaction has completed: its window opens, waiting reactions run, merged sources outside the window that are still live are
raised (R341 to R343) (DEDUCED, log 60). -/
def State.reactionEnds (s : State) (r : Reaction) : State :=
  let s := s.lensFault r.source r.severity 4 r.detail
  let inside := r.merged.filter fun x => r.window x.1 x.2
  let outside := r.merged.filter fun x => !r.window x.1 x.2
  let opens := (List.range 64).any fun n => r.window n (Table.get 0 s.faults.details n) || r.window n r.detail
  let s := if opens then s.modFaults fun f => { f with windows := f.windows ++ [{ r with merged := inside }] } else s
  let s := match s.faults.higher with
    | [] => s
    | x :: rest =>
      if s.faults.running.isSome then s
      else
        let s := s.modFaults fun f => { f with higher := rest }
        let s := if x.late then s.announce x.source x.severity x.detail else s
        if s.faults.safeRun then s else s.react x.source x.severity x.detail
  s.raiseAgain outside

/-- S4's hold-over images have sent their first hold-over SOF, and a withdrawal has ended (R336). -/
def State.handedOver (s : State) (r : Reaction) : Bool :=
  (r.waits.all fun i => s.holdState i != 4 || (s.hold i).boundary != 0) && !s.ring.withdrawing

/-- The end of a reaction (R334, R335) (DEDUCED, log 63). -/
def State.cmdFaultReactionComplete (s : State) : State :=
  match s.faults.safe with
  | some r => (s.modFaults fun f => { f with safe := none }).reactionEnds r
  | none =>
    match s.faults.running with
    | none => s
    | some r =>
      let isOver := if r.level = 4 then s.handedOver r else if r.level = 3 then s.resetOver r.unit else true
      if isOver then
        let s := s.modFaults fun f => { f with running := none }
        (if r.level = 3 then s.resetDone r.unit else s).reactionEnds r
      else s

/-- The oldest window ends (R343) (DEDUCED, log 61). -/
def State.cmdReactionWindowEnd (s : State) : State :=
  match s.faults.windows with
  | [] => s
  | w :: rest => (s.modFaults fun f => { f with windows := rest }).raiseAgain w.merged

/-- `FaultPulseWidth` ends (R345). -/
def State.cmdFaultPulseEnd (s : State) : State :=
  let was := s.faultLow
  (s.modFaults fun f => { f with pulse := false }).driveFaultN was

/-! ### Writes of the fault entries (R335, R338, R340, R345) -/

/-- A write of `FaultNControl`. -/
def State.writeFaultN (s : State) (v : Nat) : State :=
  let was := s.faultLow
  (s.set (.fault .faultNControl) v).driveFaultN was

/-- A write of `FaultUnitRelease` (R335). -/
def State.writeUnitRelease (s : State) (n : Nat) : Nat × State :=
  if s.live n then (abortState, s)
  else
    let units := (s.faults.held.filter fun e => e.1 == n).map Prod.snd
    let s := (s.modFaults fun f => { f with held := f.held.filter fun e => e.1 != n }).setRegBit (.fault .faultUnitsDisabled) n false
    (0, s.forEach units fun s u => s.unitBack u)

/-- A write of `FaultSoftRaise` (R332). -/
def State.writeSoftRaise (s : State) (v : Nat) : State := s.raise 63 v

/-- A clear of `FaultStatus` that carries the current sequence number (R340, R356) (DESIGN CHOICE, log 65). -/
def State.clearFaultStatus (s : State) (w : Nat) : State :=
  let v := s.get (.fault .faultStatus)
  let r := fun (x : FaultReg) => s.get (.fault x)
  let was : LatchSave := ⟨s.time.elapsed, r .faultFirstSource, r .faultFirstTime, r .faultFirstDetail,
    r .faultFirstSeverity, r .faultMerged,
    r .faultLatched, v, s.faults.pulsed⟩
  let s := s.modFaults fun f => { f with cleared := some was }
  let names := if s.get (.fault .faultSafeState) = 1 then setBit w faultSafe false else w
  let first := w.testBit faultFirst && v.testBit faultFirst
  let s := s.set (.fault .faultStatus) (eventClear v (names % 64))
  if first then
    let live := s.get (.fault .faultLatched) &&& s.get (.fault .faultLive)
    (((s.set (.fault .faultFirstSource) 0xFF).set (.fault .faultMerged) 0).set (.fault .faultLatched) live).modFaults fun f =>
      { f with pulsed := false }
  else s

/-! ### EMCY on the bus (R346) -/

/-- The message that leaves for a queued EMCY (DEDUCED, log 62). -/
def Emcy.bytes (m : Emcy) : List Byte :=
  bytesLe 2 m.code ++ [byteOf m.register, byteOf m.source, byteOf (m.severity + 8 * boolNat m.first)] ++ bytesLe 3 m.detail

/-- A queued EMCY is sent when the inhibit time of object 1015h allows and the services run; a loss report goes first. -/
def State.cmdEmcySend (s : State) : State :=
  let cob := s.get (.comm .cobIdEmcy)
  let free := s.doors.emcyTime.all fun t => decide (t + s.get (.comm .inhibitEmcy) * 240000 ≤ s.time.elapsed)
  if !s.canRuns || !free then s
  else
    let sent := fun (s : State) (b : List Byte) =>
      ({ s with doors := { s.doors with emcyTime := some s.time.elapsed } }).sendCan (cob % 2048) b
    if s.faults.emcyLost ≠ 0 then
      let b := bytesLe 2 0xFF00 ++ [byteOf (s.get (.comm .errorRegister)), 0xFF, 0] ++ bytesLe 3 s.faults.emcyLost
      sent (s.modFaults fun f => { f with emcyLost := 0 }) b
    else
      match s.faults.emcy with
      | [] => s
      | m :: rest => sent (s.modFaults fun f => { f with emcy := rest }) m.bytes

/-- The controller enters bus-off with a transmit error count (R371, R332). -/
def State.cmdCanBusOff (s : State) (errors : Nat) : State :=
  if s.domainOn 1 ∧ !s.doors.canOff ∧ !s.doors.busOff then
    (({ s.cutReads .can with doors := { s.doors with busOff := true, sdo := none } }).bump (.can .canBusOffCount)).raiseLive 59 errors
  else s

/-- 128 occurrences of 11 recessive bits: the controller recovers and sends its EMCY (R346, R371). -/
def State.cmdBusOffRecovery (s : State) : State :=
  if s.doors.busOff then (({ s with doors := { s.doors with busOff := false } }).cmdEmcySend).endLive 59 else s

/-! ### The watchdog and the temperature (R332, R455) -/

/-- The steward watchdog expires. -/
def State.cmdStewardWatchdogExpiry (s : State) : State := if s.domainOn 1 ∧ s.boot.running then s.raise 58 0 else s

/-- THERM_WARN is told once to the partner of every Source port in an explicit contract (R260). -/
def State.warnPartners (s : State) : State :=
  s.forEach s.allPorts fun s p => if (s.tc p).source && (s.tc p).explicit then s.queueAms p .alert else s

/-- A die's sensor converts: `power` names the power die, the reading is in 0.1 °C (DEDUCED, log 66). -/
def State.cmdTemperatureConversion (s : State) (power : Bool) (reading : Int) : State :=
  let s := if power then { s with path := { s.path with temp := some reading } } else s.modDomains fun x => { x with temp := some reading }
  if !s.domainOn 1 then s
  else
    let hot : Int := match s.domains.temp, s.path.temp with
      | some a, some b => max a b
      | some a, none => a
      | none, some b => b
      | none, none => reading
    let s := s.setInt (.fault .dieTemperature) hot
    let detail := ofSigned 32 hot
    let warm := decide (s.getInt (.fault .thermWarnLevel) < hot)
    let s := if warm ∧ !s.live 29 then s.warnPartners else s
    (s.liveIf 29 detail (decide (s.getInt (.fault .thermWarnLevel) < hot))).liveIf 30 detail
      (decide (s.getInt (.fault .thermCritLevel) < hot))

/-! ### The last-gasp record (R352, R354) -/

/-- The record of R354; `pathState` is `PowerPathState` before the trigger. -/
def State.gaspRecord (s : State) (pathState : Nat) : List Byte :=
  let mv := fun (c : Channel) => s.get (.chan c .chanVoltage) % 65536
  let hold := (List.finRange 4).foldl (fun v (i : Image) => v + s.holdState i % 8 * 8 ^ i.val) 0
  let b := bytesBe 2 0x4C47 ++ bytesBe 2 (s.faults.gaspSeq + 1) ++ bytesBe 4 s.now ++ bytesBe 4 (s.get (.time .timeWrapCount)) ++
    [byteOf (s.get (.fault .faultFirstSource)), byteOf (s.get (.fault .faultFirstSeverity)), byteOf (s.get (.fault .faultStatus)),
     byteOf pathState] ++
    bytesBe 4 (s.get (.fault .faultFirstTime)) ++ bytesBe 4 (s.get (.fault .faultFirstDetail)) ++
    bytesBe 8 (s.get (.fault .faultLatched)) ++
    bytesBe 8 (s.get (.fault .faultLive)) ++ bytesBe 2 (mv 0) ++ bytesBe 2 (mv 1) ++ bytesBe 2 (mv 2) ++ bytesBe 2 hold ++
    bytesBe 4 (s.get (.ring .prismEpoch)) ++ [byteOf (s.get (.ring .facetIndex))] ++ bytesBe 2 (s.get (.domain .domainState)) ++ [0] ++
    bytesBe 4 (s.elapsedMs / 1000)
  b ++ bytesBe 4 (crc32 b)

/-- The last feed leaves state 6 with HUB on: the record is assembled, an erase in progress is ended, and its page program starts (R352,
R424) (DESIGN CHOICE, log 65). -/
def State.startGasp (s : State) (pathState : Nat) : State :=
  let s := s.modBoot fun x => { x with eraseCut := x.eraseCut || s.get (.fw .fwUpdateState) == 1 }
  (s.modFaults fun f => { f with gaspRun := some (s.gaspRecord pathState), gaspSeq := (f.gaspSeq + 1) % 65536 }).emit (.flash 2 0 64)

/-- The page program completes: this is the newest valid record. -/
def State.cmdLastGaspProgramDone (s : State) : State :=
  match s.faults.gaspRun with
  | some b => s.modFaults fun f => { f with gasp := some b, gaspRun := none }
  | none => s

end Sys2Proof.Machine
end

