-- ==== Sys2Proof/Machine/Lens.lean ====
section
/-! DEFINITION. What the doors do to Lens and to provocation (R397, R398, R429, R430, R432, R433). -/

namespace Sys2Proof.Machine

def State.modLens (s : State) (f : LensRt → LensRt) : State := { s with lens := f s.lens }

/-! ### The trace (R429, R430) -/

/-- `LensCommand` 1: writing resumes; a ring that is still full in mode 1 takes no record (R429) (DEDUCED, log 76). -/
def State.lensRestart (s : State) : State :=
  if s.get (.lens .lensMode) ≠ 0 ∧ s.lensCapacity ≤ s.lensFill then s else s.modLens fun x => { x with stopped := false }

/-- `LensCommand` 2, and a committed change of the trace's layout: the read pointer goes to the write pointer (R429). -/
def State.lensDiscard (s : State) : State := s.set (.lens .lensReadPtr) (s.get (.lens .lensWritePtr))

/-- A write of `LensCommand`. -/
def State.writeLensCommand (s : State) (v : Nat) : Nat × State :=
  if v = 1 then (0, s.lensRestart) else if v = 2 then (0, s.lensDiscard) else (abortRange, s)

/-- The record in a slot: a damaged one is delivered with Source 0xF and every other byte 0 (R429). -/
def State.lensRecord (s : State) (j : Nat) : List Byte :=
  let size := s.get (.lens .lensRecordSize)
  (Table.get [] s.lens.trace (j % s.lensCapacity) ++ List.replicate size 0).take size

/-- A read of `LensData` (R430): whole records from the read pointer, as many as fit `limit` bytes (DEDUCED, log 41). -/
def State.readLens (s : State) (limit : Nat) : List Byte × State :=
  let r := s.get (.lens .lensReadPtr)
  let n := min (limit / s.get (.lens .lensRecordSize)) s.lensFill
  let records := (List.range n).map fun j => s.lensRecord (r + j)
  let damaged := (records.filter fun b => byteAt b 0 == 0xF0).length
  let s := s.forEach (List.range damaged) fun s _ => s.flag (.lens .lensEvents) lensExtError
  (records.flatten, s.set (.lens .lensReadPtr) (r + n))

/-- A write of `LensReadPtr` (R430): it stays within the ring behind the write pointer. -/
def State.writeLensReadPtr (s : State) (v : Nat) : Nat × State :=
  if s.lensCapacity < (s.get (.lens .lensWritePtr) + 2 ^ 32 - v) % 2 ^ 32 then (abortRange, s) else (0, s.set (.lens .lensReadPtr) v)

/-! ### The counters (R397, R431) -/

/-- `LensCounterSnapshot` 1 latches all counters for the reads that follow (DEDUCED, log 76). -/
def State.lensSnapshot (s : State) : State :=
  (s.modLens fun x => { x with snapshot := some x.counters }).set (.lensCnt .lensSnapshotTime) s.now

/-- `LensCounterClear` 1 sets all counters to 0. -/
def State.lensClear (s : State) : State := s.modLens fun x => { x with counters := [], snapshot := none }

/-! ### Provocation (R398, R432, R433) -/

/-- INJ_EN was high at the last reset and is high now. -/
def State.injEnabled (s : State) : Bool := s.straps.testBit 6 && s.pins.testBit 6

/-- The start value of sequence k (R434). -/
def State.provokeStart (s : State) (k : Nat) : Nat :=
  let x := s.get (.provoke .provokeSeed) ^^^ (k * 0x01010101)
  if x = 0 then 1 else x

/-- Provocation disarms (R433). -/
def State.disarm (s : State) : State :=
  if s.lens.armed then
    (((s.modLens fun x => { x with armed := false }).set (.provoke .provokeState) 0).flag (.lens .lensEvents) lensProvokeDisarmed).endLive
      61
  else s

/-- A write of `ProvokeArm` from door d (R398, R432). -/
def State.writeProvokeArm (s : State) (d : Door) (v : Nat) : Nat × State :=
  let refused := fun (s : State) => s.flag (.lens .lensEvents) lensProvokeRefused
  if v = 0 then (0, s.disarm)
  else if v ≠ 1 then (abortRange, s)
  else if s.lens.armed then (abortState, refused s)
  else if !s.injEnabled || ((List.finRange 7).all fun k => s.get (.provoke (.provokeRates k)) == 0) then
    (abLocal, refused (s.set (.provoke .provokeState) 2))
  else
    let s := s.modLens fun x => { x with armed := true, armedAt := s.elapsedMs, seqs := (List.range 7).map s.provokeStart }
    let s := s.forEach (List.finRange 7) fun s k => s.set (.provoke (.provokeCount k)) 0
    (0, ((s.set (.provoke .provokeState) 1).flag (.lens .lensEvents) lensProvokeArmed).raiseLive 61 d.num)

/-- `ProvokeRemaining` reaches 0 (R433). -/
def State.cmdProvokeRunTimeEnd (s : State) : State := s.disarm

/-- INJ_EN is low for 1 µs (R433); `stays` says whether the pin is low from now on. -/
def State.cmdInjEnLow (s : State) (stays : Bool) : State := ({ s with pins := if stays then setBit s.pins 6 false else s.pins }).disarm

end Sys2Proof.Machine
end

