-- ==== Sys2Proof/Machine/Commit.lean ====
section
/-! DEFINITION. Staging and commit of the facet's own commit-class entries (R377 to R382), the configuration check (R383, R384), and
direct writes of communication objects (R371, R372). -/

namespace Sys2Proof.Machine

/-! ### Staging (R377, R378) -/

/-- Who stages: the door a command first arrived at, and the facet it was forwarded from. -/
def Caller.owner (c : Caller) : Door × Option Nat := (c.door, c.src)

/-- The staged set belongs to a caller, or to nobody. -/
def State.mayStage (s : State) (c : Caller) : Bool := s.cfg.owner.all fun o => o == c.owner

/-- A caller owns the staged set, and its idle time starts again. -/
def State.ownStage (s : State) (c : Caller) : State :=
  { s.set (.commit .configStageOwner) (0x80 + c.door.num) with cfg := { s.cfg with owner := some c.owner, stagedAt := s.elapsedMs } }

/-- A staging write of local entries: the values are laid over the committed ones, and an element staged again is no longer lost. -/
def State.stageLocal (s : State) (c : Caller) (l : List (Reg × Nat)) : State :=
  let s := ((s.stageAll l).ownStage c).unreference
  { s with cfg := { s.cfg with lost := s.cfg.lost.filter fun r => !(l.any fun e => e.1 == r) } }

/-- A write to a local commit-class entry (R377). -/
def State.writeStaged (s : State) (c : Caller) (l : List (Reg × Nat)) : Nat × State :=
  if s.mayStage c then (0, s.stageLocal c l) else (abortState, s)

/-- The owner makes no staging write and no commit for `ConfigStageIdleLimit` (R377). -/
def State.cmdStageOwnershipLapse (s : State) : State :=
  if s.cfg.owner.isSome ∧ s.cfg.stagedAt + s.get (.commit .configStageIdleLimit) * 1000 ≤ s.elapsedMs then s.lapseStage else s

/-- The facet behind a forwarded owner is out of reach: the ownership lapses (R377). -/
def State.dropFarOwner (s : State) : State :=
  match s.cfg.owner with
  | some (_, some idx) => if (s.memberOfIndex idx).any fun u => s.reachable u then s else s.lapseStage
  | _ => s

/-- The registers that a reload or the defaults stage: the local entries that the variant has. -/
def State.stageable (s : State) : List Reg :=
  localRegs.flatMap fun x => if lacking s.ident x.1 x.2.1 then [] else x.2.2.regs

/-- `ConfigCommit` 3: the staged values take those of the copy that a start would load (R420), or the defaults (DEDUCED, log 69). -/
def State.configReload (s : State) (c : Caller) : State :=
  let values := ((newerCopy s.cfg.copyA s.cfg.copyB).map Stored.values).getD []
  let table : Overlay := values.map fun e => (e.1, some e.2)
  s.stageLocal c (s.stageable.map fun r => (r, (Table.get none table r).getD (r.default s.ident)))

/-- `ConfigCommit` 4: the staged values take their defaults, except the rights of LOC (DEDUCED, log 69). -/
def State.configDefaults (s : State) (c : Caller) : State :=
  s.stageLocal c ((s.stageable.filter fun r => r != .doors (.doorRights 3)).map fun r => (r, r.default s.ident))

/-! ### The check of a commit (R379 step 2, R380) -/

/-- A staged entry's own failure: a value lost to an SRAM error, a value out of range, or LOC without its Commit right (DEDUCED, log 68). -/
def State.entryFailure (s : State) (x : Nat × Nat × Entry) : Option Nat :=
  let mine := x.2.2.regs.filter fun r => (Table.get none s.staged r).isSome
  if x.2.2.regs.any fun r => s.cfg.lost.contains r then some 5
  else if x.2.2.rangeCheck (mine.map fun r => (r, s.stagedValue r)) ≠ 0 then some 1
  else if x.1 = 0x4C02 ∧ !(s.stagedValue (.doors (.doorRights 3))).testBit 3 then some 4
  else none

/-- The entry that a refusal of the power path's rules names: the curve, the instantaneous level, or a feed's window (R294, R307).
(DEDUCED, log 68) -/
def powerPlace (w : Nat) : Nat × Nat :=
  if w % 256 = 6 then (0x3C01 + w / 256, 3) else (0x3C10 + w / 256, if w % 256 = 3 ∨ w % 256 = 4 then 2 else 1)

/-- The failures of a commit: index, sub-index and reason of each (R380) (DEDUCED, log 67). -/
def State.commitFailures (s : State) : List (Nat × Nat × Nat) :=
  let own := localRegs.filterMap fun x => (s.entryFailure x).map fun r => (x.1, x.2.1, r)
  let noLens := fun (r : Reg) => if r = .lens .lensExtSize then 0 else s.stagedValue r
  let region := (s.regionRefusal s.stagedValue).map fun e =>
    if e.1 = 0xFF ∧ e.2 = 1 ∧ s.regionRefusal noLens = none then (0x4800, 6, 2) else (0x2D00 + e.1, 2, 2)
  let power := (s.powerRefusal s.stagedValue).map fun w => ((powerPlace w).1, (powerPlace w).2, 2)
  let pps : List (Nat × Nat × Nat) := if ppsRule s.stagedValue then [] else [(0x3401, 12, 2)]
  let therm : List (Nat × Nat × Nat) :=
    if signedOf 32 (s.stagedValue (.fault .thermCritLevel)) ≤ signedOf 32 (s.stagedValue (.fault .thermWarnLevel)) then [(0x4400, 27, 2)]
    else []
  own ++ region.toList ++ power.toList ++ pps ++ therm

/-- The failure with the lowest index and sub-index (DEDUCED, log 67). -/
def firstFailure (l : List (Nat × Nat × Nat)) : Option (Nat × Nat × Nat) :=
  l.foldl (fun a x => match a with
    | none => some x
    | some y => if x.1 * 256 + x.2.1 < y.1 * 256 + y.2.1 then some x else a) none

/-- The records of a chapter whose rule a commit broke (R178, R294). -/
def State.commitBroke (s : State) : State :=
  let region := s.regionRefusal s.stagedValue
  let power := s.powerRefusal s.stagedValue
  let s := match region with
    | some r => s.refuseRegions r
    | none => s
  match power with
  | some w => (s.set (.power .powerConfigRefusal) w).flag (.power .powerEvents) powConfigRefused
  | none => s

/-! ### Commit (R379, R381) -/

/-- Steps 1 to 3: the staged set is checked, and becomes live at once in the domains that are on; values of the others wait. Then the
store starts (DEDUCED, log 67). -/
def State.runCommit (s : State) : Nat × State :=
  let reg := fun (x : CommitReg) => Reg.commit x
  match firstFailure s.commitFailures with
  | some (idx, sub, reason) =>
    let s := (s.commitBroke.set (reg .configCommitResult) 2).set (reg .configCommitRefusal) (idx * 65536 + sub * 256 + reason)
    (abortState, (({ s with cfg := { s.cfg with stagedAt := s.elapsedMs } }).flag (.doors .doorEvents) doorCommitRefused))
  | none =>
    let values := s.staged.filterMap fun e => e.2.map fun v => (e.1, v)
    let now := values.filter fun e => s.domainOn e.1.dom
    let later := values.filter fun e => !s.domainOn e.1.dom
    let s := s.forEach later fun s e => { s with parked := Table.put Reg.addr none s.parked e.1 (some e.2) }
    let s := s.forEach now fun s e => { s with parked := Table.put Reg.addr none s.parked e.1 none }
    let s := ((s.endStage.setLive now).unreference).flag (.doors .doorEvents) doorCommitApplied
    let s := (s.set (reg .configCommitResult) 3).emit (.flash 0x20 s.storeSector 0x10000)
    (0, { s with cfg := { s.cfg with storing := true } })

/-- A write of `ConfigCommit` (R378) (DEDUCED, log 67). -/
def State.writeConfigCommit (s : State) (c : Caller) (v : Nat) : Nat × State :=
  if v = 1 ∧ (s.cfg.storing ∨ s.cfg.prismStore) then
    (abortState, (s.set (.commit .configCommitRefusal) 3).flag (.doors .doorEvents) doorCommitRefused)
  else if v = 4 then (0, s.configDefaults c)
  else if !s.mayStage c then (abortState, s)
  else if v = 1 then (s.unlapse c.owner).runCommit
  else if v = 2 then (0, s.endStage)
  else if v = 3 then (0, s.configReload c)
  else (abortRange, s)

/-! ### The configuration check (R383, R384) -/

/-- A pass ends: `ConfigCrcLive` changes, and a deciding pass decides the state (DEDUCED, log 69). -/
def State.cmdConfigCrcPass (s : State) : State :=
  if !s.domainOn 1 then s
  else
    let crc := s.configCrc
    let st := s.get (.commit .configCrcState)
    let s := s.set (.commit .configCrcLive) crc
    if st = 0 ∧ !s.cfg.refArmed then s
    else if crc = s.get (.commit .configCrcReference) then (s.set (.commit .configCrcState) 1).endLive 55
    else
      let s := s.set (.commit .configCrcState) 2
      if st = 2 then s else (s.flag (.doors .doorEvents) doorCrcMismatch).raiseLive 55 crc

/-- A write of `ConfigCrcReference` (R384): the next full pass decides. -/
def State.writeCrcReference (s : State) (v : Nat) : State :=
  { s.set (.commit .configCrcReference) v with cfg := { s.cfg with refArmed := true } }

end Sys2Proof.Machine
end

