-- ==== Sys2Proof/Machine/Doors.lean ====
section
/-! DEFINITION. The doors (R357 to R376): the checks of R363, what a read and a write of each entry do, posted writes into the far
domains, and the commands and answers of the UPA, UPB, LOC and RING doors. -/

namespace Sys2Proof.Machine

/-! ### Doors and rights (R359 to R361) -/

/-- Element of a door in the DOMAINs of 4C02. -/
def doorElem : Door → Fin 5
  | .can => 0
  | .upa => 1
  | .upb => 2
  | .loc => 3
  | .ring => 4

/-- A door is open: its strap was sampled high, and no S2 reaction holds it (R335, R361) (DEDUCED, log 71). -/
def State.doorOpen (s : State) (d : Door) : Bool := s.straps.testBit d.num && !s.doors.shut.testBit d.num

/-- A door's rights; the recovery loader uses the defaults (R419). -/
def State.rights (s : State) (d : Door) : Nat :=
  if s.boot.recovery then (if d = .loc then 0x1F else 0x0F) else s.get (.doors (.doorRights (doorElem d)))

/-- Writes that need the Commit right (R360). -/
def commitRight (idx sub : Nat) : Bool :=
  (idx == 0x4C01 && sub == 1) || (idx == 0x2400 && (sub == 1 || sub == 7)) || (idx == 0x4400 && (sub == 16 || sub == 17)) ||
    (idx == 0x4C03 && (sub == 4 || sub == 5)) || (idx == 0x4C02 && sub == 1)

/-- The bit of the right that a write needs, if it needs one (R359, R360, R384, R398) (DEDUCED, log 70). -/
def writeRight (idx sub : Nat) (e : Entry) : Option Nat :=
  if commitRight idx sub then some 3
  else if idx = 0x4808 then some 4
  else if idx < 0x2000 ∨ (idx = 0x4C01 ∧ sub = 7) then some 2
  else
    match e.access with
    | .rwc => some 2
    | .ro => none
    | _ => some 1

/-- Writes that only the LOC door may give: `DoorRights`, and `ConfigCommit` 4 (R359, R378). -/
def locOnly (w : RegWrite) : Bool := (w.index == 0x4C02 && w.sub == 1) || (w.index == 0x4C01 && w.sub == 1 && w.data == [4])

/-! ### The checks (R363) -/

/-- The steward handles commands (R366). -/
def State.stewardServes (s : State) : Bool := s.boot.running && s.boot.started && !s.boot.recovery

/-- Writes that the steward handles, beside every command on the CAN door (R366). -/
def stewardWrite (idx sub : Nat) : Bool :=
  (idx == 0x4C01 && sub == 1) || (idx == 0x2400 && (sub == 1 || sub == 7)) || (idx == 0x4C03 && (sub == 4 || sub == 5))

/-- The entry at an index and sub-index, sub 00 of the indices from 2000 upward among them (R391). -/
def entryOf (idx sub : Nat) : Option Entry :=
  if 0x2000 ≤ idx ∧ sub = 0 ∧ indexExists idx then some ⟨.u8, .ro, [], 1, .any, false⟩ else entryAt idx sub

/-- Check 4: 0, or the abort code. -/
def existsCheck (idx sub : Nat) : Nat :=
  if !indexExists idx then abNoIndex else if (entryOf idx sub).isSome then 0 else abNoSub

/-- The limits of `FaultSeverity` (R332). -/
def severityOk (l : List (Reg × Nat)) : Bool :=
  l.all fun x => match x.1 with
    | .fault (.faultSeverity n) =>
      if n.val = 61 ∨ n.val = 62 then decide (x.2 ≤ 1) else if n.val = 60 then decide (x.2 ≤ 2)
      else if n.val = 30 then decide (x.2 = 4 ∨ x.2 = 5) else true
    | _ => true

/-- `DictBusy` bit of a domain (R373). -/
def State.farBusy (s : State) (d : Nat) : Bool := farDomain d && s.doors.posted.any fun w => w.domain == d

/-- Check 10 of a read or a write. The staged value of a commit-class entry is HUB's (R358) (DEDUCED, log 70). -/
def State.domainCheck (s : State) (idx sub : Nat) (staged write : Bool) : Nat :=
  let d := entryDomainOf idx sub
  if lacking s.ident idx sub then (if write then abortState else 0)
  else if staged then 0
  else if !s.domainOn d then abortState
  else if write ∧ s.farBusy d then abBusy
  else 0

/-- The elements that a write carries, over their present values. -/
def State.spliced (s : State) (e : Entry) (w : RegWrite) : List (Reg × Nat) :=
  e.splice (if e.access = .rwc then s.stagedValue else s.get) w.offset w.data

/-- Checks 3 to 10 of a write: 0, or the abort code. In fail-safe only `FaultSafeRelease` is accepted (R337), under the recovery loader
only a firmware update (R419) (DEDUCED, log 70). -/
def State.writeChecks (s : State) (c : Caller) (w : RegWrite) : Nat :=
  if !s.doorOpen c.via then abLocal
  else if s.faults.safeRun ∧ ¬ (w.index = 0x4400 ∧ w.sub = 17) then abortState
  else if s.boot.recovery ∧ ¬ (c.via = .loc ∧ w.index = 0x4C03 ∧ (w.sub = 4 ∨ w.sub = 5)) then abBusy
  else if existsCheck w.index w.sub ≠ 0 then existsCheck w.index w.sub
  else
    match entryOf w.index w.sub with
    | none => abNoSub
    | some e =>
      let need := writeRight w.index w.sub e
      if need.any (fun b => !(s.rights c.via).testBit b) ∨ (locOnly w ∧ c.via ≠ .loc) then abRights
      else if e.access = .ro then abReadOnly
      else
        let free := (w.index = 0x3430 ∧ w.sub = 1) ∨ (w.index = 0x4C03 ∧ w.sub = 4)
        let size := if free then 0 else e.sizeCheck w.offset w.data.length
        let l := s.spliced e w
        if size ≠ 0 then size
        else if e.rangeCheck l ≠ 0 ∨ !severityOk l then abortRange
        else if s.faults.safeRun ∨ s.boot.recovery then 0
        else if (c.via = .can ∨ stewardWrite w.index w.sub) ∧ !s.stewardServes then abBusy
        else s.domainCheck w.index w.sub (e.access = .rwc) true

/-- Size check of a read (R365): the offset and length asked for, 0 for all (DEDUCED, log 41). -/
def Entry.readSize (e : Entry) (idx sub : Nat) (offset len size : Nat) : Nat :=
  match e.typ with
  | .domain =>
    if (0x2C08 ≤ idx ∧ idx ≤ 0x2C0C ∧ sub = 5) ∨ (idx = 0x4800 ∧ sub = 9) then 0
    else if size < offset + len then abLong else 0
  | .str => if offset = 0 then 0 else abSize
  | t => if offset ≠ 0 then abSize else if len = 0 ∨ len = t.size then 0 else if t.size < len then abLong else abShort

/-- Checks 3 to 10 of a read: 0, or the abort code (DEDUCED, log 70). -/
def State.readChecks (s : State) (c : Caller) (idx sub : Nat) (staged : Bool) (offset len : Nat) : Nat :=
  let served := idx = 0x4C00 ∨ idx = 0x4C03 ∨ idx = 0x4C06 ∨ (idx = 0x4400 ∧ sub ≤ 8)
  if !s.doorOpen c.via then abLocal
  else if s.boot.recovery ∧ ¬ (c.via = .loc ∧ served) then abBusy
  else if existsCheck idx sub ≠ 0 then existsCheck idx sub
  else if !(s.rights c.via).testBit 0 then abRights
  else
    match entryOf idx sub with
    | none => abNoSub
    | some e =>
      let size := e.readSize idx sub offset len (s.entryBytes c idx sub false).length
      if e.access = .wo then abWriteOnly
      else if size ≠ 0 then size
      else if s.faults.safeRun ∨ s.boot.recovery then 0
      else if c.via = .can ∧ !s.stewardServes then abBusy
      else if idx = 0x4400 ∧ sub = 22 ∧ !s.boot.started then abBusy
      else
        let atStaged := staged && e.access == .rwc
        let r := s.domainCheck idx sub atStaged false
        if r ≠ 0 then r else if atStaged ∧ (e.regs.any fun r => s.cfg.lost.contains r) then abStorage else 0

/-- What an answer leaves behind, once there is one: a command done is counted, a denial is raised, and a busy answer is counted (R360,
R363). (DEDUCED, log 74) -/
def State.answered (s : State) (d : Door) (abort : Nat) : State :=
  if abort = 0 then s.bump (.doors (.doorCommandCount (doorElem d)))
  else if abort = abRights then ((s.bump (.doors (.doorDeniedCount (doorElem d)))).flag (.doors .doorEvents) doorDenied).raise 60 d.num
  else if abort = abBusy then (s.bump (.doors (.doorBusyCount (doorElem d)))).flag (.doors .doorEvents) doorBusy
  else s

/-! ### Event flags (R375) -/

/-- The sequence number a clear has to carry: the current one, or the one before the cycle in which the hub sets flags of the entry (R375,
R376). A raise makes a clear of `FaultStatus` stale in its cycle too (R349). -/
def State.clearSeq (s : State) (r : Reg) : Nat :=
  if r = .fault .faultStatus then eventSeq (s.get r) else ((s.seqBefore r).map Prod.fst).getD (eventSeq (s.get r))

/-- A write to an RS entry clears the flags it names, when its sequence number is current; flags set in its own cycle stand (R376). -/
def State.clearEvents (s : State) (r : Reg) (v : Nat) : State :=
  if bitField v 31 24 ≠ s.clearSeq r then (s.bump (.doors .staleClearCount)).flag (.doors .doorEvents) doorStaleClear
  else if r = .fault .faultStatus then s.clearFaultStatus v
  else s.set r (eventClear (s.get r) v ||| (s.get r &&& ((s.seqBefore r).map Prod.snd).getD 0))

/-! ### Communication objects (R371, R372, R393) -/

/-- The entry that a PDO mapping value names, and its length in bits. -/
def mapped (v : Nat) : Nat × Nat × Nat := (v / 65536, v / 256 % 256, v % 256)

/-- Why a mapping value is refused: only fixed-size entries, whole, can be mapped, and for an RPDO only those written by the Operate right.
(DEDUCED, log 72) -/
def mapCheck (rpdo : Bool) (v : Nat) : Nat :=
  if v = 0 then 0
  else
    match entryAt (v / 65536) (v / 256 % 256) with
    | none => 0x06040041
    | some e =>
      if e.typ.size = 0 ∨ v % 256 ≠ 8 * e.typ.size then 0x06040041
      else if rpdo then (if writeRight (v / 65536) (v / 256 % 256) e = some 1 ∧ e.access ≠ .rwc then 0 else 0x06040041)
      else if e.access = .wo then 0x06040041 else 0

/-- Registers of a PDO: its COB-ID, its count and its mapping. -/
def pdoRegs (idx : Nat) : Option (Bool × Reg × Reg × List Reg) :=
  if h : 0x1600 ≤ idx ∧ idx ≤ 0x1603 then
    let n : Fin 4 := ⟨idx - 0x1600, by omega⟩
    some (true, .rpdo n .cobId, .rpdo n .mapCount, (List.finRange 16).map fun k => .rpdo n (.mapEntry k))
  else if h : 0x1A00 ≤ idx ∧ idx ≤ 0x1A07 then
    let n : Fin 8 := ⟨idx - 0x1A00, by omega⟩
    some (false, .tpdo n .cobId, .tpdo n .mapCount, (List.finRange 16).map fun k => .tpdo n (.mapEntry k))
  else none

/-- The mapping rules of R371 and R393 for a write `l` to a mapping object. -/
def State.pdoCheck (s : State) (idx : Nat) (l : List (Reg × Nat)) : Nat :=
  match pdoRegs idx with
  | none => 0
  | some (rpdo, cob, count, maps) =>
    let after := fun (r : Reg) => ((l.find? fun e => e.1 == r).map Prod.snd).getD (s.get r)
    let used := (maps.take (after count)).map after
    if !(s.get cob).testBit 31 then abortState
    else if l.any fun e => e.1 != count && mapCheck rpdo e.2 != 0 then 0x06040041
    else if 512 < (used.map fun v => v % 256).sum then 0x06040042
    else 0

/-- A direct write of a communication object: live and staged at once (R372). -/
def State.writeComm (s : State) (idx : Nat) (l : List (Reg × Nat)) : Nat × State :=
  let r := s.pdoCheck idx l
  if r ≠ 0 then (r, s) else (0, (s.setAll l).unreference)

/-! ### What a write does (check 11) -/

/-- Accepts a value that has no behaviour of its own. -/
def State.plain (s : State) (l : List (Reg × Nat)) : Nat × State := (0, s.setAll l)

/-- The same, from a door. Of two doors' writes to one entry in one cycle the lower number is applied first and the other's value stands
(R376) (DESIGN CHOICE, log 82). -/
def State.plainFor (s : State) (d : Door) (l : List (Reg × Nat)) : Nat × State :=
  match s.doors.wrote.filter fun e => e.1 == s.time.elapsed && decide (d.num < e.2.1) && e.2.2.map Prod.fst == l.map Prod.fst with
  | some e => (0, (s.setAll l).setAll e.2.2)
  | none => (0, { s.setAll l with doors := { s.doors with wrote := some (s.time.elapsed, d.num, l) } })

/-- A write of `XlateEpPairs`: at the facet of the active upstream, the entries whose pairs it changes are copied to the others (R51). -/
def State.writePairs (s : State) (i : Image) (l : List (Reg × Nat)) : Nat × State :=
  let (r, t) := s.plain l
  (r, t.forEach ((List.range 128).filter fun a => a != 0 && t.pairsWord i a != s.pairsWord i a) fun t a => t.putEntry i a (t.entry i a))

/-- Writes of the hub core, prism, hold-over, reservoir and ring entries: a value of one element is `v`. -/
def State.effectLow (s : State) (c : Caller) (w : RegWrite) (l : List (Reg × Nat)) (v : Nat) : Nat × State :=
  let i := imageOf (w.index % 16)
  if w.index = 0x2400 then (if w.sub = 1 then s.writeLockRequest c v else if w.sub = 7 then s.writePrismCommit c v else s.plainFor c.door l)
  else if 0x2410 ≤ w.index ∧ w.index ≤ 0x2413 then (if w.sub = 7 then s.writeDefaultMap c i else s.plainFor c.door l)
  else if w.index = 0x2800 then
    (if w.sub = 4 then s.writeSwap v else if s.swapping then (abortState, s) else s.plainFor c.door l)
  else if 0x2810 ≤ w.index ∧ w.index ≤ 0x2813 then
    (if w.sub = 1 then s.writeArm i v else if w.sub = 2 then s.writeIntent i v
     else if w.sub = 3 then s.writeCommand i v else s.plainFor c.door l)
  else if w.index = 0x2C01 then s.writeFreeze v
  else if 0x2C08 ≤ w.index ∧ w.index ≤ 0x2C0C then
    match doorOf (w.index - 0x2C08) with
    | none => (0, s)
    | some d => if w.sub = 3 then s.writeSessionOpen c d v
      else if (s.session d).opened || (s.session d).opening.isSome then (abortState, s) else s.plainFor c.door l
  else if 0x2D00 ≤ w.index ∧ w.index ≤ 0x2DFF then s.writeStreamCommand c.door (w.index - 0x2D00) v
  else if w.index = 0x3000 then s.writeWithdraw v
  else if h : 0x2040 ≤ w.index ∧ w.index ≤ 0x2043 then s.writePairs ⟨w.index - 0x2040, by omega⟩ l
  else s.plainFor c.door l

/-- Writes of the time, power, domain and fault entries. -/
def State.effectMid (s : State) (c : Caller) (w : RegWrite) (l : List (Reg × Nat)) (v : Nat) : Nat × State :=
  if w.index = 0x3400 then (0, s.setAnchor ((l.head?.map Prod.snd).getD 0))
  else if w.index = 0x3401 then s.writeCompare (.pps .ppsOutNext) v
  else if w.index = 0x3402 then s.writeCompare (.canTime .canSyncPhase) v
  else if w.index = 0x3430 then (if w.sub = 1 then s.writeLaunchSubmit w.data else s.writeLaunchCancel v)
  else if 0x3C10 ≤ w.index ∧ w.index ≤ 0x3C22 then
    (if h : w.index - 0x3C10 < 19 then (0, s.rearm ⟨w.index - 0x3C10, h⟩) else (0, s))
  else if w.index = 0x4000 then
    (if w.sub = 2 then s.writeDomainCommand c.door v else if w.sub = 10 then (0, s.writeWakeTimer v) else s.plainFor c.door l)
  else if w.index = 0x4400 then
    (if w.sub = 14 then (0, s.writeFaultN v) else if w.sub = 16 then s.writeUnitRelease v else if w.sub = 17 then s.writeSafeRelease v
     else if w.sub = 18 then (0, s.writeSoftRaise v) else s.plainFor c.door l)
  else s.plainFor c.door l

/-- Writes of the Lens, provocation, commit and firmware entries. -/
def State.effectHigh (s : State) (c : Caller) (w : RegWrite) (l : List (Reg × Nat)) (v : Nat) : Nat × State :=
  if w.index = 0x4800 then (if w.sub = 11 then s.writeLensCommand v else s.writeLensReadPtr v)
  else if w.index = 0x4801 then (0, if w.sub = 2 then s.lensSnapshot else s.lensClear)
  else if w.index = 0x4808 then
    (if w.sub = 1 then s.writeProvokeArm c.door v else if s.lens.armed then (abortState, s) else s.plainFor c.door l)
  else if w.index = 0x4C01 then (if w.sub = 1 then s.writeConfigCommit c v else (0, s.writeCrcReference v))
  else if w.index = 0x4C03 then (if w.sub = 5 then s.writeFwCommand c.door v else s.writeFwData c.door w.offset w.data)
  else s.plainFor c.door l

/-- Check 11 and the effect of a write that passed the checks before it: the abort code, and the state. -/
def State.doorEffect (s : State) (c : Caller) (w : RegWrite) (e : Entry) : Nat × State :=
  let l := s.spliced e w
  let v := ofBytesBe w.data
  match e.access with
  | .rs => (0, match e.regs with
      | r :: _ => s.clearEvents r v
      | [] => s)
  | .rwc =>
    if w.index < 0x2000 then s.writeComm w.index l
    else if prismIndex w.index then s.writePrism c w l
    else if 0x3010 ≤ w.index ∧ w.index ≤ 0x3013 ∧ w.sub = 1 ∧ s.straps.testBit 5 then (abLocal, s)
    else s.writeStaged c l
  | _ => if w.index < 0x3400 then s.effectLow c w l v else if w.index < 0x4800 then s.effectMid c w l v else s.effectHigh c w l v

/-! ### A write (R363, R373) -/

/-- A write that passed its checks: applied, or taken by a far domain's write buffer unless `now` applies it in this step. -/
def State.applyWrite (s : State) (c : Caller) (w : RegWrite) (e : Entry) (now : Bool) : Nat × State :=
  let d := entryDomainOf w.index w.sub
  let (r, t) := s.doorEffect c w e
  if farDomain d ∧ e.access ≠ .rwc ∧ !now ∧ r = 0 then
    (0, { s with doors := { s.doors with posted := s.doors.posted ++ [⟨d, c.door, w⟩] } })
  else (r, t)

/-- A write from a door: the abort code of its answer (0 when done), and the state. -/
def State.doorWrite (s : State) (c : Caller) (w : RegWrite) (now : Bool) : Nat × State :=
  let check := s.writeChecks c w
  if check ≠ 0 then (check, s.answered c.via check)
  else
    match entryOf w.index w.sub with
    | none => (abNoSub, s)
    | some e =>
      let (r, s) := s.applyWrite c w e now
      (r, s.answered c.via r)

/-- A far domain applies its oldest posted write, and its busy bit clears (R373) (DEDUCED, log 70). -/
def State.cmdPostedWriteApply (s : State) (d : Nat) : State :=
  match s.doors.posted.find? fun x => x.domain == d with
  | none => s
  | some x =>
    let s := { s with doors := { s.doors with posted := s.doors.posted.erase x } }
    match entryAt x.write.index x.write.sub with
    | none => s
    | some e => if s.domainOn d then (s.doorEffect (callerAt x.door) x.write e).2 else s

/-! ### A read (R363 to R365, R373, R394) -/

/-- The state with the posted writes of one entry applied: what a read of it shows (R373). -/
def State.posting (s : State) (idx sub : Nat) : State :=
  s.forEach (s.doors.posted.filter fun x => x.write.index == idx && x.write.sub == sub) fun s x =>
    match entryAt idx sub with
    | none => s
    | some e => (s.doorEffect (callerAt x.door) x.write e).2

/-- A read from a door: the abort code, the bytes, and the state. `limit` is the door's; `remote` is what another facet's reader delivers.
(DESIGN CHOICE, log 40) -/
def State.doorRead (s : State) (c : Caller) (idx sub : Nat) (staged : Bool) (offset len limit : Nat) (remote : List Byte) :
    Nat × List Byte × State :=
  let check := s.readChecks c idx sub staged offset len
  if check ≠ 0 then (check, [], s.answered c.via check)
  else
    let most := if len = 0 then limit else min len limit
    let (b, s) := if idx = 0x4800 ∧ sub = 9 then s.readLens most
      else if 0x2C08 ≤ idx ∧ idx ≤ 0x2C0C ∧ sub = 5 then
        (match doorOf (idx - 0x2C08) with
         | some d => s.readSessionData c.via d most remote
         | none => ([], s))
      else ((((s.posting idx sub).entryBytes c idx sub staged).drop offset).take most, s)
    let s := if idx = 0x3400 ∧ sub = 1 then s.latchFraction else s
    (0, b, s.answered c.via 0)

/-! ### The SDO server's frames (R371) -/

def State.modDoors (s : State) (f : DoorRt → DoorRt) : State := { s with doors := f s.doors }

/-- On the CAN bus numbers go least significant byte first; strings and DOMAINs keep their order (R357). -/
def canOrder (idx sub : Nat) (b : List Byte) : List Byte :=
  if (entryOf idx sub).any fun e => decide (e.typ.size ≠ 0) then b.reverse else b

/-- An SDO frame of the server: a command byte, the entry, four bytes. -/
def sdoFrame (cmd idx sub : Nat) (data : List Byte) : List Byte :=
  [byteOf cmd] ++ bytesLe 2 idx ++ [byteOf sub] ++ (data ++ List.replicate 4 0).take 4

/-- The server answers at 0x580 + ID. -/
def State.sdoSend (s : State) (b : List Byte) : State := s.sendCan (0x580 + s.get (.can .canNodeIdActive)) b

/-- A transfer ends, or another one takes its place; a read that it carried and has not completed is cut off (R188). -/
def State.endSdo (s : State) : State := (s.cutReads .can).modDoors fun x => { x with sdo := none }

/-- An abort is sent and counted; a transfer in progress ends. -/
def State.sdoAbort (s : State) (idx sub code : Nat) : State :=
  ((s.sdoSend (sdoFrame 0x80 idx sub (bytesLe 4 code))).bump (.can .canSdoAbortCount)).endSdo

end Sys2Proof.Machine
end

