-- ==== Sys2Proof/Machine/Commands.lean ====
section
/-! DEFINITION. How commands reach the UPA, UPB, LOC and RING doors and their answers leave (R362, R364, R367 to R370): headers,
forwarding to other facets, duplicates on the ring, SMBus transactions, and notifications on EP2 IN. -/

namespace Sys2Proof.Machine

/-! ### Headers (R364) -/

/-- The status of an abort code (R363). -/
def statusOf (abort : Nat) : Nat :=
  if abort = 0 then 0
  else if abort = abNoIndex ∨ abort = abNoSub then 1
  else if abort = abRights then 2
  else if abort = abReadOnly then 3
  else if abort = abWriteOnly then 4
  else if abort = abSize ∨ abort = abLong ∨ abort = abShort then 5
  else if abort = abortState then 7
  else if abort = abBusy then 8
  else if abort = abLocal then 9
  else if abort = abMalformed then 0xC
  else if abort = abStorage then 0xD
  else 6

/-- The answer to a command: the header echoes it, with a status, an abort code and data (R364). -/
def answerTo (b : List Byte) (status abort : Nat) (data : List Byte) : List Byte :=
  doorBytes (setBit (byteAt b 0) 7 true) status (fieldAt b 2 2) (fieldAt b 4 2) (byteAt b 6) (byteAt b 7 % 2) abort data.length data

/-- Data bytes that an answer or a command may carry on a door. -/
def doorLimit (d : Door) : Nat := if d = .loc then 239 else 1024

/-- A command is well formed (R363 check 1): its header, and its data as Length says. -/
def wellFormedCommand (d : Door) (b : List Byte) : Bool :=
  decide (16 ≤ b.length) && (byteAt b 0 == 1 || byteAt b 0 == 2) && decide (byteAt b 7 < 2) && fieldAt b 14 2 == 0 &&
    (if byteAt b 0 = 2 then decide (fieldAt b 12 2 + 16 = b.length) && decide (fieldAt b 12 2 ≤ doorLimit d) else decide (b.length = 16))

/-- Runs a well-formed command on this facet: its abort code, its answer, and the state. -/
def State.execCommand (s : State) (c : Caller) (b remote : List Byte) : Nat × List Byte × State :=
  let idx := fieldAt b 4 2
  let sub := byteAt b 6
  if byteAt b 0 = 1 then
    let (r, data, s) := s.doorRead c idx sub ((byteAt b 7).testBit 0) (fieldAt b 8 4) (fieldAt b 12 2) (doorLimit c.via) remote
    (r, answerTo b (statusOf r) r data, s)
  else
    let (r, s) := s.doorWrite c { index := idx, sub := sub, offset := fieldAt b 8 4, data := b.drop 16 } false
    (r, answerTo b (statusOf r) r [], s)

/-! ### Commands at a door of this facet, and forwarding (R362, R367, R368) -/

/-- An answer goes to the host's EP1 IN, or waits for the board's Block Read (R367, R368). -/
def State.deliver (s : State) (d : Door) (answer : List Byte) : State :=
  match d with
  | .upa => s.modUp .UA fun x => { x with answers := x.answers ++ [answer] }
  | .upb => s.modUp .UB fun x => { x with answers := x.answers ++ [answer] }
  | .loc => { s with doors := { s.doors with loc := some answer } }
  | _ => s.emit (.door d answer)

/-- The door of arrival checks its own right for a command that it forwards (R362) (DEDUCED, log 71). -/
def State.forwardDenied (s : State) (d : Door) (b : List Byte) : Bool :=
  let idx := fieldAt b 4 2
  let sub := byteAt b 6
  if byteAt b 0 = 1 then !(s.rights d).testBit 0
  else
    match entryOf idx sub with
    | none => false
    | some e => ((writeRight idx sub e).any fun n => !(s.rights d).testBit n) ||
        (locOnly { index := idx, sub := sub, offset := 0, data := b.drop 16 } && d != .loc)

/-- The facet that a command names, when it is another one. -/
def State.commandTarget (s : State) (b : List Byte) : Option Nat :=
  if byteAt b 1 = 0xFF ∨ byteAt b 1 = s.ownIndex then none else some (byteAt b 1)

/-- Sends a forwarded command on its way when its target is reachable. -/
def State.sendForward (s : State) (f : Forward) : State :=
  match f.tag, s.commandTarget f.bytes with
  | some tag, some idx =>
    match (s.memberOfIndex idx).filter fun u => s.reachable u with
    | none => s
    | some u =>
      let list := s.doors.forwarded.map fun g => if g = f then { g with sent := true } else g
      ({ s with doors := { s.doors with forwarded := list } }).sendTo u 7 0 tag (.door f.door (.command f.bytes))
  | _, _ => s

/-- A door keeps a command of its own whose open waits for another facet's answer (R184). -/
def State.holdCommand (s : State) (f : Forward) : State :=
  match allDoors.findSome? fun d => (s.session d).opening.filter fun o => o.2 == .quiet with
  | none => s
  | some (tag, _) =>
    ({ s with doors := { s.doors with forwarded := { f with tag := some tag,
                                                            sent := true } :: s.doors.forwarded } }).awaitOpen (.command f.door)

/-- Works off the commands that a door holds, in order of arrival, up to one that waits for another facet. `remote` as in `doorRead`. -/
def State.pumpDoor (d : Door) (remote : List Byte) : Nat → State → State
  | 0, s => s
  | n + 1, s =>
    match s.doors.forwarded.find? fun f => f.door == d with
    | none => s
    | some f =>
      if f.tag.isSome then s
      else
        let drop := fun (s : State) => { s with doors := { s.doors with forwarded := s.doors.forwarded.erase f } }
        if !wellFormedCommand d f.bytes then
          State.pumpDoor d remote n ((drop s).deliver d (answerTo f.bytes 0xC abMalformed []))
        else if !s.doorOpen d then State.pumpDoor d remote n ((drop s).deliver d (answerTo f.bytes 9 abLocal []))
        else
          match s.commandTarget f.bytes with
          | none =>
            let (r, a, t) := (drop s).execCommand (callerAt d) f.bytes remote
            if r = abWaits then t.holdCommand f else State.pumpDoor d remote n (t.deliver d a)
          | some _ =>
            if s.forwardDenied d f.bytes then
              State.pumpDoor d remote n (((drop s).answered d abRights).deliver d (answerTo f.bytes 2 abRights []))
            else
              let (tag, s) := s.newTag
              let g : Forward := { f with tag := some tag }
              let list := s.doors.forwarded.map fun x => if x = f then g else x
              ({ s with doors := { s.doors with forwarded := list } }).sendForward g

/-- Whether a host can reach a door of an upstream: the function behind it is configured and EP1 OUT is not halted (R30, R159, R367). -/
def State.upServes (s : State) (u : Upstream) : Bool :=
  s.domainOn 1 && !s.faults.safeRun &&
    match s.mgmtFn u with
    | none => false
    | some f => (s.fnDev f).config == 1 && !(s.fnDev f).halted.testBit (haltBit 0x01)

/-- A command that a host sends on EP1 OUT, as its packets (R30, R367, R425): toggles advance, and each packet is ACKed. -/
def State.bulkOut (s : State) (u : Upstream) (b : List Byte) : State :=
  match s.mgmtFn u with
  | none => s
  | some f =>
    let mps := s.ep1Size u
    let addr := (s.fnDev f).addr
    s.forEach (List.range (b.length / mps + 1)) fun s k =>
      let x := s.fnDev f
      let t := x.toggle.testBit (haltBit 0x01)
      let s := (s.usbSeen (placeUp u) false 0xE1 addr 1 []).usbSeen (placeUp u) false (dataPid t) addr 1 ((b.drop (k * mps)).take mps)
      ((s.emit (.handshake .ack)).usbSeen (placeUp u) true 0xD2 addr 1 []).setFnDev f
        { x with toggle := setBit x.toggle (haltBit 0x01) (!t) }

/-- A door holds eight commands, and NAKs EP1 OUT (R367). -/
def State.upFull (s : State) (u : Upstream) : Bool :=
  decide (8 ≤ (s.up u).answers.length + (s.doors.forwarded.filter fun f => f.door == upDoor u).length)

/-- The CAN door is served: HUB on, the controller on the bus, the node not stopped or starting (R371); in fail-safe by the monitor. -/
def State.sdoServes (s : State) : Bool :=
  s.domainOn 1 && !s.doors.canOff && !s.doors.busOff &&
    (s.faults.safeRun || s.get (.can .canState) == 5 || s.get (.can .canState) == 127)

/-- Whether anything can reach a door: the dictionary's clock runs (R16, R17); a closed LOC door acknowledges no address (R361).
(DEDUCED, log 7, DEDUCED, log 71) -/
def State.doorReach (s : State) (d : Door) : Bool :=
  s.time.pll &&
  match d with
  | .can => s.sdoServes
  | .upa => s.upServes .UA
  | .upb => s.upServes .UB
  | .loc => s.domainOn 1 && s.doorOpen .loc
  | .ring => s.domainOn 1 && s.domainOn 6 && !s.faults.safeRun

/-- The verdict on a write, at once or with the answer of another facet (R184). -/
def State.writeVerdict (s : State) (d : Door) (r : Nat) : State :=
  if r = abWaits then s.awaitOpen (.verdict d) else s.emit (.verdict d r [])

/-- A command at the CAN door, or at the RING door from this facet itself: its verdict, with which a read is complete. -/
def State.directCommand (s : State) (d : Door) (b remote : List Byte) : State :=
  let idx := fieldAt b 4 2
  let sub := byteAt b 6
  if !wellFormedCommand d b then s.emit (.verdict d abMalformed [])
  else if byteAt b 0 = 1 then
    let (r, data, s) := s.doorRead (callerAt d) idx sub ((byteAt b 7).testBit 0) (fieldAt b 8 4) (fieldAt b 12 2) 1024 remote
    (s.readDone d).emit (.verdict d r data)
  else
    let (r, s) := s.doorWrite (callerAt d) { index := idx, sub := sub, offset := fieldAt b 8 4, data := b.drop 16 } false
    s.writeVerdict d r

/-- A command arrives at a door of this facet. -/
def State.arrive (s : State) (d : Door) (b remote : List Byte) : State :=
  let take := fun (s : State) =>
    State.pumpDoor d remote 16 { s with doors := { s.doors with forwarded := s.doors.forwarded ++ [⟨d, none, false, b⟩] } }
  match d with
  | .upa => if !s.upServes .UA then s else if s.upFull .UA then s.emit (.handshake .nak) else take (s.bulkOut .UA b)
  | .upb => if !s.upServes .UB then s else if s.upFull .UB then s.emit (.handshake .nak) else take (s.bulkOut .UB b)
  | .loc =>
    if !s.domainOn 1 then s
    else if !s.doorOpen .loc then s.emit (.closed .loc)
    else take { s.cutReads .loc with doors := { s.doors with loc := none, forwarded := s.doors.forwarded.filter fun f => f.door != .loc } }
  | _ => if s.doorReach d then s.directCommand d b remote else s

/-- DOOR_READ and DOOR_WRITE: a command of R364 on any door. -/
def State.cmdDoorRead (s : State) (d : Door) (facet tag idx sub : Nat) (staged : Bool) (offset len : Nat) (remote : List Byte) : State :=
  s.arrive d (doorBytes 1 facet tag idx sub (boolNat staged) offset len []) remote
def State.cmdDoorWrite (s : State) (d : Door) (facet tag : Nat) (w : RegWrite) : State :=
  s.arrive d (doorBytes 2 facet tag w.index w.sub 0 w.offset w.data.length w.data) []

/-- A forwarded command's answer, or its end: the door goes on with the next one. -/
def State.endForward (s : State) (f : Forward) (answer : List Byte) : State :=
  State.pumpDoor f.door [] 16
    (({ s with doors := { s.doors with forwarded := s.doors.forwarded.erase f } }).deliver f.door answer)

/-- The answer to an open that has waited for another facet goes on: `abort` is its code (R184). -/
def State.finishOpen (s : State) (tag : Nat) (how : OpenBy) (abort : Nat) : State :=
  match how with
  | .quiet => s
  | .verdict d => (s.answered d abort).emit (.verdict d abort [])
  | .command d =>
    match s.doors.forwarded.find? fun f => f.door == d && f.tag == some tag with
    | none => s
    | some f => (s.answered d abort).endForward f (answerTo f.bytes (statusOf abort) abort [])
  | .sdo idx sub =>
    let s := s.answered .can abort
    if abort = 0 then s.sdoSend (sdoFrame 0x60 idx sub []) else s.sdoAbort idx sub abort
  | .ring src t b =>
    let a := answerTo b (statusOf abort) abort []
    let s := s.answered .ring abort
    ({ s with ring := { s.ring with doorSeen := ((src, t, a) :: s.ring.doorSeen).take 64 } }).sendIndex src 7 0 t (.door .ring (.answer a))

/-- The other facet's answer to an open, or none in time. -/
def State.endOpen (s : State) (d : Door) (answer : Option (List Byte)) : State :=
  match (s.session d).opening with
  | none => s
  | some (tag, how) =>
    let (r, s) := s.openAnswered d answer
    s.finishOpen tag how r

/-- 5 ms pass without an answer from the target of a door's forwarded command, or of an open that the door waits for (R184, R362)
(DEDUCED, log 71). -/
def State.cmdDoorForwardTimeout (s : State) (d : Door) : State :=
  let waits := fun (o : Nat × OpenBy) => match o.2 with
    | .verdict e => e == d
    | .command e => e == d
    | .sdo _ _ => d == .can
    | .ring _ _ _ => d == .ring
    | .quiet => false
  match allDoors.find? fun e => (s.session e).opening.any waits with
  | some e => s.endOpen e none
  | none =>
    match s.doors.forwarded.find? fun f => f.door == d && f.tag.isSome with
    | none => s
    | some f => s.endForward f (answerTo f.bytes 0xB abEpoch [])

/-- Forwarded commands that found no route leave once there is one (R362). -/
def State.retryForwards (s : State) : State :=
  s.forEach (s.doors.forwarded.filter fun f => f.tag.isSome && !f.sent) fun s f => s.sendForward f

/-! ### The RING door (R101, R110, R361, R369) -/

/-- A DOOR frame of another epoch is counted (R110). -/
def State.staleDoor (s : State) (k : Link) : State :=
  (s.bump (.link k .linkViolationCount)).flag (.ring .ringEvents) ringViolation

/-- The answer to a peer's command: the epoch is checked before the door, and the door before the entry (R363) (DESIGN CHOICE, log 59). -/
def State.serveRing (s : State) (k : Link) (h : FrameHdr) (origin : Door) (b remote : List Byte) : Nat × List Byte × State :=
  if h.epoch ≠ s.get (.ring .prismEpoch) then
    (abEpoch, answerTo b 0xA abEpoch [], s.staleDoor k)
  else if !wellFormedCommand .ring b then (abMalformed, answerTo b 0xC abMalformed [], s)
  else if !s.doorOpen .ring then (abLocal, answerTo b 9 abLocal [], s)
  else s.execCommand { via := .ring, door := origin, src := some h.src } b remote

/-- A DOOR frame (R101, R110, R362, R369): a command is executed once and its answer kept, an answer goes back to the door that asked, and
a notification to the hosts of this facet. To the door that waits for an answer, one of another epoch reads as the stale-epoch status
(DEDUCED, log 19). -/
def State.cmdDoor (s : State) (k : Link) (h : FrameHdr) (origin : Door) (body : DoorBody) (remote : List Byte) : State :=
  let (mine, s) := s.receive k h 7 (.door origin body)
  if !mine ∨ !s.domainOn 1 ∨ s.faults.safeRun then s
  else
    match body with
    | .command b =>
      match s.ring.doorSeen.find? fun e => e.1 == h.src && e.2.1 == h.tag with
      | some e => s.sendIndex h.src 7 0 h.tag (.door .ring (.answer e.2.2))
      | none =>
        let (r, a, s) := s.serveRing k h origin b remote
        if r = abWaits then s.awaitOpen (.ring h.src h.tag b)
        else
          let s := { s with ring := { s.ring with doorSeen := (((h.src, h.tag, a)) :: s.ring.doorSeen).take 64 } }
          -- the read that the answer carries is complete when the answer leaves (R188)
          (s.sendIndex h.src 7 0 h.tag (.door .ring (.answer a))).readDone .ring
    | .answer a =>
      let stale := h.epoch != s.get (.ring .prismEpoch)
      let s := s.when stale fun s => s.staleDoor k
      match s.openingOf h.tag with
      | some d => s.endOpen d (if stale then none else some a)
      | none =>
        match s.doors.forwarded.find? fun f => f.tag == some h.tag && f.sent with
        | none => s
        | some f => s.endForward f (if stale then answerTo f.bytes 0xA abEpoch [] else a)
    | .notice b => if h.epoch ≠ s.get (.ring .prismEpoch) then s.staleDoor k else (s.queueNote .UA b).queueNote .UB b

/-! ### The LOC door (R368, R451) -/

/-- A Block Write with command code 0x01 (DEDUCED, log 71). -/
def State.cmdLocBlockWrite (s : State) (b : List Byte) (pecOk : Bool) : State :=
  if !s.domainOn 1 then s
  else if !s.doorOpen .loc then s.emit (.closed .loc)
  else if s.isTrue (.loc .locPec) ∧ !pecOk then s.bump (.loc .locPecErrorCount)
  else s.arrive .loc b []

/-- A Block Read with command code 0x02: the oldest answer not yet read, or 0xFE. With it a read that the answer carries is complete
(R188). -/
def State.cmdLocBlockRead (s : State) : State :=
  if !s.domainOn 1 then s
  else if !s.doorOpen .loc then s.emit (.closed .loc)
  else
    match s.doors.loc with
    | none => s.emit (.door .loc [0xFE])
    | some a => (({ s with doors := { s.doors with loc := none } }).readDone .loc).emit (.door .loc a)

/-- SCL held low resets the target's bus logic (R451): an answer that waits is kept (DEDUCED, log 73). -/
def State.cmdLocBusTimeout (s : State) : State := s

/-! ### Notifications (R370) -/

/-- A host IN on EP2 takes one notification; the report of lost ones goes first (DESIGN CHOICE, log 65). -/
def State.cmdNotificationEp2In (s : State) (u : Upstream) (acked : Bool) : State :=
  match s.mgmtFn u with
  | none => s
  | some f =>
    let x := s.fnDev f
    if x.config ≠ 1 then s.mgmtHs u x.addr 2 .silent
    else if x.halted.testBit (haltBit 0x82) then s.mgmtHs u x.addr 2 .stall
    else
      let up := s.up u
      let t := x.toggle.testBit (haltBit 0x82)
      let next : Option (List Byte × UpRt) :=
        if up.lost ≠ 0 then some (s.note 0x7F (min up.lost 255) 0 0, { up with lost := 0 })
        else match up.notes with
          | [] => none
          | b :: rest => some (b, { up with notes := rest })
      match next with
      | none => s.mgmtHs u x.addr 2 .nak
      | some (b, after) =>
        let s := s.mgmtData u x.addr 2 t acked b
        if acked then (s.setFnDev f { x with toggle := setBit x.toggle (haltBit 0x82) (!t) }).setUp u after else s

/-! ### Rows that are one write or one read of one entry -/

/-- A write whose posting and applying are one step, and its verdict. -/
def State.directWrite (s : State) (d : Door) (idx sub offset : Nat) (data : List Byte) : State :=
  if !s.doorReach d then s
  else
    let (r, s) := s.doorWrite (callerAt d) { index := idx, sub := sub, offset := offset, data := data } true
    s.writeVerdict d r

/-- A read of one entry, and its verdict, with which it is complete. -/
def State.directRead (s : State) (d : Door) (idx sub len : Nat) (remote : List Byte) : State :=
  if !s.doorReach d then s
  else
    let (r, data, s) := s.doorRead (callerAt d) idx sub false 0 len (if d = .loc then 239 else 1024) remote
    (s.readDone d).emit (.verdict d r data)

end Sys2Proof.Machine
end

