-- ==== Sys2Proof/Machine/Can.lean ====
section
/-! DEFINITION. The CAN door's services (R371, R372, R393): SDO transfers, NMT, PDOs, SYNC and heartbeat, as CiA 301 lays their frames
out. -/

namespace Sys2Proof.Machine

/-! ### SDO (R371) -/

/-- A DOMAIN access starts at `SdoDomainOffset`, which returns to 0 after it. -/
def State.sdoOffset (s : State) (idx sub : Nat) : Nat :=
  if (entryOf idx sub).any fun e => e.typ == .domain then s.get (.can .sdoDomainOffset) else 0
def State.sdoOffsetDone (s : State) (idx sub : Nat) : State :=
  if (entryOf idx sub).any fun e => e.typ == .domain then s.set (.can .sdoDomainOffset) 0 else s

/-- An upload request: the entry is read whole, live or staged; up to four bytes go expedited, more in segments. -/
def State.cmdSdoUpload (s : State) (idx sub : Nat) (remote : List Byte) : State :=
  if !s.sdoServes then s
  else
    let s := s.endSdo
    let staged := s.get (.can .sdoReadStaged) == 1
    let (r, data, s) := s.doorRead (callerAt .can) idx sub staged (s.sdoOffset idx sub) 0 1024 remote
    let s := (s.set (.can .sdoReadStaged) 0).sdoOffsetDone idx sub
    let b := canOrder idx sub data
    if r ≠ 0 then s.sdoAbort idx sub r
    else if 0 < b.length ∧ b.length ≤ 4 then
      (s.sdoSend (sdoFrame (0x43 + 4 * (4 - b.length)) idx sub b)).readDone .can
    else
      (s.sdoSend (sdoFrame 0x41 idx sub (bytesLe 4 b.length))).modDoors fun x =>
        { x with sdo := some { index := idx, sub := sub, download := false, toggle := false, data := b, done := 0 } }

/-- The bytes of a download are written to the entry. -/
def State.sdoWrite (s : State) (idx sub : Nat) (b : List Byte) : Nat × State :=
  let (r, s) := s.doorWrite (callerAt .can) { index := idx, sub := sub, offset := s.sdoOffset idx sub, data := canOrder idx sub b } false
  -- a write of the offset itself is no DOMAIN access
  (r, s.sdoOffsetDone idx sub)

/-- The steward, or in fail-safe the monitor, takes the frames of a transfer (R23, R337, R366). -/
def State.sdoTakes (s : State) : Bool := s.stewardServes || s.faults.safeRun

/-- A frame that meets no steward is answered busy (R23, R366). -/
def State.sdoBusy (s : State) (idx sub : Nat) : State :=
  (s.answered .can abBusy).sdoAbort idx sub abBusy

/-- The outcome of a download: `ok` tells it to the client, or another facet's answer has to come first (R184). -/
def State.sdoWritten (s : State) (idx sub r : Nat) (ok : List Byte) : State :=
  if r = abWaits then s.awaitOpen (.sdo idx sub) else if r ≠ 0 then s.sdoAbort idx sub r else s.sdoSend ok

/-- A download request: expedited with its data, or the start of segments. -/
def State.cmdSdoDownload (s : State) (idx sub : Nat) (expedited : Option (List Byte)) : State :=
  if !s.sdoServes then s
  else
    let s := s.endSdo
    match expedited with
    | some b =>
      let (r, s) := s.sdoWrite idx sub (b.take 4)
      s.sdoWritten idx sub r (sdoFrame 0x60 idx sub [])
    | none =>
      if !s.sdoTakes then s.sdoBusy idx sub else
      (s.sdoSend (sdoFrame 0x60 idx sub [])).modDoors fun x =>
        { x with sdo := some { index := idx, sub := sub, download := true, toggle := false, data := [], done := 0 } }

/-- A segment: of a download with its data and whether it is the last, or the request for the next one of an upload. -/
def State.cmdSdoSegment (s : State) (toggle : Bool) (seg : Option (List Byte × Bool)) : State :=
  if !s.sdoServes then s
  else
    match s.doors.sdo with
    | none => s.sdoAbort 0 0 abMalformed
    | some x =>
      if !s.sdoTakes then s.sdoBusy x.index x.sub
      else if x.download ≠ seg.isSome then s.sdoAbort x.index x.sub abMalformed
      else if x.toggle ≠ toggle then s.sdoAbort x.index x.sub 0x05030000
      else
        match seg with
        | some (b, last) =>
          let data := x.data ++ b.take 7
          let ok := [byteOf (0x20 + 16 * boolNat toggle)] ++ List.replicate 7 (0 : Byte)
          if last then
            let (r, s) := s.sdoWrite x.index x.sub data
            s.endSdo.sdoWritten x.index x.sub r ok
          else (s.sdoSend ok).modDoors fun y => { y with sdo := some { x with data := data, toggle := !toggle } }
        | none =>
          let b := (x.data.drop x.done).take 7
          let last := decide (x.data.length ≤ x.done + 7)
          let s := s.sdoSend ([byteOf (16 * boolNat toggle + 2 * (7 - b.length) + boolNat last)] ++ (b ++ List.replicate 7 0).take 7)
          if last then (s.readDone .can).endSdo
          else s.modDoors fun y => { y with sdo := some { x with done := x.done + 7, toggle := !toggle } }

/-- 1 s without the next segment; without the steward nothing is sent. -/
def State.cmdSdoSegmentTimeout (s : State) : State :=
  match s.doors.sdo with
  | none => s
  | some x => if s.sdoServes && s.sdoTakes then s.sdoAbort x.index x.sub 0x05040000 else s.endSdo

/-- The client aborts. -/
def State.cmdSdoAbort (s : State) : State := s.endSdo

/-! ### NMT (R371) -/

/-- NMT is obeyed while the services run and the controller is on the bus, in Stopped too. -/
def State.nmtServes (s : State) (node : Nat) : Bool :=
  s.domainOn 1 && s.stewardServes && !s.doors.canOff && !s.doors.busOff && !s.faults.safeRun && s.get (.can .canState) != 0 &&
    (node == 0 || node == s.get (.can .canNodeIdActive))

/-- Start, Stop and Enter pre-operational: an SDO transfer does not outlast Stopped. -/
def State.cmdNmtStart (s : State) (node : Nat) : State := if s.nmtServes node then s.set (.can .canState) 5 else s
def State.cmdNmtStop (s : State) (node : Nat) : State :=
  if s.nmtServes node then ((s.set (.can .canState) 4).endSdo).modDoors fun x => { x with rpdoHeld := [] } else s
def State.cmdNmtEnterPreOperational (s : State) (node : Nat) : State :=
  if s.nmtServes node then (s.set (.can .canState) 127).modDoors fun x => { x with rpdoHeld := [] } else s

/-- Reset communication fixes the node ID and the bit rates and sends boot-up; communication objects keep their values but for the
COB-IDs that follow the node ID (R393) (DEDUCED, log 72). -/
def State.cmdNmtResetCommunication (s : State) (node : Nat) : State := if s.nmtServes node then s.canBoot else s

/-- Reset node restarts the services and the controller, not the hub. -/
def State.cmdNmtResetNode (s : State) (node : Nat) : State := if s.nmtServes node then s.canBoot else s

/-- The producer heartbeat leaves, in Stopped too. -/
def State.cmdHeartbeatSend (s : State) : State :=
  if s.nmtServes 0 ∧ s.get (.comm .heartbeatTime) ≠ 0 then
    s.sendCan (0x700 + s.get (.can .canNodeIdActive)) [byteOf (s.get (.can .canState))]
  else s

/-! ### PDOs (R371) -/

/-- Process data flows. -/
def State.operational (s : State) : Bool := s.canRuns && s.get (.can .canState) == 5

/-- The mapping of a PDO: its entries and their lengths in bytes. -/
def pdoMap (s : State) (count : Nat) (at_ : Fin 16 → Reg) : List (Nat × Nat × Nat) :=
  (((List.finRange 16).take count).map fun k => mapped (s.get (at_ k))).map fun m => (m.1, m.2.1, m.2.2 / 8)

/-- The data of TPDO t: the live values, cut to a classical frame while no data rate is in use (DEDUCED, log 72). -/
def State.tpdoData (s : State) (t : Fin 8) : List Byte :=
  let b := (pdoMap s (s.get (.tpdo t .mapCount)) fun k => .tpdo t (.mapEntry k)).flatMap fun m =>
    if m.1 = 0 then List.replicate m.2.2 0 else canOrder m.1 m.2.1 ((s.posting m.1 m.2.1).entryBytes (callerAt .can) m.1 m.2.1 false)
  b.take (if s.doors.dataRate = 0 then 8 else 64)

/-- Sends TPDO t. -/
def State.tpdoOut (s : State) (t : Fin 8) : State :=
  (s.sendCan (s.get (.tpdo t .cobId) % 2048) (s.tpdoData t)).modDoors fun x =>
    { x with tpdoTimes := Table.put id 0 x.tpdoTimes t.val s.time.elapsed }

/-- TPDO t is due by its event timer or a change: type 0 waits for the next SYNC, 254 and 255 leave when the inhibit time has passed. -/
def State.cmdTpdoSend (s : State) (t : Fin 8) : State :=
  let typ := s.get (.tpdo t .transType)
  let last := s.doors.tpdoTimes.find? fun e => e.1 == t.val
  let free := last.all fun e => decide (e.2 + s.get (.tpdo t .inhibitTime) * 240000 ≤ s.time.elapsed)
  if !s.operational || (s.get (.tpdo t .cobId)).testBit 31 then s
  else if typ = 0 then s.modDoors fun x => { x with tpdoSyncs := Table.put id 0 x.tpdoSyncs t.val 1 }
  else if typ ≤ 240 then s
  else if free then s.tpdoOut t else s

/-- TPDO t at a SYNC. -/
def State.tpdoSync (s : State) (t : Fin 8) : State :=
  let typ := s.get (.tpdo t .transType)
  let n := Table.get 0 s.doors.tpdoSyncs t.val
  let keep := fun (s : State) (v : Nat) => s.modDoors fun x => { x with tpdoSyncs := Table.put id 0 x.tpdoSyncs t.val v }
  if (s.get (.tpdo t .cobId)).testBit 31 ∨ 240 < typ then s
  else if typ = 0 then (if n = 1 then (keep s 0).tpdoOut t else s)
  else if typ ≤ n + 1 then (keep s 0).tpdoOut t
  else keep s (n + 1)

/-- The mapped entries of an RPDO are written, each with every check of R363. -/
def State.rpdoWrites (s : State) : List (Nat × Nat × Nat) → List Byte → State
  | [], _ => s
  | (idx, sub, n) :: rest, b =>
    let s := if idx = 0 then s
      else
        let (r, s) := s.doorWrite (callerAt .can) { index := idx, sub := sub, offset := 0, data := canOrder idx sub (b.take n) } false
        if r = 0 then s else s.bump (.can .canRpdoRefusedCount)
    State.rpdoWrites s rest (b.drop n)

/-- RPDO r takes effect (DEDUCED, log 72). -/
def State.rpdoApply (s : State) (r : Fin 4) (b : List Byte) : State :=
  s.rpdoWrites (pdoMap s (s.get (.rpdo r .mapCount)) fun k => .rpdo r (.mapEntry k)) b

/-- An RPDO is received: types 0 to 240 wait for the next SYNC. -/
def State.cmdRpdoReceive (s : State) (r : Fin 4) (b : List Byte) : State :=
  if !s.operational || (s.get (.rpdo r .cobId)).testBit 31 || !s.doorOpen .can then s
  else if s.get (.rpdo r .transType) ≤ 240 then
    s.modDoors fun x => { x with rpdoHeld := (x.rpdoHeld.filter fun e => e.1 != r.val) ++ [(r.val, b)] }
  else s.rpdoApply r b

/-- An RPDO's deadline passes (R393): the manual gives it no consequence, and a later RPDO is taken as before (DEDUCED, log 73). -/
def State.cmdRpdoEventTimerExpiry (s : State) (_ : Fin 4) : State := s

/-! ### SYNC (R231, R371) -/

/-- What a SYNC does to the PDOs. -/
def State.syncPdos (s : State) : State :=
  if !s.operational then s
  else
    let held := s.doors.rpdoHeld
    let s := s.modDoors fun x => { x with rpdoHeld := [] }
    let s := s.forEach held fun s e => if h : e.1 < 4 then s.rpdoApply ⟨e.1, h⟩ e.2 else s
    s.forEach (List.finRange 8) fun s t => s.tpdoSync t

/-- The counter passes `CanSyncPhase`. -/
def State.cmdCanSyncSend (s : State) : State :=
  let t := s.sendSync
  if t.out.length = s.out.length then t else t.syncPdos

/-- A SYNC is received. -/
def State.cmdCanSyncReceive (s : State) : State := if s.canRuns then s.stampSync.syncPdos else s

end Sys2Proof.Machine
end

