-- ==== Sys2Proof/Machine/After.lean ====
section
/-! DEFINITION. The end of a command's step: faults and domain commands that it left are acted on (R317, R334, R341), and what changed is
told to peers and hosts (R123, R135, R159, R170, R174). -/

namespace Sys2Proof.Machine

/-! ### What runs (R17, R310) -/

/-- HUB's logic is clocked: HUB is on and the PLL is locked (DEDUCED, log 7). -/
def State.coreRuns (s : State) : Bool := s.domainOn 1 && s.time.pll

/-- An event that the core's logic sees: without its clock or its supply there is none (DEDUCED, log 7). -/
def State.whenCore (s : State) (f : State → State) : State := if s.coreRuns then f s else s

/-- An event that the ring layer sees (DEDUCED, log 7). -/
def State.whenRing (s : State) (f : State → State) : State := if s.coreRuns && s.domainOn 6 then f s else s

/-! ### The end of a command's step -/

/-- Acts on what a command left: raises of one cycle together, the rest in order (DESIGN CHOICE, log 80). -/
def State.settle : Nat → State → State
  | 0, s => s
  | n + 1, s =>
    match s.due with
    | [] => s
    | d :: rest =>
      let raised := fun (x : Due) => match x with
        | .raised a b => some (a, b)
        | _ => none
      let s' : State := { s with due := rest }
      match d with
      | .raised _ _ =>
        let batch := (s.due.takeWhile fun x => (raised x).isSome).filterMap raised
        State.settle n (({ s with due := s.due.dropWhile fun x => (raised x).isSome }).raiseAll batch)
      | .over source => State.settle n (s'.sourceOver source)
      | .failSafe =>
        State.settle n ((s'.modFaults fun f => { f with safe := some ⟨51, 5, 5, .nothing, 0, [], []⟩ }).enterSafe)
      | .sleep mask goal => State.settle n (s'.runSleep mask goal)
      | .wake ask => State.settle n (s'.askWake [ask])

/-- A carried request is answered with the port's status; what changed otherwise at a port of an image whose entry is elsewhere is told to
the entry facet (R123) (DESIGN CHOICE, log 80). -/
def State.tellPorts (s before : State) : State :=
  if s.alone then s
  else
    s.forEach s.allPorts fun s p =>
      match s.logicalOf p, (s.port p).answerTo with
      | some (i, _), some (dst, tag, seq) => (s.modPort p fun x => { x with answerTo := none }).sendPortStatus dst i p tag seq
      | some (i, _), none =>
        if s.entryHere i ∨ s.portStatusBody p = before.portStatusBody p then s
        else s.sendPortStatus (s.indexOf (s.memberAt (s.activeByte i % 16))) i p 0 0
      | none, _ => s

/-- The ports of an image whose record or place in HoldoverHeldPorts a command has changed: this facet's own, and those that the entry
facet has moved through an adoption. -/
def State.recordsMoved (s before : State) (i : Image) : List Nat :=
  let own := (s.logicalPorts i).filter fun m =>
    match s.place i m with
    | .own _ => (s.record i m).bytes m != (before.record i m).bytes m || s.heldPort i m != before.heldPort i m
    | _ => false
  own ++ (s.hold i).tellPorts.filter fun m => !own.contains m

/-- What a command has changed of an image is copied to every member (R116, R160, R170, R174): adoption records, the entries of its
hold-over, and what its upstreams on this facet stand at. -/
def State.tellMembers (s before : State) : State :=
  s.forEach ((List.finRange 4).filter fun i => s.enabled i) fun s i =>
    let h := s.hold i
    let ready := fun (t : State) => (t.activeUp i, (t.activeUp i).map fun u => (t.up u).attached, (t.mirrorUp i).map t.standbyReady)
    let moved := s.recordsMoved before i
    let s := if h.tell ∨ h.tellPorts ≠ [] then s.modHold i fun x => { x with tell := false, tellPorts := [] } else s
    if s.alone then s
    else
      let s := s.forEach moved fun s m => s.tellRecord i m
      let s := if h.tell then s.broadcast 4 i.val (.sync (.holdInfo i (s.holdValues i))) else s
      if ready s = ready before then s else s.tellUpstream i

/-- Changes of hold-over entries are reported on EP2 IN (R159, R370). -/
def State.tellHosts (s before : State) : State :=
  s.forEach (List.finRange 4) fun s i =>
    let changed := fun (r : Reg) => s.get r != before.get r
    let post := fun (s : State) (kind value : Nat) =>
      let b := s.note kind i.val value 0
      (s.queueNote .UA b).queueNote .UB b
    let s := if changed (.hold4 i .holdoverState) then post s 3 (s.get (.hold4 i .holdoverState)) else s
    let s := if changed (.hold4 i .adoptResult) then post s 4 (s.get (.hold4 i .adoptResult)) else s
    if changed (.hold4 i .holdoverHeldPorts) then post s 5 0 else s

/-- The supply side of a change (R261 to R263, R300, R352): power-good falls with its conditions; the budget follows the feeds, and A
above B starts the time of the manager's shedding; the last feed to leave state 6 leaves a last-gasp record. -/
def State.tellSupply (s before : State) : State :=
  let s := s.dropGood
  let s := if s.domainOn 5 && s.domainOn 1 && (s.get (.pd .pdBudgetFeedLimit) != s.feedLimit ||
      s.get (.pd .pdBudgetBoard) != before.get (.pd .pdBudgetBoard)) then s.budgetChanged
    else s
  let s := { s with path := { s.path with
    overFrom := if s.budget < s.allocated then some (s.path.overFrom.getD s.time.elapsed) else none } }
  if s.domainOn 1 && before.feedsOn != 0 && s.feedsOn == 0 && before.domainOn 1 then
    s.undoCheckpoint.startGasp (before.get (.power .powerPathState))
  else s

/-- Outputs whose level a command has changed are driven to it (R300, R320, R324). -/
def State.tellPins (s before : State) : State :=
  s.forEach ([Pin.canStby, .ddrResetN, .ddrCke, .pgColl].filter fun p => s.level p != before.level p) fun s p =>
    if s.out.contains (.pin p (s.level p)) then s else s.emit (.pin p (s.level p))

/-- S4 completes by itself at the moments R336 gives (DEDUCED, log 63). -/
def State.endHandOver (s : State) : State :=
  match s.faults.running with
  | some r => if r.level = 4 ∧ s.handedOver r then s.cmdFaultReactionComplete else s
  | none => s

/-- The state a command starts from: what the last one sent is gone (DEDUCED, log 9). -/
def State.fresh (s : State) : State := { s with out := [], due := [] }

/-- From what a command has made of `before`, the faults and domain commands it left are acted on, others are told of what changed, and
what follows from a changed topology is done. -/
def State.concluded (before made : State) : State :=
  let t := State.settle 64 made
  let t := ((((t.tellPorts before).tellMembers before).tellHosts before).tellSupply before).dropLaunches
  let t := (t.dropFarOwner.retryForwards).endHandOver.pool
  (State.settle 64 t).tellPins before

/-- The queue and what fuses fix stay as they were before; nothing is left to act on. -/
def State.close (t before : State) : State := { t with pending := before.pending, ident := before.ident, due := [] }

/-- What ends a command's step, whatever the command (DEDUCED, log 9). -/
def State.finish (before made : State) : State := (before.concluded made).close before

/-- A command's step: what it does, then what ends every step. -/
def State.after (s : State) (f : State → State) : State := s.finish (f s.fresh)

end Sys2Proof.Machine
end

