-- ==== Sys2Proof/Machine/RowsBoot.lean ====
section
/-! DEFINITION. The meanings of the commands of start-up (R404 to R420): each is a family's operation, run as one step by `State.after`. -/

namespace Sys2Proof.Machine

/-- R404. The power die's supply rises and it starts its protection functions with defaults. -/
def execPowerDieStart (s : State) : Host.Outcome State Fault Refusal :=
  .next (s.after fun s => s.cmdPowerDieStart)

/-- R406. VAON above 3.1 V for 1 ms with RESET_N high starts the logic die from step 1. -/
def execPowerOn (s : State) : Host.Outcome State Fault Refusal :=
  .next (s.after fun s => s.cmdPowerOn)

/-- R408. RESET_N low holds every logic-die domain in reset and switches port VBUS off. -/
def execResetNLow (s : State) : Host.Outcome State Fault Refusal :=
  .next (s.after fun s => s.cmdResetNLow)

/-- R406. A rising edge of RESET_N starts the logic die from step 1. -/
def execResetNRise (s : State) : Host.Outcome State Fault Refusal :=
  .next (s.after fun s => s.cmdResetNRise)

/-- R407. XO is not stable within 10 ms of a start and XO_FAIL is raised. -/
def execXoStartTimeout (s : State) : Host.Outcome State Fault Refusal :=
  .next (s.after fun s => s.cmdXoStartTimeout)

/-- R418. The ROM chooses, loads and checks a firmware bank, or runs the recovery loader. -/
def execStewardBoot (banks : Bool × Bool) (sfdp : Option (Nat × Nat)) (s : State) : Host.Outcome State Fault Refusal :=
  .next (s.after fun s => s.whenCore fun s => s.cmdStewardBoot banks.1 banks.2 sfdp)

/-- R420. The steward loads the newer valid stored configuration, or the defaults. -/
def execConfigLoad (aOk : Bool) (bOk : Bool) (s : State) : Host.Outcome State Fault Refusal :=
  .next (s.after fun s => s.whenCore fun s => s.cmdConfigLoad aOk bOk)

/-- R409. Once membership is settled the image upstream connects its pull-up and the host sees the hub. -/
def execUpstreamPullupConnect (s : State) : Host.Outcome State Fault Refusal :=
  .next (s.after fun s => s.whenCore fun s => s.cmdUpstreamPullupConnect)

end Sys2Proof.Machine
end

