-- ==== Sys2Proof/Machine/RowsDoors.lean ====
section
/-! DEFINITION. The meanings of the commands of the doors, CANopen, commits, Lens, provocation and firmware update (R357 to R434): each is
a family's operation, run as one step by `State.after`. -/

namespace Sys2Proof.Machine

/-- R364. A door read command is checked and answered with the entry's value. -/
def execDoorRead (d : Door) (facet : Nat) (tag : Nat) (idx : Nat) (sub : Nat) (staged : Bool) (offset : Nat)
    (len : Nat) (remote : List Byte)
    (s : State) : Host.Outcome State Fault Refusal :=
  .next (s.after fun s => s.whenCore fun s => s.cmdDoorRead d facet tag idx sub staged offset len remote)

/-- R364. A door write command is checked and applied, posted or refused. -/
def execDoorWrite (d : Door) (facet : Nat) (tag : Nat) (w : RegWrite) (s : State) : Host.Outcome State Fault Refusal :=
  .next (s.after fun s => s.whenCore fun s => s.cmdDoorWrite d facet tag w)

/-- R368. An SMBus Block Write with code 0x01 delivers one command to the LOC door. -/
def execLocBlockWrite (b : List Byte) (pecOk : Bool) (s : State) : Host.Outcome State Fault Refusal :=
  .next (s.after fun s => s.whenCore fun s => s.cmdLocBlockWrite b pecOk)

/-- R368. An SMBus Block Read with code 0x02 returns the oldest unread answer or 0xFE. -/
def execLocBlockRead (s : State) : Host.Outcome State Fault Refusal :=
  .next (s.after fun s => s.whenCore fun s => s.cmdLocBlockRead)

/-- R369. A DOOR frame from a peer executes a command on the RING door, or replays a duplicate's answer. -/
def execDoor (k : Link) (h : FrameHdr) (origin : Door) (body : DoorBody) (remote : List Byte)
    (s : State) : Host.Outcome State Fault Refusal :=
  .next (s.after fun s => s.whenRing fun s => s.cmdDoor k h origin body remote)

/-- R362. A forwarded command's target is not reached within 5 ms and status 0x0B is answered. -/
def execDoorForwardTimeout (d : Door) (s : State) : Host.Outcome State Fault Refusal :=
  .next (s.after fun s => s.whenCore fun s => s.cmdDoorForwardTimeout d)

/-- R370. A host IN on EP2 takes one queued 16-byte notification, or NAK. -/
def execNotificationEp2In (u : Upstream) (acked : Bool) (s : State) : Host.Outcome State Fault Refusal :=
  .next (s.after fun s => s.whenCore fun s => s.cmdNotificationEp2In u acked)

/-- R371. An SDO upload request reads an entry, expedited or segmented. -/
def execSdoUpload (idx : Nat) (sub : Nat) (remote : List Byte) (s : State) : Host.Outcome State Fault Refusal :=
  .next (s.after fun s => s.whenCore fun s => s.cmdSdoUpload idx sub remote)

/-- R371. An SDO download request writes an entry, expedited or segmented. -/
def execSdoDownload (idx : Nat) (sub : Nat) (expedited : Option (List Byte)) (s : State) : Host.Outcome State Fault Refusal :=
  .next (s.after fun s => s.whenCore fun s => s.cmdSdoDownload idx sub expedited)

/-- R371. A segment of a segmented SDO transfer is taken or sent. -/
def execSdoSegment (toggle : Bool) (seg : Option (List Byte × Bool)) (s : State) : Host.Outcome State Fault Refusal :=
  .next (s.after fun s => s.whenCore fun s => s.cmdSdoSegment toggle seg)

/-- R371. No next segment within 1 s aborts the SDO with 0x05040000. -/
def execSdoSegmentTimeout (s : State) : Host.Outcome State Fault Refusal :=
  .next (s.after fun s => s.whenCore fun s => s.cmdSdoSegmentTimeout)

/-- R371. A client's SDO abort ends the transfer in progress. -/
def execSdoAbort (s : State) : Host.Outcome State Fault Refusal :=
  .next (s.after fun s => s.whenCore fun s => s.cmdSdoAbort)

/-- R371. NMT Start remote node enters Operational. -/
def execNmtStart (node : Nat) (s : State) : Host.Outcome State Fault Refusal :=
  .next (s.after fun s => s.whenCore fun s => s.cmdNmtStart node)

/-- R371. NMT Stop remote node enters Stopped. -/
def execNmtStop (node : Nat) (s : State) : Host.Outcome State Fault Refusal :=
  .next (s.after fun s => s.whenCore fun s => s.cmdNmtStop node)

/-- R371. NMT Enter pre-operational enters Pre-operational. -/
def execNmtEnterPreOperational (node : Nat) (s : State) : Host.Outcome State Fault Refusal :=
  .next (s.after fun s => s.whenCore fun s => s.cmdNmtEnterPreOperational node)

/-- R371. NMT Reset node restarts the CANopen services and the CAN controller and sends boot-up. -/
def execNmtResetNode (node : Nat) (s : State) : Host.Outcome State Fault Refusal :=
  .next (s.after fun s => s.whenCore fun s => s.cmdNmtResetNode node)

/-- R371. NMT Reset communication applies rates and node ID and sends boot-up. -/
def execNmtResetCommunication (node : Nat) (s : State) : Host.Outcome State Fault Refusal :=
  .next (s.after fun s => s.whenCore fun s => s.cmdNmtResetCommunication node)

/-- R371. A received RPDO writes its mapped entries, each checked as a write. -/
def execRpdoReceive (r : Fin 4) (b : List Byte) (s : State) : Host.Outcome State Fault Refusal :=
  .next (s.after fun s => s.whenCore fun s => s.cmdRpdoReceive r b)

/-- R371. A TPDO is sent by its transmission type, event timer or SYNC. -/
def execTpdoSend (t : Fin 8) (s : State) : Host.Outcome State Fault Refusal :=
  .next (s.after fun s => s.whenCore fun s => s.cmdTpdoSend t)

/-- R371. The producer heartbeat is sent every producer heartbeat time. -/
def execHeartbeatSend (s : State) : Host.Outcome State Fault Refusal :=
  .next (s.after fun s => s.whenCore fun s => s.cmdHeartbeatSend)

/-- R372. A write to an object 1000h–1FFFh applies at once and sets its staged value. -/
def execCommunicationObjectWrite (d : Door) (idx : Nat) (sub : Nat) (data : List Byte) (s : State) : Host.Outcome State Fault Refusal :=
  .next (s.after fun s => s.directWrite d idx sub 0 data)

/-- R373. A far domain applies a posted write and its busy bit clears. -/
def execPostedWriteApply (d : Nat) (s : State) : Host.Outcome State Fault Refusal :=
  .next (s.after fun s => s.cmdPostedWriteApply d)

/-- R375. A write to an RS entry clears named flags if its sequence number is current, else counts a stale clear. -/
def execEventFlagClear (d : Door) (idx : Nat) (sub : Nat) (v : Nat) (s : State) : Host.Outcome State Fault Refusal :=
  .next (s.after fun s => s.directWrite d idx sub 0 (bytesBe 4 v))

/-- R377. A write to a local commit-class entry changes its staged value and claims the staged set. -/
def execConfigStagingWrite (d : Door) (w : RegWrite) (s : State) : Host.Outcome State Fault Refusal :=
  .next (s.after fun s => s.directWrite d w.index w.sub w.offset w.data)

/-- R377. The owner is idle for ConfigStageIdleLimit and the staged values return to live. -/
def execStageOwnershipLapse (s : State) : Host.Outcome State Fault Refusal :=
  .next (s.after fun s => s.whenCore fun s => s.cmdStageOwnershipLapse)

/-- R379. ConfigCommit 1 checks, applies and stores the staged set. -/
def execConfigCommit (d : Door) (s : State) : Host.Outcome State Fault Refusal :=
  .next (s.after fun s => s.directWrite d 0x4C01 1 0 [1])

/-- R378. ConfigCommit 2 returns the staged values to live and ends ownership. -/
def execConfigDiscard (d : Door) (s : State) : Host.Outcome State Fault Refusal :=
  .next (s.after fun s => s.directWrite d 0x4C01 1 0 [2])

/-- R378. ConfigCommit 3 stages the values of the stored copy. -/
def execConfigReload (d : Door) (s : State) : Host.Outcome State Fault Refusal :=
  .next (s.after fun s => s.directWrite d 0x4C01 1 0 [3])

/-- R378. ConfigCommit 4 stages the defaults except LOC's rights. -/
def execConfigDefaults (d : Door) (s : State) : Host.Outcome State Fault Refusal :=
  .next (s.after fun s => s.directWrite d 0x4C01 1 0 [4])

/-- R383. Every 1 ms a pass computes ConfigCrcLive and decides Match or Mismatch. -/
def execConfigCrcPass (s : State) : Host.Outcome State Fault Refusal :=
  .next (s.after fun s => s.whenCore fun s => s.cmdConfigCrcPass)

/-- R384. A write of ConfigCrcReference makes the next full pass deciding. -/
def execConfigCrcReferenceWrite (d : Door) (v : Nat) (s : State) : Host.Outcome State Fault Refusal :=
  .next (s.after fun s => s.directWrite d 0x4C01 7 0 (bytesBe 4 v))

/-- R363. A write to an entry with no behaviour of its own is checked and stored. -/
def execRegisterWrite (d : Door) (w : RegWrite) (s : State) : Host.Outcome State Fault Refusal :=
  .next (s.after fun s => s.directWrite d w.index w.sub w.offset w.data)

/-- R429. LensCommand 1 restarts trace writing after a stop. -/
def execLensRestart (d : Door) (s : State) : Host.Outcome State Fault Refusal :=
  .next (s.after fun s => s.directWrite d 0x4800 0x0B 0 [1])

/-- R429. LensCommand 2 discards all trace records. -/
def execLensDiscard (d : Door) (s : State) : Host.Outcome State Fault Refusal :=
  .next (s.after fun s => s.directWrite d 0x4800 0x0B 0 [2])

/-- R430. A read of LensData returns whole records and advances the read pointer. -/
def execLensDataRead (d : Door) (len : Nat) (s : State) : Host.Outcome State Fault Refusal :=
  .next (s.after fun s => s.directRead d 0x4800 9 len [])

/-- R430. A write of LensReadPtr within the valid span moves the read pointer. -/
def execLensReadPtrWrite (d : Door) (v : Nat) (s : State) : Host.Outcome State Fault Refusal :=
  .next (s.after fun s => s.directWrite d 0x4800 0x0A 0 (bytesBe 4 v))

/-- R397. A write of 1 latches all 512 counters in one cycle. -/
def execLensCounterSnapshot (d : Door) (s : State) : Host.Outcome State Fault Refusal :=
  .next (s.after fun s => s.directWrite d 0x4801 2 0 [1])

/-- R397. A write of 1 sets all 512 counters to 0 in one cycle. -/
def execLensCounterClear (d : Door) (s : State) : Host.Outcome State Fault Refusal :=
  .next (s.after fun s => s.directWrite d 0x4801 3 0 [1])

/-- R432. A write of 1 to ProvokeArm arms provocation or is refused. -/
def execProvokeArm (d : Door) (s : State) : Host.Outcome State Fault Refusal :=
  .next (s.after fun s => s.directWrite d 0x4808 1 0 [1])

/-- R433. A write of 0 to ProvokeArm disarms provocation. -/
def execProvokeDisarm (d : Door) (s : State) : Host.Outcome State Fault Refusal :=
  .next (s.after fun s => s.directWrite d 0x4808 1 0 [0])

/-- R433. ProvokeRemaining reaches 0 and provocation disarms. -/
def execProvokeRunTimeEnd (s : State) : Host.Outcome State Fault Refusal :=
  .next (s.after fun s => s.whenCore fun s => s.cmdProvokeRunTimeEnd)

/-- R433. INJ_EN low for 1 µs disarms provocation. -/
def execInjEnLow (stays : Bool) (s : State) : Host.Outcome State Fault Refusal :=
  .next (s.after fun s => s.whenCore fun s => s.cmdInjEnLow stays)

/-- R422. FwUpdateCommand 1 erases the bank not running. -/
def execFwErase (d : Door) (s : State) : Host.Outcome State Fault Refusal :=
  .next (s.after fun s => s.directWrite d 0x4C03 5 0 [1])

/-- R422. The erase of the bank completes and update writes are accepted. -/
def execFwEraseDone (s : State) : Host.Outcome State Fault Refusal :=
  .next (s.after fun s => s.whenCore fun s => s.cmdFwEraseDone)

/-- R422. A write to FwUpdateData programs image pages into the bank. -/
def execFwUpdateData (d : Door) (offset : Nat) (data : List Byte) (s : State) : Host.Outcome State Fault Refusal :=
  .next (s.after fun s => s.directWrite d 0x4C03 4 offset data)

/-- R422. FwUpdateCommand 2 checks the written image under R416. -/
def execFwVerify (d : Door) (s : State) : Host.Outcome State Fault Refusal :=
  .next (s.after fun s => s.directWrite d 0x4C03 5 0 [2])

/-- R422. FwUpdateCommand 3 writes the boot record selecting the new bank on trial. -/
def execFwSelect (d : Door) (s : State) : Host.Outcome State Fault Refusal :=
  .next (s.after fun s => s.directWrite d 0x4C03 5 0 [3])

/-- R422. FwUpdateCommand 4 cancels the update and leaves the bank invalid. -/
def execFwCancel (d : Door) (s : State) : Host.Outcome State Fault Refusal :=
  .next (s.after fun s => s.directWrite d 0x4C03 5 0 [4])

/-- R423. 100 ms after a select the steward restarts into the new bank with HUB running. -/
def execFwSelectRestart (s : State) : Host.Outcome State Fault Refusal :=
  .next (s.after fun s => s.whenCore fun s => s.cmdFwSelectRestart)

/-- R417. 30 s of running without watchdog expiry clears the bank's failed-start count and Trial. -/
def execFwGoodStart (s : State) : Host.Outcome State Fault Refusal :=
  .next (s.after fun s => s.whenCore fun s => s.cmdFwGoodStart)

/-- R451. SCL held low for 30 ms makes the LOC target reset. -/
def execLocBusTimeout (s : State) : Host.Outcome State Fault Refusal :=
  .next (s.after fun s => s.cmdLocBusTimeout)

/-- R393. An RPDO's event-timer deadline passes without the RPDO being received. -/
def execRpdoEventTimerExpiry (r : Fin 4) (s : State) : Host.Outcome State Fault Refusal :=
  .next (s.after fun s => s.whenCore fun s => s.cmdRpdoEventTimerExpiry r)

end Sys2Proof.Machine
end

