-- ==== Sys2Proof/Machine/RowsFaults.lean ====
section
/-! DEFINITION. The meanings of the commands of faults and their reactions (R332 to R356): each is a family's operation, run as one step
by `State.after`. -/

namespace Sys2Proof.Machine

/-- R334. A reaction's last action completes, the window opens and merged higher sources run. -/
def execFaultReactionComplete (s : State) : Host.Outcome State Fault Refusal :=
  .next (s.after fun s => s.cmdFaultReactionComplete)

/-- R343. FaultReactionWindow ends and merged sources still live are raised again. -/
def execReactionWindowEnd (s : State) : Host.Outcome State Fault Refusal :=
  .next (s.after fun s => s.cmdReactionWindowEnd)

/-- R345. FaultPulseWidth ends and FAULT_N returns to FaultNControl. -/
def execFaultPulseEnd (s : State) : Host.Outcome State Fault Refusal :=
  .next (s.after fun s => s.cmdFaultPulseEnd)

/-- R346. A queued EMCY message is sent when the inhibit time allows and the services run. -/
def execEmcySend (s : State) : Host.Outcome State Fault Refusal :=
  .next (s.after fun s => s.whenCore fun s => s.cmdEmcySend)

/-- R335. A write of a source number releases the unit its S2 reaction holds. -/
def execFaultUnitRelease (d : Door) (source : Nat) (s : State) : Host.Outcome State Fault Refusal :=
  .next (s.after fun s => s.directWrite d 0x4400 0x10 0 [byteOf source])

/-- R338. A write of 0xA5 ends fail-safe and starts the logic die as from power-on. -/
def execFaultSafeRelease (d : Door) (s : State) : Host.Outcome State Fault Refusal :=
  .next (s.after fun s => s.directWrite d 0x4400 0x11 0 [0xA5])

/-- R332. A write to FaultSoftRaise raises SOFT_EVENT with its detail. -/
def execFaultSoftRaise (d : Door) (detail : Nat) (s : State) : Host.Outcome State Fault Refusal :=
  .next (s.after fun s => s.directWrite d 0x4400 0x12 0 (bytesBe 4 detail))

/-- R345. A write of FaultNControl drives FAULT_N low or releases it outside a pulse. -/
def execFaultNControl (d : Door) (v : Nat) (s : State) : Host.Outcome State Fault Refusal :=
  .next (s.after fun s => s.directWrite d 0x4400 0x0E 0 [byteOf v])

/-- R340. Clearing FIRST with the current sequence number empties the first-source latch. -/
def execFaultLatchClear (d : Door) (seq : Nat) (s : State) : Host.Outcome State Fault Refusal :=
  .next (s.after fun s => s.directWrite d 0x4400 5 0 (bytesBe 4 (seq % 256 * 2 ^ 24 + 1)))

/-- R332. The steward watchdog expires and raises STEWARD_WDT. -/
def execStewardWatchdogExpiry (s : State) : Host.Outcome State Fault Refusal :=
  .next (s.after fun s => s.cmdStewardWatchdogExpiry)

/-- R371. The CAN controller enters bus-off and raises CAN_BUSOFF. -/
def execCanBusOff (errors : Nat) (s : State) : Host.Outcome State Fault Refusal :=
  .next (s.after fun s => s.whenCore fun s => s.cmdCanBusOff errors)

/-- R371. After 128 occurrences of 11 recessive bits the controller recovers and sends its EMCY. -/
def execBusOffRecovery (s : State) : Host.Outcome State Fault Refusal :=
  .next (s.after fun s => s.whenCore fun s => s.cmdBusOffRecovery)

/-- R455. Every 1 ms a die sensor converts and THERM_WARN or THERM_CRIT is judged. -/
def execTemperatureConversion (power : Bool) (reading : Int) (s : State) : Host.Outcome State Fault Refusal :=
  .next (s.after fun s => s.cmdTemperatureConversion power reading)

/-- R332. VDDIO, VDDQ or VSERDES outside ±5 % for 10 µs raises SUPPLY_MON. -/
def execSupplyMonitorExcursion (n : Fin 3) (s : State) : Host.Outcome State Fault Refusal :=
  .next (s.after fun s => s.cmdSupplyMonitorExcursion n)

/-- R332. CORE_PG falls while VDD_CORE is commanded and acknowledged: REG_PG_LOSS. -/
def execCorePgFall (s : State) : Host.Outcome State Fault Refusal :=
  .next (s.after fun s => s.cmdCorePgFall)

/-- R332. The clock monitor sees no XO edge for 2 µs and raises XO_FAIL. -/
def execXoLoss (s : State) : Host.Outcome State Fault Refusal :=
  .next (s.after fun s => s.cmdXoLoss)

/-- R352. The last-gasp page program completes. -/
def execLastGaspProgramDone (s : State) : Host.Outcome State Fault Refusal :=
  .next (s.after fun s => s.cmdLastGaspProgramDone)

/-- R350. A two-copy configuration store is written and read back, or fails with FLASH_ERR. -/
def execConfigStoreDone (ok : Bool) (s : State) : Host.Outcome State Fault Refusal :=
  .next (s.after fun s => s.whenCore fun s => s.cmdConfigStoreDone ok)

end Sys2Proof.Machine
end

