-- ==== Sys2Proof/Machine/RowsHub.lean ====
section
/-! DEFINITION. The meanings of the commands of the clocks, the hub function, downstream ports and host tokens (R17 to R67): each is a
family's operation, run as one step by `State.after`. -/

namespace Sys2Proof.Machine

/-- R17. The PLL loses lock: only XO and AON run, the time counter steps in 40 ns from XO, and the PD message layer stops. -/
def execPllUnlock (s : State) : Host.Outcome State Fault Refusal :=
  .next (s.after fun s => s.cmdPllUnlock)

/-- R210. The PLL relocks: the time counter returns to TIME edges without a step, and the servo, stamps and launches resume. -/
def execPllRelock (s : State) : Host.Outcome State Fault Refusal :=
  .next (s.after fun s => s.cmdPllRelock)

/-- R21. A free HS engine context is granted to waiting work in the order hold-over, launches, then relay round-robin. -/
def execHsEngineContextGrant (s : State) : Host.Outcome State Fault Refusal :=
  .next (s.after fun s => s.whenCore fun s => s.cmdHsEngineContextGrant)

/-- R35. Reset on an image's active upstream returns the hub function to Default; ports power off (unarmed) or are kept (armed). -/
def execUpstreamReset (u : Upstream) (midControl : Bool) (hs : Bool) (s : State) : Host.Outcome State Fault Refusal :=
  .next (s.after fun s => s.whenCore fun s => s.cmdUpstreamReset u midControl hs)

/-- R32. A standard GET_STATUS to the hub function is answered with its device, interface or endpoint status. -/
def execGetStatus (f : Fn) (r : Recipient) (ep : Nat) (s : State) : Host.Outcome State Fault Refusal :=
  .next (s.after fun s => s.whenCore fun s => s.cmdGetStatus f r ep)

/-- R32. Enables remote wake-up of the hub function. -/
def execSetFeatureDeviceRemoteWakeup (f : Fn) (s : State) : Host.Outcome State Fault Refusal :=
  .next (s.after fun s => s.whenCore fun s => s.cmdSetFeatureDeviceRemoteWakeup f)

/-- R32. Disables remote wake-up of the hub function. -/
def execClearFeatureDeviceRemoteWakeup (f : Fn) (s : State) : Host.Outcome State Fault Refusal :=
  .next (s.after fun s => s.whenCore fun s => s.cmdClearFeatureDeviceRemoteWakeup f)

/-- R32. Halts EP1 IN of the hub function. -/
def execSetFeatureEndpointHalt (t : CtlTarget) (ep : Nat) (s : State) : Host.Outcome State Fault Refusal :=
  .next (s.after fun s => s.whenCore fun s => s.cmdSetFeatureEndpointHalt t ep)

/-- R32. Clears the halt of EP1 IN and resets its toggle to DATA0. -/
def execClearFeatureEndpointHalt (t : CtlTarget) (ep : Nat) (s : State) : Host.Outcome State Fault Refusal :=
  .next (s.after fun s => s.whenCore fun s => s.cmdClearFeatureEndpointHalt t ep)

/-- R32. Enters a test mode on the upstream port after the status stage. -/
def execSetFeatureTestMode (i : Image) (sel : Nat) (s : State) : Host.Outcome State Fault Refusal :=
  .next (s.after fun s => s.whenCore fun s => s.cmdSetFeatureTestMode i sel)

/-- R49. Applies a new address after the status stage and creates a translation entry for the port that answered at address 0. -/
def execSetAddress (t : CtlTarget) (addr : Nat) (cut : Cut) (s : State) : Host.Outcome State Fault Refusal :=
  .next (s.after fun s => s.whenCore fun s => s.cmdSetAddress t addr cut)

/-- R32. Returns a device, configuration, other-speed, qualifier, string, BOS or hub descriptor. -/
def execGetDescriptor (t : CtlTarget) (kind : Nat) (index : Nat) (answer : List Byte) (s : State) : Host.Outcome State Fault Refusal :=
  .next (s.after fun s => s.whenCore fun s => s.cmdGetDescriptor t kind index answer)

/-- R32. Returns the hub function's configuration value. -/
def execGetConfiguration (f : Fn) (s : State) : Host.Outcome State Fault Refusal :=
  .next (s.after fun s => s.whenCore fun s => s.cmdGetConfiguration f)

/-- R32. Sets configuration 0 or 1; 0 returns the hub to the Address state. -/
def execSetConfiguration (t : CtlTarget) (value : Nat) (cut : Cut) (s : State) : Host.Outcome State Fault Refusal :=
  .next (s.after fun s => s.whenCore fun s => s.cmdSetConfiguration t value cut)

/-- R32. Returns the hub interface's alternate setting. -/
def execGetInterface (f : Fn) (s : State) : Host.Outcome State Fault Refusal :=
  .next (s.after fun s => s.whenCore fun s => s.cmdGetInterface f)

/-- R56. Selects single-TT or multi-TT operation for the image. -/
def execSetInterface (t : CtlTarget) (iface : Nat) (alt : Nat) (s : State) : Host.Outcome State Fault Refusal :=
  .next (s.after fun s => s.whenCore fun s => s.cmdSetInterface t iface alt)

/-- R32. Returns the hub status and change bits. -/
def execGetHubStatus (i : Image) (s : State) : Host.Outcome State Fault Refusal :=
  .next (s.after fun s => s.whenCore fun s => s.cmdGetHubStatus i)

/-- R32. Clears C_HUB_LOCAL_POWER or C_HUB_OVER_CURRENT. -/
def execClearHubFeature (i : Image) (feature : Nat) (s : State) : Host.Outcome State Fault Refusal :=
  .next (s.after fun s => s.whenCore fun s => s.cmdClearHubFeature i feature)

/-- R36. Returns wPortStatus and wPortChange of a logical port. -/
def execGetPortStatus (i : Image) (m : Nat) (s : State) : Host.Outcome State Fault Refusal :=
  .next (s.after fun s => s.whenCore fun s => s.cmdGetPortStatus i m)

/-- R42. Grants the port permission to source VBUS, and re-arms a tripped breaker when PortRearmByHost is TRUE. -/
def execSetPortFeaturePortPower (i : Image) (m : Nat) (s : State) : Host.Outcome State Fault Refusal :=
  .next (s.after fun s => s.whenCore fun s => s.cmdSetPortFeaturePortPower i m)

/-- R39. Starts a port reset with the high-speed detection handshake, or absorbs it on a held port. -/
def execSetPortFeaturePortReset (i : Image) (m : Nat) (s : State) : Host.Outcome State Fault Refusal :=
  .next (s.after fun s => s.whenCore fun s => s.cmdSetPortFeaturePortReset i m)

/-- R58. Suspends the port at the next micro-frame boundary and discards its buffered splits. -/
def execSetPortFeaturePortSuspend (i : Image) (m : Nat) (s : State) : Host.Outcome State Fault Refusal :=
  .next (s.after fun s => s.whenCore fun s => s.cmdSetPortFeaturePortSuspend i m)

/-- R33. Puts an eligible port into a test mode, or STALLs. -/
def execSetPortFeaturePortTest (i : Image) (m : Nat) (sel : Nat) (s : State) : Host.Outcome State Fault Refusal :=
  .next (s.after fun s => s.whenCore fun s => s.cmdSetPortFeaturePortTest i m sel)

/-- R37. Disables the port and abandons a running resume. -/
def execClearPortFeaturePortEnable (i : Image) (m : Nat) (s : State) : Host.Outcome State Fault Refusal :=
  .next (s.after fun s => s.whenCore fun s => s.cmdClearPortFeaturePortEnable i m)

/-- R42. Ends any contract, switches VBUS off with discharge, removes VCONN and sends the port to Powered-off. -/
def execClearPortFeaturePortPower (i : Image) (m : Nat) (s : State) : Host.Outcome State Fault Refusal :=
  .next (s.after fun s => s.whenCore fun s => s.cmdClearPortFeaturePortPower i m)

/-- R60. Starts a 20 ms resume of a selectively suspended port. -/
def execClearPortFeaturePortSuspend (i : Image) (m : Nat) (s : State) : Host.Outcome State Fault Refusal :=
  .next (s.after fun s => s.whenCore fun s => s.cmdClearPortFeaturePortSuspend i m)

/-- R32. Clears a port change bit. -/
def execClearPortFeatureCPort (i : Image) (m : Nat) (bit : Nat) (s : State) : Host.Outcome State Fault Refusal :=
  .next (s.after fun s => s.whenCore fun s => s.cmdClearPortFeatureCPort i m bit)

/-- R57. Frees the TT buffer that holds the named device and endpoint. -/
def execClearTtBuffer (i : Image) (m : Nat) (addr : Nat) (ep : Nat) (s : State) : Host.Outcome State Fault Refusal :=
  .next (s.after fun s => s.whenCore fun s => s.cmdClearTtBuffer i m addr ep)

/-- R57. Discards every buffer and pipeline of the port's TT and ends the stopped state. -/
def execResetTt (i : Image) (m : Nat) (s : State) : Host.Outcome State Fault Refusal :=
  .next (s.after fun s => s.whenCore fun s => s.cmdResetTt i m)

/-- R57. Makes the TT answer every split with NAK until RESET_TT. -/
def execStopTt (i : Image) (m : Nat) (s : State) : Host.Outcome State Fault Refusal :=
  .next (s.after fun s => s.whenCore fun s => s.cmdStopTt i m)

/-- R32. A request that is unsupported or out of range is answered with STALL. -/
def execStalledRequest (f : Fn) (s : State) : Host.Outcome State Fault Refusal :=
  .next (s.after fun s => s.whenCore fun s => s.cmdStalledRequest f)

/-- R38. A pull-up seen for 2.5 µs with VBUS in window reports a connection and moves the port to Disabled. -/
def execDeviceConnect (p : Port) (lowSpeed : Bool) (s : State) : Host.Outcome State Fault Refusal :=
  .next (s.after fun s => s.whenCore fun s => s.cmdDeviceConnect p lowSpeed)

/-- R37. Type-C detach or a pull-up lost for 2.5 µs moves the port to Disconnected and invalidates its translation entries. -/
def execDeviceDisconnect (p : Port) (s : State) : Host.Outcome State Fault Refusal :=
  .next (s.after fun s => s.whenCore fun s => s.cmdDeviceDisconnect p)

/-- R39. The reset time elapses: the port is enabled at the detected speed and C_PORT_RESET is set. -/
def execPortResetComplete (p : Port) (chirp : Chirp) (s : State) : Host.Outcome State Fault Refusal :=
  .next (s.after fun s => s.whenCore fun s => s.cmdPortResetComplete p chirp)

/-- R65. A device transmits past EOF2 or the FS EOF point: the port is disabled. -/
def execDeviceBabble (p : Port) (s : State) : Host.Outcome State Fault Refusal :=
  .next (s.after fun s => s.whenCore fun s => s.cmdDeviceBabble p)

/-- R60. 20 ms of K and an EOP end a resume: PORT_SUSPEND clears and C_PORT_SUSPEND is set. -/
def execPortResumeComplete (p : Port) (s : State) : Host.Outcome State Fault Refusal :=
  .next (s.after fun s => s.whenCore fun s => s.cmdPortResumeComplete p)

/-- R61. A suspended device's K is judged and propagated as remote wake, or ignored as early. -/
def execDeviceRemoteWake (p : Port) (s : State) : Host.Outcome State Fault Refusal :=
  .next (s.after fun s => s.whenCore fun s => s.cmdDeviceRemoteWake p)

/-- R60. Resume signalled on the upstream is repeated to every globally suspended port of the image. -/
def execHostResume (u : Upstream) (s : State) : Host.Outcome State Fault Refusal :=
  .next (s.after fun s => s.whenCore fun s => s.cmdHostResume u)

/-- R46. A host SOF locks the micro-frame timer and is repeated to the image's HS ports. -/
def execHostSof (u : Upstream) (frame : Nat) (micro : Nat) (s : State) : Host.Outcome State Fault Refusal :=
  .next (s.after fun s => s.whenCore fun s => s.cmdHostSof u frame micro)

/-- R46. A micro-frame passes without SOF: SofMissCount increments while the upstream is configured and not suspended. -/
def execMicroframeWithoutSof (u : Upstream) (s : State) : Host.Outcome State Fault Refusal :=
  .next (s.after fun s => s.whenCore fun s => s.cmdMicroframeWithoutSof u)

/-- R59. An upstream idle for 3 ms suspends an unarmed or intent-declared image and stops its SOF on every facet. -/
def execUpstreamIdleSuspend (u : Upstream) (s : State) : Host.Outcome State Fault Refusal :=
  .next (s.after fun s => s.whenCore fun s => s.cmdUpstreamIdleSuspend u)

/-- R48. At each 1 ms frame a TT sends a full-speed SOF or an LS keep-alive on its port. -/
def execTtFrameSof (p : Port) (s : State) : Host.Outcome State Fault Refusal :=
  .next (s.after fun s => s.whenCore fun s => s.cmdTtFrameSof p)

/-- R49. A host token is routed to a port by the translation table, rewritten and its CRC5 recomputed. -/
def execHostToken (u : Upstream) (t : Token) (a : DevAnswer) (acked : Bool) (s : State) : Host.Outcome State Fault Refusal :=
  .next (s.after fun s => s.whenCore fun s => s.cmdHostToken u t a acked)

/-- R57. A start-split is accepted into the TT pipeline or buffers, NAKed, dropped, or carried to a remote TT. -/
def execHostStartSplit (u : Upstream) (x : Split) (s : State) : Host.Outcome State Fault Refusal :=
  .next (s.after fun s => s.whenCore fun s => s.cmdHostStartSplit u x)

/-- R126. A complete-split is answered with the result, NYET or ERR. -/
def execHostCompleteSplit (u : Upstream) (x : Split) (s : State) : Host.Outcome State Fault Refusal :=
  .next (s.after fun s => s.whenCore fun s => s.cmdHostCompleteSplit u x)

/-- R126. A TT's full-speed transaction ends and its result is stored or returned as SPLIT_RESULT. -/
def execTtFsTransactionDone (p : Port) (answer : DevAnswer) (s : State) : Host.Outcome State Fault Refusal :=
  .next (s.after fun s => s.whenCore fun s => s.cmdTtFsTransactionDone p answer)

/-- R64. No response within 816 HS bit times counts as an error of the engine transaction. -/
def execHsEngineResponseTimeout (n : Fin 4) (s : State) : Host.Outcome State Fault Refusal :=
  .next (s.after fun s => s.whenCore fun s => s.cmdHsEngineResponseTimeout n)

/-- R64. An engine transaction ends with data, ACK, NAK, STALL or error, and the result and toggle go back to the requester. -/
def execHsEngineTransactionEnd (n : Fin 4) (answer : DevAnswer) (s : State) : Host.Outcome State Fault Refusal :=
  .next (s.after fun s => s.whenCore fun s => s.cmdHsEngineTransactionEnd n answer)

end Sys2Proof.Machine
end

