-- ==== Sys2Proof/Machine/RowsPd.lean ====
section
/-! DEFINITION. The meanings of the commands of Type-C, Power Delivery and upstream attach (R243 to R281): each is a family's operation,
run as one step by `State.after`. -/

namespace Sys2Proof.Machine

/-- R244. Rd on one CC pin for 150 ms with VBUS at vSafe0V completes the attach debounce and starts the moisture check. -/
def execCcSourceAttach (p : Port) (cc : CcSeen) (safe : Bool) (s : State) : Host.Outcome State Fault Refusal :=
  .next (s.after fun s => s.cmdCcSourceAttach p cc safe)

/-- R249. The moisture result after an attach debounce confirms the attach, resolves orientation and applies VCONN and VBUS, or declares
the port wet. -/
def execAttachMoistureResult (p : Port) (z : List Nat) (s : State) : Host.Outcome State Fault Refusal :=
  .next (s.after fun s => s.cmdAttachMoistureResult p z)

/-- R245. Rp for 150 ms with partner VBUS above 4 V attaches a dual-role port as Sink/UFP. -/
def execCcSinkAttach (p : Port) (pin2 : Bool) (rp : Nat) (s : State) : Host.Outcome State Fault Refusal :=
  .next (s.after fun s => s.cmdCcSinkAttach p pin2 rp)

/-- R246. No Rd for 15 ms detaches a Source port: VBUS and VCONN off and the contract ends. -/
def execSourceDetach (p : Port) (s : State) : Host.Outcome State Fault Refusal :=
  .next (s.after fun s => s.cmdSourceDetach p)

/-- R246. VBUS below 3.67 V or Rp absent for 15 ms detaches a Sink port. -/
def execSinkDetach (p : Port) (s : State) : Host.Outcome State Fault Refusal :=
  .next (s.after fun s => s.cmdSinkDetach p)

/-- R247. 60 ms after an Rp advertisement is lowered, the lower allocation counts. -/
def execRpLowerAllocation (p : Port) (s : State) : Host.Outcome State Fault Refusal :=
  .next (s.after fun s => s.cmdRpLowerAllocation p)

/-- R249. Every 2 s an unattached or wet port starts a 10 ms impedance measurement. -/
def execMoistureCheck (p : Port) (s : State) : Host.Outcome State Fault Refusal :=
  .next (s.after fun s => s.cmdMoistureCheck p)

/-- R250. A measurement ends and the port is judged wet, or dries after three dry results. -/
def execMoistureResult (p : Port) (z : List Nat) (s : State) : Host.Outcome State Fault Refusal :=
  .next (s.after fun s => s.cmdMoistureResult p z)

/-- R250. A port wet for 10 minutes sets Corroded. -/
def execCorrosionTimeout (p : Port) (s : State) : Host.Outcome State Fault Refusal :=
  .next (s.after fun s => s.cmdCorrosionTimeout p)

/-- R251. VCONN above 240 mA for 100 µs is switched off and the cable limit falls to 3 A. -/
def execVconnOverload (p : Port) (s : State) : Host.Outcome State Fault Refusal :=
  .next (s.after fun s => s.cmdVconnOverload p)

/-- R256. Source_Capabilities is sent 150 ms after VBUS is in window, at each resend, and at re-offers. -/
def execSourceCapabilitiesSend (p : Port) (s : State) : Host.Outcome State Fault Refusal :=
  .next (s.after fun s => s.cmdSourceCapabilitiesSend p)

/-- R257. Discover Identity on SOP′ is sent to find the cable's current rating. -/
def execCableDiscoveryAttempt (p : Port) (s : State) : Host.Outcome State Fault Refusal :=
  .next (s.after fun s => s.cmdCableDiscoveryAttempt p)

/-- R257. A cable's answer on SOP′ sets the cable limit and is stored. -/
def execCableIdentity (p : Port) (ack : CableAnswer) (vdo : Nat) (s : State) : Host.Outcome State Fault Refusal :=
  .next (s.after fun s => s.cmdCableIdentity p ack vdo)

/-- R258. A partner Request is accepted and a transition scheduled, or rejected. -/
def execRequest (p : Port) (h : PdHdr) (rdo : Nat) (s : State) : Host.Outcome State Fault Refusal :=
  .next (s.after fun s => s.cmdRequest p h rdo)

/-- R259. Get_Source_Cap starts a new negotiation with Source_Capabilities. -/
def execGetSourceCap (p : Port) (h : PdHdr) (s : State) : Host.Outcome State Fault Refusal :=
  .next (s.after fun s => s.cmdGetSourceCap p h)

/-- R259. Get_Sink_Cap is answered with Sink_Capabilities or Not_Supported. -/
def execGetSinkCap (p : Port) (h : PdHdr) (s : State) : Host.Outcome State Fault Refusal :=
  .next (s.after fun s => s.cmdGetSinkCap p h)

/-- R260. The partner's Sink_Capabilities answering the hub's Get_Sink_Cap is recorded. -/
def execSinkCapabilities (p : Port) (h : PdHdr) (objects : List Nat) (s : State) : Host.Outcome State Fault Refusal :=
  .next (s.after fun s => s.cmdSinkCapabilities p h objects)

/-- R269. DR_Swap is always rejected and recorded. -/
def execDrSwap (p : Port) (h : PdHdr) (s : State) : Host.Outcome State Fault Refusal :=
  .next (s.after fun s => s.cmdDrSwap p h)

/-- R270. PR_Swap is accepted and the swap begun, or rejected with a refusal code. -/
def execPrSwap (p : Port) (h : PdHdr) (s : State) : Host.Outcome State Fault Refusal :=
  .next (s.after fun s => s.cmdPrSwap p h)

/-- R272. VCONN_Swap is accepted and VCONN handed over or taken. -/
def execVconnSwap (p : Port) (h : PdHdr) (s : State) : Host.Outcome State Fault Refusal :=
  .next (s.after fun s => s.cmdVconnSwap p h)

/-- R269. FR_Swap is answered with Not_Supported. -/
def execFrSwap (p : Port) (h : PdHdr) (s : State) : Host.Outcome State Fault Refusal :=
  .next (s.after fun s => s.cmdFrSwap p h)

/-- R259. A received Soft_Reset is accepted, MessageIDs reset and Source_Capabilities follows. -/
def execPdSoftReset (p : Port) (h : PdHdr) (s : State) : Host.Outcome State Fault Refusal :=
  .next (s.after fun s => s.cmdPdSoftReset p h)

/-- R259. Get_Status is answered with temperature and thermal warning status. -/
def execPdGetStatus (p : Port) (h : PdHdr) (s : State) : Host.Outcome State Fault Refusal :=
  .next (s.after fun s => s.cmdPdGetStatus p h)

/-- R259. Get_PPS_Status is answered with measured output in a PPS contract, or Not_Supported. -/
def execGetPpsStatus (p : Port) (h : PdHdr) (s : State) : Host.Outcome State Fault Refusal :=
  .next (s.after fun s => s.cmdGetPpsStatus p h)

/-- R254. Get_Revision is answered with Revision 3.1, version 1.8. -/
def execGetRevision (p : Port) (h : PdHdr) (s : State) : Host.Outcome State Fault Refusal :=
  .next (s.after fun s => s.cmdGetRevision p h)

/-- R259. Get_Source_Info is answered with managed capability and PDP figures. -/
def execGetSourceInfo (p : Port) (h : PdHdr) (s : State) : Host.Outcome State Fault Refusal :=
  .next (s.after fun s => s.cmdGetSourceInfo p h)

/-- R281. Other extended requests, unstructured VDMs and unknown messages are answered Not_Supported or Reject. -/
def execPdUnsupportedMessage (p : Port) (h : PdHdr) (kind : PdOther) (s : State) : Host.Outcome State Fault Refusal :=
  .next (s.after fun s => s.cmdPdUnsupportedMessage p h kind)

/-- R259. BIST Carrier Mode is served at 5 V and ignored otherwise. -/
def execBistCarrierMode (p : Port) (h : PdHdr) (s : State) : Host.Outcome State Fault Refusal :=
  .next (s.after fun s => s.cmdBistCarrierMode p h)

/-- R259. BIST Test Data is served at 5 V and ignored otherwise. -/
def execBistTestData (p : Port) (h : PdHdr) (s : State) : Host.Outcome State Fault Refusal :=
  .next (s.after fun s => s.cmdBistTestData p h)

/-- R259. A received Not_Supported, Reject or Alert is recorded without answer. -/
def execPdPartnerNotice (p : Port) (h : PdHdr) (kind : PdNotice) (s : State) : Host.Outcome State Fault Refusal :=
  .next (s.after fun s => s.cmdPdPartnerNotice p h kind)

/-- R271. After a swap, the partner's Source_Capabilities is answered with a Request for 5 V at 10 mA. -/
def execSourceCapabilitiesReceived (p : Port) (h : PdHdr) (objects : List Nat) (s : State) : Host.Outcome State Fault Refusal :=
  .next (s.after fun s => s.cmdSourceCapabilitiesReceived p h objects)

/-- R271. The partner's PS_RDY during a PR_Swap or VCONN_Swap advances the swap. -/
def execPsRdyReceived (p : Port) (h : PdHdr) (s : State) : Host.Outcome State Fault Refusal :=
  .next (s.after fun s => s.cmdPsRdyReceived p h)

/-- R273. A Hard Reset sent or received abandons transitions and swaps and starts the Hard Reset sequence. -/
def execHardReset (p : Port) (s : State) : Host.Outcome State Fault Refusal :=
  .next (s.after fun s => s.cmdHardReset p)

/-- R252. A received Cable Reset has no effect on the port. -/
def execCableReset (p : Port) (s : State) : Host.Outcome State Fault Refusal :=
  .next (s.after fun s => s.cmdCableReset p)

/-- R281. A message with bad CRC, bad symbol or too many objects is discarded without GoodCRC. -/
def execPdRxError (p : Port) (s : State) : Host.Outcome State Fault Refusal :=
  .next (s.after fun s => s.cmdPdRxError p)

/-- R281. tReceive expires without GoodCRC; the message is retried, and after the retries a Soft_Reset or resend follows. -/
def execGoodcrcTimeout (p : Port) (s : State) : Host.Outcome State Fault Refusal :=
  .next (s.after fun s => s.cmdGoodcrcTimeout p)

/-- R281. No Request within tSenderResponse leads to a Hard Reset or non-PD fallback. -/
def execSenderResponseTimeout (p : Port) (s : State) : Host.Outcome State Fault Refusal :=
  .next (s.after fun s => s.cmdSenderResponseTimeout p)

/-- R263. A still exceeds B after PdShedDelay and ports are shed. -/
def execShedDelayExpiry (s : State) : Host.Outcome State Fault Refusal :=
  .next (s.after fun s => s.cmdShedDelayExpiry)

/-- R264. B − A stays at least 2.5 W for 1 s and shed ports are restored and re-offered. -/
def execBudgetRestore (s : State) : Host.Outcome State Fault Refusal :=
  .next (s.after fun s => s.cmdBudgetRestore)

/-- R266. 30 ms after Accept the current limit and VOUT_COMMAND are written to the port regulator. -/
def execTransitionStart (p : Port) (nacked : Bool) (s : State) : Host.Outcome State Fault Refusal :=
  .next (s.after fun s => s.cmdTransitionStart p nacked)

/-- R266. Every 1 ms STATUS_WORD is read and VBUS measured; acknowledgement sends PS_RDY. -/
def execRegulatorPoll (p : Port) (r : RegPoll) (s : State) : Host.Outcome State Fault Refusal :=
  .next (s.after fun s => s.cmdRegulatorPoll p r)

/-- R267. No acknowledgement within PdRegTimeout fails the transition and starts a Hard Reset. -/
def execRegulatorTimeout (p : Port) (s : State) : Host.Outcome State Fault Refusal :=
  .next (s.after fun s => s.cmdRegulatorTimeout p)

/-- R267. VBUS outside its window for 10 ms outside a transition fails the contract. -/
def execVbusOutOfWindow (p : Port) (s : State) : Host.Outcome State Fault Refusal :=
  .next (s.after fun s => s.cmdVbusOutOfWindow p)

/-- R267. In error recovery the regulator is commanded to 5 V again every 1 s. -/
def execErrorRecoveryRetry (p : Port) (s : State) : Host.Outcome State Fault Refusal :=
  .next (s.after fun s => s.cmdErrorRecoveryRetry p)

/-- R268. A PPS sink silent for tPPSTimeout gets a Hard Reset. -/
def execPpsTimeout (p : Port) (s : State) : Host.Outcome State Fault Refusal :=
  .next (s.after fun s => s.cmdPpsTimeout p)

/-- R271. 30 ms after Accept VBUS switches off with discharge. -/
def execPrSwapVbusOff (p : Port) (s : State) : Host.Outcome State Fault Refusal :=
  .next (s.after fun s => s.cmdPrSwapVbusOff p)

/-- R271. VBUS reaches vSafe0V: Rp is replaced by Rd and PS_RDY is sent. -/
def execPrSwapVsafe0v (p : Port) (s : State) : Host.Outcome State Fault Refusal :=
  .next (s.after fun s => s.cmdPrSwapVsafe0v p)

/-- R271. The partner's PS_RDY does not come within 450 ms and the port enters error recovery. -/
def execPrSwapSourceTimeout (p : Port) (s : State) : Host.Outcome State Fault Refusal :=
  .next (s.after fun s => s.cmdPrSwapSourceTimeout p)

/-- R271. 10 ms after the partner's PS_RDY disconnect detection resumes. -/
def execPrSwapDetectResume (p : Port) (pullup : Bool) (s : State) : Host.Outcome State Fault Refusal :=
  .next (s.after fun s => s.cmdPrSwapDetectResume p pullup)

/-- R272. No PS_RDY within 100 ms during a VCONN_Swap leads to a Hard Reset. -/
def execVconnSwapTimeout (p : Port) (s : State) : Host.Outcome State Fault Refusal :=
  .next (s.after fun s => s.cmdVconnSwapTimeout p)

/-- R273. 30 ms into a Hard Reset VBUS and VCONN go off and the regulator returns to 5 V. -/
def execHardResetVbusOff (p : Port) (s : State) : Host.Outcome State Fault Refusal :=
  .next (s.after fun s => s.cmdHardResetVbusOff p)

/-- R273. 800 ms after vSafe0V the port restores Source/DFP, Rp, VBUS at 5 V and VCONN. -/
def execHardResetRecover (p : Port) (regulator : Bool) (s : State) : Host.Outcome State Fault Refusal :=
  .next (s.after fun s => s.cmdHardResetRecover p regulator)

/-- R274. tSinkTx after setting SinkTxNG the hub starts its own AMS. -/
def execSinkTxWindowEnd (p : Port) (s : State) : Host.Outcome State Fault Refusal :=
  .next (s.after fun s => s.cmdSinkTxWindowEnd p)

/-- R279. VBUS in window with Rp on one CC pin for 10 ms attaches an upstream port. -/
def execUpstreamAttach (u : Upstream) (rp : Nat) (s : State) : Host.Outcome State Fault Refusal :=
  .next (s.after fun s => s.cmdUpstreamAttach u rp)

/-- R281. A partner's Accept arrives, answering the hub's Soft_Reset or a Sink port's Request. -/
def execAcceptReceived (p : Port) (h : PdHdr) (s : State) : Host.Outcome State Fault Refusal :=
  .next (s.after fun s => s.cmdAcceptReceived p h)

/-- R281. No answer to the hub's Soft_Reset arrives in time and the hub sends a Hard Reset. -/
def execSoftResetResponseTimeout (p : Port) (s : State) : Host.Outcome State Fault Refusal :=
  .next (s.after fun s => s.cmdSoftResetResponseTimeout p)

/-- R243. An unattached dual-role port alternates Rp and Rd every half of its 75 ms period, and runs the Try.SRC timer tDRPTry. -/
def execDrpToggle (p : Port) (s : State) : Host.Outcome State Fault Refusal :=
  .next (s.after fun s => s.cmdDrpToggle p)

/-- R248. The 25 ms of Type-C error recovery end and the port returns to Unattached to attach afresh. -/
def execErrorRecoveryEnd (p : Port) (s : State) : Host.Outcome State Fault Refusal :=
  .next (s.after fun s => s.cmdErrorRecoveryEnd p)

end Sys2Proof.Machine
end

