-- ==== Sys2Proof/Machine/RowsPower.lean ====
section
/-! DEFINITION. The meanings of the commands of supplies, the power path, the power domains and wake (R287 to R329): each is a family's
operation, run as one step by `State.after`. -/

namespace Sys2Proof.Machine

/-- R280. VAON below 3.0 V switches AON to VBUS_AON and raises SUPPLY_MON. -/
def execVaonLow (s : State) : Host.Outcome State Fault Refusal :=
  .next (s.after fun s => s.cmdVaonLow)

/-- R280. VAON at or above 3.1 V for 1 ms returns AON to VAON. -/
def execVaonRestored (s : State) : Host.Outcome State Fault Refusal :=
  .next (s.after fun s => s.cmdVaonRestored)

/-- R287. FEEDx_EN falls: the feed's switches open; both low toggles the collector. -/
def execFeedEnFall (x : Feed) (s : State) : Host.Outcome State Fault Refusal :=
  .next (s.after fun s => s.cmdFeedEnFall x)

/-- R298. FEEDx_EN rises: it re-arms a tripped feed and lets the feed start. -/
def execFeedEnRise (x : Feed) (s : State) : Host.Outcome State Fault Refusal :=
  .next (s.after fun s => s.cmdFeedEnRise x)

/-- R287. A feed below FeedUvFall for 20 µs leaves its window and its switches open. -/
def execFeedUndervoltage (x : Feed) (mv : Nat) (s : State) : Host.Outcome State Fault Refusal :=
  .next (s.after fun s => s.cmdFeedUndervoltage x mv)

/-- R287. A feed above FeedOvRise leaves its window within 1 µs and its switches open. -/
def execFeedOvervoltage (x : Feed) (mv : Nat) (s : State) : Host.Outcome State Fault Refusal :=
  .next (s.after fun s => s.cmdFeedOvervoltage x mv)

/-- R287. A feed enters its window and the insertion delay can start. -/
def execFeedWindowEntry (x : Feed) (mv : Nat) (s : State) : Host.Outcome State Fault Refusal :=
  .next (s.after fun s => s.cmdFeedWindowEntry x mv)

/-- R288. The insertion delay elapses; the drain-source check runs and the diode gate is driven. -/
def execInsertionDelayExpiry (x : Feed) (w : CollWatch) (s : State) : Host.Outcome State Fault Refusal :=
  .next (s.after fun s => s.cmdInsertionDelayExpiry x w)

/-- R290. The diode gate passes 4.5 V and pre-charge starts. -/
def execDiodeGateReady (x : Feed) (s : State) : Host.Outcome State Fault Refusal :=
  .next (s.after fun s => s.cmdDiodeGateReady x)

/-- R290. The collector reaches 95 % of the feed and the main FET ramp starts. -/
def execPrechargeComplete (x : Feed) (s : State) : Host.Outcome State Fault Refusal :=
  .next (s.after fun s => s.cmdPrechargeComplete x)

/-- R291. Pre-charge not complete within PrechargeTimeout trips the feed. -/
def execPrechargeTimeout (x : Feed) (s : State) : Host.Outcome State Fault Refusal :=
  .next (s.after fun s => s.cmdPrechargeTimeout x)

/-- R290. The main FET is enhanced, pre-charge opens and the feed is on. -/
def execRampComplete (x : Feed) (s : State) : Host.Outcome State Fault Refusal :=
  .next (s.after fun s => s.cmdRampComplete x)

/-- R292. A ramp or soft-start not complete within BrkRampTime trips the channel. -/
def execRampTimeout (c : Channel) (mA : Nat) (s : State) : Host.Outcome State Fault Refusal :=
  .next (s.after fun s => s.cmdRampTimeout c mA)

/-- R293. A gate not above 4.5 V within 5 ms of its ramp trips the channel as a damaged pass device. -/
def execGateFailure (c : Channel) (s : State) : Host.Outcome State Fault Refusal :=
  .next (s.after fun s => s.cmdGateFailure c)

/-- R289. The ideal-diode voltage reaches −60 mV; the FET is turned off hard and the feed's switches open. -/
def execFastReverseTurnOff (x : Feed) (s : State) : Host.Outcome State Fault Refusal :=
  .next (s.after fun s => s.cmdFastReverseTurnOff x)

/-- R289. 1 s after a fast reverse turn-off with the feed in window the insertion delay starts. -/
def execReverseHoldExpiry (x : Feed) (s : State) : Host.Outcome State Fault Refusal :=
  .next (s.after fun s => s.cmdReverseHoldExpiry x)

/-- R293. An unattached port's VBUS above 0.8 V for 100 ms with the pair off trips it. -/
def execPortPairShort (p : Port) (s : State) : Host.Outcome State Fault Refusal :=
  .next (s.after fun s => s.cmdPortPairShort p)

/-- R296. A channel's heat reaches 1 and it trips on its curve. -/
def execCurveTrip (c : Channel) (mA : Nat) (s : State) : Host.Outcome State Fault Refusal :=
  .next (s.after fun s => s.cmdCurveTrip c mA)

/-- R297. Current above BrkInstLevel trips the channel within 1 µs. -/
def execInstantaneousTrip (c : Channel) (mA : Nat) (s : State) : Host.Outcome State Fault Refusal :=
  .next (s.after fun s => s.cmdInstantaneousTrip c mA)

/-- R298. A write of 1 to BrkRearm clears a channel's latch and restarts it. -/
def execBrkRearm (d : Door) (c : Channel) (s : State) : Host.Outcome State Fault Refusal :=
  .next (s.after fun s => s.directWrite d (0x3C10 + c.val) 0x0A 0 [1])

/-- R300. A channel's conditions hold for 1 ms without a fault timer and its power-good rises. -/
def execPowerGoodRise (c : Channel) (mv : Nat) (mA : Nat) (s : State) : Host.Outcome State Fault Refusal :=
  .next (s.after fun s => s.cmdPowerGoodRise c mv mA)

/-- R301. A port's soft-start ends and the breaker curve takes over. -/
def execSoftStartComplete (p : Port) (s : State) : Host.Outcome State Fault Refusal :=
  .next (s.after fun s => s.cmdSoftStartComplete p)

/-- R301. Port VBUS falls below 0.8 V and the discharge resistor is released. -/
def execPortDischargeComplete (p : Port) (s : State) : Host.Outcome State Fault Refusal :=
  .next (s.after fun s => s.cmdPortDischargeComplete p)

/-- R301. VBUS not below 0.8 V within 650 ms trips the port. -/
def execDischargeTimeout (p : Port) (s : State) : Host.Outcome State Fault Refusal :=
  .next (s.after fun s => s.cmdDischargeTimeout p)

/-- R303. The steward writes every channel's energy to flash each EnergyCheckpointPeriod. -/
def execEnergyCheckpoint (s : State) : Host.Outcome State Fault Refusal :=
  .next (s.after fun s => s.cmdEnergyCheckpoint)

/-- R319. DomainCommand Target 0 turns the named domains off, at once or armed. -/
def execDomainCommandOff (d : Door) (word : Nat) (s : State) : Host.Outcome State Fault Refusal :=
  .next (s.after fun s => s.directWrite d 0x4000 2 0 (bytesBe 4 (putBits word 9 8 0)))

/-- R319. DomainCommand Target 1 sends the named domains to retention, at once or armed. -/
def execDomainCommandRetention (d : Door) (word : Nat) (s : State) : Host.Outcome State Fault Refusal :=
  .next (s.after fun s => s.directWrite d 0x4000 2 0 (bytesBe 4 (putBits word 9 8 1)))

/-- R326. DomainCommand Target 2 wakes the named domains by command. -/
def execDomainCommandOn (d : Door) (word : Nat) (s : State) : Host.Outcome State Fault Refusal :=
  .next (s.after fun s => s.directWrite d 0x4000 2 0 (bytesBe 4 (putBits word 9 8 2)))

/-- R317. DomainCommand Target 3 cancels the armed command. -/
def execDomainCommandCancel (d : Door) (word : Nat) (s : State) : Host.Outcome State Fault Refusal :=
  .next (s.after fun s => s.directWrite d 0x4000 2 0 (bytesBe 4 (putBits word 9 8 3)))

/-- R317. An armed domain command's trigger fires and the command is checked and applied. -/
def execDomainTrigger (wakes : List WakeSeen) (s : State) : Host.Outcome State Fault Refusal :=
  .next (s.after fun s => s.cmdDomainTrigger wakes)

/-- R314. The core regulator acknowledges a VDD_CORE command and a sleep completes. -/
def execCoreRegAck (s : State) : Host.Outcome State Fault Refusal :=
  .next (s.after fun s => s.cmdCoreRegAck)

/-- R315. A command to lower VDD_CORE is NACKed three times and VDD_CORE stays. -/
def execCoreRegLowerFail (s : State) : Host.Outcome State Fault Refusal :=
  .next (s.after fun s => s.cmdCoreRegLowerFail)

/-- R322. Remote wake, connect, disconnect or Type-C attach on a sleeping port starts a wake. -/
def execWakeDownstreamPort (p : Port) (how : PortWake) (also : List WakeSeen) (s : State) : Host.Outcome State Fault Refusal :=
  .next (s.after fun s => s.cmdWakeDownstreamPort p how also)

/-- R322. Resume, reset or VBUS rise on an upstream starts a wake. -/
def execWakeUpstream (u : Upstream) (how : UpWake) (also : List WakeSeen) (s : State) : Host.Outcome State Fault Refusal :=
  .next (s.after fun s => s.cmdWakeUpstream u how also)

/-- R322. Signal on a sleeping link's receive lanes starts a wake. -/
def execWakeLink (k : Link) (also : List WakeSeen) (s : State) : Host.Outcome State Fault Refusal :=
  .next (s.after fun s => s.cmdWakeLink k also)

/-- R322. A CAN wake-up pattern starts a wake. -/
def execWakeCanWup (also : List WakeSeen) (s : State) : Host.Outcome State Fault Refusal :=
  .next (s.after fun s => s.cmdWakeCanWup also)

/-- R323. The LOC address seen while HUB is not on starts a wake without acknowledging. -/
def execWakeLocAddressMatch (addr : Nat) (also : List WakeSeen) (s : State) : Host.Outcome State Fault Refusal :=
  .next (s.after fun s => s.cmdWakeLocAddressMatch addr also)

/-- R325. WakeTimer counts down to 0 and starts a wake. -/
def execWakeTimerExpiry (also : List WakeSeen) (s : State) : Host.Outcome State Fault Refusal :=
  .next (s.after fun s => s.cmdWakeTimerExpiry also)

/-- R322. A feed entering or leaving state 6 starts a wake. -/
def execWakeFeedChange (also : List WakeSeen) (s : State) : Host.Outcome State Fault Refusal :=
  .next (s.after fun s => s.cmdWakeFeedChange also)

/-- R325. A write of n to WakeTimer starts an n ms countdown; 0 stops it. -/
def execWakeTimerWrite (d : Door) (n : Nat) (s : State) : Host.Outcome State Fault Refusal :=
  .next (s.after fun s => s.directWrite d 0x4000 0x0A 0 (bytesBe 4 n))

/-- R326. A wake step becomes ready and the next step, or the domain's on state, follows. -/
def execWakeStepReady (d : Nat) (bad : Nat) (s : State) : Host.Outcome State Fault Refusal :=
  .next (s.after fun s => s.cmdWakeStepReady d bad)

/-- R327. A wake step is not ready in time; it is undone and retried, or fails after four attempts. -/
def execWakeStepTimeout (d : Nat) (reason : Nat) (s : State) : Host.Outcome State Fault Refusal :=
  .next (s.after fun s => s.cmdWakeStepTimeout d reason)

/-- R327. 1 ms after a failed attempt the wake step is tried again. -/
def execWakeStepRetry (d : Nat) (s : State) : Host.Outcome State Fault Refusal :=
  .next (s.after fun s => s.cmdWakeStepRetry d)

/-- R332. The clock monitor sees XO edges again and XO_FAIL stops being live, with its EMCY 0x0000 and end notification. -/
def execXoReturn (s : State) : Host.Outcome State Fault Refusal :=
  .next (s.after fun s => s.cmdXoReturn)

/-- R333. VDDIO, VDDQ or VSERDES returns within ±5 % and SUPPLY_MON stops being live. -/
def execSupplyMonitorReturn (n : Fin 3) (s : State) : Host.Outcome State Fault Refusal :=
  .next (s.after fun s => s.cmdSupplyMonitorReturn n)

/-- R332. CORE_PG rises again after a loss and REG_PG_LOSS stops being live. -/
def execCorePgRise (s : State) : Host.Outcome State Fault Refusal :=
  .next (s.after fun s => s.cmdCorePgRise)

/-- R310. VAON and VBUS_AON are both absent, so AON and every logic-die domain go off and the reservoir, latch and trace are lost. -/
def execPowerRemoval (s : State) : Host.Outcome State Fault Refusal :=
  .next (s.after fun s => s.cmdPowerRemoval)

end Sys2Proof.Machine
end

