-- ==== Sys2Proof/Machine/RowsRelay.lean ====
section
/-! DEFINITION. The meanings of the commands of relayed ports, hold-over and adoption (R123 to R172): each is a family's operation, run as
one step by `State.after`. -/

namespace Sys2Proof.Machine

/-- R123. The entry facet takes an owning facet's PORT_STATUS record into its copy of the port status. -/
def execPortStatus (k : Link) (h : FrameHdr) (r : RelayHdr) (b : PortStatusBody) (s : State) : Host.Outcome State Fault Refusal :=
  .next (s.after fun s => s.whenRing fun s => s.cmdPortStatus k h r b)

/-- R123. The owning facet applies a port request carried from the entry facet and answers with PORT_STATUS. -/
def execPortReq (k : Link) (h : FrameHdr) (r : RelayHdr) (q : PortReq) (s : State) : Host.Outcome State Fault Refusal :=
  .next (s.after fun s => s.whenRing fun s => s.cmdPortReq k h r q)

/-- R129. A host HS IN on a relayed port is answered from held data or NAKed, with an XACT_REQ sent. -/
def execHostHsInRelayed (i : Image) (addr : Nat) (ep : Nat) (acked : Bool) (s : State) : Host.Outcome State Fault Refusal :=
  .next (s.after fun s => s.whenCore fun s => s.cmdHostHsInRelayed i addr ep acked)

/-- R130. A host HS OUT on a relayed port is stored and answered ACK, NYET or NAK. -/
def execHostHsOutRelayed (i : Image) (addr : Nat) (ep : Nat) (toggle : Bool) (data : List Byte)
    (s : State) : Host.Outcome State Fault Refusal :=
  .next (s.after fun s => s.whenCore fun s => s.cmdHostHsOutRelayed i addr ep toggle data)

/-- R130. A host PING on a relayed port is answered ACK or NAK by the room in the store. -/
def execHostPingRelayed (i : Image) (addr : Nat) (ep : Nat) (s : State) : Host.Outcome State Fault Refusal :=
  .next (s.after fun s => s.whenCore fun s => s.cmdHostPingRelayed i addr ep)

/-- R131. A SETUP to a relayed HS device is ACKed at once and sent on in an XACT_REQ. -/
def execHostSetupRelayed (i : Image) (addr : Nat) (ep : Nat) (data : List Byte) (s : State) : Host.Outcome State Fault Refusal :=
  .next (s.after fun s => s.whenCore fun s => s.cmdHostSetupRelayed i addr ep data)

/-- R129. The owning facet performs the requested transactions through its HS engine, or answers from its last result. -/
def execXactReq (k : Link) (h : FrameHdr) (r : RelayHdr) (data : List Byte) (s : State) : Host.Outcome State Fault Refusal :=
  .next (s.after fun s => s.whenRing fun s => s.cmdXactReq k h r data)

/-- R129. The entry facet stores returned IN data or retires stored OUT packets, and handles STALL and errors. -/
def execXactRsp (k : Link) (h : FrameHdr) (r : RelayHdr) (data : List Byte) (s : State) : Host.Outcome State Fault Refusal :=
  .next (s.after fun s => s.whenRing fun s => s.cmdXactRsp k h r data)

/-- R131. A CANCEL record discards a pending control transfer on the owning side. -/
def execCancel (k : Link) (h : FrameHdr) (r : RelayHdr) (data : List Byte) (s : State) : Host.Outcome State Fault Refusal :=
  .next (s.after fun s => s.whenRing fun s => s.cmdCancel k h r data)

/-- R126. The owning TT queues a split carried from the entry facet. -/
def execSplitStart (k : Link) (h : FrameHdr) (r : RelayHdr) (data : List Byte) (s : State) : Host.Outcome State Fault Refusal :=
  .next (s.after fun s => s.whenRing fun s => s.cmdSplitStart k h r data)

/-- R125. A split result reaches the entry facet and is held for the complete-split, or discarded if late. -/
def execSplitResult (k : Link) (h : FrameHdr) (r : RelayHdr) (data : List Byte) (s : State) : Host.Outcome State Fault Refusal :=
  .next (s.after fun s => s.whenRing fun s => s.cmdSplitResult k h r data)

/-- R134. An XACT_REQ unanswered within RelayTimeout is sent again, and counts as an error after four retries. -/
def execRelayTimeout (i : Image) (addr : Nat) (ep : Nat) (dirIn : Bool) (s : State) : Host.Outcome State Fault Refusal :=
  .next (s.after fun s => s.whenCore fun s => s.cmdRelayTimeout i addr ep dirIn)

/-- R143. A write of HoldoverArm arms or disarms an image and is copied to every member. -/
def execHoldoverArm (d : Door) (i : Image) (v : Bool) (s : State) : Host.Outcome State Fault Refusal :=
  .next (s.after fun s => s.directWrite d (0x2810 + i.val) 1 0 [byteOf (boolNat v)])

/-- R144. A write of 1 declares suspend intent and opens the intent window; 0 withdraws it. -/
def execHoldoverSuspendIntent (d : Door) (i : Image) (v : Bool) (s : State) : Host.Outcome State Fault Refusal :=
  .next (s.after fun s => s.directWrite d (0x2810 + i.val) 2 0 [byteOf (boolNat v)])

/-- R144. The intent window ends with the upstream active and the intent lapses. -/
def execSuspendIntentWindowEnd (i : Image) (s : State) : Host.Outcome State Fault Refusal :=
  .next (s.after fun s => s.whenCore fun s => s.cmdSuspendIntentWindowEnd i)

/-- R145. Upstream VBUS below its window for 10 µs is cause 1 of hold-over. -/
def execUpstreamVbusLoss (u : Upstream) (s : State) : Host.Outcome State Fault Refusal :=
  .next (s.after fun s => s.whenCore fun s => s.cmdUpstreamVbusLoss u)

/-- R279. Rp absent on both CC pins for 15 ms detaches the upstream: cause 2 of hold-over. -/
def execUpstreamDetach (u : Upstream) (s : State) : Host.Outcome State Fault Refusal :=
  .next (s.after fun s => s.whenCore fun s => s.cmdUpstreamDetach u)

/-- R145. 502 µs after the last SOF of a configured HS image without intent, cause 3 is declared. -/
def execSofLossDeclaration (i : Image) (s : State) : Host.Outcome State Fault Refusal :=
  .next (s.after fun s => s.whenCore fun s => s.cmdSofLossDeclaration i)

/-- R145. HoldoverCommand = 1 sends the image into hold-over by cause 4. -/
def execHoldoverCommandEnter (d : Door) (i : Image) (s : State) : Host.Outcome State Fault Refusal :=
  .next (s.after fun s => s.directWrite d (0x2810 + i.val) 3 0 [1])

/-- R160. HoldoverCommand = 2 starts adoption through the mirror, or is refused with a reason. -/
def execHoldoverCommandAdopt (d : Door) (i : Image) (s : State) : Host.Outcome State Fault Refusal :=
  .next (s.after fun s => s.directWrite d (0x2810 + i.val) 3 0 [2])

/-- R147. HoldoverCommand = 3 abandons hold-over and treats held ports as for an unarmed reset. -/
def execHoldoverCommandAbandon (d : Door) (i : Image) (s : State) : Host.Outcome State Fault Refusal :=
  .next (s.after fun s => s.directWrite d (0x2810 + i.val) 3 0 [3])

/-- R147. HoldoverCommand = 4 resumes a dormant image's held ports and enters active hold-over. -/
def execHoldoverCommandWake (d : Door) (i : Image) (s : State) : Host.Outcome State Fault Refusal :=
  .next (s.after fun s => s.directWrite d (0x2810 + i.val) 3 0 [4])

/-- R149. At each boundary of the hold-over grid each facet sends SOF on its held ports. -/
def execHoldoverSofBoundary (i : Image) (s : State) : Host.Outcome State Fault Refusal :=
  .next (s.after fun s => s.whenCore fun s => s.cmdHoldoverSofBoundary i)

/-- R151. A write of 1 checks the shadow slot table and schedules the swap, or refuses it. -/
def execHoldoverTableSwap (d : Door) (s : State) : Host.Outcome State Fault Refusal :=
  .next (s.after fun s => s.directWrite d 0x2800 4 0 [1])

/-- R151. An image switches to the new slot table at its next frame boundary; the last switch completes the swap. -/
def execTableSwitchBoundary (i : Image) (s : State) : Host.Outcome State Fault Refusal :=
  .next (s.after fun s => s.whenCore fun s => s.cmdTableSwitchBoundary i)

/-- R155. A due active slot runs its action through the HS engine, or pauses for room, or is skipped. -/
def execSlotOccurrence (j : Fin 256) (s : State) : Host.Outcome State Fault Refusal :=
  .next (s.after fun s => s.whenCore fun s => s.cmdSlotOccurrence j)

/-- R156. An entry action runs at the start of active hold-over and is retried each micro-frame on NAK. -/
def execEntryAction (j : Fin 256) (s : State) : Host.Outcome State Fault Refusal :=
  .next (s.after fun s => s.whenCore fun s => s.cmdEntryAction j)

/-- R156. An entry action still NAKed after 8 ms is abandoned and counted. -/
def execEntryActionTimeout (j : Fin 256) (s : State) : Host.Outcome State Fault Refusal :=
  .next (s.after fun s => s.whenCore fun s => s.cmdEntryActionTimeout j)

/-- R160. AdoptAutoDelay passes in hold-over and the mirror's facet starts adoption. -/
def execAdoptAutoDelayExpiry (i : Image) (s : State) : Host.Outcome State Fault Refusal :=
  .next (s.after fun s => s.whenCore fun s => s.cmdAdoptAutoDelayExpiry i)

/-- R161. 10 ms after adoption starts, the mirror attaches as the image's hub function and becomes the entry facet. -/
def execAdoptMirrorAttach (i : Image) (s : State) : Host.Outcome State Fault Refusal :=
  .next (s.after fun s => s.whenCore fun s => s.cmdAdoptMirrorAttach i)

/-- R164. An absorbed reset of a held port completes after PortResetTime and any 20 ms resume. -/
def execAbsorbedResetComplete (i : Image) (m : Nat) (s : State) : Host.Outcome State Fault Refusal :=
  .next (s.after fun s => s.whenCore fun s => s.cmdAbsorbedResetComplete i m)

/-- R163. AdoptDeviceTimeout passes after SET_ADDRESS and the device's adoption completes as divergent. -/
def execAdoptDeviceTimeout (i : Image) (m : Nat) (s : State) : Host.Outcome State Fault Refusal :=
  .next (s.after fun s => s.whenCore fun s => s.cmdAdoptDeviceTimeout i m)

/-- R169. At H the image steps to the adopting host's frame timing, ports are decided again and roles exchange. -/
def execImageStep (i : Image) (s : State) : Host.Outcome State Fault Refusal :=
  .next (s.after fun s => s.whenCore fun s => s.cmdImageStep i)

/-- R169. AdoptImageTimeout passes and the image step is made. -/
def execAdoptImageTimeout (i : Image) (s : State) : Host.Outcome State Fault Refusal :=
  .next (s.after fun s => s.whenCore fun s => s.cmdAdoptImageTimeout i)

end Sys2Proof.Machine
end

