-- ==== Sys2Proof/Machine/RowsReservoir.lean ====
section
/-! DEFINITION. The meanings of the commands of the reservoir, its sessions and the DRAM arbiter (R176 to R200): each is a family's
operation, run as one step by `State.after`. -/

namespace Sys2Proof.Machine

/-- R176. DRAM training ends ready, or failed with DRAM_TRAIN raised. -/
def execDramTrainingDone (size : Nat) (ok : Bool) (s : State) : Host.Outcome State Fault Refusal :=
  .next (s.after fun s => s.whenCore fun s => s.cmdDramTrainingDone size ok)

/-- R177. 64 µs after the last write a partial tail burst spills to DRAM. -/
def execTailPartialSpill (n : Stream) (s : State) : Host.Outcome State Fault Refusal :=
  .next (s.after fun s => s.whenCore fun s => s.cmdTailPartialSpill n)

/-- R184. A write of 1 to SessionOpen opens a read session on the named facet's streams, or is refused. -/
def execSessionOpen (d : Door) (s : State) : Host.Outcome State Fault Refusal :=
  .next (s.after fun s => s.directWrite d (0x2C08 + d.num) 3 0 [1])

/-- R184. A write of 0 to SessionOpen closes the session. -/
def execSessionClose (d : Door) (s : State) : Host.Outcome State Fault Refusal :=
  .next (s.after fun s => s.directWrite d (0x2C08 + d.num) 3 0 [0])

/-- R186. A host IN on EP1 delivers a record, a door answer, an IDLE record or NAK. -/
def execHostEp1In (u : Upstream) (acked : Bool) (remote : List Byte) (s : State) : Host.Outcome State Fault Refusal :=
  .next (s.after fun s => s.whenCore fun s => s.cmdHostEp1In u acked remote)

/-- R187. A read of SessionData returns whole records, or pieces of one, up to the door's limit. -/
def execSessionDataRead (d : Door) (len : Nat) (remote : List Byte) (s : State) : Host.Outcome State Fault Refusal :=
  .next (s.after fun s => s.directRead d (0x2C08 + d.num) 5 len remote)

/-- R189. StreamCommand 1 sets the mark at the read pointer. -/
def execStreamMark (d : Door) (n : Stream) (s : State) : Host.Outcome State Fault Refusal :=
  .next (s.after fun s => s.directWrite d (0x2D00 + n.val) 0x10 0 [1])

/-- R189. StreamCommand 2 moves the read pointer back to the mark or release pointer. -/
def execStreamRewind (d : Door) (n : Stream) (s : State) : Host.Outcome State Fault Refusal :=
  .next (s.after fun s => s.directWrite d (0x2D00 + n.val) 0x10 0 [2])

/-- R189. StreamCommand 3 moves the release pointer to the read pointer and frees space. -/
def execStreamRelease (d : Door) (n : Stream) (s : State) : Host.Outcome State Fault Refusal :=
  .next (s.after fun s => s.directWrite d (0x2D00 + n.val) 0x10 0 [3])

/-- R191. StreamCommand 4 discards everything in the stream. -/
def execStreamFlush (d : Door) (n : Stream) (s : State) : Host.Outcome State Fault Refusal :=
  .next (s.after fun s => s.directWrite d (0x2D00 + n.val) 0x10 0 [4])

/-- R193. A corrected DRAM ECC error is counted and raises DRAM_CE. -/
def execDramCorrectedError (addr : Nat) (s : State) : Host.Outcome State Fault Refusal :=
  .next (s.after fun s => s.whenCore fun s => s.cmdDramCorrectedError addr)

/-- R194. An uncorrectable DRAM error is counted, raises DRAM_UE and marks the damaged data. -/
def execDramUncorrectableError (addr : Nat) (s : State) : Host.Outcome State Fault Refusal :=
  .next (s.after fun s => s.whenCore fun s => s.cmdDramUncorrectableError addr)

/-- R193. A corrected SRAM ECC error is counted per bank and raises SRAM_CE. -/
def execSramCorrectedError (bank : Fin 22) (s : State) : Host.Outcome State Fault Refusal :=
  .next (s.after fun s => s.whenCore fun s => s.cmdSramCorrectedError bank)

/-- R348. An uncorrectable SRAM error raises SRAM_UE and is treated by the bank it hits. -/
def execSramUncorrectableError (bank : Fin 22) (hit : SramHit) (s : State) : Host.Outcome State Fault Refusal :=
  .next (s.after fun s => s.whenCore fun s => s.cmdSramUncorrectableError bank hit)

/-- R195. The scrubber reads a 64-byte burst and writes back a corrected one. -/
def execScrubBurst (addr : Nat) (corrected : Bool) (s : State) : Host.Outcome State Fault Refusal :=
  .next (s.after fun s => s.whenCore fun s => s.cmdScrubBurst addr corrected)

/-- R195. A scrub pass completes and is counted. -/
def execScrubPassComplete (s : State) : Host.Outcome State Fault Refusal :=
  .next (s.after fun s => s.whenCore fun s => s.cmdScrubPassComplete)

/-- R197. At the last beat of a grant the arbiter picks the next requester and starts back-offs for losers. -/
def execArbDecision (asks : Nat) (cycles : Nat) (s : State) : Host.Outcome State Fault Refusal :=
  .next (s.after fun s => s.whenCore fun s => s.cmdArbDecision asks cycles)

/-- R197. A losing requester's back-off ends and it requests again. -/
def execArbBackoffEnd (n : Fin 11) (s : State) : Host.Outcome State Fault Refusal :=
  .next (s.after fun s => s.whenCore fun s => s.cmdArbBackoffEnd n)

/-- R197. A requester's wait reaches its limit and it becomes forced. -/
def execArbWaitLimit (n : Fin 11) (s : State) : Host.Outcome State Fault Refusal :=
  .next (s.after fun s => s.whenCore fun s => s.cmdArbWaitLimit n)

/-- R198. A wait reaches the limit plus 384 cycles and ARB_STARVE is raised. -/
def execArbStarve (n : Fin 11) (s : State) : Host.Outcome State Fault Refusal :=
  .next (s.after fun s => s.whenCore fun s => s.cmdArbStarve n)

/-- R199. A write of 1 to ArbFreeze stops new grants and drains the write queue. -/
def execArbFreeze (d : Door) (s : State) : Host.Outcome State Fault Refusal :=
  .next (s.after fun s => s.directWrite d 0x2C01 1 0 [1])

/-- R199. A write of 0 to ArbFreeze resumes arbitration. -/
def execArbResume (d : Door) (s : State) : Host.Outcome State Fault Refusal :=
  .next (s.after fun s => s.directWrite d 0x2C01 1 0 [0])

/-- R199. The grant in progress and the write queue have drained and the freeze reads drained. -/
def execArbDrained (s : State) : Host.Outcome State Fault Refusal :=
  .next (s.after fun s => s.whenCore fun s => s.cmdArbDrained)

end Sys2Proof.Machine
end

