-- ==== Sys2Proof/Machine/RowsRing.lean ====
section
/-! DEFINITION. The meanings of the commands of Wyhelen mode, links, prism formation, the lock and prism commits (R70 to R121): each is a
family's operation, run as one step by `State.after`. -/

namespace Sys2Proof.Machine

/-- A staged prism-wide write: at a door of this facet, or brought by a COMMIT frame (R104). -/
def State.stagingWrite (s : State) (src : StageSrc) (w : RegWrite) : State :=
  match src with
  | .door d => s.directWrite d w.index w.sub w.offset w.data
  | .frame k h => s.whenRing fun s => s.takeStage k h w

/-- R70. 50 ms after an explicit contract the initiator starts the Wyhelen discovery exchange of structured VDMs. -/
def execWyhelenEntryStart (p : Port) (s : State) : Host.Outcome State Fault Refusal :=
  .next (s.after fun s => s.cmdWyhelenEntryStart p)

/-- R277. A Discover Identity on SOP is answered with the ID Header, Cert Stat, Product and DFP VDOs. -/
def execDiscoverIdentitySop (p : Port) (h : PdHdr) (s : State) : Host.Outcome State Fault Refusal :=
  .next (s.after fun s => s.cmdDiscoverIdentitySop p h)

/-- R278. Discover SVIDs is ACKed with 0x3A5D where Wyhelen is offered and NAKed elsewhere. -/
def execDiscoverSvids (p : Port) (h : PdHdr) (s : State) : Host.Outcome State Fault Refusal :=
  .next (s.after fun s => s.cmdDiscoverSvids p h)

/-- R278. Discover Modes for SVID 0x3A5D is ACKed with the Mode VDO; other SVIDs are NAKed. -/
def execDiscoverModes (p : Port) (h : PdHdr) (svid : Nat) (s : State) : Host.Outcome State Fault Refusal :=
  .next (s.after fun s => s.cmdDiscoverModes p h svid)

/-- R72. The responder ACKs or NAKs Enter Mode for Wyhelen and records the reason for a refusal. -/
def execEnterMode (p : Port) (h : PdHdr) (svid : Nat) (position : Nat) (s : State) : Host.Outcome State Fault Refusal :=
  .next (s.after fun s => s.cmdEnterMode p h svid position)

/-- R73. On the ACK both sides drop D+/D− terminations, switch the pairs to the SerDes and start training. -/
def execEnterModeAck (p : Port) (s : State) : Host.Outcome State Fault Refusal :=
  .next (s.after fun s => s.cmdEnterModeAck p)

/-- R73. Exit Mode ends Wyhelen mode, takes the link down and sends the port to Disconnected. -/
def execExitMode (p : Port) (h : PdHdr) (s : State) : Host.Outcome State Fault Refusal :=
  .next (s.after fun s => s.cmdExitMode p h)

/-- R278. A received Attention VDM is ignored. -/
def execAttention (p : Port) (h : PdHdr) (s : State) : Host.Outcome State Fault Refusal :=
  .next (s.after fun s => s.cmdAttention p h)

/-- R78. Training starts with TS1 on both lanes, at the Enter Mode ACK or when RING turns on for a fixed link. -/
def execLinkTrainingStart (k : Link) (s : State) : Host.Outcome State Fault Refusal :=
  .next (s.after fun s => s.whenRing fun s => s.cmdLinkTrainingStart k)

/-- R78. Training completes with 16 error-free IDL blocks each way and the link is up. -/
def execLinkUp (k : Link) (g : Ts2) (laneMap : Nat) (s : State) : Host.Outcome State Fault Refusal :=
  .next (s.after fun s => s.whenRing fun s => s.cmdLinkUp k g laneMap)

/-- R79. Training does not reach step 6 within 10 ms; the attempt fails and, after three failures, the link reads failed. -/
def execLinkTrainTimeout (k : Link) (s : State) : Host.Outcome State Fault Refusal :=
  .next (s.after fun s => s.whenRing fun s => s.cmdLinkTrainTimeout k)

/-- R79. A new training attempt starts 100 ms, or 1 s, after a failure. -/
def execLinkTrainRetry (k : Link) (s : State) : Host.Outcome State Fault Refusal :=
  .next (s.after fun s => s.whenRing fun s => s.cmdLinkTrainRetry k)

/-- R80. Errors reach LinkErrorThreshold within 1 ms and the link retrains. -/
def execLinkErrorThreshold (k : Link) (s : State) : Host.Outcome State Fault Refusal :=
  .next (s.after fun s => s.whenRing fun s => s.cmdLinkErrorThreshold k)

/-- R80. TS1 from the partner on an up link starts a retrain. -/
def execTs1Received (k : Link) (s : State) : Host.Outcome State Fault Refusal :=
  .next (s.after fun s => s.whenRing fun s => s.cmdTs1Received k)

/-- R80. A retrain not complete within 1 ms, or a third retrain within 1 s, declares the link down. -/
def execRetrainTimeout (k : Link) (s : State) : Host.Outcome State Fault Refusal :=
  .next (s.after fun s => s.whenRing fun s => s.cmdRetrainTimeout k)

/-- R99. 1 µs without a valid block takes the link out of routing, floods an LSF and raises RING_LINKk. -/
def execLinkSignalLoss (k : Link) (s : State) : Host.Outcome State Fault Refusal :=
  .next (s.after fun s => s.whenRing fun s => s.cmdLinkSignalLoss k)

/-- R86. A LINK frame delivers acknowledgements, NAKs and credits; a NAK starts a replay. -/
def execLinkFrame (k : Link) (h : FrameHdr) (nak : Option Nat) (credits : List Nat) (s : State) : Host.Outcome State Fault Refusal :=
  .next (s.after fun s => s.whenRing fun s => s.cmdLinkFrame k h nak credits)

/-- R86. No acknowledgement 4 µs after a transmission replays from the oldest unacknowledged frame. -/
def execReplayTimeout (k : Link) (s : State) : Host.Outcome State Fault Refusal :=
  .next (s.after fun s => s.whenRing fun s => s.cmdReplayTimeout k)

/-- R86. A LINK frame is sent at least every 2 µs while something is to be acknowledged. -/
def execLinkAckDue (k : Link) (s : State) : Host.Outcome State Fault Refusal :=
  .next (s.after fun s => s.whenRing fun s => s.cmdLinkAckDue k)

/-- R77. A SKP block is sent between frames at least once every 1024 blocks. -/
def execSkpDue (k : Link) (s : State) : Host.Outcome State Fault Refusal :=
  .next (s.after fun s => s.whenRing fun s => s.cmdSkpDue k)

/-- R97. A received LSF is forwarded and, if newer, updates the topology and switches routes. -/
def execLsf (k : Link) (h : FrameHdr) (b : LsfBody) (s : State) : Host.Outcome State Fault Refusal :=
  .next (s.after fun s => s.whenRing fun s => s.cmdLsf k h b)

/-- R97. A facet floods its LSF every 100 ms. -/
def execLsfPeriodic (s : State) : Host.Outcome State Fault Refusal :=
  .next (s.after fun s => s.whenRing fun s => s.cmdLsfPeriodic)

/-- R83. A SYNC frame delivers frame numbers, translation-table copies, remote-wake K, adoption records or arming. -/
def execSyncFrame (k : Link) (h : FrameHdr) (b : SyncBody) (s : State) : Host.Outcome State Fault Refusal :=
  .next (s.after fun s => s.whenRing fun s => s.cmdSyncFrame k h b)

/-- R91. The provisional set stays unchanged for FormationSettleTime and the lowest-ID facet commits the membership. -/
def execFormationSettle (s : State) : Host.Outcome State Fault Refusal :=
  .next (s.after fun s => s.whenCore fun s => s.cmdFormationSettle)

/-- R94. A Syncing facet has fetched and stored the newer configuration and returns to Member. -/
def execSyncingComplete (epoch : Nat) (values : List RegWrite) (s : State) : Host.Outcome State Fault Refusal :=
  .next (s.after fun s => s.whenCore fun s => s.cmdSyncingComplete epoch values)

/-- R102. A write of 1 to FacetWithdraw broadcasts WITHDRAW and starts a 20 µs forwarding period. -/
def execFacetWithdraw (d : Door) (s : State) : Host.Outcome State Fault Refusal :=
  .next (s.after fun s => s.directWrite d 0x3000 0x0C 0 [1])

/-- R102. After 20 µs the withdrawing facet stops transit and image traffic and reads Withdrawn. -/
def execWithdrawForwardEnd (s : State) : Host.Outcome State Fault Refusal :=
  .next (s.after fun s => s.whenCore fun s => s.cmdWithdrawForwardEnd)

/-- R102. A write of 2 to FacetWithdraw returns the facet to routing by an LSF flood. -/
def execFacetReturn (d : Door) (s : State) : Host.Outcome State Fault Refusal :=
  .next (s.after fun s => s.directWrite d 0x3000 0x0C 0 [2])

/-- R102. A received WITHDRAW frame reroutes around the sender. -/
def execWithdraw (k : Link) (h : FrameHdr) (s : State) : Host.Outcome State Fault Refusal :=
  .next (s.after fun s => s.whenRing fun s => s.cmdWithdraw k h)

/-- R105. A non-zero write to PrismLockRequest sends a lock request to the keeper. -/
def execPrismLockRequest (d : Door) (tag : Nat) (s : State) : Host.Outcome State Fault Refusal :=
  .next (s.after fun s => s.directWrite d 0x2400 1 0 (bytesBe 2 tag))

/-- R105. A write of 0 to PrismLockRequest releases a held lock or withdraws a pending request. -/
def execPrismLockRelease (d : Door) (s : State) : Host.Outcome State Fault Refusal :=
  .next (s.after fun s => s.directWrite d 0x2400 1 0 (bytesBe 2 0))

/-- R105. The keeper grants a free lock to the first request and broadcasts the grant; losers are told. -/
def execLockRequestAtKeeper (requests : List LockReq) (s : State) : Host.Outcome State Fault Refusal :=
  .next (s.after fun s => s.whenRing fun s => s.cmdLockRequestAtKeeper requests)

/-- R105. A lock grant, loss or lapse frame received updates the member's lock state and lease record. -/
def execLockGrant (k : Link) (h : FrameHdr) (b : LockBody) (s : State) : Host.Outcome State Fault Refusal :=
  .next (s.after fun s => s.whenRing fun s => s.cmdLockGrant k h b)

/-- R105. After a lost request's back-off the steward retries, or gives up after eight losses. -/
def execLockBackoffExpiry (s : State) : Host.Outcome State Fault Refusal :=
  .next (s.after fun s => s.whenCore fun s => s.cmdLockBackoffExpiry)

/-- R106. The lock facet's steward renews the 50 ms lease every 20 ms. -/
def execLockRenew (s : State) : Host.Outcome State Fault Refusal :=
  .next (s.after fun s => s.whenCore fun s => s.cmdLockRenew)

/-- R106. Prism time passes the lease expiry: staged prism-wide values are discarded and PRISM_LEASE is raised. -/
def execLeaseLapse (s : State) : Host.Outcome State Fault Refusal :=
  .next (s.after fun s => s.whenCore fun s => s.cmdLeaseLapse)

/-- R106. The holding door is idle for PrismLockIdleLimit and the steward stops renewing. -/
def execLockIdleLimit (s : State) : Host.Outcome State Fault Refusal :=
  .next (s.after fun s => s.whenCore fun s => s.cmdLockIdleLimit)

/-- R104. A staged write to a prism-wide entry from the holding door is broadcast in COMMIT frames. -/
def execPrismStagingWrite (src : StageSrc) (w : RegWrite) (s : State) : Host.Outcome State Fault Refusal :=
  .next (s.after fun s => s.stagingWrite src w)

/-- R107. A write of 1 to PrismCommit broadcasts PREPARE with the staged-set digest. -/
def execPrismCommit (d : Door) (s : State) : Host.Outcome State Fault Refusal :=
  .next (s.after fun s => s.directWrite d 0x2400 7 0 [1])

/-- R107. A write of 2 to PrismCommit discards the staged prism-wide set. -/
def execPrismCommitDiscard (d : Door) (s : State) : Host.Outcome State Fault Refusal :=
  .next (s.after fun s => s.directWrite d 0x2400 7 0 [2])

/-- R119. A member checks the digest and the staged set and answers READY or REFUSE. -/
def execPrepare (k : Link) (h : FrameHdr) (digest : Nat) (prism : PrismTag) (s : State) : Host.Outcome State Fault Refusal :=
  .next (s.after fun s => s.whenRing fun s => s.cmdPrepare k h digest prism.epoch prism.prism prism.origin)

/-- R107. The lock facet collects READY; at the last one it renews the lease and broadcasts APPLY with time T. -/
def execReady (k : Link) (h : FrameHdr) (s : State) : Host.Outcome State Fault Refusal :=
  .next (s.after fun s => s.whenRing fun s => s.cmdReady k h)

/-- R107. A REFUSE makes the lock facet broadcast ABORT and record the refusal. -/
def execRefuse (k : Link) (h : FrameHdr) (reason : Nat) (detail : Nat) (s : State) : Host.Outcome State Fault Refusal :=
  .next (s.after fun s => s.whenRing fun s => s.cmdRefuse k h reason detail)

/-- R107. A member does not answer within 5 ms and the commit is aborted. -/
def execCommitAnswerTimeout (s : State) : Host.Outcome State Fault Refusal :=
  .next (s.after fun s => s.whenCore fun s => s.cmdCommitAnswerTimeout)

/-- R107. A received ABORT keeps the staged set and ends the commit as refused. -/
def execAbort (k : Link) (h : FrameHdr) (s : State) : Host.Outcome State Fault Refusal :=
  .next (s.after fun s => s.whenRing fun s => s.cmdAbort k h)

/-- R107. A received APPLY records the apply time T. -/
def execApply (k : Link) (h : FrameHdr) (time : Nat) (s : State) : Host.Outcome State Fault Refusal :=
  .next (s.after fun s => s.whenRing fun s => s.cmdApply k h time)

/-- R121. At T every member holding APPLY switches to the staged set and the new epoch, and images change. -/
def execPrismApplyTime (s : State) : Host.Outcome State Fault Refusal :=
  .next (s.after fun s => s.whenCore fun s => s.cmdPrismApplyTime)

/-- R107. The two-copy flash store of a prism commit completes and the result reads applied. -/
def execPrismStoreDone (ok : Bool) (s : State) : Host.Outcome State Fault Refusal :=
  .next (s.after fun s => s.whenCore fun s => s.cmdPrismStoreDone ok)

/-- R120. A write of 1 to ImageDefaultMap stages the default map of the image. -/
def execImageDefaultMap (d : Door) (i : Image) (s : State) : Host.Outcome State Fault Refusal :=
  .next (s.after fun s => s.directWrite d (0x2410 + i.val) 7 0 [1])

/-- R121. After the 10 ms soft-detach of a re-presentation or an automatic merge, the active upstream attaches again with the new map. -/
def execSoftDetachEnd (i : Image) (s : State) : Host.Outcome State Fault Refusal :=
  .next (s.after fun s => s.whenCore fun s => s.cmdSoftDetachEnd i)

/-- R70. The initiator receives the partner's ACK or NAK to Discover Identity, Discover SVIDs, Discover Modes or Enter Mode and goes on
with or ends the Wyhelen exchange. -/
def execStructuredVdmAnswer (p : Port) (h : PdHdr) (cmd : VdmCmd) (ack : Bool) (vdos : List Nat)
    (s : State) : Host.Outcome State Fault Refusal :=
  .next (s.after fun s => s.cmdStructuredVdmAnswer p h cmd ack vdos)

end Sys2Proof.Machine
end

