-- ==== Sys2Proof/Machine/RowsTime.lean ====
section
/-! DEFINITION. The meanings of the commands of prism time, PPS, CAN time and launches (R208 to R234): each is a family's operation, run
as one step by `State.after`. -/

namespace Sys2Proof.Machine

/-- R212. The nanosecond counter wraps: the wrap count increments and TIME_WRAP is raised. -/
def execTimeWrap (s : State) : Host.Outcome State Fault Refusal :=
  .next (s.after fun s => s.cmdTimeWrap)

/-- R237. A read of TimeNow returns the counter and latches the fraction. -/
def execTimeNowRead (d : Door) (s : State) : Host.Outcome State Fault Refusal :=
  .next (s.after fun s => s.directRead d 0x3400 1 4 [])

/-- R212. A read of TimeExtended returns the wrap count and counter latched together. -/
def execTimeExtendedRead (d : Door) (s : State) : Host.Outcome State Fault Refusal :=
  .next (s.after fun s => s.directRead d 0x3400 3 8 [])

/-- R217. At each millisecond boundary an ECHO frame is sent on each up link and stamped as it leaves. -/
def execEchoSend (s : State) : Host.Outcome State Fault Refusal :=
  .next (s.after fun s => s.whenRing fun s => s.cmdEchoSend)

/-- R219. An ECHO is stamped; offset, mean path and LinkLatency are computed and the focal choice updated. -/
def execEchoReceive (k : Link) (b : EchoBody) (rx : Nat) (s : State) : Host.Outcome State Fault Refusal :=
  .next (s.after fun s => s.whenRing fun s => s.cmdEchoReceive k b rx)

/-- R219. A boundary's echo exchange does not complete and is counted. -/
def execEchoMiss (k : Link) (s : State) : Host.Outcome State Fault Refusal :=
  .next (s.after fun s => s.whenRing fun s => s.cmdEchoMiss k)

/-- R214. A focal announcement not repeated for 3 ms lapses and the focal is chosen again. -/
def execFocalAnnounceLapse (k : Link) (s : State) : Host.Outcome State Fault Refusal :=
  .next (s.after fun s => s.whenRing fun s => s.cmdFocalAnnounceLapse k)

/-- R221. No offset for 3 ms with no other route to the focal: the servo holds its frequency. -/
def execServoReferenceLost (s : State) : Host.Outcome State Fault Refusal :=
  .next (s.after fun s => s.whenCore fun s => s.cmdServoReferenceLost)

/-- R222. After 10 minutes locked, and hourly after, the steward stores F as TimeStoredFreq. -/
def execStoredFreqSave (s : State) : Host.Outcome State Fault Refusal :=
  .next (s.after fun s => s.whenCore fun s => s.cmdStoredFreqSave)

/-- R224. A PPS_IN rising edge is stamped, qualifies the input or steers a focal. -/
def execPpsInEdge (s : State) : Host.Outcome State Fault Refusal :=
  .next (s.after fun s => s.cmdPpsInEdge)

/-- R225. A second passes with no usable edge; three misses make PPS_IN invalid. -/
def execPpsInMiss (s : State) : Host.Outcome State Fault Refusal :=
  .next (s.after fun s => s.cmdPpsInMiss)

/-- R226. The counter passes PpsOutNext: PPS_OUT rises and PpsOutNext advances by the period. -/
def execPpsOutEdge (s : State) : Host.Outcome State Fault Refusal :=
  .next (s.after fun s => s.cmdPpsOutEdge)

/-- R226. PpsOutWidth elapses and PPS_OUT falls. -/
def execPpsOutWidthEnd (s : State) : Host.Outcome State Fault Refusal :=
  .next (s.after fun s => s.cmdPpsOutWidthEnd)

/-- R226. A write of PpsOutNext is accepted if less than 2.1 s ahead. -/
def execPpsOutNextWrite (d : Door) (v : Nat) (s : State) : Host.Outcome State Fault Refusal :=
  .next (s.after fun s => s.directWrite d 0x3401 0x0A 0 (bytesBe 4 v))

/-- R230. A write of TimeCivilAnchor is copied to every member. -/
def execTimeCivilAnchorWrite (d : Door) (offset : Nat) (data : List Byte) (s : State) : Host.Outcome State Fault Refusal :=
  .next (s.after fun s => s.directWrite d 0x3400 0x17 offset data)

/-- R230. A TIME producer sends the TIME message at each multiple of CanTimePeriod. -/
def execCanTimeSend (late : Nat) (s : State) : Host.Outcome State Fault Refusal :=
  .next (s.after fun s => s.whenCore fun s => s.cmdCanTimeSend late)

/-- R230. A TIME consumer rewrites the anchor from a received TIME message. -/
def execCanTimeReceive (ms : Nat) (days : Nat) (s : State) : Host.Outcome State Fault Refusal :=
  .next (s.after fun s => s.whenCore fun s => s.cmdCanTimeReceive ms days)

/-- R231. The counter passes CanSyncPhase and a SYNC producer sends SYNC and advances the phase. -/
def execCanSyncSend (s : State) : Host.Outcome State Fault Refusal :=
  .next (s.after fun s => s.whenCore fun s => s.cmdCanSyncSend)

/-- R231. A received SYNC is stamped and counted. -/
def execCanSyncReceive (s : State) : Host.Outcome State Fault Refusal :=
  .next (s.after fun s => s.whenCore fun s => s.cmdCanSyncReceive)

/-- R231. A write of CanSyncPhase is accepted if less than 2.1 s ahead. -/
def execCanSyncPhaseWrite (d : Door) (v : Nat) (s : State) : Host.Outcome State Fault Refusal :=
  .next (s.after fun s => s.directWrite d 0x3402 4 0 (bytesBe 4 v))

/-- R233. An 80-byte write queues a timed launch or is refused with a reason. -/
def execLaunchSubmit (d : Door) (data : List Byte) (s : State) : Host.Outcome State Fault Refusal :=
  .next (s.after fun s => s.directWrite d 0x3430 1 0 data)

/-- R233. A write of a Tag removes an unstarted launch with result 6. -/
def execLaunchCancel (d : Door) (tag : Nat) (s : State) : Host.Outcome State Fault Refusal :=
  .next (s.after fun s => s.directWrite d 0x3430 2 0 (bytesBe 2 tag))

/-- R234. A due launch starts its OUT transaction at the first instant its port allows. -/
def execLaunchStart (tag : Nat) (s : State) : Host.Outcome State Fault Refusal :=
  .next (s.after fun s => s.whenCore fun s => s.cmdLaunchStart tag)

/-- R235. A launch ends and writes its result record. -/
def execLaunchEnd (tag : Nat) (answer : DevAnswer) (s : State) : Host.Outcome State Fault Refusal :=
  .next (s.after fun s => s.whenCore fun s => s.cmdLaunchEnd tag answer)

/-- R234. A launch's window ends unstarted or still NAKed, ending it late or failed. -/
def execLaunchWindowEnd (tag : Nat) (s : State) : Host.Outcome State Fault Refusal :=
  .next (s.after fun s => s.whenCore fun s => s.cmdLaunchWindowEnd tag)

end Sys2Proof.Machine
end

