-- ==== Sys2Proof/Machine/Dispatch.lean ====
section
/-! DEFINITION. The one dispatch of commands to their meanings, one arm for each constructor of `Instr`. -/

namespace Sys2Proof.Machine

def exec (i : Instr) (s : State) : Host.Outcome State Fault Refusal :=
  match i with
  | .pllUnlock => Sys2Proof.Machine.execPllUnlock s
  | .pllRelock => Sys2Proof.Machine.execPllRelock s
  | .hsEngineContextGrant => Sys2Proof.Machine.execHsEngineContextGrant s
  | .upstreamReset u midControl hs => Sys2Proof.Machine.execUpstreamReset u midControl hs s
  | .getStatus f r ep => Sys2Proof.Machine.execGetStatus f r ep s
  | .setFeatureDeviceRemoteWakeup f => Sys2Proof.Machine.execSetFeatureDeviceRemoteWakeup f s
  | .clearFeatureDeviceRemoteWakeup f => Sys2Proof.Machine.execClearFeatureDeviceRemoteWakeup f s
  | .setFeatureEndpointHalt t ep => Sys2Proof.Machine.execSetFeatureEndpointHalt t ep s
  | .clearFeatureEndpointHalt t ep => Sys2Proof.Machine.execClearFeatureEndpointHalt t ep s
  | .setFeatureTestMode im sel => Sys2Proof.Machine.execSetFeatureTestMode im sel s
  | .setAddress t addr cut => Sys2Proof.Machine.execSetAddress t addr cut s
  | .getDescriptor t kind index answer => Sys2Proof.Machine.execGetDescriptor t kind index answer s
  | .getConfiguration f => Sys2Proof.Machine.execGetConfiguration f s
  | .setConfiguration t value cut => Sys2Proof.Machine.execSetConfiguration t value cut s
  | .getInterface f => Sys2Proof.Machine.execGetInterface f s
  | .setInterface t iface alt => Sys2Proof.Machine.execSetInterface t iface alt s
  | .getHubStatus im => Sys2Proof.Machine.execGetHubStatus im s
  | .clearHubFeature im feature => Sys2Proof.Machine.execClearHubFeature im feature s
  | .getPortStatus im m => Sys2Proof.Machine.execGetPortStatus im m s
  | .setPortFeaturePortPower im m => Sys2Proof.Machine.execSetPortFeaturePortPower im m s
  | .setPortFeaturePortReset im m => Sys2Proof.Machine.execSetPortFeaturePortReset im m s
  | .setPortFeaturePortSuspend im m => Sys2Proof.Machine.execSetPortFeaturePortSuspend im m s
  | .setPortFeaturePortTest im m sel => Sys2Proof.Machine.execSetPortFeaturePortTest im m sel s
  | .clearPortFeaturePortEnable im m => Sys2Proof.Machine.execClearPortFeaturePortEnable im m s
  | .clearPortFeaturePortPower im m => Sys2Proof.Machine.execClearPortFeaturePortPower im m s
  | .clearPortFeaturePortSuspend im m => Sys2Proof.Machine.execClearPortFeaturePortSuspend im m s
  | .clearPortFeatureCPort im m bit => Sys2Proof.Machine.execClearPortFeatureCPort im m bit s
  | .clearTtBuffer im m addr ep => Sys2Proof.Machine.execClearTtBuffer im m addr ep s
  | .resetTt im m => Sys2Proof.Machine.execResetTt im m s
  | .stopTt im m => Sys2Proof.Machine.execStopTt im m s
  | .stalledRequest f => Sys2Proof.Machine.execStalledRequest f s
  | .deviceConnect p lowSpeed => Sys2Proof.Machine.execDeviceConnect p lowSpeed s
  | .deviceDisconnect p => Sys2Proof.Machine.execDeviceDisconnect p s
  | .portResetComplete p chirp => Sys2Proof.Machine.execPortResetComplete p chirp s
  | .deviceBabble p => Sys2Proof.Machine.execDeviceBabble p s
  | .portResumeComplete p => Sys2Proof.Machine.execPortResumeComplete p s
  | .deviceRemoteWake p => Sys2Proof.Machine.execDeviceRemoteWake p s
  | .hostResume u => Sys2Proof.Machine.execHostResume u s
  | .hostSof u frame micro => Sys2Proof.Machine.execHostSof u frame micro s
  | .microframeWithoutSof u => Sys2Proof.Machine.execMicroframeWithoutSof u s
  | .upstreamIdleSuspend u => Sys2Proof.Machine.execUpstreamIdleSuspend u s
  | .ttFrameSof p => Sys2Proof.Machine.execTtFrameSof p s
  | .hostToken u t a acked => Sys2Proof.Machine.execHostToken u t a acked s
  | .hostStartSplit u x => Sys2Proof.Machine.execHostStartSplit u x s
  | .hostCompleteSplit u x => Sys2Proof.Machine.execHostCompleteSplit u x s
  | .ttFsTransactionDone p answer => Sys2Proof.Machine.execTtFsTransactionDone p answer s
  | .hsEngineResponseTimeout n => Sys2Proof.Machine.execHsEngineResponseTimeout n s
  | .hsEngineTransactionEnd n answer => Sys2Proof.Machine.execHsEngineTransactionEnd n answer s
  | .wyhelenEntryStart p => Sys2Proof.Machine.execWyhelenEntryStart p s
  | .discoverIdentitySop p h => Sys2Proof.Machine.execDiscoverIdentitySop p h s
  | .discoverSvids p h => Sys2Proof.Machine.execDiscoverSvids p h s
  | .discoverModes p h svid => Sys2Proof.Machine.execDiscoverModes p h svid s
  | .enterMode p h svid position => Sys2Proof.Machine.execEnterMode p h svid position s
  | .enterModeAck p => Sys2Proof.Machine.execEnterModeAck p s
  | .exitMode p h => Sys2Proof.Machine.execExitMode p h s
  | .attention p h => Sys2Proof.Machine.execAttention p h s
  | .linkTrainingStart k => Sys2Proof.Machine.execLinkTrainingStart k s
  | .linkUp k g laneMap => Sys2Proof.Machine.execLinkUp k g laneMap s
  | .linkTrainTimeout k => Sys2Proof.Machine.execLinkTrainTimeout k s
  | .linkTrainRetry k => Sys2Proof.Machine.execLinkTrainRetry k s
  | .linkErrorThreshold k => Sys2Proof.Machine.execLinkErrorThreshold k s
  | .ts1Received k => Sys2Proof.Machine.execTs1Received k s
  | .retrainTimeout k => Sys2Proof.Machine.execRetrainTimeout k s
  | .linkSignalLoss k => Sys2Proof.Machine.execLinkSignalLoss k s
  | .linkFrame k h nak credits => Sys2Proof.Machine.execLinkFrame k h nak credits s
  | .replayTimeout k => Sys2Proof.Machine.execReplayTimeout k s
  | .linkAckDue k => Sys2Proof.Machine.execLinkAckDue k s
  | .skpDue k => Sys2Proof.Machine.execSkpDue k s
  | .lsf k h b => Sys2Proof.Machine.execLsf k h b s
  | .lsfPeriodic => Sys2Proof.Machine.execLsfPeriodic s
  | .syncFrame k h b => Sys2Proof.Machine.execSyncFrame k h b s
  | .formationSettle => Sys2Proof.Machine.execFormationSettle s
  | .syncingComplete epoch values => Sys2Proof.Machine.execSyncingComplete epoch values s
  | .facetWithdraw d => Sys2Proof.Machine.execFacetWithdraw d s
  | .withdrawForwardEnd => Sys2Proof.Machine.execWithdrawForwardEnd s
  | .facetReturn d => Sys2Proof.Machine.execFacetReturn d s
  | .withdraw k h => Sys2Proof.Machine.execWithdraw k h s
  | .prismLockRequest d tag => Sys2Proof.Machine.execPrismLockRequest d tag s
  | .prismLockRelease d => Sys2Proof.Machine.execPrismLockRelease d s
  | .lockRequestAtKeeper requests => Sys2Proof.Machine.execLockRequestAtKeeper requests s
  | .lockGrant k h b => Sys2Proof.Machine.execLockGrant k h b s
  | .lockBackoffExpiry => Sys2Proof.Machine.execLockBackoffExpiry s
  | .lockRenew => Sys2Proof.Machine.execLockRenew s
  | .leaseLapse => Sys2Proof.Machine.execLeaseLapse s
  | .lockIdleLimit => Sys2Proof.Machine.execLockIdleLimit s
  | .prismStagingWrite src w => Sys2Proof.Machine.execPrismStagingWrite src w s
  | .prismCommit d => Sys2Proof.Machine.execPrismCommit d s
  | .prismCommitDiscard d => Sys2Proof.Machine.execPrismCommitDiscard d s
  | .prepare k h digest prism => Sys2Proof.Machine.execPrepare k h digest prism s
  | .ready k h => Sys2Proof.Machine.execReady k h s
  | .refuse k h reason detail => Sys2Proof.Machine.execRefuse k h reason detail s
  | .commitAnswerTimeout => Sys2Proof.Machine.execCommitAnswerTimeout s
  | .abort k h => Sys2Proof.Machine.execAbort k h s
  | .apply k h time => Sys2Proof.Machine.execApply k h time s
  | .prismApplyTime => Sys2Proof.Machine.execPrismApplyTime s
  | .prismStoreDone ok => Sys2Proof.Machine.execPrismStoreDone ok s
  | .imageDefaultMap d im => Sys2Proof.Machine.execImageDefaultMap d im s
  | .portStatus k h r b => Sys2Proof.Machine.execPortStatus k h r b s
  | .portReq k h r q => Sys2Proof.Machine.execPortReq k h r q s
  | .hostHsInRelayed im addr ep acked => Sys2Proof.Machine.execHostHsInRelayed im addr ep acked s
  | .hostHsOutRelayed im addr ep toggle data => Sys2Proof.Machine.execHostHsOutRelayed im addr ep toggle data s
  | .hostPingRelayed im addr ep => Sys2Proof.Machine.execHostPingRelayed im addr ep s
  | .hostSetupRelayed im addr ep data => Sys2Proof.Machine.execHostSetupRelayed im addr ep data s
  | .xactReq k h r data => Sys2Proof.Machine.execXactReq k h r data s
  | .xactRsp k h r data => Sys2Proof.Machine.execXactRsp k h r data s
  | .cancel k h r data => Sys2Proof.Machine.execCancel k h r data s
  | .splitStart k h r data => Sys2Proof.Machine.execSplitStart k h r data s
  | .splitResult k h r data => Sys2Proof.Machine.execSplitResult k h r data s
  | .relayTimeout im addr ep dirIn => Sys2Proof.Machine.execRelayTimeout im addr ep dirIn s
  | .holdoverArm d im v => Sys2Proof.Machine.execHoldoverArm d im v s
  | .holdoverSuspendIntent d im v => Sys2Proof.Machine.execHoldoverSuspendIntent d im v s
  | .suspendIntentWindowEnd im => Sys2Proof.Machine.execSuspendIntentWindowEnd im s
  | .upstreamVbusLoss u => Sys2Proof.Machine.execUpstreamVbusLoss u s
  | .upstreamDetach u => Sys2Proof.Machine.execUpstreamDetach u s
  | .sofLossDeclaration im => Sys2Proof.Machine.execSofLossDeclaration im s
  | .holdoverCommandEnter d im => Sys2Proof.Machine.execHoldoverCommandEnter d im s
  | .holdoverCommandAdopt d im => Sys2Proof.Machine.execHoldoverCommandAdopt d im s
  | .holdoverCommandAbandon d im => Sys2Proof.Machine.execHoldoverCommandAbandon d im s
  | .holdoverCommandWake d im => Sys2Proof.Machine.execHoldoverCommandWake d im s
  | .holdoverSofBoundary im => Sys2Proof.Machine.execHoldoverSofBoundary im s
  | .holdoverTableSwap d => Sys2Proof.Machine.execHoldoverTableSwap d s
  | .tableSwitchBoundary im => Sys2Proof.Machine.execTableSwitchBoundary im s
  | .slotOccurrence j => Sys2Proof.Machine.execSlotOccurrence j s
  | .entryAction j => Sys2Proof.Machine.execEntryAction j s
  | .entryActionTimeout j => Sys2Proof.Machine.execEntryActionTimeout j s
  | .adoptAutoDelayExpiry im => Sys2Proof.Machine.execAdoptAutoDelayExpiry im s
  | .adoptMirrorAttach im => Sys2Proof.Machine.execAdoptMirrorAttach im s
  | .absorbedResetComplete im m => Sys2Proof.Machine.execAbsorbedResetComplete im m s
  | .adoptDeviceTimeout im m => Sys2Proof.Machine.execAdoptDeviceTimeout im m s
  | .imageStep im => Sys2Proof.Machine.execImageStep im s
  | .adoptImageTimeout im => Sys2Proof.Machine.execAdoptImageTimeout im s
  | .dramTrainingDone size ok => Sys2Proof.Machine.execDramTrainingDone size ok s
  | .tailPartialSpill n => Sys2Proof.Machine.execTailPartialSpill n s
  | .sessionOpen d => Sys2Proof.Machine.execSessionOpen d s
  | .sessionClose d => Sys2Proof.Machine.execSessionClose d s
  | .hostEp1In u acked remote => Sys2Proof.Machine.execHostEp1In u acked remote s
  | .sessionDataRead d len remote => Sys2Proof.Machine.execSessionDataRead d len remote s
  | .streamMark d n => Sys2Proof.Machine.execStreamMark d n s
  | .streamRewind d n => Sys2Proof.Machine.execStreamRewind d n s
  | .streamRelease d n => Sys2Proof.Machine.execStreamRelease d n s
  | .streamFlush d n => Sys2Proof.Machine.execStreamFlush d n s
  | .dramCorrectedError addr => Sys2Proof.Machine.execDramCorrectedError addr s
  | .dramUncorrectableError addr => Sys2Proof.Machine.execDramUncorrectableError addr s
  | .sramCorrectedError bank => Sys2Proof.Machine.execSramCorrectedError bank s
  | .sramUncorrectableError bank hit => Sys2Proof.Machine.execSramUncorrectableError bank hit s
  | .scrubBurst addr corrected => Sys2Proof.Machine.execScrubBurst addr corrected s
  | .scrubPassComplete => Sys2Proof.Machine.execScrubPassComplete s
  | .arbDecision asks cycles => Sys2Proof.Machine.execArbDecision asks cycles s
  | .arbBackoffEnd n => Sys2Proof.Machine.execArbBackoffEnd n s
  | .arbWaitLimit n => Sys2Proof.Machine.execArbWaitLimit n s
  | .arbStarve n => Sys2Proof.Machine.execArbStarve n s
  | .arbFreeze d => Sys2Proof.Machine.execArbFreeze d s
  | .arbResume d => Sys2Proof.Machine.execArbResume d s
  | .arbDrained => Sys2Proof.Machine.execArbDrained s
  | .timeWrap => Sys2Proof.Machine.execTimeWrap s
  | .timeNowRead d => Sys2Proof.Machine.execTimeNowRead d s
  | .timeExtendedRead d => Sys2Proof.Machine.execTimeExtendedRead d s
  | .echoSend => Sys2Proof.Machine.execEchoSend s
  | .echoReceive k b rx => Sys2Proof.Machine.execEchoReceive k b rx s
  | .echoMiss k => Sys2Proof.Machine.execEchoMiss k s
  | .focalAnnounceLapse k => Sys2Proof.Machine.execFocalAnnounceLapse k s
  | .servoReferenceLost => Sys2Proof.Machine.execServoReferenceLost s
  | .storedFreqSave => Sys2Proof.Machine.execStoredFreqSave s
  | .ppsInEdge => Sys2Proof.Machine.execPpsInEdge s
  | .ppsInMiss => Sys2Proof.Machine.execPpsInMiss s
  | .ppsOutEdge => Sys2Proof.Machine.execPpsOutEdge s
  | .ppsOutWidthEnd => Sys2Proof.Machine.execPpsOutWidthEnd s
  | .ppsOutNextWrite d v => Sys2Proof.Machine.execPpsOutNextWrite d v s
  | .timeCivilAnchorWrite d offset data => Sys2Proof.Machine.execTimeCivilAnchorWrite d offset data s
  | .canTimeSend late => Sys2Proof.Machine.execCanTimeSend late s
  | .canTimeReceive ms days => Sys2Proof.Machine.execCanTimeReceive ms days s
  | .canSyncSend => Sys2Proof.Machine.execCanSyncSend s
  | .canSyncReceive => Sys2Proof.Machine.execCanSyncReceive s
  | .canSyncPhaseWrite d v => Sys2Proof.Machine.execCanSyncPhaseWrite d v s
  | .launchSubmit d data => Sys2Proof.Machine.execLaunchSubmit d data s
  | .launchCancel d tag => Sys2Proof.Machine.execLaunchCancel d tag s
  | .launchStart tag => Sys2Proof.Machine.execLaunchStart tag s
  | .launchEnd tag answer => Sys2Proof.Machine.execLaunchEnd tag answer s
  | .launchWindowEnd tag => Sys2Proof.Machine.execLaunchWindowEnd tag s
  | .ccSourceAttach p cc safe => Sys2Proof.Machine.execCcSourceAttach p cc safe s
  | .attachMoistureResult p z => Sys2Proof.Machine.execAttachMoistureResult p z s
  | .ccSinkAttach p pin2 rp => Sys2Proof.Machine.execCcSinkAttach p pin2 rp s
  | .sourceDetach p => Sys2Proof.Machine.execSourceDetach p s
  | .sinkDetach p => Sys2Proof.Machine.execSinkDetach p s
  | .rpLowerAllocation p => Sys2Proof.Machine.execRpLowerAllocation p s
  | .moistureCheck p => Sys2Proof.Machine.execMoistureCheck p s
  | .moistureResult p z => Sys2Proof.Machine.execMoistureResult p z s
  | .corrosionTimeout p => Sys2Proof.Machine.execCorrosionTimeout p s
  | .vconnOverload p => Sys2Proof.Machine.execVconnOverload p s
  | .sourceCapabilitiesSend p => Sys2Proof.Machine.execSourceCapabilitiesSend p s
  | .cableDiscoveryAttempt p => Sys2Proof.Machine.execCableDiscoveryAttempt p s
  | .cableIdentity p ack vdo => Sys2Proof.Machine.execCableIdentity p ack vdo s
  | .request p h rdo => Sys2Proof.Machine.execRequest p h rdo s
  | .getSourceCap p h => Sys2Proof.Machine.execGetSourceCap p h s
  | .getSinkCap p h => Sys2Proof.Machine.execGetSinkCap p h s
  | .sinkCapabilities p h objects => Sys2Proof.Machine.execSinkCapabilities p h objects s
  | .drSwap p h => Sys2Proof.Machine.execDrSwap p h s
  | .prSwap p h => Sys2Proof.Machine.execPrSwap p h s
  | .vconnSwap p h => Sys2Proof.Machine.execVconnSwap p h s
  | .frSwap p h => Sys2Proof.Machine.execFrSwap p h s
  | .pdSoftReset p h => Sys2Proof.Machine.execPdSoftReset p h s
  | .pdGetStatus p h => Sys2Proof.Machine.execPdGetStatus p h s
  | .getPpsStatus p h => Sys2Proof.Machine.execGetPpsStatus p h s
  | .getRevision p h => Sys2Proof.Machine.execGetRevision p h s
  | .getSourceInfo p h => Sys2Proof.Machine.execGetSourceInfo p h s
  | .pdUnsupportedMessage p h kind => Sys2Proof.Machine.execPdUnsupportedMessage p h kind s
  | .bistCarrierMode p h => Sys2Proof.Machine.execBistCarrierMode p h s
  | .bistTestData p h => Sys2Proof.Machine.execBistTestData p h s
  | .pdPartnerNotice p h kind => Sys2Proof.Machine.execPdPartnerNotice p h kind s
  | .sourceCapabilitiesReceived p h objects => Sys2Proof.Machine.execSourceCapabilitiesReceived p h objects s
  | .psRdyReceived p h => Sys2Proof.Machine.execPsRdyReceived p h s
  | .hardReset p => Sys2Proof.Machine.execHardReset p s
  | .cableReset p => Sys2Proof.Machine.execCableReset p s
  | .pdRxError p => Sys2Proof.Machine.execPdRxError p s
  | .goodcrcTimeout p => Sys2Proof.Machine.execGoodcrcTimeout p s
  | .senderResponseTimeout p => Sys2Proof.Machine.execSenderResponseTimeout p s
  | .shedDelayExpiry => Sys2Proof.Machine.execShedDelayExpiry s
  | .budgetRestore => Sys2Proof.Machine.execBudgetRestore s
  | .transitionStart p nacked => Sys2Proof.Machine.execTransitionStart p nacked s
  | .regulatorPoll p r => Sys2Proof.Machine.execRegulatorPoll p r s
  | .regulatorTimeout p => Sys2Proof.Machine.execRegulatorTimeout p s
  | .vbusOutOfWindow p => Sys2Proof.Machine.execVbusOutOfWindow p s
  | .errorRecoveryRetry p => Sys2Proof.Machine.execErrorRecoveryRetry p s
  | .ppsTimeout p => Sys2Proof.Machine.execPpsTimeout p s
  | .prSwapVbusOff p => Sys2Proof.Machine.execPrSwapVbusOff p s
  | .prSwapVsafe0v p => Sys2Proof.Machine.execPrSwapVsafe0v p s
  | .prSwapSourceTimeout p => Sys2Proof.Machine.execPrSwapSourceTimeout p s
  | .prSwapDetectResume p pullup => Sys2Proof.Machine.execPrSwapDetectResume p pullup s
  | .vconnSwapTimeout p => Sys2Proof.Machine.execVconnSwapTimeout p s
  | .hardResetVbusOff p => Sys2Proof.Machine.execHardResetVbusOff p s
  | .hardResetRecover p regulator => Sys2Proof.Machine.execHardResetRecover p regulator s
  | .sinkTxWindowEnd p => Sys2Proof.Machine.execSinkTxWindowEnd p s
  | .upstreamAttach u rp => Sys2Proof.Machine.execUpstreamAttach u rp s
  | .vaonLow => Sys2Proof.Machine.execVaonLow s
  | .vaonRestored => Sys2Proof.Machine.execVaonRestored s
  | .feedEnFall x => Sys2Proof.Machine.execFeedEnFall x s
  | .feedEnRise x => Sys2Proof.Machine.execFeedEnRise x s
  | .feedUndervoltage x mv => Sys2Proof.Machine.execFeedUndervoltage x mv s
  | .feedOvervoltage x mv => Sys2Proof.Machine.execFeedOvervoltage x mv s
  | .feedWindowEntry x mv => Sys2Proof.Machine.execFeedWindowEntry x mv s
  | .insertionDelayExpiry x w => Sys2Proof.Machine.execInsertionDelayExpiry x w s
  | .diodeGateReady x => Sys2Proof.Machine.execDiodeGateReady x s
  | .prechargeComplete x => Sys2Proof.Machine.execPrechargeComplete x s
  | .prechargeTimeout x => Sys2Proof.Machine.execPrechargeTimeout x s
  | .rampComplete x => Sys2Proof.Machine.execRampComplete x s
  | .rampTimeout c mA => Sys2Proof.Machine.execRampTimeout c mA s
  | .gateFailure c => Sys2Proof.Machine.execGateFailure c s
  | .fastReverseTurnOff x => Sys2Proof.Machine.execFastReverseTurnOff x s
  | .reverseHoldExpiry x => Sys2Proof.Machine.execReverseHoldExpiry x s
  | .portPairShort p => Sys2Proof.Machine.execPortPairShort p s
  | .curveTrip c mA => Sys2Proof.Machine.execCurveTrip c mA s
  | .instantaneousTrip c mA => Sys2Proof.Machine.execInstantaneousTrip c mA s
  | .brkRearm d c => Sys2Proof.Machine.execBrkRearm d c s
  | .powerGoodRise c mv mA => Sys2Proof.Machine.execPowerGoodRise c mv mA s
  | .softStartComplete p => Sys2Proof.Machine.execSoftStartComplete p s
  | .portDischargeComplete p => Sys2Proof.Machine.execPortDischargeComplete p s
  | .dischargeTimeout p => Sys2Proof.Machine.execDischargeTimeout p s
  | .energyCheckpoint => Sys2Proof.Machine.execEnergyCheckpoint s
  | .domainCommandOff d word => Sys2Proof.Machine.execDomainCommandOff d word s
  | .domainCommandRetention d word => Sys2Proof.Machine.execDomainCommandRetention d word s
  | .domainCommandOn d word => Sys2Proof.Machine.execDomainCommandOn d word s
  | .domainCommandCancel d word => Sys2Proof.Machine.execDomainCommandCancel d word s
  | .domainTrigger wakes => Sys2Proof.Machine.execDomainTrigger wakes s
  | .coreRegAck => Sys2Proof.Machine.execCoreRegAck s
  | .coreRegLowerFail => Sys2Proof.Machine.execCoreRegLowerFail s
  | .wakeDownstreamPort p how also => Sys2Proof.Machine.execWakeDownstreamPort p how also s
  | .wakeUpstream u how also => Sys2Proof.Machine.execWakeUpstream u how also s
  | .wakeLink k also => Sys2Proof.Machine.execWakeLink k also s
  | .wakeCanWup also => Sys2Proof.Machine.execWakeCanWup also s
  | .wakeLocAddressMatch addr also => Sys2Proof.Machine.execWakeLocAddressMatch addr also s
  | .wakeTimerExpiry also => Sys2Proof.Machine.execWakeTimerExpiry also s
  | .wakeFeedChange also => Sys2Proof.Machine.execWakeFeedChange also s
  | .wakeTimerWrite d n => Sys2Proof.Machine.execWakeTimerWrite d n s
  | .wakeStepReady d bad => Sys2Proof.Machine.execWakeStepReady d bad s
  | .wakeStepTimeout d reason => Sys2Proof.Machine.execWakeStepTimeout d reason s
  | .wakeStepRetry d => Sys2Proof.Machine.execWakeStepRetry d s
  | .faultReactionComplete => Sys2Proof.Machine.execFaultReactionComplete s
  | .reactionWindowEnd => Sys2Proof.Machine.execReactionWindowEnd s
  | .faultPulseEnd => Sys2Proof.Machine.execFaultPulseEnd s
  | .emcySend => Sys2Proof.Machine.execEmcySend s
  | .faultUnitRelease d source => Sys2Proof.Machine.execFaultUnitRelease d source s
  | .faultSafeRelease d => Sys2Proof.Machine.execFaultSafeRelease d s
  | .faultSoftRaise d detail => Sys2Proof.Machine.execFaultSoftRaise d detail s
  | .faultNControl d v => Sys2Proof.Machine.execFaultNControl d v s
  | .faultLatchClear d seq => Sys2Proof.Machine.execFaultLatchClear d seq s
  | .stewardWatchdogExpiry => Sys2Proof.Machine.execStewardWatchdogExpiry s
  | .canBusOff errors => Sys2Proof.Machine.execCanBusOff errors s
  | .busOffRecovery => Sys2Proof.Machine.execBusOffRecovery s
  | .temperatureConversion power reading => Sys2Proof.Machine.execTemperatureConversion power reading s
  | .supplyMonitorExcursion n => Sys2Proof.Machine.execSupplyMonitorExcursion n s
  | .corePgFall => Sys2Proof.Machine.execCorePgFall s
  | .xoLoss => Sys2Proof.Machine.execXoLoss s
  | .lastGaspProgramDone => Sys2Proof.Machine.execLastGaspProgramDone s
  | .configStoreDone ok => Sys2Proof.Machine.execConfigStoreDone ok s
  | .doorRead d facet tag idx sub staged offset len remote => Sys2Proof.Machine.execDoorRead d facet tag idx sub staged offset len remote s
  | .doorWrite d facet tag w => Sys2Proof.Machine.execDoorWrite d facet tag w s
  | .locBlockWrite b pecOk => Sys2Proof.Machine.execLocBlockWrite b pecOk s
  | .locBlockRead => Sys2Proof.Machine.execLocBlockRead s
  | .door k h origin body remote => Sys2Proof.Machine.execDoor k h origin body remote s
  | .doorForwardTimeout d => Sys2Proof.Machine.execDoorForwardTimeout d s
  | .notificationEp2In u acked => Sys2Proof.Machine.execNotificationEp2In u acked s
  | .sdoUpload idx sub remote => Sys2Proof.Machine.execSdoUpload idx sub remote s
  | .sdoDownload idx sub expedited => Sys2Proof.Machine.execSdoDownload idx sub expedited s
  | .sdoSegment toggle seg => Sys2Proof.Machine.execSdoSegment toggle seg s
  | .sdoSegmentTimeout => Sys2Proof.Machine.execSdoSegmentTimeout s
  | .sdoAbort => Sys2Proof.Machine.execSdoAbort s
  | .nmtStart node => Sys2Proof.Machine.execNmtStart node s
  | .nmtStop node => Sys2Proof.Machine.execNmtStop node s
  | .nmtEnterPreOperational node => Sys2Proof.Machine.execNmtEnterPreOperational node s
  | .nmtResetNode node => Sys2Proof.Machine.execNmtResetNode node s
  | .nmtResetCommunication node => Sys2Proof.Machine.execNmtResetCommunication node s
  | .rpdoReceive r b => Sys2Proof.Machine.execRpdoReceive r b s
  | .tpdoSend t => Sys2Proof.Machine.execTpdoSend t s
  | .heartbeatSend => Sys2Proof.Machine.execHeartbeatSend s
  | .communicationObjectWrite d idx sub data => Sys2Proof.Machine.execCommunicationObjectWrite d idx sub data s
  | .postedWriteApply d => Sys2Proof.Machine.execPostedWriteApply d s
  | .eventFlagClear d idx sub v => Sys2Proof.Machine.execEventFlagClear d idx sub v s
  | .configStagingWrite d w => Sys2Proof.Machine.execConfigStagingWrite d w s
  | .stageOwnershipLapse => Sys2Proof.Machine.execStageOwnershipLapse s
  | .configCommit d => Sys2Proof.Machine.execConfigCommit d s
  | .configDiscard d => Sys2Proof.Machine.execConfigDiscard d s
  | .configReload d => Sys2Proof.Machine.execConfigReload d s
  | .configDefaults d => Sys2Proof.Machine.execConfigDefaults d s
  | .configCrcPass => Sys2Proof.Machine.execConfigCrcPass s
  | .configCrcReferenceWrite d v => Sys2Proof.Machine.execConfigCrcReferenceWrite d v s
  | .registerWrite d w => Sys2Proof.Machine.execRegisterWrite d w s
  | .lensRestart d => Sys2Proof.Machine.execLensRestart d s
  | .lensDiscard d => Sys2Proof.Machine.execLensDiscard d s
  | .lensDataRead d len => Sys2Proof.Machine.execLensDataRead d len s
  | .lensReadPtrWrite d v => Sys2Proof.Machine.execLensReadPtrWrite d v s
  | .lensCounterSnapshot d => Sys2Proof.Machine.execLensCounterSnapshot d s
  | .lensCounterClear d => Sys2Proof.Machine.execLensCounterClear d s
  | .provokeArm d => Sys2Proof.Machine.execProvokeArm d s
  | .provokeDisarm d => Sys2Proof.Machine.execProvokeDisarm d s
  | .provokeRunTimeEnd => Sys2Proof.Machine.execProvokeRunTimeEnd s
  | .injEnLow stays => Sys2Proof.Machine.execInjEnLow stays s
  | .fwErase d => Sys2Proof.Machine.execFwErase d s
  | .fwEraseDone => Sys2Proof.Machine.execFwEraseDone s
  | .fwUpdateData d offset data => Sys2Proof.Machine.execFwUpdateData d offset data s
  | .fwVerify d => Sys2Proof.Machine.execFwVerify d s
  | .fwSelect d => Sys2Proof.Machine.execFwSelect d s
  | .fwCancel d => Sys2Proof.Machine.execFwCancel d s
  | .fwSelectRestart => Sys2Proof.Machine.execFwSelectRestart s
  | .fwGoodStart => Sys2Proof.Machine.execFwGoodStart s
  | .powerDieStart => Sys2Proof.Machine.execPowerDieStart s
  | .powerOn => Sys2Proof.Machine.execPowerOn s
  | .resetNLow => Sys2Proof.Machine.execResetNLow s
  | .resetNRise => Sys2Proof.Machine.execResetNRise s
  | .xoStartTimeout => Sys2Proof.Machine.execXoStartTimeout s
  | .stewardBoot banks sfdp => Sys2Proof.Machine.execStewardBoot banks sfdp s
  | .configLoad aOk bOk => Sys2Proof.Machine.execConfigLoad aOk bOk s
  | .upstreamPullupConnect => Sys2Proof.Machine.execUpstreamPullupConnect s
  | .softDetachEnd im => Sys2Proof.Machine.execSoftDetachEnd im s
  | .structuredVdmAnswer p h cmd ack vdos => Sys2Proof.Machine.execStructuredVdmAnswer p h cmd ack vdos s
  | .acceptReceived p h => Sys2Proof.Machine.execAcceptReceived p h s
  | .softResetResponseTimeout p => Sys2Proof.Machine.execSoftResetResponseTimeout p s
  | .drpToggle p => Sys2Proof.Machine.execDrpToggle p s
  | .errorRecoveryEnd p => Sys2Proof.Machine.execErrorRecoveryEnd p s
  | .xoReturn => Sys2Proof.Machine.execXoReturn s
  | .supplyMonitorReturn n => Sys2Proof.Machine.execSupplyMonitorReturn n s
  | .corePgRise => Sys2Proof.Machine.execCorePgRise s
  | .powerRemoval => Sys2Proof.Machine.execPowerRemoval s
  | .locBusTimeout => Sys2Proof.Machine.execLocBusTimeout s
  | .rpdoEventTimerExpiry r => Sys2Proof.Machine.execRpdoEventTimerExpiry r s

end Sys2Proof.Machine
end

