-- ==== Sys2Proof/Machine/Step.lean ====
section
/-! DEFINITION. One step of the block: the command at the front of the queue, or, with nothing waiting, one edge of its clock. -/

namespace Sys2Proof.Machine

/-- With no command waiting, one edge of the time counter's clock passes (R208): a lease lapse that waited for the cycle's end acts
(R109), and every 10 µs the power die takes a sample of each channel (R296, R303). DESIGN CHOICE (log 4). -/
def State.tick (s : State) : State :=
  s.after fun s =>
    let t := s.clockEdge.lapseWaited
    if t.time.elapsed / 24000 = s.time.elapsed / 24000 then t else t.sampleAll

/-- One step: the command at the front of the queue runs with the rest of the queue waiting; an empty queue lets the clock tick.
(DESIGN CHOICE, log 3, DESIGN CHOICE, log 4) -/
def step (s : State) : Host.Outcome State Fault Refusal :=
  match s.pending with
  | [] => .next s.tick
  | c :: rest => exec c { s with pending := rest }

/-- The state with the command that a word spells at the front of its queue; unchanged where the word spells none (DESIGN CHOICE, log 3). -/
def State.withFetchWord (s : State) (nbits w : Nat) : State :=
  match decodeTableWord nbits w with
  | none => s
  | some c => { s with pending := c :: s.pending }

end Sys2Proof.Machine
end

