-- ==== Sys2Proof/WellFormed.lean ====
section
/-! DEFINITION. Which commands are well formed: every operand lies in the range its field has in the spec, and the rows that write one class
of entries name an entry of that class. The dispatch gives every command a meaning, well formed or not. -/

namespace Sys2Proof

open Sys2Proof.Machine

/-- A logical port number: 1 to 255 (R116). -/
def logicalPort (m : Nat) : Bool := decide (1 ≤ m) && decide (m < 256)

/-- A host's Rp level: Default, 1.5 A or 3.0 A (R279). -/
def rpLevel (n : Nat) : Bool := decide (1 ≤ n) && decide (n ≤ 3)

/-- The domain of a wake step, or 255 for the shared steps (R326). -/
def wakeStep (d : Nat) : Bool := (decide (1 ≤ d) && decide (d < 8)) || d == 255

/-- The longest payload: a frame's (R82), which a door's data (R364) does not reach. -/
def payload (b : List Byte) : Bool := decide (b.length ≤ 1088)

/-- 32-bit words. -/
def words (l : List Nat) : Bool := l.all fun x => decide (x < 2 ^ 32)

def RegWrite.wf (w : RegWrite) : Bool :=
  decide (w.index < 65536) && decide (w.sub < 256) && decide (w.offset < 2 ^ 32) && decide (w.data.length ≤ 1024)

/-- R107. -/
def PrismTag.wf (p : PrismTag) : Bool :=
  decide (p.epoch < 2 ^ 32) && decide (p.prism < 2 ^ 64) && decide (p.origin < 2)

/-- R82. -/
def FrameHdr.wf (h : FrameHdr) : Bool :=
  decide (h.src < 16) && decide (h.dst < 16) && decide (h.image < 4) && decide (h.linkSeq < 256) && decide (h.ackSeq < 256) &&
    decide (h.hopsLeft < 16) && decide (h.length < 4096) && decide (h.tag < 65536) && decide (h.epoch < 2 ^ 32)

/-- R254, R281. -/
def PdHdr.wf (h : PdHdr) : Bool := decide (h.rev < 4) && decide (h.id < 8) && decide (h.rp < 4) && decide (h.svdm < 4)

/-- R252. -/
def CableAnswer.wf (a : CableAnswer) : Bool := decide (a.id < 8)

/-- R78. -/
def Ts2.wf (g : Ts2) : Bool :=
  decide (g.uid < 2 ^ 64) && decide (g.prismId < 2 ^ 64) && decide (g.epoch < 2 ^ 32) && decide (g.link < 4) &&
    decide (g.memberState < 16) &&
    decide (g.version < 256) && decide (g.rate < 256) && decide (g.origin < 2)

/-- R49. -/
def Token.wf (t : Token) : Bool := decide (t.addr < 128) && decide (t.ep < 16) && payload t.data && decide (t.port < 256)

def DevAnswer.wf : DevAnswer → Bool
  | .data b _ => payload b
  | _ => true

/-- R57, R125. -/
def Split.wf (x : Split) : Bool :=
  logicalPort x.port && decide (x.addr < 128) && decide (x.ep < 16) && decide (x.micro < 16384) && payload x.data &&
    (x.external.all fun e => decide (e.1 < 128) && e.2.all DevAnswer.wf)

def CtlTarget.wf : CtlTarget → Bool
  | .fn _ => true
  | .dev _ addr m => decide (addr < 128) && decide (m < 256)

def LockReq.wf (q : LockReq) : Bool := decide (q.facet < 16) && decide (q.tag < 65536)

def LockBody.wf : LockBody → Bool
  | .grant q expiry => q.wf && decide (expiry < 2 ^ 64)
  | .renew expiry => decide (expiry < 2 ^ 64)
  | _ => true

def LinkInfo.wf (l : LinkInfo) : Bool :=
  decide (l.partner < 2 ^ 64) && decide (l.partnerLink < 256) && decide (l.state < 8) && decide (l.latency < 2 ^ 32)

/-- R97. -/
def LsfBody.wf (b : LsfBody) : Bool :=
  decide (b.uid < 2 ^ 64) && decide (b.seq < 65536) && decide (b.links.length ≤ 4) && b.links.all LinkInfo.wf

def SyncBody.wf : SyncBody → Bool
  | .frame _ f u t => decide (f < 2048) && decide (u < 8) && decide (t < 2 ^ 64)
  | .xlate _ a w q => decide (a < 128) && decide (w < 2 ^ 32) && decide (q < 2 ^ 32)
  | .wakeK _ m => logicalPort m
  | .record _ m b => logicalPort m && payload b
  | .arm _ _ => true
  | .holdEntry _ c t l n => decide (c < 8) && decide (t < 2 ^ 64) && decide (l < 2 ^ 32) && decide (n < 16384)
  | .holdState _ x => decide (x < 16)
  | .held _ m _ => logicalPort m
  | .holdInfo _ l => words l
  | .upstream _ _ _ => true
  | .recordFetch a => decide (a < 16)
  | .anchor b => payload b

/-- R124. -/
def RelayHdr.wf (r : RelayHdr) : Bool :=
  decide (r.kind < 256) && decide (r.localPort < 256) && decide (r.devAddr < 128) && decide (r.epType < 4) && decide (r.ep < 16) &&
    decide (r.maxPacket < 2048) && decide (r.count < 256) && decide (r.result < 256) && decide (r.seq < 65536) &&
    decide (r.length < 2048) &&
    decide (r.stamp < 2 ^ 32)

/-- R123. -/
def PortStatusBody.wf (b : PortStatusBody) : Bool :=
  decide (b.status < 65536) && decide (b.change < 65536) && decide (b.state < 256) && decide (b.speed < 256)

def PortReq.wf : PortReq → Bool
  | .reset limit => decide (limit < 256)
  | .test sel => decide (sel < 256)
  | .clearChange bit => decide (bit < 32)
  | .ttClear addr ep => decide (addr < 128) && decide (ep < 16)
  | _ => true

/-- R217. -/
def EchoBody.wf (b : EchoBody) : Bool :=
  decide (b.seq < 2 ^ 32) && decide (b.txPrev < 2 ^ 48) && decide (b.rxLast < 2 ^ 48) && decide (b.rxSeq < 2 ^ 32) &&
    decide (b.focalId < 2 ^ 64) && decide (b.focalPriority < 256) && decide (b.steps < 256)

/-- R266. -/
def RegPoll.wf (r : RegPoll) : Bool := decide (r.mv < 2 ^ 32) && decide (r.ma < 2 ^ 32)

/-- R293: readings of R302. -/
def CollWatch.wf (w : CollWatch) : Bool := decide (w.first < 2 ^ 32) && decide (w.last < 2 ^ 32) && decide (w.most < 2 ^ 32)

def PdOther.wf : PdOther → Bool
  | .vdmUnknown cmd svid => decide (cmd < 32) && decide (svid < 65536)
  | _ => true

def DoorBody.wf (b : DoorBody) : Bool := payload b.bytes

def StageSrc.wf : StageSrc → Bool
  | .door _ => true
  | .frame _ h => h.wf

def SramHit.wf : SramHit → Bool
  | .stream _ off => decide (off < 2 ^ 36)
  | .cell _ a e _ => decide (a < 128) && decide (e < 16)
  | .table _ a => decide (a < 128)
  | .split _ a e _ => decide (a < 128) && decide (e < 16)
  | .staged i n => decide (i < 65536) && decide (n < 256)
  | .record _ m => logicalPort m
  | _ => true

/-- R322. -/
def WakeSeen.wf (w : WakeSeen) : Bool := decide (w.source < 8) && decide (w.detail < 256)

/-- A communication object (R372). -/
def commObject (idx : Nat) : Bool := decide (0x1000 ≤ idx) && decide (idx < 0x2000)

/-- An entry with the given access. -/
def hasAccess (a : Access) (idx sub : Nat) : Bool := (entryAt idx sub).any fun e => e.access == a

/-- An entry of this facet's own blocks, outside the prism-wide ones (R104, R377). -/
def localEntry (w : RegWrite) : Bool := decide (0x2000 ≤ w.index) && !prismIndex w.index

/-- Well-formed commands (DESIGN CHOICE, log 3). -/
def Instr.wf : Instr → Bool
  | .pllUnlock => true
  | .pllRelock => true
  | .hsEngineContextGrant => true
  | .upstreamReset _ _ _ => true
  | .getStatus _ _ ep => decide (ep < 256)
  | .setFeatureDeviceRemoteWakeup _ => true
  | .clearFeatureDeviceRemoteWakeup _ => true
  | .setFeatureEndpointHalt t ep => t.wf && decide (ep < 256)
  | .clearFeatureEndpointHalt t ep => t.wf && decide (ep < 256)
  | .setFeatureTestMode _ sel => decide (sel < 256)
  | .setAddress t addr _ => t.wf && decide (addr < 128)
  | .getDescriptor t kind index answer => t.wf && decide (kind < 256) && decide (index < 256) && payload answer
  | .getConfiguration _ => true
  | .setConfiguration t value _ => t.wf && decide (value < 256)
  | .getInterface _ => true
  | .setInterface t iface alt => t.wf && decide (iface < 256) && decide (alt < 256)
  | .getHubStatus _ => true
  | .clearHubFeature _ feature => decide (feature < 65536)
  | .getPortStatus _ m => logicalPort m
  | .setPortFeaturePortPower _ m => logicalPort m
  | .setPortFeaturePortReset _ m => logicalPort m
  | .setPortFeaturePortSuspend _ m => logicalPort m
  | .setPortFeaturePortTest _ m sel => logicalPort m && decide (sel < 256)
  | .clearPortFeaturePortEnable _ m => logicalPort m
  | .clearPortFeaturePortPower _ m => logicalPort m
  | .clearPortFeaturePortSuspend _ m => logicalPort m
  | .clearPortFeatureCPort _ m bit => logicalPort m && decide (bit < 32)
  | .clearTtBuffer _ m addr ep => logicalPort m && decide (addr < 128) && decide (ep < 16)
  | .resetTt _ m => logicalPort m
  | .stopTt _ m => logicalPort m
  | .stalledRequest _ => true
  | .deviceConnect _ _ => true
  | .deviceDisconnect _ => true
  | .portResetComplete _ _ => true
  | .deviceBabble _ => true
  | .portResumeComplete _ => true
  | .deviceRemoteWake _ => true
  | .hostResume _ => true
  | .hostSof _ frame micro => decide (frame < 2048) && decide (micro < 8)
  | .microframeWithoutSof _ => true
  | .upstreamIdleSuspend _ => true
  | .ttFrameSof _ => true
  | .hostToken _ t a _ => t.wf && a.wf
  | .hostStartSplit _ x => x.wf
  | .hostCompleteSplit _ x => x.wf
  | .ttFsTransactionDone _ answer => answer.wf
  | .hsEngineResponseTimeout _ => true
  | .hsEngineTransactionEnd _ answer => answer.wf
  | .wyhelenEntryStart _ => true
  | .discoverIdentitySop _ h => h.wf
  | .discoverSvids _ h => h.wf
  | .discoverModes _ h svid => h.wf && decide (svid < 65536)
  | .enterMode _ h svid position => h.wf && decide (svid < 65536) && decide (position < 8)
  | .enterModeAck _ => true
  | .exitMode _ h => h.wf
  | .attention _ h => h.wf
  | .linkTrainingStart _ => true
  | .linkUp _ g laneMap => g.wf && decide (laneMap < 8)
  | .linkTrainTimeout _ => true
  | .linkTrainRetry _ => true
  | .linkErrorThreshold _ => true
  | .ts1Received _ => true
  | .retrainTimeout _ => true
  | .linkSignalLoss _ => true
  | .linkFrame _ h nak credits => h.wf && (nak.all fun x => decide (x < 256)) && words credits
  | .replayTimeout _ => true
  | .linkAckDue _ => true
  | .skpDue _ => true
  | .lsf _ h b => h.wf && b.wf
  | .lsfPeriodic => true
  | .syncFrame _ h b => h.wf && b.wf
  | .formationSettle => true
  | .syncingComplete epoch values => decide (epoch < 2 ^ 32) && values.all RegWrite.wf
  | .facetWithdraw _ => true
  | .withdrawForwardEnd => true
  | .facetReturn _ => true
  | .withdraw _ h => h.wf
  | .prismLockRequest _ tag => decide (tag < 65536)
  | .prismLockRelease _ => true
  | .lockRequestAtKeeper requests => requests.all LockReq.wf
  | .lockGrant _ h b => h.wf && b.wf
  | .lockBackoffExpiry => true
  | .lockRenew => true
  | .leaseLapse => true
  | .lockIdleLimit => true
  | .prismStagingWrite src w => src.wf && w.wf && prismIndex w.index
  | .prismCommit _ => true
  | .prismCommitDiscard _ => true
  | .prepare _ h digest prism => h.wf && decide (digest < 2 ^ 32) && prism.wf
  | .ready _ h => h.wf
  | .refuse _ h reason detail => h.wf && decide (reason < 256) && decide (detail < 2 ^ 32)
  | .commitAnswerTimeout => true
  | .abort _ h => h.wf
  | .apply _ h time => h.wf && decide (time < 2 ^ 64)
  | .prismApplyTime => true
  | .prismStoreDone _ => true
  | .imageDefaultMap _ _ => true
  | .portStatus _ h r b => h.wf && r.wf && b.wf
  | .portReq _ h r q => h.wf && r.wf && q.wf
  | .hostHsInRelayed _ addr ep _ => decide (addr < 128) && decide (ep < 16)
  | .hostHsOutRelayed _ addr ep _ data => decide (addr < 128) && decide (ep < 16) && payload data
  | .hostPingRelayed _ addr ep => decide (addr < 128) && decide (ep < 16)
  | .hostSetupRelayed _ addr ep data => decide (addr < 128) && decide (ep < 16) && payload data
  | .xactReq _ h r data => h.wf && r.wf && payload data
  | .xactRsp _ h r data => h.wf && r.wf && payload data
  | .cancel _ h r data => h.wf && r.wf && payload data
  | .splitStart _ h r data => h.wf && r.wf && payload data
  | .splitResult _ h r data => h.wf && r.wf && payload data
  | .relayTimeout _ addr ep _ => decide (addr < 128) && decide (ep < 16)
  | .holdoverArm _ _ _ => true
  | .holdoverSuspendIntent _ _ _ => true
  | .suspendIntentWindowEnd _ => true
  | .upstreamVbusLoss _ => true
  | .upstreamDetach _ => true
  | .sofLossDeclaration _ => true
  | .holdoverCommandEnter _ _ => true
  | .holdoverCommandAdopt _ _ => true
  | .holdoverCommandAbandon _ _ => true
  | .holdoverCommandWake _ _ => true
  | .holdoverSofBoundary _ => true
  | .holdoverTableSwap _ => true
  | .tableSwitchBoundary _ => true
  | .slotOccurrence _ => true
  | .entryAction _ => true
  | .entryActionTimeout _ => true
  | .adoptAutoDelayExpiry _ => true
  | .adoptMirrorAttach _ => true
  | .absorbedResetComplete _ m => logicalPort m
  | .adoptDeviceTimeout _ m => logicalPort m
  | .imageStep _ => true
  | .adoptImageTimeout _ => true
  | .dramTrainingDone size _ => decide (size < 2 ^ 32)
  | .tailPartialSpill _ => true
  | .sessionOpen _ => true
  | .sessionClose _ => true
  | .hostEp1In _ _ remote => payload remote
  | .sessionDataRead _ len remote => decide (len < 2 ^ 32) && payload remote
  | .streamMark _ _ => true
  | .streamRewind _ _ => true
  | .streamRelease _ _ => true
  | .streamFlush _ _ => true
  | .dramCorrectedError addr => decide (addr < 2 ^ 36)
  | .dramUncorrectableError addr => decide (addr < 2 ^ 36)
  | .sramCorrectedError _ => true
  | .sramUncorrectableError _ hit => hit.wf
  | .scrubBurst addr _ => decide (addr < 2 ^ 36)
  | .scrubPassComplete => true
  | .arbDecision asks cycles => decide (asks < 0x800) && decide (cycles < 65536)
  | .arbBackoffEnd _ => true
  | .arbWaitLimit _ => true
  | .arbStarve _ => true
  | .arbFreeze _ => true
  | .arbResume _ => true
  | .arbDrained => true
  | .timeWrap => true
  | .timeNowRead _ => true
  | .timeExtendedRead _ => true
  | .echoSend => true
  | .echoReceive _ b rx => b.wf && decide (rx < 2 ^ 48)
  | .echoMiss _ => true
  | .focalAnnounceLapse _ => true
  | .servoReferenceLost => true
  | .storedFreqSave => true
  | .ppsInEdge => true
  | .ppsInMiss => true
  | .ppsOutEdge => true
  | .ppsOutWidthEnd => true
  | .ppsOutNextWrite _ v => decide (v < 2 ^ 32)
  | .timeCivilAnchorWrite _ offset data => decide (offset < 2 ^ 32) && payload data
  | .canTimeSend late => decide (late < 2 ^ 32)
  | .canTimeReceive ms days => decide (ms < 2 ^ 28) && decide (days < 65536)
  | .canSyncSend => true
  | .canSyncReceive => true
  | .canSyncPhaseWrite _ v => decide (v < 2 ^ 32)
  | .launchSubmit _ data => payload data
  | .launchCancel _ tag => decide (tag < 65536)
  | .launchStart tag => decide (tag < 65536)
  | .launchEnd tag answer => decide (tag < 65536) && answer.wf
  | .launchWindowEnd tag => decide (tag < 65536)
  | .ccSourceAttach _ _ _ => true
  | .attachMoistureResult _ z => words z
  | .ccSinkAttach _ _ rp => rpLevel rp
  | .sourceDetach _ => true
  | .sinkDetach _ => true
  | .rpLowerAllocation _ => true
  | .moistureCheck _ => true
  | .moistureResult _ z => words z
  | .corrosionTimeout _ => true
  | .vconnOverload _ => true
  | .sourceCapabilitiesSend _ => true
  | .cableDiscoveryAttempt _ => true
  | .cableIdentity _ a vdo => a.wf && decide (vdo < 2 ^ 32)
  | .request _ h rdo => h.wf && decide (rdo < 2 ^ 32)
  | .getSourceCap _ h => h.wf
  | .getSinkCap _ h => h.wf
  | .sinkCapabilities _ h objects => h.wf && words objects
  | .drSwap _ h => h.wf
  | .prSwap _ h => h.wf
  | .vconnSwap _ h => h.wf
  | .frSwap _ h => h.wf
  | .pdSoftReset _ h => h.wf
  | .pdGetStatus _ h => h.wf
  | .getPpsStatus _ h => h.wf
  | .getRevision _ h => h.wf
  | .getSourceInfo _ h => h.wf
  | .pdUnsupportedMessage _ h kind => h.wf && kind.wf
  | .bistCarrierMode _ h => h.wf
  | .bistTestData _ h => h.wf
  | .pdPartnerNotice _ h _ => h.wf
  | .sourceCapabilitiesReceived _ h objects => h.wf && words objects
  | .psRdyReceived _ h => h.wf
  | .hardReset _ => true
  | .cableReset _ => true
  | .pdRxError _ => true
  | .goodcrcTimeout _ => true
  | .senderResponseTimeout _ => true
  | .shedDelayExpiry => true
  | .budgetRestore => true
  | .transitionStart _ _ => true
  | .regulatorPoll _ r => r.wf
  | .regulatorTimeout _ => true
  | .vbusOutOfWindow _ => true
  | .errorRecoveryRetry _ => true
  | .ppsTimeout _ => true
  | .prSwapVbusOff _ => true
  | .prSwapVsafe0v _ => true
  | .prSwapSourceTimeout _ => true
  | .prSwapDetectResume _ _ => true
  | .vconnSwapTimeout _ => true
  | .hardResetVbusOff _ => true
  | .hardResetRecover _ _ => true
  | .sinkTxWindowEnd _ => true
  | .upstreamAttach _ rp => rpLevel rp
  | .vaonLow => true
  | .vaonRestored => true
  | .feedEnFall _ => true
  | .feedEnRise _ => true
  | .feedUndervoltage _ mv => decide (mv < 2 ^ 32)
  | .feedOvervoltage _ mv => decide (mv < 2 ^ 32)
  | .feedWindowEntry _ mv => decide (mv < 2 ^ 32)
  | .insertionDelayExpiry _ w => w.wf
  | .diodeGateReady _ => true
  | .prechargeComplete _ => true
  | .prechargeTimeout _ => true
  | .rampComplete _ => true
  | .rampTimeout _ mA => decide (mA < 2 ^ 32)
  | .gateFailure _ => true
  | .fastReverseTurnOff _ => true
  | .reverseHoldExpiry _ => true
  | .portPairShort _ => true
  | .curveTrip _ mA => decide (mA < 2 ^ 32)
  | .instantaneousTrip _ mA => decide (mA < 2 ^ 32)
  | .brkRearm _ _ => true
  | .powerGoodRise _ mv mA => decide (mv < 2 ^ 32) && decide (mA < 2 ^ 32)
  | .softStartComplete _ => true
  | .portDischargeComplete _ => true
  | .dischargeTimeout _ => true
  | .energyCheckpoint => true
  | .domainCommandOff _ word => decide (word < 2 ^ 32)
  | .domainCommandRetention _ word => decide (word < 2 ^ 32)
  | .domainCommandOn _ word => decide (word < 2 ^ 32)
  | .domainCommandCancel _ word => decide (word < 2 ^ 32)
  | .domainTrigger wakes => wakes.all WakeSeen.wf
  | .coreRegAck => true
  | .coreRegLowerFail => true
  | .wakeDownstreamPort _ _ also => also.all WakeSeen.wf
  | .wakeUpstream _ _ also => also.all WakeSeen.wf
  | .wakeLink _ also => also.all WakeSeen.wf
  | .wakeCanWup also => also.all WakeSeen.wf
  | .wakeLocAddressMatch addr also => decide (addr < 128) && also.all WakeSeen.wf
  | .wakeTimerExpiry also => also.all WakeSeen.wf
  | .wakeFeedChange also => also.all WakeSeen.wf
  | .wakeTimerWrite _ n => decide (n < 2 ^ 32)
  | .wakeStepReady d bad => wakeStep d && decide (bad < 2 ^ 22)
  | .wakeStepTimeout d reason => wakeStep d && decide (reason < 256)
  | .wakeStepRetry d => wakeStep d
  | .faultReactionComplete => true
  | .reactionWindowEnd => true
  | .faultPulseEnd => true
  | .emcySend => true
  | .faultUnitRelease _ source => decide (source < 256)
  | .faultSafeRelease _ => true
  | .faultSoftRaise _ detail => decide (detail < 2 ^ 32)
  | .faultNControl _ v => decide (v < 256)
  | .faultLatchClear _ seq => decide (seq < 256)
  | .stewardWatchdogExpiry => true
  | .canBusOff errors => decide (errors < 65536)
  | .busOffRecovery => true
  | .temperatureConversion _ _ => true
  | .supplyMonitorExcursion _ => true
  | .corePgFall => true
  | .xoLoss => true
  | .lastGaspProgramDone => true
  | .configStoreDone _ => true
  | .doorRead _ facet tag idx sub _ offset len remote =>
    decide (facet < 256) && decide (tag < 65536) && decide (idx < 65536) && decide (sub < 256) && decide (offset < 2 ^ 32) &&
      decide (len < 2 ^ 32) && payload remote
  | .doorWrite _ facet tag w => decide (facet < 256) && decide (tag < 65536) && w.wf
  | .locBlockWrite b _ => payload b
  | .locBlockRead => true
  | .door _ h _ body remote => h.wf && body.wf && payload remote
  | .doorForwardTimeout _ => true
  | .notificationEp2In _ _ => true
  | .sdoUpload idx sub remote => decide (idx < 65536) && decide (sub < 256) && payload remote
  | .sdoDownload idx sub expedited => decide (idx < 65536) && decide (sub < 256) && expedited.all payload
  | .sdoSegment _ seg => (seg.all fun x => payload x.1)
  | .sdoSegmentTimeout => true
  | .sdoAbort => true
  | .nmtStart node => decide (node < 128)
  | .nmtStop node => decide (node < 128)
  | .nmtEnterPreOperational node => decide (node < 128)
  | .nmtResetNode node => decide (node < 128)
  | .nmtResetCommunication node => decide (node < 128)
  | .rpdoReceive _ b => payload b
  | .tpdoSend _ => true
  | .heartbeatSend => true
  | .communicationObjectWrite _ idx sub data => decide (idx < 65536) && decide (sub < 256) && payload data && commObject idx
  | .postedWriteApply d => decide (d < 8)
  | .eventFlagClear _ idx sub v => decide (idx < 65536) && decide (sub < 256) && decide (v < 2 ^ 32) && hasAccess .rs idx sub
  | .configStagingWrite _ w => w.wf && (localEntry w && hasAccess .rwc w.index w.sub)
  | .stageOwnershipLapse => true
  | .configCommit _ => true
  | .configDiscard _ => true
  | .configReload _ => true
  | .configDefaults _ => true
  | .configCrcPass => true
  | .configCrcReferenceWrite _ v => decide (v < 2 ^ 32)
  | .registerWrite _ w => w.wf && (localEntry w && !hasAccess .rwc w.index w.sub && !hasAccess .rs w.index w.sub)
  | .lensRestart _ => true
  | .lensDiscard _ => true
  | .lensDataRead _ len => decide (len < 2 ^ 32)
  | .lensReadPtrWrite _ v => decide (v < 2 ^ 32)
  | .lensCounterSnapshot _ => true
  | .lensCounterClear _ => true
  | .provokeArm _ => true
  | .provokeDisarm _ => true
  | .provokeRunTimeEnd => true
  | .injEnLow _ => true
  | .fwErase _ => true
  | .fwEraseDone => true
  | .fwUpdateData _ offset data => decide (offset < 2 ^ 32) && payload data
  | .fwVerify _ => true
  | .fwSelect _ => true
  | .fwCancel _ => true
  | .fwSelectRestart => true
  | .fwGoodStart => true
  | .powerDieStart => true
  | .powerOn => true
  | .resetNLow => true
  | .resetNRise => true
  | .xoStartTimeout => true
  | .stewardBoot _ sfdp => sfdp.all fun x => decide (x.1 < 2 ^ 24) && decide (x.2 < 2 ^ 32)
  | .configLoad _ _ => true
  | .upstreamPullupConnect => true
  | .softDetachEnd _ => true
  | .structuredVdmAnswer _ h _ _ vdos => h.wf && words vdos
  | .acceptReceived _ h => h.wf
  | .softResetResponseTimeout _ => true
  | .drpToggle _ => true
  | .errorRecoveryEnd _ => true
  | .xoReturn => true
  | .supplyMonitorReturn _ => true
  | .corePgRise => true
  | .powerRemoval => true
  | .locBusTimeout => true
  | .rpdoEventTimerExpiry _ => true

end Sys2Proof
end

