-- ==== Sys2Proof/Safety.lean ====
section
/-! DEFINITION. What claims are stated in: commands run one after another, a step after which nothing follows, the variants of the
family, and what stands between two commands. -/

namespace Sys2Proof.Machine

/-- Nothing waits to be told or ended: the facet stands alone, no image has hold-over news, no launch, far owner, waiting command or S4
reaction asks for anything, the state of the relay cells (R135) is what their number makes it, every channel that shows power-good meets its
conditions (R300), and the time of the manager's shedding runs just while A is above B (R263). -/
abbrev State.Quiet (s : State) : Prop :=
  s.alone = true ∧ (∀ i : Image, (s.hold i).tell = false ∧ (s.hold i).tellPorts = []) ∧
    s.time.launches = [] ∧ s.cfg.owner.bind Prod.snd = none ∧ s.doors.forwarded = [] ∧
    (s.faults.running.any fun r => r.level == 4) = false ∧ s.poolLow = decide (s.cellsFree < 16) ∧
    (s.pwr = true → ∀ c : Channel, s.good c = true → s.sound c = true) ∧
    s.path.overFrom.isSome = decide (s.budget < s.allocated)

/-- Nothing follows from a command that has made `made` of `before`: no fault source is left to act on, nothing waits to be told or ended,
and no reported hold-over entry, no supply and no driven pin changed. -/
abbrev State.Calm (before made : State) : Prop :=
  made.due = [] ∧ made.Quiet ∧
    (∀ i : Image, made.get (.hold4 i .holdoverState) = before.get (.hold4 i .holdoverState) ∧
      made.get (.hold4 i .adoptResult) = before.get (.hold4 i .adoptResult) ∧
      made.get (.hold4 i .holdoverHeldPorts) = before.get (.hold4 i .holdoverHeldPorts)) ∧
    made.get (.pd .pdBudgetFeedLimit) = made.feedLimit ∧ made.get (.pd .pdBudgetBoard) = before.get (.pd .pdBudgetBoard) ∧
    made.feedsOn = before.feedsOn ∧
    ∀ p : Pin, p = .canStby ∨ p = .ddrResetN ∨ p = .ddrCke ∨ p = .pgColl → made.level p = before.level p

/-- A write of whole data to one entry. -/
def entryWrite (idx sub : Nat) (data : List Byte) : RegWrite := { index := idx, sub := sub, offset := 0, data := data }

/-- A door can be reached and takes a write: the checks of R363 find nothing against it. -/
abbrev State.Takes (s : State) (d : Door) (w : RegWrite) : Prop := s.doorReach d = true ∧ s.writeChecks (callerAt d) w = 0

/-- A door's command answered: counted by its outcome, and its verdict given (R363). -/
def State.verdict (s : State) (d : Door) (r : Nat) : State := (s.answered d r).emit (.verdict d r [])

/-- A partner's message on a port is delivered: whatever serves it serves it in the state `t` (R254, R273 to R275, R281). -/
def State.Serves (s : State) (p : Port) (h : PdHdr) (typ : Nat) (objs : List Nat) (ext fits : Bool) (t : State) : Prop :=
  ∀ f : State → State, s.pdIn p h typ objs ext fits f = f t

/-- A list of commands run one after another on a state, as long as each has a next state. -/
def runAll : List Instr → State → Host.Outcome State Fault Refusal
  | [], s => .next s
  | c :: rest, s =>
    match exec c { s with pending := rest } with
    | .next t => runAll rest t
    | o => o

/-- Steps of the block. -/
def steps : Nat → State → Host.Outcome State Fault Refusal
  | 0, s => .next s
  | n + 1, s =>
    match step s with
    | .next t => steps n t
    | o => o

/-- The twelve variants (R1): 16 and 12 ports with each choice of Wyhelen and DRAM, 8 and 4 ports without DRAM. -/
abbrev IsVariant (v : Ident) : Prop :=
  v.ports = 16 ∨ v.ports = 12 ∨ ((v.ports = 8 ∨ v.ports = 4) ∧ v.dram = false)

/-- What holds between two commands: nothing is left to act on, the identity is that of a variant, and every command that waits is
well-formed (DEDUCED, log 9). -/
def State.Between (s : State) : Prop := s.due = [] ∧ IsVariant s.ident ∧ ∀ c ∈ s.pending, c.wf = true

/-! ### Rows of one kind -/

/-- The commands that happen in logic that runs on the PLL's clocks (R16, R17): hub core, relay, hold-over, ring, doors, steward. -/
def coreRow : Instr → Bool
  | .hsEngineContextGrant .. | .upstreamReset .. | .getStatus .. | .setFeatureDeviceRemoteWakeup ..
  | .clearFeatureDeviceRemoteWakeup .. | .setFeatureEndpointHalt .. | .clearFeatureEndpointHalt .. | .setFeatureTestMode ..
  | .setAddress .. | .getDescriptor .. | .getConfiguration .. | .setConfiguration .. | .getInterface .. | .setInterface ..
  | .getHubStatus .. | .clearHubFeature .. | .getPortStatus .. | .setPortFeaturePortPower .. | .setPortFeaturePortReset ..
  | .setPortFeaturePortSuspend .. | .setPortFeaturePortTest .. | .clearPortFeaturePortEnable .. | .clearPortFeaturePortPower ..
  | .clearPortFeaturePortSuspend .. | .clearPortFeatureCPort .. | .clearTtBuffer .. | .resetTt .. | .stopTt ..
  | .stalledRequest .. | .deviceConnect .. | .deviceDisconnect .. | .portResetComplete .. | .deviceBabble ..
  | .portResumeComplete .. | .deviceRemoteWake .. | .hostResume .. | .hostSof .. | .microframeWithoutSof ..
  | .upstreamIdleSuspend .. | .ttFrameSof .. | .hostToken .. | .hostStartSplit .. | .hostCompleteSplit ..
  | .ttFsTransactionDone .. | .hsEngineResponseTimeout .. | .hsEngineTransactionEnd .. | .linkTrainingStart .. | .linkUp ..
  | .linkTrainTimeout .. | .linkTrainRetry .. | .linkErrorThreshold .. | .ts1Received .. | .retrainTimeout ..
  | .linkSignalLoss .. | .linkFrame .. | .replayTimeout .. | .linkAckDue .. | .skpDue .. | .lsf .. | .lsfPeriodic ..
  | .syncFrame .. | .formationSettle .. | .syncingComplete .. | .withdrawForwardEnd .. | .withdraw .. | .lockRequestAtKeeper ..
  | .lockGrant .. | .lockBackoffExpiry .. | .lockRenew .. | .leaseLapse .. | .lockIdleLimit .. | .prepare .. | .ready ..
  | .refuse .. | .commitAnswerTimeout .. | .abort .. | .apply .. | .prismApplyTime .. | .prismStoreDone .. | .portStatus ..
  | .portReq .. | .hostHsInRelayed .. | .hostHsOutRelayed .. | .hostPingRelayed .. | .hostSetupRelayed .. | .xactReq ..
  | .xactRsp .. | .cancel .. | .splitStart .. | .splitResult .. | .relayTimeout .. | .suspendIntentWindowEnd ..
  | .upstreamVbusLoss .. | .upstreamDetach .. | .sofLossDeclaration .. | .holdoverSofBoundary .. | .tableSwitchBoundary ..
  | .slotOccurrence .. | .entryAction .. | .entryActionTimeout .. | .adoptAutoDelayExpiry .. | .adoptMirrorAttach ..
  | .absorbedResetComplete .. | .adoptDeviceTimeout .. | .imageStep .. | .adoptImageTimeout .. | .dramTrainingDone ..
  | .tailPartialSpill .. | .hostEp1In .. | .dramCorrectedError .. | .dramUncorrectableError .. | .sramCorrectedError ..
  | .sramUncorrectableError .. | .scrubBurst .. | .scrubPassComplete .. | .arbDecision .. | .arbBackoffEnd ..
  | .arbWaitLimit .. | .arbStarve .. | .arbDrained .. | .echoSend .. | .echoReceive .. | .echoMiss .. | .focalAnnounceLapse ..
  | .servoReferenceLost .. | .storedFreqSave .. | .canTimeSend .. | .canTimeReceive .. | .canSyncSend .. | .canSyncReceive ..
  | .launchStart .. | .launchEnd .. | .launchWindowEnd .. | .configStoreDone .. | .doorRead .. | .doorWrite ..
  | .locBlockWrite .. | .locBlockRead .. | .door .. | .doorForwardTimeout .. | .notificationEp2In .. | .sdoUpload ..
  | .sdoDownload .. | .sdoSegment .. | .sdoSegmentTimeout .. | .sdoAbort .. | .nmtStart .. | .nmtStop ..
  | .nmtEnterPreOperational .. | .nmtResetNode .. | .nmtResetCommunication .. | .rpdoReceive .. | .tpdoSend ..
  | .heartbeatSend .. | .stageOwnershipLapse .. | .configCrcPass .. | .provokeRunTimeEnd .. | .injEnLow .. | .fwEraseDone ..
  | .fwSelectRestart .. | .fwGoodStart .. | .softDetachEnd .. | .rpdoEventTimerExpiry .. | .stewardBoot .. | .configLoad ..
  | .upstreamPullupConnect .. | .emcySend .. | .canBusOff .. | .busOffRecovery .. => true
  | _ => false

/-- The write that a command of a door's software stands for (R363). -/
def asWrite : Instr → Option (Door × RegWrite)
  | .facetWithdraw d => some (d, entryWrite 0x3000 0x0C [1])
  | .facetReturn d => some (d, entryWrite 0x3000 0x0C [2])
  | .prismLockRequest d tag => some (d, entryWrite 0x2400 1 (bytesBe 2 tag))
  | .prismLockRelease d => some (d, entryWrite 0x2400 1 (bytesBe 2 0))
  | .prismCommit d => some (d, entryWrite 0x2400 7 [1])
  | .prismCommitDiscard d => some (d, entryWrite 0x2400 7 [2])
  | .imageDefaultMap d i => some (d, entryWrite (0x2410 + i.val) 7 [1])
  | .holdoverArm d i v => some (d, entryWrite (0x2810 + i.val) 1 [byteOf (boolNat v)])
  | .holdoverSuspendIntent d i v => some (d, entryWrite (0x2810 + i.val) 2 [byteOf (boolNat v)])
  | .holdoverCommandEnter d i => some (d, entryWrite (0x2810 + i.val) 3 [1])
  | .holdoverCommandAdopt d i => some (d, entryWrite (0x2810 + i.val) 3 [2])
  | .holdoverCommandAbandon d i => some (d, entryWrite (0x2810 + i.val) 3 [3])
  | .holdoverCommandWake d i => some (d, entryWrite (0x2810 + i.val) 3 [4])
  | .holdoverTableSwap d => some (d, entryWrite 0x2800 4 [1])
  | .sessionOpen d => some (d, entryWrite (0x2C08 + d.num) 3 [1])
  | .sessionClose d => some (d, entryWrite (0x2C08 + d.num) 3 [0])
  | .streamMark d n => some (d, entryWrite (0x2D00 + n.val) 0x10 [1])
  | .streamRewind d n => some (d, entryWrite (0x2D00 + n.val) 0x10 [2])
  | .streamRelease d n => some (d, entryWrite (0x2D00 + n.val) 0x10 [3])
  | .streamFlush d n => some (d, entryWrite (0x2D00 + n.val) 0x10 [4])
  | .arbFreeze d => some (d, entryWrite 0x2C01 1 [1])
  | .arbResume d => some (d, entryWrite 0x2C01 1 [0])
  | .ppsOutNextWrite d v => some (d, entryWrite 0x3401 0x0A (bytesBe 4 v))
  | .timeCivilAnchorWrite d offset data => some (d, ⟨0x3400, 0x17, offset, data⟩)
  | .canSyncPhaseWrite d v => some (d, entryWrite 0x3402 4 (bytesBe 4 v))
  | .launchSubmit d data => some (d, entryWrite 0x3430 1 data)
  | .launchCancel d tag => some (d, entryWrite 0x3430 2 (bytesBe 2 tag))
  | .brkRearm d c => some (d, entryWrite (0x3C10 + c.val) 0x0A [1])
  | .domainCommandOff d word => some (d, entryWrite 0x4000 2 (bytesBe 4 (putBits word 9 8 0)))
  | .domainCommandRetention d word => some (d, entryWrite 0x4000 2 (bytesBe 4 (putBits word 9 8 1)))
  | .domainCommandOn d word => some (d, entryWrite 0x4000 2 (bytesBe 4 (putBits word 9 8 2)))
  | .domainCommandCancel d word => some (d, entryWrite 0x4000 2 (bytesBe 4 (putBits word 9 8 3)))
  | .wakeTimerWrite d n => some (d, entryWrite 0x4000 0x0A (bytesBe 4 n))
  | .faultUnitRelease d source => some (d, entryWrite 0x4400 0x10 [byteOf source])
  | .faultSafeRelease d => some (d, entryWrite 0x4400 0x11 [0xA5])
  | .faultSoftRaise d detail => some (d, entryWrite 0x4400 0x12 (bytesBe 4 detail))
  | .faultNControl d v => some (d, entryWrite 0x4400 0x0E [byteOf v])
  | .faultLatchClear d seq => some (d, entryWrite 0x4400 5 (bytesBe 4 (seq % 256 * 2 ^ 24 + 1)))
  | .communicationObjectWrite d idx sub data => some (d, entryWrite idx sub data)
  | .eventFlagClear d idx sub v => some (d, entryWrite idx sub (bytesBe 4 v))
  | .configStagingWrite d w => some (d, w)
  | .configCommit d => some (d, entryWrite 0x4C01 1 [1])
  | .configDiscard d => some (d, entryWrite 0x4C01 1 [2])
  | .configReload d => some (d, entryWrite 0x4C01 1 [3])
  | .configDefaults d => some (d, entryWrite 0x4C01 1 [4])
  | .configCrcReferenceWrite d v => some (d, entryWrite 0x4C01 7 (bytesBe 4 v))
  | .registerWrite d w => some (d, w)
  | .lensRestart d => some (d, entryWrite 0x4800 0x0B [1])
  | .lensDiscard d => some (d, entryWrite 0x4800 0x0B [2])
  | .lensReadPtrWrite d v => some (d, entryWrite 0x4800 0x0A (bytesBe 4 v))
  | .lensCounterSnapshot d => some (d, entryWrite 0x4801 2 [1])
  | .lensCounterClear d => some (d, entryWrite 0x4801 3 [1])
  | .provokeArm d => some (d, entryWrite 0x4808 1 [1])
  | .provokeDisarm d => some (d, entryWrite 0x4808 1 [0])
  | .fwErase d => some (d, entryWrite 0x4C03 5 [1])
  | .fwUpdateData d offset data => some (d, ⟨0x4C03, 4, offset, data⟩)
  | .fwVerify d => some (d, entryWrite 0x4C03 5 [2])
  | .fwSelect d => some (d, entryWrite 0x4C03 5 [3])
  | .fwCancel d => some (d, entryWrite 0x4C03 5 [4])
  | _ => none

/-- The event-status registers (R375) beside `FaultStatus`, whose clear does more (R340). -/
def eventReg : Reg → Bool
  | .hub .hubEvents | .ring .ringEvents | .relay .relayEvents | .hold .holdoverEvents | .res .resEvents | .stream _ .streamEvents
  | .time .timeEvents | .pd .pdEvents | .power .powerEvents | .domain .domainEvents | .lens .lensEvents | .doors .doorEvents => true
  | _ => false

/-! ### Check codes as R456 and R457 describe them -/

/-- One bit of a CRC of a width, most significant bit first. -/
def crcBit (width poly c : Nat) (b : Bool) : Nat :=
  if c.testBit (width - 1) != b then (c * 2 % 2 ^ width) ^^^ poly else c * 2 % 2 ^ width

/-- The bits of a byte, least significant first (reflected) and most significant first. -/
def bitsUp (b : Byte) : List Bool := (List.range 8).map fun k => b.toNat.testBit k
def bitsDown (b : Byte) : List Bool := (List.range 8).map fun k => b.toNat.testBit (7 - k)

/-- A number of a width with its bits in the opposite order. -/
def mirrored (width v : Nat) : Nat := (List.range width).foldl (fun r k => r * 2 + boolNat (v.testBit k)) 0

/-! ### The facet at rest -/

/-- The time counter as one number: nanoseconds and fraction, 64 bits (R208). -/
def State.counter (s : State) : Nat := s.time.ns * 2 ^ 32 + s.time.frac

/-- No command waits and nothing can come of a clock edge but time: the PLL is locked, nothing waits to be told or ended, no lease lapse
waits, no feed is on and the budget stands, and no channel's current starts a fault timer. -/
def State.Idle (s : State) : Prop :=
  s.pending = [] ∧ s.time.pll = true ∧ s.Quiet ∧ s.ring.lapseAt = none ∧ s.feedsOn = 0 ∧
    s.get (.pd .pdBudgetFeedLimit) = s.feedLimit ∧
    ∀ c : Channel, s.curveTime c (s.getInt (.chan c .chanCurrent)).toNat = none

/-! ### Tables in their one form -/

/-- A table lists keys in rising order, none twice, and none at its default. -/
def Table.Canonical {κ α : Type} (ord : κ → Nat) (d : κ → α) (t : Table κ α) : Prop :=
  t.Pairwise (fun a b => ord a.1 ≤ ord b.1 ∧ a.1 ≠ b.1) ∧ ∀ e ∈ t, e.2 ≠ d e.1

end Sys2Proof.Machine
end

