-- ==== Sys2Proof/Certificates/Slice0/Obligations.lean ====
section
/-! DEFINITION. The statements for the provers. A command's statement gives its next state as `s.finish E`: `E` is what the command makes
of `s.fresh`, the state without what the last command sent, and `finish` is the end of every step, which does nothing but what follows from
the change (`Obligations.CalmFinish`). -/

open Sys2Proof Sys2Proof.Machine

/-- R32, R36, R43: what the hub function answers to the requests that read it. -/
def Obligations.HubFunctionAnswers : Prop :=
  ∀ (s : State) (i : Image), s.coreRuns = true → s.hubServes i = true →
    exec (.getStatus (.hub i) .device 0) s =
      .next (s.finish ((s.fresh.emit (.controlData [byteOf (1 + 2 * boolNat (s.hub i).remoteWake), 0])).served (.hub i))) ∧
    exec (.getStatus (.hub i) .iface 0) s = .next (s.finish ((s.fresh.emit (.controlData [0, 0])).served (.hub i))) ∧
    exec (.getStatus (.hub i) .endpoint 0x81) s =
      .next (s.finish ((s.fresh.emit (.controlData [byteOf (boolNat (s.hub i).halted), 0])).served (.hub i))) ∧
    (∀ kind index answer b, s.descriptor (.hub i) kind index = some b →
      exec (.getDescriptor (.fn (.hub i)) kind index answer) s = .next (s.finish ((s.fresh.emit (.controlData b)).served (.hub i)))) ∧
    (∀ kind index answer, s.descriptor (.hub i) kind index = none →
      exec (.getDescriptor (.fn (.hub i)) kind index answer) s = .next (s.finish ((s.fresh.emit .controlStall).served (.hub i)))) ∧
    exec (.getConfiguration (.hub i)) s = .next (s.finish ((s.fresh.emit (.controlData [byteOf (s.hub i).config])).served (.hub i))) ∧
    exec (.getConfiguration (.emb i)) s = .next (s.finish ((s.fresh.emit (.controlData [byteOf (s.emb i).config])).served (.emb i))) ∧
    exec (.getInterface (.hub i)) s = .next (s.finish ((s.fresh.emit (.controlData [byteOf (s.hub i).alt])).served (.hub i))) ∧
    exec (.getHubStatus i) s = .next (s.finish ((s.fresh.emit
      (.controlData [byteOf (2 * boolNat (s.tripped chanColl)), 0, byteOf (s.hub i).hubChange, 0])).served (.hub i))) ∧
    (∀ m, 1 ≤ m → m ≤ s.portCount i → exec (.getPortStatus i m) s =
      .next (s.finish ((s.fresh.emit (.controlData (bytesLe 2 (s.portView i m).1 ++ bytesLe 2 (s.portView i m).2))).served (.hub i)))) ∧
    (∀ m, m = 0 ∨ s.portCount i < m → exec (.getPortStatus i m) s = .next (s.finish ((s.fresh.emit .controlStall).served (.hub i)))) ∧
    exec (.stalledRequest (.hub i)) s = .next (s.finish ((s.fresh.emit .controlStall).served (.hub i)))

/-- R32, R34, R56: what the requests that set the hub function leave. A request cut short before its status stage only counts. -/
def Obligations.HubFunctionSettings : Prop :=
  ∀ (s : State) (i : Image), s.coreRuns = true → s.hubServes i = true →
    exec (.setFeatureDeviceRemoteWakeup (.hub i)) s =
      .next (s.finish (((s.fresh.modHub i fun h => { h with remoteWake := true }).emit .controlAck).served (.hub i))) ∧
    exec (.clearFeatureDeviceRemoteWakeup (.hub i)) s =
      .next (s.finish (((s.fresh.modHub i fun h => { h with remoteWake := false }).emit .controlAck).served (.hub i))) ∧
    exec (.setFeatureEndpointHalt (.fn (.hub i)) 0x81) s =
      .next (s.finish (((s.fresh.modHub i fun h => { h with halted := true }).emit .controlAck).served (.hub i))) ∧
    exec (.clearFeatureEndpointHalt (.fn (.hub i)) 0x81) s =
      .next (s.finish (((s.fresh.modHub i fun h => { h with halted := false, toggle := false }).emit .controlAck).served (.hub i))) ∧
    (∀ u sel, s.hubUp i = some u → 1 ≤ sel → sel ≤ 4 → exec (.setFeatureTestMode i sel) s =
      .next (s.finish ((((s.fresh.modHub i fun h => { h with testMode := sel }).emit .controlAck).emit (.up u (.test sel))).served
        (.hub i)))) ∧
    (∀ addr, addr ≤ 127 → exec (.setAddress (.fn (.hub i)) addr .whole) s =
      .next (s.finish (((s.fresh.modHub i fun h => { h with addr := addr }).emit .controlAck).served (.hub i)))) ∧
    (∀ addr cut, cut ≠ .whole → exec (.setAddress (.fn (.hub i)) addr cut) s =
      .next (s.finish (((s.fresh.bump (.hub .controlAbortByResetCount)).flag (.hub .hubEvents) hubControlAbort).served (.hub i)))) ∧
    exec (.setConfiguration (.fn (.hub i)) 0 .whole) s =
      .next (s.finish ((((s.fresh.modHub i fun h => { h with config := 0, alt := 0, halted := false, toggle := false }).setRegBit
        (.hub .singleTtImages) i.val true).emit .controlAck).served (.hub i))) ∧
    exec (.setConfiguration (.fn (.hub i)) 1 .whole) s =
      .next (s.finish (((((s.fresh.modHub i fun h => { h with config := 1, alt := 0, halted := false, toggle := false }).setRegBit
        (.hub .singleTtImages) i.val true).presentHeld i).emit .controlAck).served (.hub i))) ∧
    (s.fullSpeed i = false → exec (.setInterface (.fn (.hub i)) 0 1) s =
      .next (s.finish ((((s.fresh.modHub i fun h => { h with alt := 1, halted := false, toggle := false }).setRegBit
        (.hub .singleTtImages) i.val false).emit .controlAck).served (.hub i)))) ∧
    (∀ f, f ≤ 1 → exec (.clearHubFeature i f) s =
      .next (s.finish (((s.fresh.modHub i fun h => { h with hubChange := setBit h.hubChange f false }).emit .controlAck).served (.hub i))))

/-- R32, R33, R37, R42, R57, R58, R60: what a host's port requests do to a logical port that lies on this facet, and the requests to its
transaction translator. -/
def Obligations.PortRequests : Prop :=
  ∀ (s : State) (i : Image) (m : Nat) (p : Port), s.coreRuns = true → s.hubServes i = true → 1 ≤ m → m ≤ s.portCount i →
    s.place i m = .own p →
    exec (.setPortFeaturePortPower i m) s = .next (s.finish (((s.fresh.grantPower p).emit .controlAck).served (.hub i))) ∧
    (s.pst p < 8 → exec (.clearPortFeaturePortPower i m) s = .next (s.finish (((s.fresh.powerOff p).emit .controlAck).served (.hub i)))) ∧
    (s.logicalOf p = some (i, m) → s.heldPort i m = false → (s.pst p = 2 ∨ s.pst p = 4 ∨ s.pst p = 5 ∨ s.pst p = 6) → s.portOn p = true →
      exec (.setPortFeaturePortReset i m) s = .next (s.finish (((s.fresh.startReset p).emit .controlAck).served (.hub i)))) ∧
    (s.pst p = 4 → exec (.setPortFeaturePortSuspend i m) s = .next (s.finish (((s.fresh.suspendPort p).emit .controlAck).served
      (.hub i)))) ∧
    (s.pst p = 5 → s.portOn p = true → exec (.clearPortFeaturePortSuspend i m) s =
      .next (s.finish (((s.fresh.startResume p false false).emit .controlAck).served (.hub i)))) ∧
    (s.pst p = 4 ∨ s.pst p = 5 ∨ s.pst p = 6 → exec (.clearPortFeaturePortEnable i m) s =
      .next (s.finish ((((((s.fresh.setPs p psEnable false).setPs p psSuspend false).setPst p 2).modPort p fun x =>
        { x with devWake := false, wakeGlobal := false }).emit .controlAck).served (.hub i)))) ∧
    (∀ sel, 1 ≤ sel → sel ≤ 5 → s.testAllowed p = true → exec (.setPortFeaturePortTest i m sel) s =
      .next (s.finish ((((((s.fresh.setPs p psTest true).setPst p 7).set (.port p .portTestMode) sel).emit (.line p (.test sel))).emit
        .controlAck).served (.hub i)))) ∧
    (∀ sel, s.testAllowed p = false →
      exec (.setPortFeaturePortTest i m sel) s = .next (s.finish ((s.fresh.emit .controlStall).served (.hub i)))) ∧
    (∀ bit, bit ≤ 4 → s.setNow p bit = false → exec (.clearPortFeatureCPort i m bit) s =
      .next (s.finish (((s.fresh.modPort p fun x => { x with change := setBit x.change bit false }).emit .controlAck).served (.hub i)))) ∧
    (∀ bit, bit ≤ 4 → s.setNow p bit = true →
      exec (.clearPortFeatureCPort i m bit) s = .next (s.finish ((s.fresh.emit .controlAck).served (.hub i)))) ∧
    (s.fullSpeed i = false → s.logicalOf p = some (i, m) → s.ttPorts i m = [p] →
      (∀ addr ep, (s.splits.any fun x => x.image == i.val && x.port == m && x.addr == addr && x.ep == ep && !x.periodic) = false →
        exec (.clearTtBuffer i m addr ep) s =
          .next (s.finish (((s.fresh.freeTtBuffer p (s.wireAddr i addr m) (s.mapEp i addr ep)).emit .controlAck).served (.hub i)))) ∧
      ((s.splits.any fun x => x.image == i.val && x.port == m) = false →
        exec (.resetTt i m) s = .next (s.finish (((s.fresh.resetTt p).emit .controlAck).served (.hub i)))) ∧
      exec (.stopTt i m) s =
        .next (s.finish (((s.fresh.modPort p fun x => { x with tt := { x.tt with stopped := true } }).emit .controlAck).served (.hub i))))

/-- R37 to R39, R60 to R62, R65: what a device and the ends of a reset and a resume do to a port, whether an image maps it or not. -/
def Obligations.PortEvents : Prop :=
  ∀ (s : State) (p : Port), s.coreRuns = true →
    (∀ low, s.pst p = 1 → s.portOn p = true → s.good (chanOf p) = true → s.ps p psPower = true → (s.tc p).detectOff = false →
      exec (.deviceConnect p low) s = .next (s.finish ((((s.fresh.setPs p psConn true).setPc p psConn).setPst p 2).modPort p fun x =>
        { x with lowPull := low }))) ∧
    (1 < s.pst p → s.pst p < 8 → (s.tc p).detectOff = false →
      (s.logicalOf p = none → exec (.deviceDisconnect p) s = .next (s.finish (s.fresh.usbDisconnect p))) ∧
      (∀ i m, s.logicalOf p = some (i, m) →
        exec (.deviceDisconnect p) s = .next (s.finish ((s.fresh.usbDisconnect p).checkWake i)))) ∧
    (s.pst p = 3 → s.ps p psConn = true → s.portOn p = true → ∀ chirp full speed a b r,
      ((s.logicalOf p).any fun e => s.fullSpeed e.1) = full → foundSpeed full (s.port p).lowPull chirp = speed →
      (if chirp = .malformed then (s.fresh.bump (.port p .portChirpFailCount)).flag (.hub .hubEvents) hubChirpFail
        else s.fresh) = a →
      (if (s.port p).change.testBit psReset then a else a.modPort p fun x => { x with resetAt := some s.time.elapsed }) = b →
      ((((((b.setPs p psReset false).setPs p psEnable true).setPc p psReset).setPst p 4).setPs p psLow (speed == 1)).setPs p psHigh
        (speed == 3)).set (.port p .portSpeed) speed = r →
      (s.logicalOf p = none → exec (.portResetComplete p chirp) s = .next (s.finish (r.emit (.line p .idle)))) ∧
      (∀ i m, s.logicalOf p = some (i, m) → exec (.portResetComplete p chirp) s =
        .next (s.finish ((r.setRecord i m { resetOrder := r.nextReset i }).emit (.line p .idle))))) ∧
    (∀ full low, foundSpeed false low .completed = 3 ∧ foundSpeed full low .absent = (if low then 1 else 2) ∧
      foundSpeed false low .malformed = 2 ∧ foundSpeed true low .malformed = foundSpeed true low .completed) ∧
    (s.pst p = 4 ∨ s.suspendedNow p = true → exec (.deviceBabble p) s =
      .next (s.finish (((((((s.fresh.setPs p psEnable false).setPs p psSuspend false).setPc p psEnable).setPst p 2).bump
        (.port p .portBabbleCount)).flag (.hub .hubEvents) hubBabble).raise 36 (p.val + 1)))) ∧
    (s.pst p = 6 → s.portOn p = true → ∀ r, ((((if (s.port p).wakeGlobal then s.fresh else (s.fresh.setPs p psSuspend false).setPc p
        psSuspend).setPst p 4).emit (.line p .keepAlive)).emit (.line p .idle)) = r →
      (s.logicalOf p = none → exec (.portResumeComplete p) s =
        .next (s.finish (r.modPort p fun x => { x with wakeGlobal := false, devWake := false }))) ∧
      (∀ i m, s.logicalOf p = some (i, m) → exec (.portResumeComplete p) s = .next (s.finish ((r.modPort p fun x =>
        { x with wakeGlobal := false, devWake := false, globalSusp := s.imageSuspended i,
                 suspendedAt := if s.imageSuspended i then s.time.elapsed else x.suspendedAt }).checkWake i)))) ∧
    (∀ i m, s.logicalOf p = some (i, m) → (s.pst p = 5 ∨ s.pst p = 6 ∨ (s.pst p = 4 ∧ (s.port p).globalSusp = true)) →
      s.portOn p = true →
      (s.time.elapsed < (s.port p).suspendedAt + 5 * msUnits → exec (.deviceRemoteWake p) s =
        .next (s.finish ((s.fresh.bump (.hub .earlyWakeCount)).flag (.hub .hubEvents) hubEarlyWake))) ∧
      ((s.port p).suspendedAt + 5 * msUnits ≤ s.time.elapsed →
        (s.pst p = 6 ∨ (s.hub i).resuming = true → exec (.deviceRemoteWake p) s = .next (s.finish s.fresh.wakeMerged)) ∧
        (s.pst p ≠ 6 → (s.hub i).resuming = false → s.heldPort i m = true → s.holdState i = 5 →
          exec (.deviceRemoteWake p) s = .next (s.finish (s.fresh.callWake i m))) ∧
        (s.pst p = 5 → (s.hub i).resuming = false → s.heldPort i m = false ∨ s.holdState i ≠ 5 → s.imageSuspended i = false →
          exec (.deviceRemoteWake p) s = .next (s.finish (s.fresh.startResume p false true))) ∧
        (s.pst p ≠ 6 → (s.hub i).resuming = false → s.heldPort i m = false ∨ s.holdState i ≠ 5 → s.imageSuspended i = true ∨ s.pst p = 4 →
          (s.entryHere i = true → exec (.deviceRemoteWake p) s = .next (s.finish (s.fresh.wakeUpstream i))) ∧
          (s.entryHere i = false →
            exec (.deviceRemoteWake p) s = .next (s.finish (s.fresh.broadcast 4 i.val (.sync (.wakeK i m))))))))

/-- R35, R46, R48, R59, R60: what reset, resume, SOF and silence on an upstream do to its image. -/
def Obligations.UpstreamEvents : Prop :=
  ∀ (s : State) (u : Upstream) (i : Image), s.coreRuns = true → s.imageOfUp u = some i → s.upShows u = .hub →
    (s.holdState i = 0 → ∀ mid hs r, (s.fresh.forEach (List.range (s.openControls u mid)) fun s _ => s.abortControl) = r →
      exec (.upstreamReset u mid hs) s = .next (s.finish
        (((((r.defaultHub i).cutDelivery (upDoor u)).dropCommands u).setUpSpeed u (if hs then 3 else 2)).resetUnarmed i))) ∧
    ((s.hub i).suspended = true → s.alone = true → s.holdState i = 0 → (s.hub i).wakeEnd ≤ s.time.elapsed → exec (.hostResume u) s =
      .next (s.finish ((s.fresh.modHub i fun h => { h with resuming := true, wakeEnd := 0 }).resumePorts i))) ∧
    ((s.hub i).suspended = true → s.alone = true → s.holdState i = 0 → s.time.elapsed < (s.hub i).wakeEnd → exec (.hostResume u) s =
      .next (s.finish ((s.fresh.wakeMerged.modHub i fun h => { h with resuming := true, wakeEnd := 0 }).resumePorts i))) ∧
    ((s.hub i).suspended = true → s.holdState i = 3 → (s.hub i).wakeEnd ≤ s.time.elapsed → exec (.hostResume u) s = .next (s.finish
      ((((s.fresh.modHub i fun h => { h with resuming := true, wakeEnd := 0 }).resumePorts i).endIntent i).setHoldState i 1))) ∧
    (∀ frame micro, micro ≠ 0 → s.holdState i ≠ 4 → (s.hub i).suspended = false → (s.hub i).resuming = false → s.alone = true →
      exec (.hostSof u frame micro) s = .next (s.finish (((({ (s.fresh.lensCount 8 (placeUp u) 1).modHub i fun h => { h with
        locked := true, frame := frame, micro := micro, lastSof := s.extended, suspended := false, resuming := false, wakeEnd := 0 } with
          engineMissed := false }).repeatSof i frame micro 1).retryRelay i).grantAll)) ) ∧
    ((s.up u).speed = 3 → (s.hub i).config = 1 → (s.hub i).suspended = false → s.holdState i ≠ 4 → s.holdState i ≠ 5 →
      exec (.microframeWithoutSof u) s = .next (s.finish (((((({ s.fresh with engineMissed := false }).modHold i fun h =>
        { h with recallSofs := 0 }).retryRelay i).grantAll).bump (.hub .sofMissCount)).flag (.hub .hubEvents) hubSofMiss))) ∧
    (s.holdState i = 0 → (s.hub i).suspended = false → s.alone = true → exec (.upstreamIdleSuspend u) s =
      .next (s.finish ((((s.fresh.modHub i fun h => { h with suspended := true, resuming := false }).suspendImage i).modHold i fun h =>
        { h with windowOpen := false })))) ∧
    (∀ p m, s.logicalOf p = some (i, m) → s.awake p = true → s.get (.port p .portSpeed) = 2 → s.onGrid i m = false → s.holdState i ≠ 5 →
      s.fullSpeed i = false → exec (.ttFrameSof p) s =
      .next (s.finish (((s.fresh.emit (.line p (.sof (s.hub i).frame 0))).lensCount 8 (placePort p) 1).writeRow p.val ((s.hub i).frame * 8)
        4 i.val)))

/-- R49, R50, R55 to R57, R126: a host's token, start-split and complete-split at the upstream of an image, and the end of a translator's
transaction. Lens and provocation are off. -/
def Obligations.HostTransfers : Prop :=
  ∀ (s : State) (u : Upstream) (i : Image) (p : Port), s.coreRuns = true → s.imageOfUp u = some i → s.upShows u = .hub →
    (s.hold i).blocked = false → s.holdState i ≠ 4 → s.holdState i ≠ 5 → s.lens.armed = false → s.isTrue (.lens .lensEnable) = false →
    (∀ t a acked x, t.pid = .input → t.pidOk = true → t.crcOk = true → t.addr ≠ 0 → t.addr ≠ (s.hub i).addr →
      s.entry i t.addr = some x → s.relayed i x.port = false → s.place i x.port = .own p → s.directOpen i x.port p = true →
      exec (.hostToken u t a acked) s =
        .next (s.finish (((s.fresh.usbSeen (placeUp u) false 0x69 t.addr (t.ep % 16 + 16 * i.val) []).sendToken i p t x.devAddr
          (s.mapEp i t.addr (t.ep % 16)) (crc5 x.devAddr (s.mapEp i t.addr (t.ep % 16)))
          (t.toggle != s.flipOf i x.port x (s.mapEp i t.addr (t.ep % 16)) false)).directAnswer i p x t.addr (t.ep % 16) t a acked))) ∧
    (∀ t a acked, t.pid = .input → t.pidOk = true → t.crcOk = true → t.addr ≠ 0 → t.addr ≠ (s.hub i).addr → s.entry i t.addr = none →
      exec (.hostToken u t a acked) s =
        .next (s.finish (((s.fresh.usbSeen (placeUp u) false 0x69 t.addr (t.ep % 16 + 16 * i.val) []).bump
          (.hub .unroutedTokenCount)).flag (.hub .hubEvents) hubUnrouted))) ∧
    (∀ x e q, x.external = none → s.entry i x.addr = some e → s.place i x.port = .own p → s.splitPort i p = true →
      s.splitAbsorbed i x = false → (x.setup = true → (s.relayEp i x.addr 0 false).control ≠ 5) →
      (s.port p).tt.stopped = false → s.ttSplitOf i x = q → s.ttRoom i x.port p x.periodic x.data.length = true →
      q.addr = e.devAddr ∧ q.ep = s.mapEp i x.addr x.ep ∧
      (x.periodic = true → exec (.hostStartSplit u x) s =
        .next (s.finish (((s.fresh.usbSeen (placeUp u) false 0x78 x.addr (x.ep % 16 + 16 * i.val) x.data).modPort p fun y =>
          { y with tt := { y.tt with pipeline := y.tt.pipeline ++ [q] } }).emit (.ttSplit p q.addr q.ep)))) ∧
      (x.periodic = false → exec (.hostStartSplit u x) s =
        .next (s.finish ((((s.fresh.usbSeen (placeUp u) false 0x78 x.addr (x.ep % 16 + 16 * i.val) x.data).modPort p fun y =>
          { y with tt := { y.tt with buffers := y.tt.buffers ++ [q] } }).emit (.ttSplit p q.addr q.ep)).splitAnswer u .ack)))) ∧
    (∀ x w ep flip r, x.external = none → s.place i x.port = .own p → s.splitPort i p = true →
      s.splitAbsorbed i { x with setup := x.setup && (s.relayEp i x.addr 0 false).control != 5 } = false →
      (s.port p).tt.stopped = false → x.periodic = false → s.splitRewrite i x = (w, ep, flip) →
      ((s.port p).tt.done.find? fun q => q.addr == w && q.ep == ep && q.dirIn == x.dirIn) = some r →
      exec (.hostCompleteSplit u x) s =
        .next (s.finish (((s.fresh.usbSeen (placeUp u) false 0x78 x.addr (x.ep % 16 + 16 * i.val) []).modPort p fun y =>
          { y with tt := { y.tt with done := y.tt.done.erase r } }).splitResultAnswer u
            (exchanged r.answer flip)))) ∧
    (∀ q rest answer judged r, s.ttLaunch p = none → (s.port p).tt.pipeline = [] → (s.port p).tt.staging = [] →
      (s.port p).tt.buffers = q :: rest → q.engine = none →
      (if s.ttWrongToggle p q answer = true then (.nak, (s.fresh.bump (.hub .deviceToggleMismatchCount)).flag (.hub .hubEvents)
          hubToggleMismatch)
        else (answer, ((if answer = .badPid then s.fresh.deviceBadPid p else s.fresh).ttToggle p q answer).modPort p fun x =>
          { x with tt := x.tt.control q answer })) = (judged, r) →
      exec (.ttFsTransactionDone p answer) s = .next (s.finish (r.modPort p fun x => { x with tt := { x.tt with
        buffers := rest,
        done := x.tt.done ++ [⟨q.addr, q.ep, q.dirIn, judged⟩] } })))

/-- R21, R64, R65: the HS engine grants a free context to the work that is first in order; an answer ends a transaction for whoever asked,
and the third error in a row ends it with an error. -/
def Obligations.EngineCommands : Prop :=
  ∀ s : State, s.coreRuns = true →
    (∀ n x tag, s.freeContext = some n → s.nextWork = some x → x.who = .launch tag → exec .hsEngineContextGrant s =
      .next (s.finish ((({ s.fresh with waiting := s.waiting.erase x }).startContext n x).launchBegins tag))) ∧
    (∀ (n : Fin 4) x, s.context n.val = some x → x.errors < 2 → exec (.hsEngineResponseTimeout n) s =
      .next (s.finish ((((s.fresh.bump (.hub .hsEngineTimeoutCount)).flag (.hub .hubEvents) hubEngineTimeout).lensCount 6
        (placePort x.port) 1).startContext n.val { x with errors := x.errors + 1 }))) ∧
    (∀ (n : Fin 4) x, s.context n.val = some x → 2 ≤ x.errors → exec (.hsEngineResponseTimeout n) s =
      .next (s.finish ((((s.fresh.bump (.hub .hsEngineTimeoutCount)).flag (.hub .hubEvents) hubEngineTimeout).lensCount 6
        (placePort x.port) 1).engineFinish n.val x 3 false []))) ∧
    (∀ (n : Fin 4) x, s.context n.val = some x → x.dirIn = true → x.setup = false → x.ping = false → s.lens.armed = false →
      s.isTrue (.lens .lensEnable) = false → exec (.hsEngineTransactionEnd n .nak) s =
      .next (s.finish (((s.fresh.usbSeen (placePort x.port) true 0x69 x.addr (x.ep % 16 + 64 * speedCode (s.get (.port x.port .portSpeed)))
        []).usbSeen (placePort x.port) false 0x5A x.addr (x.ep % 16 + 64 * speedCode (s.get (.port x.port .portSpeed))) []).engineFinish
          n.val x 1 false [])))

/-- R78 to R80, R86, R99: what training, retraining, loss and the timers of the link layer do to a link. -/
def Obligations.LinkTraining : Prop :=
  ∀ (s : State) (k : Link), s.coreRuns = true → s.domainOn 6 = true →
    (∀ p, s.linkMode k = true → s.linkPort k = some p → (s.get (.link k .linkState) = 0 ∨ s.get (.link k .linkState) = 1) →
      exec (.linkTrainingStart k) s = .next (s.finish (((s.fresh.setPst p 8).startTraining k).modLink k fun x => { x with fails := 0 }))) ∧
    (s.linkMode k = true → (s.get (.link k .linkState) = 0 ∨ s.get (.link k .linkState) = 5) →
      exec (.linkTrainRetry k) s = .next (s.finish (s.fresh.startTraining k))) ∧
    (s.get (.link k .linkState) = 2 → (s.link k).fails < 2 →
      exec (.linkTrainTimeout k) s = .next (s.finish (((s.fresh.bump (.link k .linkTrainFailCount)).modLink k fun x =>
        { x with fails := x.fails + 1 }).showLinkState k 0))) ∧
    (s.get (.link k .linkState) = 2 → 2 ≤ (s.link k).fails →
      exec (.linkTrainTimeout k) s = .next (s.finish ((((s.fresh.bump (.link k .linkTrainFailCount)).modLink k fun x =>
        { x with fails := x.fails + 1 }).showLinkState k 5).raiseLive (40 + k.val) 5))) ∧
    (∀ g laneMap, s.get (.link k .linkState) = 2 ∨
        (s.get (.link k .linkState) = 4 ∧ g.uid = s.get (.link k .linkPartnerId)) →
      exec (.linkUp k g laneMap) s = .next (s.finish ((s.fresh.linkComesUp k g laneMap (s.foreignPartner k g)).linkJoins k g
        (s.foreignPartner k g) (s.get (.link k .linkState) == 4) s.inRouting s.candidates))) ∧
    (∀ g laneMap, s.get (.link k .linkState) = 4 → g.uid ≠ s.get (.link k .linkPartnerId) →
      exec (.linkUp k g laneMap) s = .next (s.finish ((s.fresh.linkDown k 0).startTraining k).afterRoutes)) ∧
    (s.get (.link k .linkState) = 3 ∨ s.get (.link k .linkState) = 6 →
      exec (.linkErrorThreshold k) s = .next (s.finish (s.fresh.retrain k).afterRoutes) ∧
      exec (.ts1Received k) s = .next (s.finish (s.fresh.retrain k).afterRoutes)) ∧
    (s.get (.link k .linkState) = 4 →
      exec (.retrainTimeout k) s = .next (s.finish ((s.fresh.linkDown k 0).startTraining k).afterRoutes)) ∧
    (s.get (.link k .linkState) = 3 ∨ s.get (.link k .linkState) = 4 ∨ s.get (.link k .linkState) = 6 →
      exec (.linkSignalLoss k) s = .next (s.finish (s.fresh.linkDown k 0).afterRoutes)) ∧
    (s.get (.link k .linkState) = 3 → exec (.replayTimeout k) s = .next (s.finish (s.fresh.replayAll k))) ∧
    ((s.link k).ackDue = true → s.get (.link k .linkState) = 3 →
      exec (.linkAckDue k) s = .next (s.finish (s.fresh.sendLinkFrame k false))) ∧
    (2 ≤ s.get (.link k .linkState) → s.get (.link k .linkState) ≠ 5 →
      exec (.skpDue k) s = .next (s.finish (s.fresh.emit (.block k .skp))))

/-- R83, R86, R94, R97, R102: what a LINK, LSF, SYNC or WITHDRAW frame does once the link layer has delivered it (`r` is the state it left),
and the periodic flood. -/
def Obligations.RingFrames : Prop :=
  ∀ (s : State) (k : Link) (h : FrameHdr) (r : State), s.coreRuns = true → s.domainOn 6 = true →
    (∀ credits, credits.length = 7 → s.fresh.receive k h 1 (.link h.ackSeq none credits) = (true, r) →
      exec (.linkFrame k h none credits) s = .next (s.finish ((r.modLink k fun x => { x with credits := credits }).drain k))) ∧
    (∀ credits n, credits.length = 7 → s.fresh.receive k h 1 (.link h.ackSeq (some n) credits) = (true, r) →
      exec (.linkFrame k h (some n) credits) s = .next (s.finish ((((((r.modLink k fun x =>
        { x with credits := credits }).acknowledge k n).replayAfter k n).lensCount 4 (placeLink k) 1).drain k)))) ∧
    (∀ b, b.uid ≠ r.ident.uniqueId → (r.ring.lsdb.find? fun e => e.uid == b.uid) = none →
      s.fresh.receive k h 2 (.lsf b) = (true, r) → exec (.lsf k h b) s = .next (s.finish (r.takeLsf h.src h.epoch b))) ∧
    (∀ b old, b.uid ≠ r.ident.uniqueId → (r.ring.lsdb.find? fun e => e.uid == b.uid) = some old →
      newerSeq b.seq old.seq = true → s.fresh.receive k h 2 (.lsf b) = (true, r) →
      exec (.lsf k h b) s = .next (s.finish (r.takeLsf h.src h.epoch b))) ∧
    exec .lsfPeriodic s = .next (s.finish s.fresh.flood) ∧
    (∀ b, s.fresh.receive k h 4 (.sync b) = (true, r) → exec (.syncFrame k h b) s = .next (s.finish (r.takeSync h.src b))) ∧
    (∀ u, s.fresh.receive k h 11 .withdraw = (true, r) → r.memberOfIndex h.src = some u → u ≠ r.ident.uniqueId →
      u ∉ r.ring.withdrawn → exec (.withdraw k h) s = .next (s.finish
        ((({ r with ring := { r.ring with withdrawn := u :: r.ring.withdrawn } }).retopo r.inRouting).afterRoutes)))

/-- R84 to R86, R98, R110: which received frames are delivered to this facet. A frame that is damaged, stomped, without credit or of a
wrong shape is not, nor a replayed frame out of sequence, nor one on a link that is not up. -/
def Obligations.UndeliveredFrames : Prop :=
  ∀ (s : State) (k : Link) (h : FrameHdr) (typ : Nat) (body : RingBody),
    ((s.receive k h typ body).1 = true → (s.get (.link k .linkState) = 3 ∨ (s.get (.link k .linkState) = 6 ∧ replayed typ = false)) ∧
      h.fault = .good ∧ (replayed typ = true → (h.linkSeq + 256 - ((s.acknowledge k h.ackSeq).link k).rxSeq) % 256 = 1))

/-- R91, R92, R94, R102, R105 to R107, R109, R121: what the timers of formation, withdrawal, lock and commit do. -/
def Obligations.PrismTimers : Prop :=
  ∀ s : State, s.coreRuns = true →
    (∀ ids, s.ring.commitRunning = false → s.lockHeld = false → s.get (.ring .ringMemberState) ≠ 1 → s.get (.ring .prismOrigin) = 0 →
      s.isTrue (.ring .quorumState) = true → s.provisionalSet = ids →
      ids.head? = some s.ident.uniqueId → ids ≠ rising (s.members.map Prod.snd) →
      exec .formationSettle s = .next (s.finish ((s.fresh.modRing fun r => { r with formation := ids }).commitMembership ids
        (ids.filter fun u => decide (u ≠ s.ident.uniqueId)) true))) ∧
    (∀ epoch values r, s.get (.ring .ringMemberState) = 3 → (s.ring.origins.contains (s.ring.seenFrom, 0)) = false →
      (s.fresh.forEach values fun s w => match s.prismWrite w with
        | some l => s.stagePrism l
        | none => s) = r →
      ((r.applyPrism epoch (r.get (.ring .prismId)) 1 false false).ring.returning = true → exec (.syncingComplete epoch values) s =
        .next (s.finish (r.applyPrism epoch (r.get (.ring .prismId)) 1 false false).comeBack)) ∧
      ((r.applyPrism epoch (r.get (.ring .prismId)) 1 false false).ring.returning = false → exec (.syncingComplete epoch values) s =
        .next (s.finish (r.applyPrism epoch (r.get (.ring .prismId)) 1 false false).fetchRecords))) ∧
    (s.ring.withdrawing = true → s.lockHere = false → exec .withdrawForwardEnd s =
      .next (s.finish ((s.fresh.modRing fun r => { r with withdrawing := false }).set (.ring .ringMemberState) 4))) ∧
    (s.ring.withdrawing = true → s.lockHere = true → exec .withdrawForwardEnd s =
      .next (s.finish (((s.fresh.freeLock.broadcast 5 0 (.lock (.tell .release))).modRing fun r =>
        { r with withdrawing := false }).set (.ring .ringMemberState) 4))) ∧
    (s.boot.running = true → 0 < s.ring.lockLosses → exec .lockBackoffExpiry s = .next (s.finish s.fresh.sendRequest)) ∧
    (s.boot.running = false ∨ s.isTrue (.ring .quorumState) = false → exec .lockRenew s = .next (s.finish s.fresh)) ∧
    (s.lockHere = true → s.ring.lockRenewing = true → s.boot.running = true → s.isTrue (.ring .quorumState) = true → exec .lockRenew s =
      .next (s.finish ((s.fresh.modRing fun r => { r with lockExpiry := (s.now + 50000000) % 2 ^ 32 }).broadcast 5 0
        (.lock (.tell (.renew ((s.now + 50000000) % 2 ^ 32))))))) ∧
    (s.ahead s.ring.lockExpiry = 0 → s.lockHeld = true → s.ring.applyAt = none → s.ring.prepared = false →
      (s.keeper ≠ some s.ownIndex → exec .leaseLapse s = .next (s.finish ((((s.fresh.bump (.lock .prismLeaseLapseCount)).flag
        (.ring .ringEvents) ringLockLapse).raise 45 s.lockFacet).freeLock))) ∧
      (s.keeper = some s.ownIndex → exec .leaseLapse s = .next (s.finish (((((s.fresh.bump (.lock .prismLeaseLapseCount)).flag
        (.ring .ringEvents) ringLockLapse).raise 45 s.lockFacet).freeLock).broadcast 5 0 (.lock (.tell .lapse)))))) ∧
    (s.ahead s.ring.lockExpiry = 0 → s.ring.prepared = true → s.lockHere = false → s.ring.applyAt = none →
      exec .leaseLapse s = .next (s.finish (s.fresh.modRing fun r => { r with lapseAt := some s.time.elapsed }))) ∧
    (s.lockHere = true → s.ring.lockTime + s.get (.lock .prismLockIdleLimit) * 1000 ≤ s.elapsedMs → exec .lockIdleLimit s =
      .next (s.finish (s.fresh.modRing fun r => { r with lockRenewing := false }))) ∧
    (∀ u rest, (s.ring.commitWaiting.filter fun x => s.reachable x) = u :: rest → s.ring.commitRunning = true → s.ring.applyAt = none →
      exec .commitAnswerTimeout s = .next (s.finish (s.fresh.abortCommit 8 (s.indexFor 6 u) 0))) ∧
    (s.ring.commitWaiting ≠ [] → (∀ u ∈ s.ring.commitWaiting, s.reachable u = false) → s.ring.commitRunning = true →
      s.ring.applyAt = none → exec .commitAnswerTimeout s =
        .next (s.finish (s.fresh.modRing fun r => { r with commitWaiting := [] }).startApply)) ∧
    (∀ t, s.ring.applyAt = some t → s.ring.commitSame = true → s.ring.commitRunning = false → exec .prismApplyTime s =
      .next (s.finish (s.fresh.applyPrism s.ring.commitEpoch s.ring.commitPrism s.ring.commitOrigin (s.ring.commitOrigin == 0) false))) ∧
    (∀ t, s.ring.applyAt = some t → s.ring.commitSame = false → exec .prismApplyTime s =
      .next (s.finish ((s.fresh.applyPrism (s.get (.ring .prismEpoch)) s.ring.commitPrism s.ring.commitOrigin (s.ring.commitOrigin == 0)
        true).enterSync s.ring.commitFrom))) ∧
    (∀ i u, (s.hold i).softDetach = true → s.activeUp i = some u → (s.up u).attached = true → (s.up u).disabled = false →
      exec (.softDetachEnd i) s = .next (s.finish ((s.fresh.modHold i fun h => { h with softDetach := false }).present u .hub)))

/-- R104, R105, R107, R109, R110: what a LOCK or COMMIT frame does once the link layer has delivered it (`r` is the state it left). -/
def Obligations.PrismFrames : Prop :=
  ∀ (s : State) (k : Link) (h : FrameHdr) (r : State), s.coreRuns = true → s.domainOn 6 = true →
    (∀ requests, s.keeper = some s.ownIndex →
      exec (.lockRequestAtKeeper requests) s = .next (s.finish (s.fresh.keeperDecide requests))) ∧
    (∀ q e, s.fresh.receive k h 5 (.lock (.tell (.grant q e))) = (true, r) →
      exec (.lockGrant k h (.grant q e)) s = .next (s.finish (r.takeGrant q e))) ∧
    (∀ e, s.fresh.receive k h 5 (.lock (.tell (.renew e))) = (true, r) → r.lockHeld = true → r.lockFacet = h.src →
      exec (.lockGrant k h (.renew e)) s = .next (s.finish (r.modRing fun x => { x with lockExpiry := e }))) ∧
    (s.fresh.receive k h 5 (.lock (.tell .release)) = (true, r) → r.lockHeld = true → r.lockFacet = h.src →
      exec (.lockGrant k h .release) s = .next (s.finish r.freeLock)) ∧
    (s.fresh.receive k h 5 (.lock (.tell .release)) = (true, r) → r.lockHeld = false →
      exec (.lockGrant k h .release) s = .next (s.finish ((r.bump (.link k .linkViolationCount)).flag (.ring .ringEvents) ringViolation))) ∧
    (∀ w l, s.fresh.receive k h 6 (.commit (.stage w)) = (true, r) → r.lockHeld = true → r.lockFacet = h.src → r.ownIndex ≠ h.src →
      r.prismWrite w = some l → exec (.prismStagingWrite (.frame k h) w) s = .next (s.finish (r.stagePrism l).unreference)) ∧
    (∀ digest epoch prism, s.fresh.receive k h 6 (.commit (.prepare digest epoch prism 1)) = (true, r) → r.lockHeld = true →
      r.lockFacet = h.src → r.isMember = true → digest = r.stagedDigest → (r.notePrepare h.src digest epoch prism 1).stagedRefusal = none →
      exec (.prepare k h digest ⟨epoch, prism, 1⟩) s = .next (s.finish ((((r.notePrepare h.src digest epoch prism 1).modRing fun x =>
        { x with prepared := true }).set (.lock .prismCommitResult) 3).sendIndex h.src 6 0 h.tag (.commit .ready)))) ∧
    (∀ digest epoch prism, s.fresh.receive k h 6 (.commit (.prepare digest epoch prism 1)) = (true, r) → r.lockHeld = true →
      r.lockFacet = h.src → r.isMember = true → digest ≠ r.stagedDigest → exec (.prepare k h digest ⟨epoch, prism, 1⟩) s =
        .next (s.finish (((r.notePrepare h.src digest epoch prism 1).sendIndex h.src 6 0 h.tag (.commit (.refuse 7 0))).modRing fun x =>
          { x with formation := [] }))) ∧
    (∀ digest epoch prism, s.fresh.receive k h 6 (.commit (.prepare digest epoch prism 1)) = (true, r) → r.lockHeld = true →
      r.lockFacet ≠ h.src → exec (.prepare k h digest ⟨epoch, prism, 1⟩) s = .next (s.finish (r.peerViolation k))) ∧
    (∀ u, s.fresh.receive k h 6 (.commit .ready) = (true, r) → r.ring.commitRunning = true → r.ring.applyAt = none →
      r.peerOf 6 h.src = some u → (r.ring.commitWaiting.filter fun x => decide (x ≠ u)) = [] →
      exec (.ready k h) s = .next (s.finish (r.modRing fun x => { x with commitWaiting := [] }).startApply)) ∧
    (∀ reason detail, s.fresh.receive k h 6 (.commit (.refuse reason detail)) = (true, r) → r.ring.commitRunning = true →
      r.ring.applyAt = none → exec (.refuse k h reason detail) s = .next (s.finish (r.abortCommit reason h.src detail))) ∧
    (s.fresh.receive k h 6 (.commit .abort) = (true, r) → r.ring.prepared = true →
      exec (.abort k h) s = .next (s.finish ((r.modRing fun x => { x with prepared := false, applyAt := none, formation := [] }).set
        (.lock .prismCommitResult) 2))) ∧
    (∀ time, s.fresh.receive k h 6 (.commit (.apply time)) = (true, r) → r.ring.prepared = true →
      exec (.apply k h time) s = .next (s.finish ((r.modRing fun x => { x with applyAt := some (time % 2 ^ 32), lapseAt := none }).set
        (.lock .prismCommitApplyTime) time)))

/-- R102, R104, R105, R107, R109, R120: the writes of a door that ask for a withdrawal or a return, for the lock, for staging and for a
prism commit, when the checks of R363 find nothing against them. -/
def Obligations.PrismWrites : Prop :=
  ∀ (s : State) (d : Door),
    (s.Takes d (entryWrite 0x3000 12 [1]) →
      exec (.facetWithdraw d) s = .next (s.finish ((s.fresh.withdraw none).verdict d 0))) ∧
    (s.Takes d (entryWrite 0x3000 12 [2]) → s.ring.withdrawing = false → s.get (.ring .ringMemberState) = 4 →
      s.ring.faultWithdrawn = none → s.ring.seenEpoch ≤ s.get (.ring .prismEpoch) →
      exec (.facetReturn d) s = .next (s.finish ((((((s.fresh.modRing fun r => { r with withdrawing := false, faultWithdrawn := none }).set
        (.ring .ringMemberState) 0).placeMember).comeBack).verdict d 0)))) ∧
    (∀ tag, 0 < tag → tag < 65536 → s.Takes d (entryWrite 0x2400 1 (bytesBe 2 tag)) → s.lockState (callerAt d) ≠ 2 →
      s.ring.lockPending = none → exec (.prismLockRequest d tag) s = .next (s.finish (((s.fresh.modRing fun r =>
        { r with lockPending := some (d, tag), lockLosses := 0, lockGaveUp := none, lockFrom :=
          (callerAt d).src }).sendRequest).verdict d 0))) ∧
    (s.Takes d (entryWrite 0x2400 1 [0, 0]) → s.lockState (callerAt d) = 2 → exec (.prismLockRelease d) s =
      .next (s.finish ((s.fresh.freeLock.broadcast 5 0 (.lock (.tell .release))).verdict d 0))) ∧
    (∀ w e, s.Takes d w → prismIndex w.index = true → entryOf w.index w.sub = some e → e.access = .rwc → s.lockState (callerAt d) = 2 →
      s.commitBusy = false →
      exec (.prismStagingWrite (.door d) w) s = .next (s.finish ((s.fresh.stageOut w (s.spliced e w)).verdict d 0))) ∧
    (s.Takes d (entryWrite 0x2400 7 [1]) → s.commitBusy = false → s.lockState (callerAt d) = 2 →
      s.isTrue (.ring .quorumState) = true → exec (.prismCommit d) s = .next (s.finish ((s.fresh.startCommit
        ((s.members.map Prod.snd).filter fun u => decide (u ≠ s.ident.uniqueId) && s.reachable u) false).verdict d 0))) ∧
    (s.Takes d (entryWrite 0x2400 7 [2]) → s.commitBusy = false → s.lockState (callerAt d) = 2 →
      exec (.prismCommitDiscard d) s = .next (s.finish (s.fresh.discardStage.verdict d 0))) ∧
    (∀ i : Image, s.Takes d (entryWrite (0x2410 + i.val) 7 [1]) → s.commitBusy = false → s.lockState (callerAt d) = 2 →
      exec (.imageDefaultMap d i) s = .next (s.finish ((s.fresh.writeDefaultMap (callerAt d) i).2.verdict d 0)) ∧
        (s.fresh.writeDefaultMap (callerAt d) i).1 = 0)

/-- R372, R375, R377 to R379, R383, R384: the writes of a door that change the dictionary, when the checks of R363 find nothing against
them, and the passes and timers of the configuration. -/
def Obligations.ConfigurationCommands : Prop :=
  ∀ (s : State) (d : Door),
    (∀ w e, s.Takes d w → (w.index = 0x2800 ∧ s.swapping = false ∨ (∃ c : Door, w.index = 0x2C08 + c.num ∧ w.sub < 3 ∧
        (s.session c).opened = false ∧ (s.session c).opening = none) ∨ w.index = 0x4808 ∧ s.lens.armed = false) →
      entryOf w.index w.sub = some e → e.access = .rw → ((∀ x, s.doors.wrote = some x → x.1 = s.time.elapsed →
        x.2.1 ≤ d.num ∨ x.2.2.map Prod.fst ≠
        (s.spliced e w).map Prod.fst) → exec (.registerWrite d w) s = .next (s.finish (({ s.fresh.setAll (s.spliced e w) with
          doors := { s.doors with wrote := some (s.time.elapsed, d.num, s.spliced e w) } }).verdict d 0))) ∧
      (∀ k l, s.doors.wrote = some (s.time.elapsed, k, l) → d.num < k → l.map Prod.fst = (s.spliced e w).map Prod.fst →
        exec (.registerWrite d w) s = .next (s.finish (((s.fresh.setAll (s.spliced e w)).setAll l).verdict d 0)))) ∧
    (∀ (i : Image) w e, s.Takes d w → w.index = 0x2040 + i.val → entryOf w.index w.sub = some e → e.access = .rw →
      exec (.registerWrite d w) s = .next (s.finish ((s.fresh.writePairs i (s.spliced e w)).2.verdict d 0))) ∧
    (∀ idx sub data e, idx < 0x2000 → s.Takes d (entryWrite idx sub data) → entryOf idx sub = some e → e.access = .rwc →
      s.pdoCheck idx (s.spliced e (entryWrite idx sub data)) = 0 → exec (.communicationObjectWrite d idx sub data) s =
        .next (s.finish (((s.fresh.setAll (s.spliced e (entryWrite idx sub data))).unreference).verdict d 0))) ∧
    (∀ idx sub v e r rest, v < 2 ^ 32 → s.Takes d (entryWrite idx sub (bytesBe 4 v)) → entryOf idx sub = some e → e.access = .rs →
      e.regs = r :: rest → exec (.eventFlagClear d idx sub v) s = .next (s.finish ((s.fresh.clearEvents r v).verdict d 0))) ∧
    (∀ w e, s.Takes d w → 0x3014 ≤ w.index → entryOf w.index w.sub = some e → e.access = .rwc →
      s.mayStage (callerAt d) = true → exec (.configStagingWrite d w) s =
        .next (s.finish ((s.fresh.stageLocal (callerAt d) (s.spliced e w)).verdict d 0))) ∧
    (s.Takes d (entryWrite 0x4C01 1 [1]) → s.cfg.storing = false → s.cfg.prismStore = false → s.mayStage (callerAt d) = true →
      exec (.configCommit d) s = .next (s.finish
        ((s.fresh.unlapse (d, none)).runCommit.2.verdict d (s.fresh.unlapse (d, none)).runCommit.1))) ∧
    (s.Takes d (entryWrite 0x4C01 1 [2]) → s.mayStage (callerAt d) = true →
      exec (.configDiscard d) s = .next (s.finish (s.fresh.endStage.verdict d 0))) ∧
    (s.Takes d (entryWrite 0x4C01 1 [3]) → s.mayStage (callerAt d) = true →
      exec (.configReload d) s = .next (s.finish ((s.fresh.configReload (callerAt d)).verdict d 0))) ∧
    (s.Takes d (entryWrite 0x4C01 1 [4]) →
      exec (.configDefaults d) s = .next (s.finish ((s.fresh.configDefaults (callerAt d)).verdict d 0))) ∧
    (∀ v, v < 2 ^ 32 → s.Takes d (entryWrite 0x4C01 7 (bytesBe 4 v)) → exec (.configCrcReferenceWrite d v) s =
      .next (s.finish (({ s.fresh.set (.commit .configCrcReference) v with cfg := { s.cfg with refArmed := true } }).verdict d 0))) ∧
    (s.coreRuns = true → s.configCrc = s.get (.commit .configCrcReference) → s.cfg.refArmed = true → exec .configCrcPass s =
      .next (s.finish (((s.fresh.set (.commit .configCrcLive) s.configCrc).set (.commit .configCrcState) 1).endLive 55))) ∧
    (s.coreRuns = true → s.configCrc ≠ s.get (.commit .configCrcReference) → s.get (.commit .configCrcState) = 1 → exec .configCrcPass s =
      .next (s.finish ((((s.fresh.set (.commit .configCrcLive) s.configCrc).set (.commit .configCrcState) 2).flag (.doors .doorEvents)
        doorCrcMismatch).raiseLive 55 s.configCrc))) ∧
    (s.coreRuns = true → s.cfg.owner ≠ none → s.cfg.stagedAt + s.get (.commit .configStageIdleLimit) * 1000 ≤ s.elapsedMs →
      exec .stageOwnershipLapse s = .next (s.finish s.fresh.lapseStage)) ∧
    (∀ dom x e, (s.doors.posted.find? fun x => x.domain == dom) = some x → entryAt x.write.index x.write.sub = some e →
      s.domainOn dom = true → exec (.postedWriteApply dom) s = .next (s.finish
        ((({ s.fresh with doors := { s.doors with posted := s.doors.posted.erase x } }).doorEffect (callerAt x.door) x.write e).2)))

/-- R397, R398, R429, R430, R433: the writes and reads of a door that act on Lens and on provocation, and what ends a provocation. -/
def Obligations.LensCommands : Prop :=
  ∀ (s : State) (d : Door),
    (s.Takes d (entryWrite 0x4800 11 [1]) → s.lensFill < s.lensCapacity → exec (.lensRestart d) s =
      .next (s.finish ((s.fresh.modLens fun x => { x with stopped := false }).verdict d 0))) ∧
    (s.Takes d (entryWrite 0x4800 11 [2]) → exec (.lensDiscard d) s =
      .next (s.finish ((s.fresh.set (.lens .lensReadPtr) (s.get (.lens .lensWritePtr))).verdict d 0))) ∧
    (∀ v, v < 2 ^ 32 → s.Takes d (entryWrite 0x4800 10 (bytesBe 4 v)) →
      (s.get (.lens .lensWritePtr) + 2 ^ 32 - v) % 2 ^ 32 ≤ s.lensCapacity →
      exec (.lensReadPtrWrite d v) s = .next (s.finish ((s.fresh.set (.lens .lensReadPtr) v).verdict d 0))) ∧
    (∀ v, v < 2 ^ 32 → s.Takes d (entryWrite 0x4800 10 (bytesBe 4 v)) →
      s.lensCapacity < (s.get (.lens .lensWritePtr) + 2 ^ 32 - v) % 2 ^ 32 →
      exec (.lensReadPtrWrite d v) s = .next (s.finish (s.fresh.verdict d abortRange))) ∧
    (∀ len, s.doorReach d = true → s.readChecks (callerAt d) 0x4800 9 false 0 len = 0 → exec (.lensDataRead d len) s =
      .next (s.finish ((((s.fresh.readLens (if len = 0 then (if d = .loc then 239 else 1024) else min len
        (if d = .loc then 239 else 1024))).2.answered
        d 0).readDone d).emit (.verdict d 0 (s.fresh.readLens (if len = 0 then (if d = .loc then 239 else 1024) else min len
          (if d = .loc then 239 else
          1024))).1)))) ∧
    (s.Takes d (entryWrite 0x4801 2 [1]) → exec (.lensCounterSnapshot d) s = .next (s.finish (((s.fresh.modLens fun x =>
      { x with snapshot := some x.counters }).set (.lensCnt .lensSnapshotTime) s.now).verdict d 0))) ∧
    (s.Takes d (entryWrite 0x4801 3 [1]) → exec (.lensCounterClear d) s =
      .next (s.finish ((s.fresh.modLens fun x => { x with counters := [], snapshot := none }).verdict d 0))) ∧
    (s.Takes d (entryWrite 0x4808 1 [1]) → s.lens.armed = false → s.straps.testBit 6 = true → s.pins.testBit 6 = true →
      (∃ k, s.get (.provoke (.provokeRates k)) ≠ 0) →
      exec (.provokeArm d) s = .next (s.finish ((((((s.fresh.modLens fun x => { x with
        armed := true, armedAt := s.elapsedMs,
        seqs := (List.range 7).map s.provokeStart }).forEach (List.finRange 7) fun s k => s.set (.provoke (.provokeCount k)) 0).set
          (.provoke .provokeState) 1).flag (.lens .lensEvents) lensProvokeArmed).raiseLive 61 d.num).verdict d 0))) ∧
    (s.Takes d (entryWrite 0x4808 1 [1]) → s.lens.armed = false → (s.straps.testBit 6 = false ∨ s.pins.testBit 6 = false) →
      exec (.provokeArm d) s =
        .next (s.finish (((s.fresh.set (.provoke .provokeState) 2).flag (.lens .lensEvents) lensProvokeRefused).verdict d abLocal))) ∧
    (s.Takes d (entryWrite 0x4808 1 [0]) → exec (.provokeDisarm d) s = .next (s.finish (s.fresh.disarm.verdict d 0))) ∧
    (s.coreRuns = true → s.lens.armed = true → exec .provokeRunTimeEnd s = .next (s.finish ((((s.fresh.modLens fun x =>
      { x with armed := false }).set (.provoke .provokeState) 0).flag (.lens .lensEvents) lensProvokeDisarmed).endLive 61))) ∧
    (∀ stays, s.coreRuns = true → exec (.injEnLow stays) s =
      .next (s.finish (({ s.fresh with pins := if stays then setBit s.pins 6 false else s.pins }).disarm)))

/-- R419 to R423: a firmware update from a door that owns it: erase, data, check, selection, cancelling, and what the flash and the
steward's start do. -/
def Obligations.FirmwareCommands : Prop :=
  ∀ (s : State) (d : Door), s.boot.recovery = false → (s.boot.owner = none ∨ s.boot.owner = some d) →
    (s.Takes d (entryWrite 0x4C03 5 [1]) → s.get (.fw .fwUpdateState) = 0 ∨ s.get (.fw .fwUpdateState) = 5 →
      exec (.fwErase d) s = .next (s.finish (((((s.fresh.modBoot fun x => { x with
        owner := some d,
        target := some (1 - s.get (.fw .fwRunningBank)), pages := [], eraseCut := false,
        valid := x.valid.set (1 - s.get (.fw .fwRunningBank)) false }).set (.fw .fwUpdateState) 1).showBanks).emit
          (.flash 0x20 (0x100000 * (1 - s.get (.fw .fwRunningBank) + 1)) 0x100000)).verdict d 0))) ∧
    (s.coreRuns = true → s.boot.running = true → s.get (.fw .fwUpdateState) = 1 → s.boot.eraseCut = false → exec .fwEraseDone s =
      .next (s.finish (s.fresh.set (.fw .fwUpdateState) 2))) ∧
    (∀ offset data, offset % 256 = 0 → offset + data.length ≤ 0x100000 → s.get (.fw .fwUpdateState) = 2 → s.cfg.storing = false →
      s.cfg.prismStore = false → (∀ k, Table.get [] s.boot.pages k = []) →
      s.Takes d { index := 0x4C03, sub := 4, offset := offset, data := data } →
      exec (.fwUpdateData d offset data) s = .next (s.finish ((s.fresh.modBoot fun x =>
        { x with pages := layPages ((data.length + 255) / 256) (offset / 256) data x.pages }).verdict d 0))) ∧
    (∀ t, s.boot.target = some t → s.get (.fw .fwUpdateState) = 2 → s.imageGood = true → s.Takes d (entryWrite 0x4C03 5 [2]) →
      exec (.fwVerify d) s = .next (s.finish ((((s.fresh.modBoot fun x => { x with
        valid := x.valid.set t true,
        versions := x.versions.set t (fieldAt (s.bankBytes 64) 4 4) }).set (.fw .fwUpdateState) 3).showBanks).verdict d 0))) ∧
    (∀ t, s.boot.target = some t → s.get (.fw .fwUpdateState) = 2 → s.imageGood = false → s.Takes d (entryWrite 0x4C03 5 [2]) →
      exec (.fwVerify d) s = .next (s.finish (((s.fresh.set (.fw .fwUpdateState) 5).raise 56 t).verdict d 0))) ∧
    (∀ t, s.boot.target = some t → s.get (.fw .fwUpdateState) = 3 → s.Takes d (entryWrite 0x4C03 5 [3]) →
      exec (.fwSelect d) s = .next (s.finish (((s.fresh.modBoot fun x => { x with
        bank := t, trial := true,
        fails := x.fails.set t 0 }).set (.fw .fwUpdateState) 4).verdict d 0))) ∧
    (∀ t, s.boot.target = some t → (1 ≤ s.get (.fw .fwUpdateState) ∧ s.get (.fw .fwUpdateState) ≤ 3 ∨ s.get (.fw .fwUpdateState) = 5) →
      s.Takes d (entryWrite 0x4C03 5 [4]) → exec (.fwCancel d) s = .next (s.finish ((((s.fresh.modBoot fun x =>
        { x with valid := x.valid.set t false, owner := none, target := none, pages := [] }).set (.fw .fwUpdateState) 0).showBanks).verdict
          d 0))) ∧
    (s.coreRuns = true → s.boot.running = true → s.cfg.storing = false → s.cfg.prismStore = false → s.get (.fw .fwUpdateState) = 4 →
      exec .fwSelectRestart s = .next (s.finish ((s.fresh.stewardStops).modBoot fun x => { x with counted := true }))) ∧
    (s.coreRuns = true → s.boot.running = true → s.boot.started = true → exec .fwGoodStart s = .next (s.finish ((s.fresh.modBoot fun x =>
      { x with fails := x.fails.set (s.get (.fw .fwRunningBank)) 0,
               trial := if s.get (.fw .fwRunningBank) = x.bank then false else x.trial }).set (.fw .fwFailedStarts) 0)))

/-- R129 to R131, R134: what the entry facet answers a host on a relayed port that is open, and what it asks of the owning side. -/
def Obligations.RelayedTransfers : Prop :=
  ∀ (s : State) (i : Image) (addr ep : Nat) (x : Xlate), s.coreRuns = true → s.hubServes i = true → s.relayTarget i addr = some x →
    s.relayed i x.port = true → s.relayOpen i x.port = true →
    ((∀ q, (s.infoOf i addr x.port).endpoint (s.mapEp i addr ep) true = some q → refusedType q = false) →
      s.relayTrouble i addr (s.mapEp i addr ep) true = none → s.mapEp i addr ep ≠ 0 →
      (∀ acked, (s.relayEp i addr (s.mapEp i addr ep) true).held = [] → (s.relayEp i addr (s.mapEp i addr ep) true).asks = [] →
        exec (.hostHsInRelayed i addr ep acked) s = .next (s.finish ((s.fresh.answerHs i addr ep .nak).ask i addr (s.mapEp i addr ep) true x
          (1 + (s.fresh.answerHs i addr ep .nak).readAhead i addr (s.mapEp i addr ep) x.port) false []))) ∧
      (∀ d rest, (s.relayEp i addr (s.mapEp i addr ep) true).held = d :: rest →
        (s.relayEp i addr (s.mapEp i addr ep) true).heldAt ≠ some s.time.elapsed → exec (.hostHsInRelayed i addr ep false) s =
          .next (s.finish (s.fresh.answerData i addr ep (s.relayEp i addr (s.mapEp i addr ep) true).hostToggle d.2)))) ∧
    ((∀ q, (s.infoOf i addr x.port).endpoint (s.mapEp i addr ep) false = some q → refusedType q = false) →
      s.relayTrouble i addr (s.mapEp i addr ep) false = none →
      exec (.hostPingRelayed i addr ep) s = .next (s.finish (s.fresh.answerHs i addr ep
        (if s.outRoom i addr (s.mapEp i addr ep) then .ack else .nak))) ∧
      (s.mapEp i addr ep ≠ 0 → ∀ toggle data,
        data.length ≤ packetSize (s.mapEp i addr ep) ((s.infoOf i addr x.port).endpoint (s.mapEp i addr ep) false) →
        ((s.relayEp i addr (s.mapEp i addr ep) false).lastOut = some toggle → exec (.hostHsOutRelayed i addr ep toggle data) s =
          .next (s.finish ((s.fresh.bump (.relay .relayDupOutCount)).answerHs i addr ep .ack))) ∧
        ((s.relayEp i addr (s.mapEp i addr ep) false).lastOut ≠ some toggle → s.outRoom i addr (s.mapEp i addr ep) = false →
          exec (.hostHsOutRelayed i addr ep toggle data) s = .next (s.finish (s.fresh.answerHs i addr ep .nak))) ∧
        ((s.relayEp i addr (s.mapEp i addr ep) false).lastOut ≠ some toggle → s.outRoom i addr (s.mapEp i addr ep) = true →
          exec (.hostHsOutRelayed i addr ep toggle data) s = .next (s.finish
            (let t := s.fresh.setRelayEp i addr (s.mapEp i addr ep) false { s.relayEp i addr (s.mapEp i addr ep) false with
              stored := (s.relayEp i addr (s.mapEp i addr ep) false).stored ++ [data], lastOut := some toggle }
             (t.answerHs i addr ep (if t.outRoom i addr (s.mapEp i addr ep) || s.fullSpeed i then .ack else .nyet)).ask i addr
               (s.mapEp i addr ep) false x 1 false data))))) ∧
    (∀ data, data.length = 8 → s.absorbs i addr x.port data = false → (s.relayEp i addr 0 false).control = 0 →
      ((s.relayEp i addr 0 false).deferred = true ∨ (s.relayEp i addr 0 false).stored = []) →
      exec (.hostSetupRelayed i addr 0 data) s = .next (s.finish (((((s.fresh.count (.relay .relayOutDropBytes) 0).setRelayEp i addr 0 false
        { seq := (s.relayEp i addr 0 false).seq, setup := data, lastOut := some false,
          control := if byteAt data 6 + 256 * byteAt data 7 = 0 then 2 else if byteAt data 0 ≥ 128 then 1 else 2 }).setRelayEp i addr 0
            true { seq := (s.relayEp i addr 0 true).seq, hostToggle := true }).answerHs i addr 0 .ack).ask i addr 0 false x 1 true
              data))) ∧
    (∀ dirIn q rest, (s.relayEp i addr ep dirIn).asks = q :: rest → (s.relayEp i addr ep dirIn).retries < 4 →
      exec (.relayTimeout i addr ep dirIn) s = .next (s.finish (((s.fresh.setRelayEp i addr ep dirIn { s.relayEp i addr ep dirIn with
        retries := (s.relayEp i addr ep dirIn).retries + 1 }).bump (.relay .relayRetryCount)).sendAsk i addr ep dirIn x q))) ∧
    (∀ dirIn q rest, (s.relayEp i addr ep dirIn).asks = q :: rest → 4 ≤ (s.relayEp i addr ep dirIn).retries →
      exec (.relayTimeout i addr ep dirIn) s = .next (s.finish (s.fresh.relayAnswer i addr x.port ep dirIn q.setup q.seq 3 s.now [])))

/-- R123 to R126, R129, R131, R134, R140: what a record of the relay does once the link layer has delivered its frame (`t` is the state it
left), when it has the shape of R124 and names a port of this facet or of its sender, and what becomes of one that has not. -/
def Obligations.RelayRecords : Prop :=
  ∀ (s : State) (k : Link) (h : FrameHdr) (r : RelayHdr) (data : List Byte) (t : State), s.coreRuns = true → s.domainOn 6 = true →
    (∀ p i m, s.fresh.receive k h 8 (.relay r data) = (true, t) → t.recordShape h r 1 data.length = true → t.recordPort r = some p →
      t.logicalOf p = some (i, m) → t.pst p = 4 → t.outside i m = false → exec (.xactReq k h r data) s =
        .next (s.finish (t.ownRequest h.src p r data fun s res stamp d => s.relayReply h.src i m r res stamp d))) ∧
    (∀ i m, s.fresh.receive k h 9 (.relay r data) = (true, t) → t.recordShape h r 2 data.length = true → r.seq ≠ 0 →
      t.recordLogical h r = some (i, m) → exec (.xactRsp k h r data) s = .next (s.finish
        (t.relayAnswer i ((t.hostAddrOf i m r.devAddr).getD 0) m r.ep r.dirIn r.setup r.seq r.result r.stamp data))) ∧
    (∀ p i m, s.fresh.receive k h 9 (.relay r data) = (true, t) → t.recordShape h r 2 data.length = true → t.recordPort r = some p →
      t.logicalOf p = some (i, m) → t.keeps i m = true → t.entryHere i = false → r.dirIn = true → r.seq = 0 →
      exec (.xactRsp k h r data) s = .next (s.finish (t.keepReadAhead i m r.devAddr r.ep p r.stamp data))) ∧
    (∀ p, s.fresh.receive k h 8 (.relay r data) = (true, t) → t.recordShape h r 5 data.length = true → t.recordPort r = some p →
      (r.ep = 0 → exec (.cancel k h r data) s = .next (s.finish
        (t.setOwnEp p r.devAddr 0 false { t.ownEp p r.devAddr 0 false with jobs := [], setup := [], gather := [] }))) ∧
      (r.ep ≠ 0 → exec (.cancel k h r data) s = .next (s.finish
        ((t.setOwnEp p r.devAddr r.ep false { t.ownEp p r.devAddr r.ep false with jobs := [], setup := [], gather := [] }).setOwnEp p
          r.devAddr r.ep true { t.ownEp p r.devAddr r.ep true with jobs := [] })))) ∧
    (∀ p i m q, s.fresh.receive k h 8 (.portReq r q) = (true, t) → t.recordShape h r 3 (h.length - 16) = true → t.recordPort r = some p →
      t.logicalOf p = some (i, m) → exec (.portReq k h r q) s =
        .next (s.finish ((t.portRequest p q).modPort p fun x => { x with answerTo := some (h.src, h.tag, r.seq) }))) ∧
    (∀ i m b, s.fresh.receive k h 9 (.portStatus r b) = (true, t) → t.recordShape h r 4 (h.length - 16) = true →
      t.recordLogical h r = some (i, m) → b.status.testBit psConn = true → b.status.testBit psReset = false →
      b.change.testBit psReset = false →
      ((t.hub i).waitsOn ≠ some (m, r.seq) → exec (.portStatus k h r b) s =
        .next (s.finish (t.setRemotePort i m { b with change := (t.remotePort i m).change ||| b.change }))) ∧
      ((t.hub i).waitsOn = some (m, r.seq) → exec (.portStatus k h r b) s =
        .next (s.finish (((t.setRemotePort i m { b with change := (t.remotePort i m).change ||| b.change }).modHub i fun x =>
          { x with waitsOn := none }).emit .controlAck)))) ∧
    (∀ p, s.fresh.receive k h 10 (.relay r data) = (true, t) → t.recordShape h r 6 data.length = true → t.recordPort r = some p →
      t.pst p = 4 → (t.get (.port p .portSpeed) = 1 ∨ t.get (.port p .portSpeed) = 2) → (t.port p).tt.stopped = false →
      ((t.port p).tt.staging.map fun q => q.data.length).sum + data.length ≤ 3584 → exec (.splitStart k h r data) s =
        .next (s.finish ((t.modPort p fun x => { x with tt := { x.tt with staging := x.tt.staging ++
          [{ addr := r.devAddr, ep := r.ep, dirIn := r.dirIn, setup := r.setup, iso := r.epType == 3, micro := r.stamp % 16384,
             toggle := false, data := data, remote := some (h.src, h.tag, r.seq), periodic := decide (2 ≤ r.epType),
             maxPacket := r.maxPacket }] } }).emit (.ttSplit p r.devAddr r.ep)))) ∧
    (s.fresh.receive k h 8 (.relay r data) = (true, t) → t.recordShape h r 1 data.length = false → exec (.xactReq k h r data) s =
      .next (s.finish ((t.bump (.link k .linkViolationCount)).flag (.ring .ringEvents) ringViolation))) ∧
    (s.fresh.receive k h 10 (.relay r data) = (true, t) → t.recordShape h r 6 data.length = false → exec (.splitStart k h r data) s =
      .next (s.finish ((t.bump (.link k .linkViolationCount)).flag (.ring .ringEvents) ringViolation))) ∧
    (s.fresh.receive k h 10 (.relay r data) = (true, t) → t.recordShape h r 7 data.length = false → exec (.splitResult k h r data) s =
      .next (s.finish ((t.bump (.link k .linkViolationCount)).flag (.ring .ringEvents) ringViolation))) ∧
    (∀ q, s.fresh.receive k h 10 (.relay r data) = (true, t) → t.recordShape h r 7 data.length = true →
      (t.splits.find? fun y => y.tag == h.tag && y.seq == r.seq && y.result.isNone) = some q → (r.result ≠ 0 ∨ q.dirIn = true) →
      exec (.splitResult k h r data) s = .next (s.finish { t with splits := t.splits.map fun y =>
        if y.tag == h.tag && y.seq == r.seq && y.result.isNone then { y with result := some (r.result, data) } else y })) ∧
    (∀ q, s.fresh.receive k h 10 (.relay r data) = (true, t) → t.recordShape h r 7 data.length = true →
      (t.splits.find? fun y => y.tag == h.tag && y.seq == r.seq && y.result.isNone) = some q → r.result = 0 → q.dirIn = false →
      exec (.splitResult k h r data) s = .next (s.finish
        (let u : State := { t with splits := t.splits.map fun y =>
          if y.tag == h.tag && y.seq == r.seq && y.result.isNone then { y with result := some (r.result, data) } else y }
         u.setRelayEp (imageOf q.image) q.addr (u.mapEp (imageOf q.image) q.addr q.ep) false
          { u.relayEp (imageOf q.image) q.addr (u.mapEp (imageOf q.image) q.addr q.ep) false with lastOut := some q.toggle }))) ∧
    (s.fresh.receive k h 10 (.relay r data) = (true, t) → t.recordShape h r 7 data.length = true →
      (t.splits.find? fun y => y.tag == h.tag && y.seq == r.seq && y.result.isNone) = none →
      exec (.splitResult k h r data) s = .next (s.finish ((t.bump (.relay .relayStaleRspCount)).flag (.relay .relayEvents) relayStale)))

/-- R143 to R145, R147, R151, R160: the writes of a door that arm, direct and end hold-over, when the checks of R363 find nothing against
them, on a facet that stands alone. -/
def Obligations.HoldoverWrites : Prop :=
  ∀ (s : State) (d : Door) (i : Image), s.alone = true →
    (s.Takes d (entryWrite (0x2810 + i.val) 1 [1]) → s.holdState i = 0 → s.enabled i = true → exec (.holdoverArm d i true) s =
      .next (s.finish (((s.fresh.set (.hold4 i .holdoverArm) 1).setHoldState i 1).verdict d 0))) ∧
    (s.Takes d (entryWrite (0x2810 + i.val) 1 [0]) → (s.holdState i = 4 ∨ s.holdState i = 5 ∨ s.holdState i = 6) →
      exec (.holdoverArm d i false) s = .next (s.finish (s.fresh.verdict d abortState))) ∧
    (s.Takes d (entryWrite (0x2810 + i.val) 2 [1]) → s.holdState i = 1 → exec (.holdoverSuspendIntent d i true) s =
      .next (s.finish ((((s.fresh.set (.hold4 i .holdoverSuspendIntent) 1).modHold i fun h =>
        { h with windowOpen := true, intentAt := some s.time.elapsed }).setHoldState i 2).verdict d 0))) ∧
    (s.Takes d (entryWrite (0x2810 + i.val) 2 [0]) → s.holdState i = 2 → exec (.holdoverSuspendIntent d i false) s =
      .next (s.finish (((s.fresh.endIntent i).setHoldState i 1).verdict d 0))) ∧
    (s.Takes d (entryWrite (0x2810 + i.val) 3 [1]) → (s.holdState i = 1 ∨ s.holdState i = 2 ∨ s.holdState i = 3) →
      exec (.holdoverCommandEnter d i) s = .next (s.finish ((s.fresh.hostLoss i 4).verdict d 0))) ∧
    (s.Takes d (entryWrite (0x2810 + i.val) 3 [1]) → ¬ (s.holdState i = 1 ∨ s.holdState i = 2 ∨ s.holdState i = 3) →
      exec (.holdoverCommandEnter d i) s = .next (s.finish (s.fresh.verdict d abortState))) ∧
    (s.Takes d (entryWrite (0x2810 + i.val) 3 [2]) → s.adoptRefusal i = 0 → (s.holdState i = 4 ∨ s.holdState i = 5) →
      exec (.holdoverCommandAdopt d i) s = .next (s.finish ((s.fresh.startAdoption i true).verdict d 0))) ∧
    (s.Takes d (entryWrite (0x2810 + i.val) 3 [2]) → s.adoptRefusal i = 0 → (s.holdState i = 1 ∨ s.holdState i = 2 ∨ s.holdState i = 3) →
      exec (.holdoverCommandAdopt d i) s = .next (s.finish (((s.fresh.hostLoss i 4).startAdoption i true).verdict d 0))) ∧
    (s.Takes d (entryWrite (0x2810 + i.val) 3 [2]) → s.adoptRefusal i ≠ 0 → exec (.holdoverCommandAdopt d i) s =
      .next (s.finish (((s.fresh.set (.hold4 i .adoptRefusal) (s.adoptRefusal i)).modHold i fun h => { h with tell := true }).verdict d
        abortState))) ∧
    (s.Takes d (entryWrite (0x2810 + i.val) 3 [3]) → (s.holdState i = 4 ∨ s.holdState i = 5) →
      exec (.holdoverCommandAbandon d i) s = .next (s.finish ((s.fresh.abandonHold i).verdict d 0))) ∧
    (s.Takes d (entryWrite (0x2810 + i.val) 3 [4]) → s.holdState i = 5 → exec (.holdoverCommandWake d i) s =
      .next (s.finish ((s.fresh.callWake i 0).verdict d 0))) ∧
    (∀ j, s.Takes d (entryWrite 0x2800 4 [1]) → s.swapping = false →
      ((List.range 256).find? fun j => s.slotCheck (s.shadowWord j) ≠ 0) = some j → exec (.holdoverTableSwap d) s =
        .next (s.finish (((s.fresh.set (.hold .holdoverTableStatus) (3 + 256 * j + 65536 * s.slotCheck (s.shadowWord j))).flag
          (.hold .holdoverEvents) holdTableRefused).verdict d 0))) ∧
    (s.Takes d (entryWrite 0x2800 4 [1]) → s.swapping = false → (∀ j, s.slotCheck (s.shadowWord j) = 0) →
      (∀ i, (s.hub i).locked = true) → exec (.holdoverTableSwap d) s = .next (s.finish (((({ s.fresh.set (.hold .holdoverTableStatus) 1 with
        swapping := true, switched := 0 }).setRegBit (.hold .holdoverTableActive) 7 true).forEach (List.finRange 4) fun s i =>
          s.modHold i fun h => { h with swapAt := some s.time.elapsed }).verdict d 0)))

/-- R144 to R147, R149, R151, R153, R155, R156, R158, R160 to R163, R168, R169: what the timers, the upstreams, the schedule and the
adoption of an image do to its hold-over. -/
def Obligations.HoldoverEvents : Prop :=
  ∀ (s : State) (i : Image), s.coreRuns = true →
    (s.holdState i = 2 → (s.hold i).windowOpen = true → exec (.suspendIntentWindowEnd i) s = .next (s.finish
      ((((s.fresh.bump (.hold .suspendIntentLapseCount)).flag (.hold .holdoverEvents) holdIntentLapse).endIntent i).setHoldState i 1))) ∧
    (∀ u, (s.up u).vbus = true → exec (.upstreamVbusLoss u) s =
      .next (s.finish ((s.fresh.modUp u fun x => { x with vbus := false }).upstreamLost u 1))) ∧
    (∀ u, (s.up u).attached = true → exec (.upstreamDetach u) s = .next (s.finish
      ((((s.fresh.set (.pd .tcUpstreamRp) (putBits (s.get (.pd .tcUpstreamRp)) (2 * u.num + 1) (2 * u.num) 0)).modUp u fun x =>
        { x with attached := false }).upstreamLost u 2).modUp u fun x => { x with vbus := false }))) ∧
    (s.hubHere i = true → (s.hub i).config = 1 → (s.hub i).suspended = false → (s.hub i).resuming = false → s.fullSpeed i = false →
      s.holdState i = 1 → exec (.sofLossDeclaration i) s = .next (s.finish (s.fresh.hostLoss i 3))) ∧
    (∀ u, s.isTrue (.hold4 i .adoptAuto) = true → s.mirrorUp i = some u → (s.holdState i = 4 ∨ s.holdState i = 5) →
      exec (.adoptAutoDelayExpiry i) s =
        .next (s.finish ((s.fresh.startAdoption i true).modHold i fun h => { h with autoAt := some s.time.elapsed }))) ∧
    (∀ u, s.mirrorUp i = some u → s.holdState i = 6 → (s.hold i).viaMirror = true → (s.hold i).attached = false →
      (s.up u).attached = true → exec (.adoptMirrorAttach i) s = .next (s.finish ((((s.fresh.modHold i fun h => { h with
        attached := true,
        exchanged := !h.exchanged }).defaultHub i).present u .hub).tellHold i 6 8))) ∧
    (∀ m, (s.entryHere i = true ∨ s.alone = true) → s.heldPort i m = true → (s.record i m).stage = .addressed →
      exec (.adoptDeviceTimeout i m) s =
      .next (s.finish ((s.fresh.diverge i m).adoptDevice i m true))) ∧
    (∀ m p, s.place i m = .own p → (s.port p).absorbing = true → s.pst p ≠ 6 → s.heldPort i m = true →
      exec (.absorbedResetComplete i m) s = .next (s.finish (((((({ s.fresh with
        ownEps := s.ownEps.filter fun e => decide (e.1.1 ≠ p) }).setPc p psReset).setPs p psEnable true).setPst p 4).modPort p fun x =>
        { x with absorbing := false, globalSusp := false }).modRecord i m fun r => { r with
          stage := .absorbed,
          resetOrder := s.nextReset i }))) ∧
    (s.stepDecided i = true → exec (.imageStep i) s =
      .next (s.finish ((s.fresh.logImageStep i (if s.holdState i = 6 then 2 else 3)).imageStep i))) ∧
    (s.holdState i = 6 → exec (.adoptImageTimeout i) s = .next (s.finish (s.fresh.modHold i fun h => { h with stepDue := true }))) ∧
    (s.swapping = true → s.switched.testBit i.val = false → (s.hold i).swapAt ≠ some s.time.elapsed →
      exec (.tableSwitchBoundary i) s = .next (s.finish (s.fresh.switchImage i))) ∧
    (s.holdState i ≠ 5 → (s.hold i).started = true → (s.hold i).boundary ≠ 0 → exec (.holdoverSofBoundary i) s =
      .next (s.finish (let n := ((s.hold i).lastCount + s.nextBoundary i) % 16384
                       let t := s.fresh.setHold i { s.hold i with boundary := s.nextBoundary i, count := n }
                       let t := { (if s.holdState i = 4 ∨ s.holdState i = 6 then t.firstSof i n else t) with engineMissed := false }
                       let t := t.forEach (t.ownPorts i) fun t p =>
                         if (t.logicalOf p).any (fun e => t.onGrid i e.2) && t.awake p then t.gridSof i p n else t
                       ((if n % 8 = 0 then t.frameBoundary i else t).retryRelay i).grantAll))) ∧
    (s.holdState i = 4 → (s.hold i).started = true → (s.hold i).boundary = 0 → s.imageRows i ≠ [] → exec (.holdoverSofBoundary i) s =
      .next (s.finish (let k := s.nextBoundary i
                       let n := ((s.hold i).lastCount + k) % 16384
                       let t := s.fresh.setHold i { s.hold i with boundary := k, count := n }
                       let t := (t.logStep 1 i.val (((s.hold i).lastSof + k * 125000) % 2 ^ 32) (s.hold i).lastCount n
                         (((k : Int) - 1) * 125000) (s.imageRows i)).firstSof i n
                       let t := { t with engineMissed := false }
                       let t := t.forEach (t.ownPorts i) fun t p =>
                         if (t.logicalOf p).any (fun e => t.onGrid i e.2) && t.awake p then t.gridSof i p n else t
                       ((if n % 8 = 0 then t.frameBoundary i else t).retryRelay i).grantAll))) ∧
    (s.holdState i = 5 → exec (.holdoverSofBoundary i) s = .next (s.finish s.fresh)) ∧
    (∀ (j : Fin 256) e p q b, (s.slot j.val).left = false → (s.slot j.val).stage = 0 → s.entryNow j.val = e → e.valid = true →
      e.action = 3 →
      (s.slot j.val).entry = true → (s.slot j.val).running = false → (s.slot j.val).waiting = false → s.slotPort e = some (p, q) →
      s.slotPayload e.image e.target e.length = b → exec (.entryAction j) s = .next (s.finish ((s.fresh.modSlot j.val fun x => { x with
        waiting := true, word := s.wordNow e j.val,
        data := b }).submit (s.slotXact e p q false false none b (.entryAction j.val))))) ∧
    (∀ j : Fin 256, (s.slot j.val).entry = true → (s.slot j.val).running = false → exec (.entryActionTimeout j) s =
      .next (s.finish (({ s.fresh with waiting := s.waiting.filter fun q => decide (q.who ≠ Requester.entryAction j.val) }).entryFail
        j.val))) ∧
    (∀ (j : Fin 256) e p q, s.entryNow j.val = e → e.valid = true → e.action = 1 → s.inHold (imageOf e.image) = true →
      s.slotCount (imageOf e.image) e.port % 2 ^ e.interval = e.phase → s.absorbingAt (imageOf e.image) e.port = false →
      (s.slotPort e = none → exec (.slotOccurrence j) s = .next (s.finish (s.fresh.slotInactive j.val))) ∧
      (s.slotPort e = some (p, q) → (∀ k, (s.slot k).running = false ∧ (s.slot k).waiting = false ∧ (s.slot k).entry = false) →
        exec (.slotOccurrence j) s = .next (s.finish ((s.fresh.modSlot j.val fun x => { x with
          waiting := true, burst := 0,
          word := s.wordNow e j.val }).submit (s.slotXact e p q e.dirIn false none [] (.slot j.val)))))) ∧
    (∀ (j : Fin 256) e, s.entryNow j.val = e → e.valid = true → e.action = 1 → s.inHold (imageOf e.image) = true →
      s.slotCount (imageOf e.image) e.port % 2 ^ e.interval = e.phase → s.absorbingAt (imageOf e.image) e.port = true →
      exec (.slotOccurrence j) s = .next (s.finish s.fresh.slotSkip))

/-- R184, R187, R189 to R191, R199: the writes and reads of a door that open and close its session, deliver its records, mark, rewind,
release and flush a stream, and freeze the arbiter. -/
def Obligations.ReservoirWrites : Prop :=
  ∀ (s : State) (d : Door),
    (s.Takes d (entryWrite (0x2C08 + d.num) 3 [1]) → (s.session d).opened = false → (s.session d).opening = none → s.sessionHere d = true →
      (∀ e, e ≠ d → (s.session e).opened = false) → exec (.sessionOpen d) s = .next (s.finish (((((s.fresh.modSession d fun x =>
        { x with opened := true, served := [], opening := none, owner := none, whole :=
          0 }).set (.session d .sessionOpen) 1).set (.session d .sessionState) 1).set
          (.session d .sessionRecords) 0).verdict d 0))) ∧
    (∀ e, s.Takes d (entryWrite (0x2C08 + d.num) 3 [1]) → (s.session d).opened = false → (s.session d).opening = none →
      s.sessionHere d = true → e ≠ d →
      (s.session e).opened = true → s.sessionHere e = true →
      s.get (.session e .sessionStreams) &&& s.get (.session d .sessionStreams) ≠ 0 →
      exec (.sessionOpen d) s = .next (s.finish ((s.fresh.set (.session d .sessionState) 3).verdict d abortState))) ∧
    (s.Takes d (entryWrite (0x2C08 + d.num) 3 [0]) → s.sessionHere d = true → exec (.sessionClose d) s =
      .next (s.finish (((s.fresh.closeSession d).set (.session d .sessionOpen) 0).verdict d 0))) ∧
    (∀ len remote, d ≠ .upa → d ≠ .upb → 0 < len → len ≤ 239 → s.doorReach d = true →
      s.readChecks (callerAt d) (0x2C08 + d.num) 5 false 0 len = 0 → (s.session d).opened = true →
      (s.sessionHere d = true → (s.session d).readBy = none → exec (.sessionDataRead d len remote) s =
        .next (s.finish (((((s.fresh.readSession d 80 len []).2.modSession d fun x => { x with readBy := some d }).answered d 0).readDone
          d).emit (.verdict d 0 (s.fresh.readSession d 80 len []).1)))) ∧
      (∀ u, s.sessionHere d = false → s.sessionPeer d = some u → exec (.sessionDataRead d len remote) s =
        .next (s.finish (((((s.fresh.doorTo d u 1 0x2C0C 5 len []).2.countRemote d (remote.take len)).answered d 0).readDone d).emit
          (.verdict d 0 (remote.take len)))))) ∧
    (∀ n : Stream, s.configured n.val = true →
      (s.Takes d (entryWrite (0x2D00 + n.val) 16 [1]) → exec (.streamMark d n) s =
        .next (s.finish (((s.fresh.modStream n.val fun x => { x with saved := none }).markStream n.val).verdict d 0))) ∧
      (s.Takes d (entryWrite (0x2D00 + n.val) 16 [2]) → (∀ w, (s.stream n.val).saved = some w → w.time ≠ s.time.elapsed ∨ w.value = 2) →
        exec (.streamRewind d n) s = .next (s.finish (((s.fresh.modStream n.val fun x =>
          { x with saved := some (s.fresh.saveStream d n.val 2) }).rewindCommand n.val).verdict d 0))) ∧
      (s.Takes d (entryWrite (0x2D00 + n.val) 16 [3]) → (∀ w, (s.stream n.val).saved = some w → w.time ≠ s.time.elapsed ∨ w.value = 3) →
        exec (.streamRelease d n) s = .next (s.finish (((s.fresh.modStream n.val fun x =>
          { x with saved := some (s.fresh.saveStream d n.val 3) }).releaseStream n.val).verdict d 0))) ∧
      (∀ w, s.Takes d (entryWrite (0x2D00 + n.val) 16 [2]) → (s.stream n.val).saved = some w → w.time = s.time.elapsed → w.value = 3 →
        d.num < w.door → exec (.streamRewind d n) s = .next (s.finish
          ((((s.fresh.restoreStream n.val w).rewindCommand n.val).releaseStream n.val).verdict d 0))) ∧
      (s.Takes d (entryWrite (0x2D00 + n.val) 16 [4]) → exec (.streamFlush d n) s =
        .next (s.finish ((s.fresh.flushStream n.val).verdict d 0)))) ∧
    (∀ n : Stream, s.configured n.val = false → s.Takes d (entryWrite (0x2D00 + n.val) 16 [4]) → exec (.streamFlush d n) s =
      .next (s.finish (s.fresh.verdict d abortState))) ∧
    (s.sramOnly = false → s.Takes d (entryWrite 0x2C01 1 [1]) → s.get (.arb .arbFreezeState) = 0 → exec (.arbFreeze d) s =
      .next (s.finish (((s.fresh.set (.arb .arbFreeze) 1).undoGrant.holdHeads.set (.arb .arbFreezeState) 1).verdict d 0))) ∧
    (s.sramOnly = false → s.Takes d (entryWrite 0x2C01 1 [0]) → exec (.arbResume d) s =
      .next (s.finish ((s.fresh.set (.arb .arbFreeze) 0).resumeArb.verdict d 0)))

/-- R176, R177, R186, R193 to R199: DRAM training, spills, memory errors, scrubbing, the arbiter, and a host's IN on EP1. -/
def Obligations.ReservoirEvents : Prop :=
  ∀ s : State, s.coreRuns = true →
    (∀ size, s.domainOn 7 = true → s.get (.res .reservoirDramState) = 1 → size ≠ 0 →
      size = geometrySize (s.get (.res .reservoirDramGeometry)) → exec (.dramTrainingDone size true) s =
        .next (s.finish ((s.fresh.set (.res .reservoirDramSize) size).setDramState 2))) ∧
    (∀ size ok, s.domainOn 7 = true → s.get (.res .reservoirDramState) = 1 →
      (ok = true → size = 0 ∨ size ≠ geometrySize (s.get (.res .reservoirDramGeometry))) → exec (.dramTrainingDone size ok) s =
        .next (s.finish (((s.fresh.set (.res .reservoirDramSize) 0).setDramState 4).raise 53 0))) ∧
    (∀ n : Stream, s.sramOnly = false → s.spills n.val = true → exec (.tailPartialSpill n) s =
      .next (s.finish (s.fresh.modStream n.val fun x => { x with tail := 0 }))) ∧
    (s.sramOnly = false → s.get (.res .reservoirDramState) = 2 →
      (∀ addr, exec (.dramCorrectedError addr) s =
        .next (s.finish (((s.fresh.bump (.res .dramCeCount)).flag (.res .resEvents) resCorrected).raise 48 (addr / 8)))) ∧
      (∀ addr n off, s.streamAt addr = some (n, off) → exec (.dramUncorrectableError addr) s =
        .next (s.finish (((((s.fresh.bump (.res .dramUeCount)).set (.res .dramUeAddress) (addr / 8)).flag (.res .resEvents)
          resDramUe).raise 49 (addr / 8)).damageStream n off))) ∧
      (∀ addr n off, s.domainOn 7 = true → s.granted 10 = true → s.streamAt addr = some (n, off) → exec (.scrubBurst addr true) s =
        .next (s.finish (((s.fresh.bump (.res .dramCeCount)).flag (.res .resEvents) resCorrected).raise 48 (addr / 8)))) ∧
      (∀ (n : Fin 11) cycles, s.get (.arb .arbFreezeState) = 0 → (∀ k, s.req k = {}) → exec (.arbDecision (2 ^ n.val) cycles) s =
        .next (s.finish (let t := (s.fresh.holdHeads fun q => q == n.val).setReq n.val { waiting := true, asking := true }
                         let u := t.arbGrant n.val
                         { u with arbSaved := some { t.saveArb n.val with flags := u.get (.res .resEvents) } })))) ∧
    (s.scrubs = true → exec .scrubPassComplete s =
      .next (s.finish ((s.fresh.bump (.res .scrubPassCount)).flag (.res .resEvents) resScrubPass))) ∧
    (∀ bank : Fin 22, exec (.sramCorrectedError bank) s =
      .next (s.finish (((s.fresh.bump (.res (.sramCeCount bank))).flag (.res .resEvents) resCorrected).raise 50 bank.val))) ∧
    (∀ (bank : Fin 22) hit, exec (.sramUncorrectableError bank hit) s =
      .next (s.finish ((((({ s.fresh with faults := { s.faults with hit := hit } }).bump (.res (.sramUeCount bank))).flag (.res .resEvents)
        resSramUe).raise 51 bank.val).sramDamage hit))) ∧
    (∀ n : Fin 11, exec (.arbBackoffEnd n) s = .next (s.finish (s.fresh.modReq n.val fun r => { r with asking := r.waiting }))) ∧
    (∀ n : Fin 11, (s.req n.val).waiting = true → s.get (.arb .arbFreezeState) = 0 → exec (.arbWaitLimit n) s =
      .next (s.finish (s.fresh.modReq n.val fun r => { r with forced := true, asking := true, wait := max r.wait (s.waitLimit n.val) }))) ∧
    (∀ n : Fin 11, (s.req n.val).waiting = true → s.get (.arb .arbFreezeState) = 0 → exec (.arbStarve n) s =
      .next (s.finish (((((s.fresh.modReq n.val fun r => { r with wait := max r.wait (min 65535 (s.waitLimit n.val + 384)) }).set
        (.arb (.arbMaxWait n)) (max (s.get (.arb (.arbMaxWait n))) (min 65535 (s.waitLimit n.val + 384)))).flag (.res .resEvents)
          resArbStarve).raise 54 n.val)))) ∧
    (s.get (.arb .arbFreezeState) = 1 → exec .arbDrained s =
      .next (s.finish ((s.fresh.set (.arb .arbFreezeState) 2).flag (.res .resEvents) resFreezeDrained))) ∧
    (∀ u f acked remote, s.mgmtFn u = some f → (s.fnDev f).config = 1 → (s.fnDev f).halted.testBit (haltBit 0x81) = false →
      (s.up u).part = none → (s.up u).answers = [] → (s.session (upDoor u)).opened = false → exec (.hostEp1In u acked remote) s =
        .next (s.finish (s.fresh.mgmtHs u (s.fnDev f).addr 1 .nak))) ∧
    (∀ u f b remote, s.mgmtFn u = some f → (s.fnDev f).config = 1 → (s.fnDev f).halted.testBit (haltBit 0x81) = false →
      (s.up u).part = some (1, b) → exec (.hostEp1In u false remote) s = .next (s.finish (s.fresh.mgmtData u (s.fnDev f).addr 1
        ((s.fnDev f).toggle.testBit (haltBit 0x81)) false (b.take (s.ep1Size u)))))

/-- R212, R226, R230, R231, R233: the writes and reads of a door that concern prism time, when the checks of R363 find nothing against
them. -/
def Obligations.TimeWrites : Prop :=
  ∀ (s : State) (d : Door), s.doors.posted = [] →
    (s.doorReach d = true → s.readChecks (callerAt d) 0x3400 1 false 0 4 = 0 → exec (.timeNowRead d) s =
      .next (s.finish (((({ s.fresh with time := { s.time with latched := s.time.frac } }).answered d 0).readDone d).emit
        (.verdict d 0 ((s.entryBytes (callerAt d) 0x3400 1 false).take 4))))) ∧
    (s.doorReach d = true → s.readChecks (callerAt d) 0x3400 3 false 0 8 = 0 → exec (.timeExtendedRead d) s =
      .next (s.finish (((s.fresh.answered d 0).readDone d).emit (.verdict d 0 ((s.entryBytes (callerAt d) 0x3400 3 false).take 8))))) ∧
    (∀ v, v < 2 ^ 32 → s.Takes d (entryWrite 0x3401 10 (bytesBe 4 v)) →
      (s.ahead v < 2100000000 → exec (.ppsOutNextWrite d v) s = .next (s.finish ((s.fresh.set (.pps .ppsOutNext) v).verdict d 0))) ∧
      (2100000000 ≤ s.ahead v → exec (.ppsOutNextWrite d v) s = .next (s.finish (s.fresh.verdict d abortRange)))) ∧
    (∀ v, v < 2 ^ 32 → s.Takes d (entryWrite 0x3402 4 (bytesBe 4 v)) → s.ahead v < 2100000000 → exec (.canSyncPhaseWrite d v) s =
      .next (s.finish ((s.fresh.set (.canTime .canSyncPhase) v).verdict d 0))) ∧
    (∀ data, data.length = 14 → s.alone = true → s.Takes d (entryWrite 0x3400 23 data) → exec (.timeCivilAnchorWrite d 0 data) s =
      .next (s.finish ((s.fresh.set (.time .timeCivilAnchor) (ofBytesBe data)).verdict d 0))) ∧
    (∀ data, s.launchRefusal data = 0 → s.Takes d (entryWrite 0x3430 1 data) → exec (.launchSubmit d data) s =
      .next (s.finish (({ s.fresh with time := { s.time with launches := s.time.launches ++ [launchOf data] } }).verdict d 0))) ∧
    (∀ data, s.launchRefusal data = 2 → s.Takes d (entryWrite 0x3430 1 data) → exec (.launchSubmit d data) s =
      .next (s.finish (((s.fresh.set (.launch .launchRefusal) 2).bump (.launch .launchRefusedCount)).verdict d abortState))) ∧
    (∀ tag l, tag < 65536 → s.Takes d (entryWrite 0x3430 2 (bytesBe 2 tag)) → (s.time.launches.find? fun l => l.tag = tag) = some l →
      l.attempts = 0 → exec (.launchCancel d tag) s = .next (s.finish ((s.fresh.endLaunch l 6).verdict d 0)))

/-- R212, R214, R218, R219, R221, R222, R224 to R226: what happens to the counter, the servo and the PPS signals. -/
def Obligations.TimeEvents : Prop :=
  ∀ s : State,
    (exec .timeWrap s = .next (s.finish ({ s.fresh with time := { s.time with ns := 0 } }).wrapTime)) ∧
    (∀ k : Link, s.coreRuns = true → s.domainOn 6 = true → s.get (.link k .linkState) = 3 →
      (∀ j, j ≠ k → s.get (.link j .linkState) = 0) → exec .echoSend s =
      .next (s.finish ((s.fresh.setEcho k { s.echo k with seq := ((s.echo k).seq + 1) % 2 ^ 32 }).sendOn k (s.newFrame 3 0 false 0 0
        (.echo [((s.echo k).seq + 1) % 2 ^ 32, 0, ((s.echo k).last.getD (0, 0)).2, ((s.echo k).last.getD (0, 0)).1, s.bestFocal.uid,
          s.bestFocal.prio, boolNat s.bestFocal.pps + 2 * boolNat (s.get (.time .servoState) = 3) +
            4 * boolNat (s.bestFocal.uid = s.ident.uniqueId), s.bestFocal.steps]))))) ∧
    (∀ (k : Link) (f : Frame) seq old rest, f.body = .echo (seq :: old :: rest) → s.stampEcho k f =
      ({ f with body := .echo (seq :: ((s.echo k).sent.find? fun e => (e.1 + 1) % 2 ^ 32 = seq).elim 0 Prod.snd :: rest) },
       s.setEcho k { s.echo k with
         sent := ((seq, ofSigned 48 ((s.stamp48 : Int) + psUnits (s.getInt (.echo k .echoTxDelay)))) :: (s.echo k).sent).take 3 })) ∧
    (∀ (k : Link) b (rx : Nat) t, s.coreRuns = true → s.domainOn 6 = true →
      t = s.fresh.setEcho k { s.echo k with
        last := some (b.seq, ofSigned 48 ((rx : Int) - psUnits (s.getInt (.echo k .echoRxDelay)))),
        ann := some ⟨b.focalId, b.focalPriority, b.focalPps, b.steps⟩ } →
      ((s.echo k).exchange b = some none → s.get (.link k .linkState) = 3 → exec (.echoReceive k b rx) s =
        .next (s.finish t.chooseFocal)) ∧
      ((s.echo k).exchange b = some none → s.get (.link k .linkState) = 6 → exec (.echoReceive k b rx) s = .next (s.finish t)) ∧
      ((s.echo k).exchange b = none → s.get (.link k .linkState) = 3 → exec (.echoReceive k b rx) s = .next (s.finish
        ((t.bump (.echo k .echoMissCount)).flag (.time .timeEvents) timeEchoMiss).chooseFocal)) ∧
      (∀ fwd back, (s.echo k).exchange b = some (some (fwd, back)) → s.get (.link k .linkState) = 3 → exec (.echoReceive k b rx) s =
        .next (s.finish (((((t.setInt (.echo k .echoOffset)
            (((fwd - back) * 1000 / 65536 - s.getInt (.echo k .echoAsymmetry)) / 2)).set (.echo k .echoMeanPath)
              ((fwd + back) * 1000 / 65536 / 2).toNat).showLatency k
                (((fwd + back) * 1000 / 65536 / 2).toNat + 310000)).evalAperture.chooseFocal).servoFrom
                k)))) ∧
    (∀ k : Link, s.coreRuns = true → s.domainOn 6 = true → s.get (.link k .linkState) = 3 → exec (.echoMiss k) s =
      .next (s.finish ((s.fresh.bump (.echo k .echoMissCount)).flag (.time .timeEvents) timeEchoMiss))) ∧
    (∀ k : Link, s.coreRuns = true → s.domainOn 6 = true → exec (.focalAnnounceLapse k) s =
      .next (s.finish (s.fresh.setEcho k { s.echo k with ann := none }).chooseFocal)) ∧
    (s.coreRuns = true → (s.get (.time .servoState) = 2 ∨ s.get (.time .servoState) = 3) → exec .servoReferenceLost s =
      .next (s.finish ((((s.fresh.set (.time .servoState) 4).flag (.time .timeEvents) timeRefLost).setFreq
        (s.time.base - s.time.integral)).raiseLive 46 4))) ∧
    (s.coreRuns = true → s.boot.running = true → s.get (.time .servoState) = 3 → exec .storedFreqSave s =
      .next (s.finish (s.fresh.set (.time .timeStoredFreq) (s.get (.time .timeFreqAdj))))) ∧
    (s.isTrue (.pps .ppsInEnable) = true → s.unitHeld .time = false → s.time.pll = true → s.ppsValid = true →
      s.get (.time .servoState) ≠ 0 →
      nearEdge (ofSigned 32 ((s.now : Int) - s.getInt (.pps .ppsInOffset))) s.time.ppsNext = true → exec .ppsInEdge s =
      .next (s.finish { (s.fresh.set (.pps .ppsInLastStamp) (ofSigned 32 ((s.now : Int) - s.getInt (.pps .ppsInOffset)))).setInt
        (.pps .ppsInError) (signedOf 32 ((ofSigned 32 ((s.now : Int) - s.getInt (.pps .ppsInOffset)) + 2 ^ 32 - s.time.ppsNext) % 2 ^ 32))
          with time := { s.time with ppsNext := nextSecond s.time.ppsNext, ppsMiss := 0 } })) ∧
    (s.isTrue (.pps .ppsInEnable) = true → s.unitHeld .time = false → s.time.pll = true → s.ppsValid = true → s.time.ppsMiss < 2 →
      nearEdge (ofSigned 32 ((s.now : Int) - s.getInt (.pps .ppsInOffset))) s.time.ppsNext = false → exec .ppsInEdge s =
      .next (s.finish { (s.fresh.set (.pps .ppsInLastStamp) (ofSigned 32 ((s.now : Int) - s.getInt (.pps .ppsInOffset)))).bump
        (.pps .ppsInMissCount) with time := { s.time with ppsMiss := s.time.ppsMiss + 1 } })) ∧
    (s.isTrue (.pps .ppsInEnable) = true → s.ppsValid = true → s.time.ppsMiss < 2 → exec .ppsInMiss s =
      .next (s.finish { s.fresh.bump (.pps .ppsInMissCount) with time := { s.time with
        ppsNext := nextSecond s.time.ppsNext,
        ppsMiss := s.time.ppsMiss + 1 } })) ∧
    (s.isTrue (.pps .ppsInEnable) = true → s.ppsValid = true → 2 ≤ s.time.ppsMiss → exec .ppsInMiss s =
      .next (s.finish ({ s.fresh.bump (.pps .ppsInMissCount) with time := { s.time with
        ppsNext := nextSecond s.time.ppsNext,
        ppsMiss := s.time.ppsMiss + 1 } }).ppsLost)) ∧
    (s.isTrue (.pps .ppsOutEnable) = true → exec .ppsOutEdge s =
      .next (s.finish (({ s.fresh.set (.pps .ppsOutNext) (s.get (.pps .ppsOutNext) + s.get (.pps .ppsOutPeriod)) with
        time := { s.time with ppsOut := true } }).drivePps))) ∧
    (s.time.ppsOut = true → exec .ppsOutWidthEnd s =
      .next (s.finish ({ s.fresh with time := { s.time with ppsOut := false } }).drivePps)) ∧
    s.drivePps = (if s.floats then s else s.emit (.pin .ppsOut (s.level .ppsOut)))

/-- R230, R231: CANopen TIME and SYNC while the steward and the CAN controller run; R234, R235: a launch's start, end and window. -/
def Obligations.CanTimeAndLaunches : Prop :=
  ∀ s : State, s.coreRuns = true →
    (s.canRuns = true →
      (∀ late, (s.get (.comm .cobIdTime)).testBit 30 = true → s.get (.canTime .canTimePeriod) ≠ 0 → s.get (.time .timeCivilAnchor) = 0 →
        late ≤ 500000 → exec (.canTimeSend late) s = .next (s.finish ((s.fresh.sendCan (s.get (.comm .cobIdTime) % 2048)
          (bytesLe 4 (((s.extended / (s.get (.canTime .canTimePeriod) * 1000000) * (s.get
            (.canTime .canTimePeriod) * 1000000) : Nat) : Int) /
              1000000 % 86400000).toNat ++
            bytesLe 2 (ofSigned 16 (((s.extended / (s.get (.canTime .canTimePeriod) * 1000000) *
              (s.get (.canTime .canTimePeriod) * 1000000) : Nat) : Int) / 1000000 / 86400000)))).set (.canTime .canTimeTxStamp)
                ((s.extended / (s.get (.canTime .canTimePeriod) * 1000000) * (s.get (.canTime .canTimePeriod) * 1000000) + late) %
                  2 ^ 32)))) ∧
      (∀ ms days, (s.get (.comm .cobIdTime)).testBit 31 = true → (s.get (.comm .cobIdTime)).testBit 30 = false → s.alone = true →
        exec (.canTimeReceive ms days) s = .next (s.finish (s.fresh.set (.time .timeCivilAnchor)
          (ofBytesBe (bytesBe 8 s.extended ++ bytesBe 2 days ++ bytesBe 4 (ms % 2 ^ 28)))))) ∧
      ((s.get (.comm .cobIdSync)).testBit 30 = true → s.get (.comm .commCyclePeriod) ≠ 0 → s.get (.can .canState) = 127 →
        exec .canSyncSend s = .next (s.finish ((((s.fresh.sendCan (s.get (.comm .cobIdSync) % 2048) []).set
          (.canTime .canSyncStamp) s.now).bump (.canTime .canSyncCount)).set (.canTime .canSyncPhase)
            ((s.get (.canTime .canSyncPhase) + s.get (.comm .commCyclePeriod) * 1000) % 2 ^ 32)))) ∧
      (s.get (.can .canState) = 127 → exec .canSyncReceive s =
        .next (s.finish ((s.fresh.set (.canTime .canSyncStamp) s.now).bump (.canTime .canSyncCount))))) ∧
    (∀ tag l p a x, (s.time.launches.find? fun l => l.tag = tag) = some l → l.running = false → s.inWindow l = true →
      s.launchFirst l = true → s.place (imageOf l.image) l.port = .own p →
      s.keeps (imageOf l.image) l.port = false → s.deviceOn (imageOf l.image) l.port = some (a, x) →
      (s.get (.port p .portSpeed) = 3 → exec (.launchStart tag) s = .next (s.finish (s.fresh.endLaunch l 5))) ∧
      (s.get (.port p .portSpeed) ≠ 3 → s.frameAllows p l.data.length = false → exec (.launchStart tag) s = .next (s.finish s.fresh)) ∧
      (s.get (.port p .portSpeed) ≠ 3 → s.frameAllows p l.data.length = true → exec (.launchStart tag) s = .next (s.finish
        (let g := if l.mode = 1 then false else if l.mode = 2 then true else (s.device (imageOf l.image) a).toggleOut.testBit l.ep
         (({ s.fresh with time := { s.time with launches := s.time.launches.map fun (q : Launch) =>
            if q.tag = tag then { l with running := true, toggle := g } else q } }).launchBegins tag).emit (.engine 4 {
              port := p, addr := x.devAddr, ep := l.ep, dirIn := false, setup := false,
              epType := ((s.device (imageOf l.image) a).endpoint l.ep false).elim 1 fun q => q.epType,
              maxPacket := ((s.device (imageOf l.image) a).endpoint l.ep false).elim 64 fun q => q.maxPacket % 2048,
              toggle := g, data := l.data, errors := 0, who := .launch tag }))))) ∧
    (∀ tag, s.launchBegins tag = { s with time := { s.time with launches := s.time.launches.map fun (q : Launch) =>
      if q.tag = tag then { q with attempts := q.attempts + 1, started := s.now } else q } }) ∧
    (∀ tag l p a, (s.time.launches.find? fun l => l.tag = tag) = some l → l.running = false → s.inWindow l = true →
      s.launchFirst l = true → s.place (imageOf l.image) l.port = .own p → s.keeps (imageOf l.image) l.port = true →
      s.get (.port p .portSpeed) = 3 → a = (s.record (imageOf l.image) l.port).info → exec (.launchStart tag) s = .next (s.finish
        (let g := if l.mode = 1 then false else if l.mode = 2 then true else a.toggleOut.testBit l.ep
         ({ s.fresh with time := { s.time with launches := s.time.launches.map fun (q : Launch) =>
            if q.tag = tag then { l with running := true, toggle := g } else q } }).submit {
              port := p, addr := (s.record (imageOf l.image) l.port).devAddr, ep := l.ep, dirIn := false, setup := false,
              epType := (a.endpoint l.ep false).elim 1 fun q => q.epType,
              maxPacket := (a.endpoint l.ep false).elim 64 fun q => q.maxPacket % 2048,
              toggle := g, data := l.data, errors := 0, who := .launch tag }))) ∧
    (∀ tag (n : Fin 4) x answer, s.context n.val = some x → x.who = .launch tag → (∀ k, k < n.val → s.context k = none) →
      exec (.launchEnd tag answer) s = .next (s.finish (s.fresh.cmdHsEngineTransactionEnd n answer))) ∧
    (∀ tag l p answer, (∀ n, s.context n = none) → (s.time.launches.find? fun l => decide (l.tag = tag) && l.running) = some l →
      s.place (imageOf l.image) l.port = .own p → s.get (.port p .portSpeed) ≠ 3 →
      exec (.launchEnd tag answer) s = .next (s.finish (s.fresh.cmdTtFsTransactionDone p answer))) ∧
    (∀ tag l, (s.time.launches.find? fun l => l.tag = tag) = some l →
      (l.running = false ∨ (s.waiting.any fun x => decide (x.who = Requester.launch tag)) = true) →
      (s.launchAge l).any (fun a => decide (l.window * 1000 ≤ a)) = true →
      exec (.launchWindowEnd tag) s = .next (s.finish (s.fresh.endLaunch l (if l.attempts = 0 then 4 else 1))))

/-- R362 to R364, R367 to R370, R451: commands of R364 at the CAN and LOC doors, a peer's commands at the RING door, answers that wait, and
notifications. -/
def Obligations.DoorCommands : Prop :=
  ∀ s : State, s.coreRuns = true →
    (∀ facet tag idx sub staged offset len remote, facet < 256 → tag < 65536 → idx < 65536 → sub < 256 → offset < 2 ^ 32 → len < 65536 →
      s.doorReach .can = true → exec (.doorRead .can facet tag idx sub staged offset len remote) s = .next (s.finish
        (((s.fresh.doorRead (callerAt .can) idx sub staged offset len 1024 remote).2.2.readDone .can).emit (.verdict .can
          (s.fresh.doorRead (callerAt .can) idx sub staged offset len 1024 remote).1
          (s.fresh.doorRead (callerAt .can) idx sub staged offset len 1024 remote).2.1)))) ∧
    (∀ facet tag w, facet < 256 → tag < 65536 → w.index < 65536 → w.sub < 256 → w.offset < 2 ^ 32 → w.data.length ≤ 1024 →
      s.doorReach .can = true →
      ((s.fresh.doorWrite (callerAt .can) w false).1 ≠ abWaits → exec (.doorWrite .can facet tag w) s = .next (s.finish
        ((s.fresh.doorWrite (callerAt .can) w false).2.emit (.verdict .can (s.fresh.doorWrite (callerAt .can) w false).1 [])))) ∧
      ((s.fresh.doorWrite (callerAt .can) w false).1 = abWaits → exec (.doorWrite .can facet tag w) s = .next (s.finish
        ((s.fresh.doorWrite (callerAt .can) w false).2.awaitOpen (.verdict .can))))) ∧
    (∀ b pecOk, s.doorOpen .loc = false → exec (.locBlockWrite b pecOk) s = .next (s.finish (s.fresh.emit (.closed .loc)))) ∧
    (∀ b, s.doorOpen .loc = true → s.isTrue (.loc .locPec) = true → exec (.locBlockWrite b false) s =
      .next (s.finish (s.fresh.bump (.loc .locPecErrorCount)))) ∧
    (∀ b r, s.doorOpen .loc = true → s.doors.forwarded = [] → s.doors.posted = [] → wellFormedCommand .loc b = true → byteAt b 0 = 1 →
      s.commandTarget b = none →
      r = ({ s.fresh.cutReads .loc with doors := { s.doors with loc := none } }).execCommand (callerAt .loc) b [] → r.1 ≠ abWaits →
      exec (.locBlockWrite b true) s = .next (s.finish (r.2.2.deliver .loc r.2.1))) ∧
    (s.doorOpen .loc = true → s.doors.loc = none → exec .locBlockRead s = .next (s.finish (s.fresh.emit (.door .loc [0xFE])))) ∧
    (∀ a, s.doorOpen .loc = true → s.doors.loc = some a → exec .locBlockRead s =
      .next (s.finish (((s.fresh.modDoors fun x => { x with loc := none }).readDone .loc).emit (.door .loc a)))) ∧
    (exec .locBusTimeout s = .next (s.finish s.fresh)) ∧
    (∀ k h origin b remote r, s.domainOn 6 = true → s.fresh.receive k h 7 (.door origin (.command b)) = (true, r) → r.domainOn 1 = true →
      r.faults.safeRun = false → (∀ e ∈ r.ring.doorSeen, e.1 ≠ h.src ∨ e.2.1 ≠ h.tag) →
      ((r.serveRing k h origin b remote).1 ≠ abWaits → exec (.door k h origin (.command b) remote) s =
        .next (s.finish ((((r.serveRing k h origin b remote).2.2.modRing fun x =>
          { x with doorSeen := ((h.src, h.tag, (r.serveRing k h origin b remote).2.1) :: x.doorSeen).take 64 }).sendIndex h.src 7 0 h.tag
            (.door .ring (.answer (r.serveRing k h origin b remote).2.1))).readDone .ring))) ∧
      ((r.serveRing k h origin b remote).1 = abWaits → exec (.door k h origin (.command b) remote) s =
        .next (s.finish ((r.serveRing k h origin b remote).2.2.awaitOpen (.ring h.src h.tag b))))) ∧
    (∀ k h origin b remote r e, s.domainOn 6 = true → s.fresh.receive k h 7 (.door origin (.command b)) = (true, r) →
      r.domainOn 1 = true → r.faults.safeRun = false →
      (r.ring.doorSeen.find? fun e => e.1 == h.src && e.2.1 == h.tag) = some e →
      exec (.door k h origin (.command b) remote) s =
        .next (s.finish (r.sendIndex h.src 7 0 h.tag (.door .ring (.answer e.2.2))))) ∧
    (∀ d f, (∀ e, (s.session e).opening = none) → (s.doors.forwarded.find? fun f => f.door == d && f.tag.isSome) = some f →
      exec (.doorForwardTimeout d) s = .next (s.finish (s.fresh.endForward f (answerTo f.bytes 0xB abEpoch [])))) ∧
    (∀ d e tag, (s.session e).opening = some (tag, .verdict d) → (∀ c, c ≠ e → (s.session c).opening = none) →
      exec (.doorForwardTimeout d) s = .next (s.finish (s.fresh.endOpen e none))) ∧
    (∀ u f b rest, s.mgmtFn u = some f → (s.fnDev f).config = 1 → (s.fnDev f).halted.testBit (haltBit 0x82) = false → (s.up u).lost = 0 →
      (s.up u).notes = b :: rest → exec (.notificationEp2In u true) s = .next (s.finish
        ((((s.fresh.mgmtData u (s.fnDev f).addr 2 ((s.fnDev f).toggle.testBit (haltBit 0x82)) true b).setFnDev f { s.fnDev f with
          toggle := setBit (s.fnDev f).toggle (haltBit 0x82) (!(s.fnDev f).toggle.testBit (haltBit 0x82)) }).setUp u
            { s.up u with notes := rest }))))

/-- R371, R372, R393: the CAN door's services, while HUB and the controller serve them. -/
def Obligations.CanCommands : Prop :=
  ∀ s : State, s.coreRuns = true →
    (s.sdoServes = true →
      (∀ idx sub remote r b, r = s.fresh.endSdo.doorRead (callerAt .can) idx sub (s.get (.can .sdoReadStaged) == 1) (s.sdoOffset idx sub) 0
          1024 remote → b = canOrder idx sub r.2.1 → r.1 = 0 → 0 < b.length → b.length ≤ 4 → exec (.sdoUpload idx sub remote) s =
        .next (s.finish ((((r.2.2.set (.can .sdoReadStaged) 0).sdoOffsetDone idx sub).sdoSend
          (sdoFrame (0x43 + 4 * (4 - b.length)) idx sub b)).readDone .can))) ∧
      (∀ idx sub remote r b, r = s.fresh.endSdo.doorRead (callerAt .can) idx sub (s.get (.can .sdoReadStaged) == 1) (s.sdoOffset idx sub) 0
          1024 remote → b = canOrder idx sub r.2.1 → r.1 = 0 → 4 < b.length → exec (.sdoUpload idx sub remote) s =
        .next (s.finish ((((r.2.2.set (.can .sdoReadStaged) 0).sdoOffsetDone idx sub).sdoSend
          (sdoFrame 0x41 idx sub (bytesLe 4 b.length))).modDoors fun x =>
            { x with sdo := some { index := idx, sub := sub, download := false, toggle := false, data := b, done := 0 } }))) ∧
      (∀ idx sub b r, r = s.fresh.endSdo.sdoWrite idx sub (b.take 4) →
        (r.1 = 0 → exec (.sdoDownload idx sub (some b)) s = .next (s.finish (r.2.sdoSend (sdoFrame 0x60 idx sub [])))) ∧
        (r.1 ≠ 0 → r.1 ≠ abWaits → exec (.sdoDownload idx sub (some b)) s = .next (s.finish (r.2.sdoAbort idx sub r.1))) ∧
        (r.1 = abWaits → exec (.sdoDownload idx sub (some b)) s = .next (s.finish (r.2.awaitOpen (.sdo idx sub))))) ∧
      (∀ idx sub, s.sdoTakes = true → exec (.sdoDownload idx sub none) s =
        .next (s.finish ((s.fresh.endSdo.sdoSend (sdoFrame 0x60 idx sub [])).modDoors fun x =>
          { x with sdo := some { index := idx, sub := sub, download := true, toggle := false, data := [], done := 0 } }))) ∧
      (∀ x toggle u, s.sdoTakes = true → s.doors.sdo = some x → x.download = false → x.toggle = toggle →
        u = s.fresh.sdoSend ([byteOf (16 * boolNat toggle + 2 * (7 - ((x.data.drop x.done).take 7).length) +
          boolNat (decide (x.data.length ≤ x.done + 7)))] ++ ((x.data.drop x.done).take 7 ++ List.replicate 7 0).take 7) →
        (x.done + 7 < x.data.length → exec (.sdoSegment toggle none) s = .next (s.finish (u.modDoors fun y =>
          { y with sdo := some { x with done := x.done + 7, toggle := !toggle } }))) ∧
        (x.data.length ≤ x.done + 7 → exec (.sdoSegment toggle none) s = .next (s.finish (u.readDone .can).endSdo))) ∧
      (∀ x toggle b, s.sdoTakes = true → s.doors.sdo = some x → x.download = true → x.toggle = toggle →
        exec (.sdoSegment toggle (some (b, false))) s = .next (s.finish ((s.fresh.sdoSend ([byteOf (0x20 + 16 * boolNat toggle)] ++
          List.replicate 7 0)).modDoors fun y => { y with sdo := some { x with data := x.data ++ b.take 7, toggle := !toggle } }))) ∧
      (∀ x toggle b r, s.sdoTakes = true → s.doors.sdo = some x → x.download = true → x.toggle = toggle →
        r = s.fresh.sdoWrite x.index x.sub (x.data ++ b.take 7) → r.1 = 0 → exec (.sdoSegment toggle (some (b, true))) s =
          .next (s.finish (r.2.endSdo.sdoSend ([byteOf (0x20 + 16 * boolNat toggle)] ++ List.replicate 7 0)))) ∧
      (∀ x toggle seg, s.sdoTakes = false → s.doors.sdo = some x → exec (.sdoSegment toggle seg) s =
        .next (s.finish ((s.fresh.answered .can 0x08000020).sdoAbort x.index x.sub 0x08000020))) ∧
      (∀ x, s.sdoTakes = true → s.doors.sdo = some x →
        exec .sdoSegmentTimeout s = .next (s.finish (s.fresh.sdoAbort x.index x.sub 0x05040000)))) ∧
    (exec .sdoAbort s = .next (s.finish ((s.fresh.cutReads .can).modDoors fun x => { x with sdo := none }))) ∧
    (∀ node, s.nmtServes node = true →
      exec (.nmtStart node) s = .next (s.finish (s.fresh.set (.can .canState) 5)) ∧
      exec (.nmtStop node) s =
        .next (s.finish ((s.fresh.set (.can .canState) 4).endSdo.modDoors fun x => { x with rpdoHeld := [] })) ∧
      exec (.nmtEnterPreOperational node) s =
        .next (s.finish ((s.fresh.set (.can .canState) 127).modDoors fun x => { x with rpdoHeld := [] })) ∧
      exec (.nmtResetNode node) s = .next (s.finish s.fresh.canBoot) ∧
      exec (.nmtResetCommunication node) s = .next (s.finish s.fresh.canBoot)) ∧
    (s.nmtServes 0 = true → s.get (.comm .heartbeatTime) ≠ 0 → exec .heartbeatSend s = .next (s.finish
      (s.fresh.sendCan (0x700 + s.get (.can .canNodeIdActive)) [byteOf (s.get (.can .canState))]))) ∧
    (s.operational = true →
      (∀ r b, (s.get (.rpdo r .cobId)).testBit 31 = false → s.doorOpen .can = true → s.get (.rpdo r .transType) ≤ 240 →
        exec (.rpdoReceive r b) s = .next (s.finish (s.fresh.modDoors fun x =>
          { x with rpdoHeld := (x.rpdoHeld.filter fun e => e.1 != r.val) ++ [(r.val, b)] }))) ∧
      (∀ r b, (s.get (.rpdo r .cobId)).testBit 31 = false → s.doorOpen .can = true → 240 < s.get (.rpdo r .transType) →
        exec (.rpdoReceive r b) s = .next (s.finish (s.fresh.rpdoApply r b))) ∧
      (∀ t, (s.get (.tpdo t .cobId)).testBit 31 = false → s.get (.tpdo t .transType) = 0 → exec (.tpdoSend t) s =
        .next (s.finish (s.fresh.modDoors fun x => { x with tpdoSyncs := Table.put id 0 x.tpdoSyncs t.val 1 }))) ∧
      (∀ t, (s.get (.tpdo t .cobId)).testBit 31 = false → 240 < s.get (.tpdo t .transType) → (∀ e ∈ s.doors.tpdoTimes, e.1 ≠ t.val) →
        exec (.tpdoSend t) s = .next (s.finish ((s.fresh.sendCan (s.get (.tpdo t .cobId) % 2048) (s.tpdoData t)).modDoors fun x =>
          { x with tpdoTimes := Table.put id 0 x.tpdoTimes t.val s.time.elapsed })))) ∧
    (∀ r, exec (.rpdoEventTimerExpiry r) s = .next (s.finish s.fresh))

/-- R254, R274, R275, R281: a message with a good CRC is answered by GoodCRC, stamped and noted, and from a partner that has declared
Revision 2.0 or 1.0 it leaves the port at that revision. One that crosses the hub's own at Revision 2.0 withdraws that one, any other
acknowledges it. One that the port expects is served; in a transition it brings a Hard Reset; one in the hub's window, or that has
crossed, is served as a collision and the hub's own question starts afresh; one that the hub's own question does not expect brings a
Soft_Reset; and one that repeats the last ID is only counted. -/
def Obligations.PdDelivery : Prop :=
  ∀ (s : State) (p : Port) (h : PdHdr) (typ : Nat) (objs : List Nat) (ext fits crossed : Bool) (w v u : State),
    s.pdReady p = true → s.lens.armed = false →
    crossed = (h.crossed && (s.tc p).sent.isSome && (s.rev2 p || decide (h.rev < 2))) →
    w = (if crossed then s.withdrawTx p else s.ackTx p) →
    v = ((((w.lensPd p false (pdHeader typ objs.length h.id ext (!(w.tc p).source) (!(w.tc p).dfp) h.rev) 0 0 objs).lensCount 10
      (placePort p) 1).set (.canTime (.pdRxStamp p)) w.now).emit (.pd p .goodCrc false)) →
    u = (v.modTc p fun x => { x with
      lastId := some h.id, partnerRev := if h.rev < 2 ∨ x.partnerRev = 1 then 1 else 2, hardRow := 0,
      rp := if x.source then x.rp else h.rp }) →
    ((w.tc p).lastId = some h.id → typ ≠ 13 → ∀ f : State → State, s.pdIn p h typ objs ext fits f =
      (v.bump (.tc p .pdViolationCount)).flag (.pd .pdEvents) pdViolation) ∧
    ((w.tc p).lastId ≠ some h.id → w.policy = true → (w.tc p).fallback = false → (w.tc p).hardStage = 0 →
      ((w.tc p).trans ≠ none → ∀ f : State → State, s.pdIn p h typ objs ext fits f = u.hardReset p true) ∧
      ((w.tc p).trans = none → ((w.tc p).window = true ∨ crossed = true) → ∀ f : State → State, s.pdIn p h typ objs ext fits f =
        (f ((u.collision p).modTc p fun x => { x with window := false })).kick p) ∧
      ((w.tc p).trans = none → (w.tc p).window = false → crossed = false → (w.tc p).await ≠ .nothing → fits = false → typ ≠ 13 →
        ∀ f : State → State, s.pdIn p h typ objs ext fits f = u.unexpected p) ∧
      ((w.tc p).trans = none → (w.tc p).window = false → crossed = false → ((w.tc p).await = .nothing ∨ fits = true ∨ typ = 13) →
        s.Serves p h typ objs ext fits u))

/-- R244 to R250: attach and detach, moisture, and the lowered advertisement. -/
def Obligations.TypecEvents : Prop :=
  ∀ (s : State) (p : Port),
    (∀ pin2 ra, s.ccRuns p = true → s.unattached p = true → (s.tc p).attach = none → (s.tc p).trying ≠ 2 →
      s.isTrue (.pd .moistureEnable) = false → exec (.ccSourceAttach p (.rd pin2 ra) true) s =
        .next (s.finish ((s.fresh.modTc p fun x => { x with backfed := false }).confirmAttach p pin2 ra))) ∧
    (∀ pin2 ra, s.ccRuns p = true → s.unattached p = true → (s.tc p).attach = none → (s.tc p).trying ≠ 2 →
      (s.tc p).backfed = false → exec (.ccSourceAttach p (.rd pin2 ra) false) s = .next (s.finish ((((s.fresh.set
        (.tc p .tcState) 2).modTc p fun x =>
        { x with backfed := true }).bump (.tc p .pdViolationCount)).flag (.pd .pdEvents) pdBackfeed))) ∧
    (∀ pin2 rp, s.ccRuns p = true → s.unattached p = true → (s.tc p).attach = none → s.get (.tc p .tcRoleMode) = 1 → (s.tc p).trying = 0 →
      exec (.ccSinkAttach p pin2 rp) s = .next (s.finish ((s.fresh.modTc p fun x => { x with
        trying := 1,
        drpSink := false }).set (.tc p .tcState) 2))) ∧
    (s.ccRuns p = true → s.get (.tc p .tcRoleMode) = 1 → s.get (.tc p .tcState) = 2 → (s.tc p).trying = 1 → (s.tc p).attach = none →
      exec (.drpToggle p) s = .next (s.finish (s.fresh.modTc p fun x => { x with
        trying := 2,
        drpSink := true }))) ∧
    (∀ pin2 rp, s.ccRuns p = true → s.unattached p = true → (s.tc p).attach = none → s.get (.tc p .tcRoleMode) = 1 → (s.tc p).trying = 2 →
      exec (.ccSinkAttach p pin2 rp) s = .next (s.finish ((s.fresh.modTc p fun x => { x with
        trying := 0,
        orientValid := true, orient := boolNat pin2,
        source := false, dfp := false, asSource := false, rp := rp % 4, drpSink := true }).set (.tc p .tcState) 4))) ∧
    ((s.tc p).attach = none → s.get (.tc p .tcState) = 3 → exec (.sourceDetach p) s = .next (s.finish (s.fresh.tcDetach p))) ∧
    (s.get (.tc p .tcState) = 4 → exec (.sinkDetach p) s = .next (s.finish (s.fresh.tcDetach p))) ∧
    (∀ mw, (s.tc p).lowerTo = some mw → exec (.rpLowerAllocation p) s =
      .next (s.finish ((s.fresh.set (.tc p .pdAllocation) mw).modTc p fun x => { x with lowerTo := none }))) ∧
    (s.ccRuns p = true → s.get (.tc p .tcState) = 1 → s.get (.tc p .tcRoleMode) = 1 → (s.tc p).measuring = false →
      exec (.drpToggle p) s = .next (s.finish (s.fresh.modTc p fun x => { x with drpSink := !x.drpSink }))) ∧
    (s.get (.tc p .tcState) = 6 → (s.tc p).recovery = false → exec (.errorRecoveryEnd p) s =
      .next (s.finish (s.fresh.set (.tc p .tcState) 1))) ∧
    ((s.tc p).recovery = true → exec (.errorRecoveryRetry p) s = .next (s.finish (s.fresh.regulatorDefault p))) ∧
    (s.ccRuns p = true → s.isTrue (.pd .moistureEnable) = true → (s.get (.tc p .tcState) = 1 ∨ s.get (.tc p .tcState) = 5) →
      exec (.moistureCheck p) s = .next (s.finish (s.fresh.modTc p fun x => { x with measuring := true }))) ∧
    (∀ z, (s.tc p).measuring = true → (s.tc p).attach = none → s.get (.tc p .tcState) = 1 → s.wetReading z = true →
      exec (.moistureResult p z) s = .next (s.finish ((s.fresh.keepReadings p z).goWet p))) ∧
    (∀ z, (s.tc p).measuring = true → (s.tc p).attach = none → s.get (.tc p .tcState) = 5 → s.wetReading z = false → 2 ≤ (s.tc p).dryRun →
      exec (.moistureResult p z) s = .next (s.finish (((((s.fresh.keepReadings p z).modTc p fun x => { x with
        corroded := false,
        dryRun := x.dryRun + 1 }).leaveWet p).flag (.pd .pdEvents) pdDry)))) ∧
    (∀ z pin ra, (s.tc p).measuring = true → (s.tc p).attach = some (pin, ra) → s.wetReading z = false →
      exec (.attachMoistureResult p z) s = .next (s.finish ((s.fresh.keepReadings p z).confirmAttach p (pin == 1) ra))) ∧
    (s.get (.tc p .tcState) = 5 → exec (.corrosionTimeout p) s =
      .next (s.finish (s.fresh.modTc p fun x => { x with corroded := true })))

/-- R251, R256 to R258, R262, R265 to R268: VCONN and the cable, advertisements, requests, and the transition of a contract. -/
def Obligations.PdContracts : Prop :=
  ∀ (s : State) (p : Port) (h : PdHdr) (t : State),
    (∀ v, (s.tc p).vconn = true → (s.tc p).await ≠ .cable →
      v = ((((s.fresh.vconnOff p).modTc p fun x => { x with
        vconnOut := true, cableTries := 20,
        own := x.own.filter fun a => a != .cable }).bump (.tc p .vconnFaultCount)).flag (.pd .pdEvents) pdVconnFault).raise 22 (p.val + 1) →
      ((s.tc p).cable5A = false ∨ (s.tc p).vconnOut = true → exec (.vconnOverload p) s = .next (s.finish v)) ∧
      ((s.tc p).cable5A = true → (s.tc p).vconnOut = false → exec (.vconnOverload p) s =
        .next (s.finish (v.reoffer p (v.offerPower p))))) ∧
    (s.pdReady p = true → s.policy = true → (s.tc p).source = true → (s.tc p).nonPd = false → s.shed p = false → (s.tc p).hardStage = 0 →
      (s.tc p).trans = none → (s.tc p).swap = 0 → s.get (.chan (chanOf p) .brkState) = 2 → (s.tc p).explicit = false → (s.tc p).caps < 50 →
      exec (.sourceCapabilitiesSend p) s = .next (s.finish (s.fresh.sendCaps p))) ∧
    (s.pdReady p = true → s.policy = true → (s.tc p).source = true → (s.tc p).vconn = true → (s.tc p).cableKnown = false →
      (s.tc p).hardStage = 0 → (s.tc p).trans = none → (s.tc p).explicit = false → (s.tc p).cableTries < 4 → (s.tc p).caps = 0 →
      exec (.cableDiscoveryAttempt p) s = .next (s.finish ((s.fresh.modTc p fun x =>
        { x with cableTries := x.cableTries + 1 }).pdSend p (.vdm true 1 0 0xFF00 [] 1)))) ∧
    (∀ (a : CableAnswer) vdo v, s.pdReady p = true → (s.tc p).vconn = true → (s.tc p).sent = none →
      v = ((s.fresh.lensPd p false (pdHeader 15 5 a.id false false false 2) 1 0 []).lensCount 10 (placePort p) 1).emit
        (.pd p .cableGoodCrc false) →
      ((s.tc p).lastIdP = some a.id → exec (.cableIdentity p a vdo) s =
        .next (s.finish ((v.bump (.tc p .pdViolationCount)).flag (.pd .pdEvents) pdViolation))) ∧
      ((s.tc p).lastIdP ≠ some a.id → (s.tc p).cableKnown = false → (s.tc p).cableTries ≠ 0 → (s.tc p).explicit = false →
        (s.tc p).await ≠ .cable → exec (.cableIdentity p a vdo) s = .next (s.finish
          (let w := v.modTc p fun x => { x with
            lastIdP := some a.id, cableKnown := true,
            cable5A := a.ack && bitField vdo 6 5 == 2 }
           if a.ack then w.set (.tc p .pdCableVdo) vdo else w)))) ∧
    (∀ rdo obj mv ma mw pps, s.fresh.Serves p h 2 [rdo] false ((s.tc p).await == .request) t → (t.tc p).source = true → t.shed p = false →
      t.shedDue = false →
      t.requestedObject p rdo = some obj → requestFits obj rdo = true → obj / 2 ^ 30 ≠ 3 → t.unitHeld .pmb = false →
      requestOf obj rdo = (mv, ma, mw, pps) →
        ∃ u, u = (((t.modTc p fun x => { x with await := .nothing }).pdSend p .accept).modTc p fun x =>
        { x with trans := some { rdo := rdo, mv := mv, ma := ma, pps := pps, alloc := mw } }) ∧
        exec (.request p h rdo) s =
          .next (s.finish ((u.set (.tc p .pdAllocation) (max (u.alloc p) mw)).set (.tc p .pdContractState) 4))) ∧
    (∀ rdo, s.fresh.Serves p h 2 [rdo] false ((s.tc p).await == .request) t → (t.tc p).source = true → t.shed p = false →
      t.shedDue = true → t.cmdShedDelayExpiry.shed p = true → exec (.request p h rdo) s = .next (s.finish t)) ∧
    (∀ rdo, s.fresh.Serves p h 2 [rdo] false ((s.tc p).await == .request) t → (t.tc p).source = true → t.shed p = false →
      t.shedDue = false →
      t.requestedObject p rdo = none → ∃ u, u = (((t.modTc p fun x => { x with await := .nothing }).bump (.tc p .pdRejectCount)).pdSend p
        .reject).modTc p (fun x => { x with offerOut := none }) ∧ exec (.request p h rdo) s =
          .next (s.finish ((u.set (.tc p .pdContractState) (if (t.tc p).explicit then 3 else 1)).endAms p))) ∧
    (∀ x, (s.tc p).trans = some x → x.written = false → x.pps = false → (s.tc p).sent = none → s.time.pll = true →
      exec (.transitionStart p false) s = .next (s.finish
        (((s.fresh.emit (.pmbus 1 (s.get (.tc p .pdRegAddress)) 0x46 x.ma (s.isTrue (.pd .pdRegPec)))).emit
          (.pmbus 1 (s.get (.tc p .pdRegAddress)) 0x21 (linear16 (Config.voutMode (p.val + 1)) x.mv) (s.isTrue (.pd .pdRegPec)))).modTc p
            fun y => { y with
              mv := x.mv, ma := x.ma, trans := some { x with written := true },
              bleeding := decide (x.mv < y.mv) }))) ∧
    (∀ r v, s.hasPort p = true → s.domainOn 5 = true → s.policy = true → (s.tc p).recovery = false → (s.tc p).trans = none →
      v = (s.fresh.modTc p fun x => { x with vbus := r.mv, limited := r.limit }).measure (chanOf p) r.mv r.ma →
      (inRegWindow (s.tc p).mv r.mv = false → exec (.regulatorPoll p r) s = .next (s.finish v)) ∧
      (inRegWindow (s.tc p).mv r.mv = true → exec (.regulatorPoll p r) s =
        .next (s.finish (v.modTc p fun x => { x with bleeding := false })))) ∧
    (∀ r x v, s.hasPort p = true → s.domainOn 5 = true → s.policy = true → s.time.pll = true → (s.tc p).recovery = false →
      (s.tc p).trans = some x → x.written = true → r.good = true → inRegWindow (s.tc p).mv r.mv = true →
      v = ((s.fresh.modTc p fun y => { y with vbus := r.mv, limited := r.limit }).measure (chanOf p) r.mv r.ma).modTc p
        (fun y => { y with bleeding := false }) →
      exec (.regulatorPoll p r) s = .next (s.finish (v.completeTrans p x))) ∧
    (∀ x, (s.tc p).trans = some x → x.written = true → exec (.regulatorTimeout p) s = .next (s.finish (s.fresh.regFail p))) ∧
    ((s.tc p).explicit = true → (s.tc p).source = true → (s.tc p).trans = none → exec (.vbusOutOfWindow p) s =
      .next (s.finish (s.fresh.regFail p))) ∧
    ((s.tc p).explicit = true → (s.tc p).pps = true → (s.tc p).trans = none → s.policy = true → exec (.ppsTimeout p) s =
      .next (s.finish (s.fresh.hardReset p true)))

/-- R245, R254, R259, R260, R271, R281: what a delivered message is answered, and what it records (`t` is the state in which it is
served). -/
def Obligations.PdAnswers : Prop :=
  ∀ (s : State) (p : Port) (h : PdHdr) (t : State),
    (s.fresh.Serves p h 7 [] false false t → exec (.getSourceCap p h) s =
      .next (s.finish (if (t.tc p).source && !t.shed p then t.sendCaps p else t.notSupported p))) ∧
    (s.fresh.Serves p h 8 [] false false t → exec (.getSinkCap p h) s = .next (s.finish
      (if t.get (.tc p .tcRoleMode) = 1 ∨ t.isTrue (.tc p .pdPrSwapAccept) then t.pdSend p (.sinkCapabilities [sinkCapsObject])
       else t.notSupported p))) ∧
    (∀ objects, s.fresh.Serves p h 4 objects false ((s.tc p).await == .sinkCaps) t → (t.tc p).await = .sinkCaps →
      exec (.sinkCapabilities p h objects) s = .next (s.finish ((t.modTc p fun x => { x with sinkCaps := some objects }).endAms p))) ∧
    (s.fresh.Serves p h 13 [] false true t → exec (.pdSoftReset p h) s = .next (s.finish
      (let u := ((t.loseEntry p).modTc p fun x => { x with
         txId := 0, lastId := none, await := .nothing, newContract := true,
         vswap := 0 }).pdSend p .accept
       if (u.tc p).source then
         u.modTc p fun x => { x with own := .sourceCaps :: x.own.filter fun a => a != .sourceCaps, window := false }
       else u))) ∧
    (s.fresh.Serves p h 3 [] false ((s.tc p).await == .softAccept || (s.tc p).await == .accept) t → (t.tc p).await = .accept →
      exec (.acceptReceived p h) s = .next (s.finish (t.modTc p fun x => { x with await := .psRdy }))) ∧
    (∀ objects, s.fresh.Serves p h 1 objects false false t → (t.tc p).source = false → exec (.sourceCapabilitiesReceived p h objects) s =
      .next (s.finish (((t.pdSend p (.request 0x10000401)).modTc p fun x => { x with
        await := .accept,
        swap := if x.swap = 4 then 4 else 0 }).set (.tc p .pdContractState) 2))) ∧
    (s.fresh.Serves p h 18 [] false false t → t.rev2 p = false → exec (.pdGetStatus p h) s =
      .next (s.finish (t.pdSend p (.status t.statusBytes)))) ∧
    (s.fresh.Serves p h 20 [] false false t → (t.tc p).pps = false → exec (.getPpsStatus p h) s =
      .next (s.finish (t.notSupported p))) ∧
    (s.fresh.Serves p h 20 [] false false t → (t.tc p).explicit = true → (t.tc p).pps = true → t.rev2 p = false →
      exec (.getPpsStatus p h) s = .next (s.finish (t.pdSend p (.ppsStatus [t.get (.chan (chanOf p) .chanVoltage) / 20 % 256,
        t.get (.chan (chanOf p) .chanVoltage) / 20 / 256, min 255 ((t.getInt (.chan (chanOf p) .chanCurrent)).toNat / 50),
        if (t.tc p).limited then 8 else 0])))) ∧
    (s.fresh.Serves p h 24 [] false false t → exec (.getRevision p h) s = .next (s.finish (t.pdSend p (.revision 0x31180000)))) ∧
    (s.fresh.Serves p h 22 [] false false t → (t.tc p).source = true → exec (.getSourceInfo p h) s = .next (s.finish (t.pdSend p
      (.sourceInfo (t.get (.tc p .pdPortMaxPower) / 1000 % 256 * 65536 + t.get (.tc p .pdOfferPower) / 1000 % 256 * 256 +
        t.get (.tc p .pdOfferPower) / 1000 % 256))))) ∧
    (s.fresh.Serves p h 31 [] false false t → exec (.pdUnsupportedMessage p h .unknown) s = .next (s.finish
      ((t.bump (.tc p .pdNotSupportedCount)).pdSend p (if t.rev2 p then .reject else .notSupported)))) ∧
    (s.fresh.Serves p h 1 [] true false t → exec (.pdUnsupportedMessage p h .unchunked) s = .next (s.finish
      (((t.bump (.tc p .pdViolationCount)).flag (.pd .pdEvents) pdViolation).pdSend p (if t.rev2 p then .reject else .notSupported)))) ∧
    (s.fresh.Serves p h 3 [] false false t →
      ((t.tc p).mv = 5000 → exec (.bistCarrierMode p h) s = .next (s.finish (t.emit (.pd p .bist false)))) ∧
      ((t.tc p).mv ≠ 5000 → exec (.bistCarrierMode p h) s = .next (s.finish t)) ∧
      exec (.bistTestData p h) s = .next (s.finish t)) ∧
    (s.fresh.Serves p h 6 [] false true t → exec (.pdPartnerNotice p h .alert) s = .next (s.finish t)) ∧
    (s.fresh.Serves p h 16 [] false true t → (s.tc p).await = .sinkCaps → exec (.pdPartnerNotice p h .notSupported) s =
      .next (s.finish (t.endAms p))) ∧
    (exec (.cableReset p) s = .next (s.finish s.fresh)) ∧
    (s.pdReady p = true → exec (.pdRxError p) s = .next (s.finish (s.fresh.bump (.tc p .pdRxErrorCount))))

/-- R262, R267, R269 to R275, R281: swaps, Hard Resets, and the timers of the message layer. -/
def Obligations.PdSwapsAndResets : Prop :=
  ∀ (s : State) (p : Port) (h : PdHdr) (t : State),
    (s.fresh.Serves p h 9 [] false false t → exec (.drSwap p h) s =
      .next (s.finish (((t.set (.tc p .pdSwapRefusal) 7).flag (.pd .pdEvents) pdSwapRefused).pdSend p .reject))) ∧
    (s.fresh.Serves p h 19 [] false false t → exec (.frSwap p h) s = .next (s.finish (t.notSupported p))) ∧
    (s.fresh.Serves p h 10 [] false false t → (t.tc p).source = true →
      (t.swapRefusal p = 0 → exec (.prSwap p h) s = .next (s.finish (((t.pdSend p .accept).modTc p fun x =>
        { x with swap := 1, detectOff := true }).set (.tc p .pdContractState) 5))) ∧
      (t.swapRefusal p ≠ 0 → exec (.prSwap p h) s =
        .next (s.finish (((t.set (.tc p .pdSwapRefusal) (t.swapRefusal p)).flag (.pd .pdEvents) pdSwapRefused).pdSend p .reject)))) ∧
    ((s.tc p).swap = 1 → s.time.pll = true →
      exec (.prSwapVbusOff p) s = .next (s.finish ((((((s.fresh.ackTx p).vbusOff p).modTc p fun x => { x with
      swap := 2,
      own := [], window := false, offerOut := none, target := none, explicit := false, pps := false }).set (.tc p .pdAllocation) 0).set
        (.tc p .pdOfferPower) 0).set (.tc p .pdRdo) 0))) ∧
    ((s.tc p).swap = 2 → s.time.pll = true → exec (.prSwapVsafe0v p) s = .next (s.finish (((s.fresh.modTc p fun x => { x with
      swap := 3, source := false,
      rp := 0 }).set (.tc p .tcState) 4).pdSend p .psRdy))) ∧
    (s.fresh.Serves p h 6 [] false ((s.tc p).await == .psRdy) t → (s.tc p).vswap = 0 → (s.tc p).swap = 3 → exec (.psRdyReceived p h) s =
      .next (s.finish (t.modTc p fun x => { x with swap := 4 }))) ∧
    (s.time.pll = true → (s.tc p).swap = 3 → exec (.prSwapSourceTimeout p) s = .next (s.finish (s.fresh.errorRecovery p false))) ∧
    ((s.tc p).detectOff = true → (s.tc p).swap = 0 → exec (.prSwapDetectResume p true) s =
      .next (s.finish (s.fresh.modTc p fun x => { x with detectOff := false }))) ∧
    (s.fresh.Serves p h 11 [] false false t → ((t.pdSend p .accept).tc p).vconn = true → exec (.vconnSwap p h) s =
      .next (s.finish ((t.pdSend p .accept).modTc p fun x => { x with vswap := 1 }))) ∧
    (s.fresh.Serves p h 11 [] false false t → ((t.pdSend p .accept).tc p).vconn = false → exec (.vconnSwap p h) s =
      .next (s.finish ((((t.pdSend p .accept).modTc p fun x => { x with vconn := x.vconn || (x.ra && !x.vconnOut) }).pdSend p .psRdy).flag
        (.pd .pdEvents) pdVconnSwap))) ∧
    ((s.tc p).vswap = 1 → exec (.vconnSwapTimeout p) s = .next (s.finish (s.fresh.hardReset p true))) ∧
    (s.pdReady p = true → (s.tc p).hardStage ≠ 1 → exec (.hardReset p) s = .next (s.finish (s.fresh.hardReset p false))) ∧
    ((s.tc p).hardStage = 1 → s.time.pll = true →
      exec (.hardResetVbusOff p) s = .next (s.finish ((((((s.fresh.vbusOff p).vconnOff p).regulatorDefault p).modTc p
      fun x => { x with hardStage := 2 }).set (.tc p .pdAllocation) 0).set (.tc p .pdOfferPower) 0))) ∧
    ((s.tc p).hardStage = 2 → s.time.pll = true → exec (.hardResetRecover p true) s = .next (s.finish (((((s.fresh.modTc p fun x => { x with
      hardStage := 0,
      source := true, dfp := true, discharging := false }).set (.tc p .tcState) 3).set (.tc p .pdContractState)
        (if (s.tc p).fallback then 7 else 1)).vconnOn p).vbusOn p))) ∧
    ((s.tc p).hardStage = 2 → s.time.pll = true → exec (.hardResetRecover p false) s = .next (s.finish (s.fresh.errorRecovery p true))) ∧
    (∀ m n, (s.tc p).sent = some (m, n) → s.pdReady p = true → n < (if s.rev2 p then 3 else 2) → s.lens.armed = false →
      exec (.goodcrcTimeout p) s = .next (s.finish (((s.fresh.lensCount 12 (placePort p) 1).modTc p fun x =>
        { x with sent := some (m, n + 1) }).emit (.pd p m false)))) ∧
    ((s.tc p).await = .softAccept → exec (.softResetResponseTimeout p) s = .next (s.finish (s.fresh.hardReset p true))) ∧
    (s.time.pll = true → (s.tc p).await = .request → (s.tc p).hardRow < 2 → exec (.senderResponseTimeout p) s =
      .next (s.finish (((s.fresh.ackTx p).modTc p fun x => { x with await := .nothing, offerOut := none }).hardReset p true))) ∧
    (s.time.pll = true → (s.tc p).await = .request → 2 ≤ (s.tc p).hardRow → exec (.senderResponseTimeout p) s = .next (s.finish
      (((((s.fresh.ackTx p).modTc p fun x => { x with await := .nothing, offerOut := none }).modTc p fun x =>
        { x with nonPd := true, fallback := true }).set (.tc p .pdContractState) 7).flag (.pd .pdEvents) pdNonPdFallback))) ∧
    (s.time.pll = true → (s.tc p).await = .vdm 2 → exec (.senderResponseTimeout p) s = .next (s.finish ((s.fresh.ackTx p).endEntry p 1))) ∧
    (s.time.pll = false → exec (.senderResponseTimeout p) s = .next (s.finish s.fresh) ∧
      exec (.prSwapSourceTimeout p) s = .next (s.finish s.fresh)) ∧
    ((s.tc p).window = true → (s.tc p).trans = none → (s.tc p).await = .nothing → (s.tc p).swap = 0 → (s.tc p).vswap = 0 →
      s.pdReady p = true → s.policy = true →
      exec (.sinkTxWindowEnd p) s = .next (s.finish (s.fresh.startAms p)))

/-- R263, R264: a shed delay sheds ports in their order while the allocations exceed the budget; a restored budget gives the shed ports
their VBUS back, and then offers more where less than a port's maximum was offered; both only while policy runs. -/
def Obligations.PowerBudget : Prop :=
  ∀ s : State, s.policy = true →
    exec .shedDelayExpiry s = .next (s.finish (s.fresh.forEach s.shedOrder fun s p =>
      if s.budget < s.allocated ∧ 0 < s.alloc p then s.shedPort p else s)) ∧
    (s.allocated + 2500 ≤ s.budget → ∃ t : State, t = (s.fresh.forEach s.fresh.restoreOrder fun s p =>
        if s.shed p ∧ s.allocatedOrOffered + 2500 ≤ s.budget then
          ((s.setRegBit (.pd .pdShedPorts) p.val false).flag (.pd .pdEvents) pdRestore).vbusOn p
        else s) ∧
      exec .budgetRestore s = .next (s.finish
        (t.restoreOrder.foldl (fun (acc : Nat × State) p => acc.2.restorePort acc.1 p) (0, t)).2)) ∧
    (∀ p more, ¬ (s.get (.tc p .tcState) = 3 ∧ (s.tc p).source ∧ !s.shed p ∧
      s.get (.tc p .pdOfferPower) < s.get (.tc p .pdPortMaxPower)) → s.restorePort more p = (more, s)) ∧
    (∀ p more, s.get (.tc p .tcState) = 3 → (s.tc p).source = true → s.shed p = false →
      s.get (.tc p .pdOfferPower) < s.get (.tc p .pdPortMaxPower) →
      s.alloc p < (if (s.tc p).explicit then s.offerBeside p more else rpPower (rpFor (s.offerBeside p more))) →
      (s.restorePort more p).2 = ((s.reoffer p (s.offerBeside p more)).bump (.pd .pdReofferCount)).flag (.pd .pdEvents) pdReoffer) ∧
    (s.budget < s.allocated + 2500 → exec .budgetRestore s = .next (s.finish s.fresh))

/-- R70 to R73, R277, R278: the Wyhelen exchange of structured VDMs, as responder and as initiator (`t` is the state in which a delivered
message is served). -/
def Obligations.WyhelenEntry : Prop :=
  ∀ (s : State) (p : Port) (h : PdHdr) (k : Link) (t : State),
    (s.fresh.Serves p h 15 [vdmHeader 0xFF00 0 0 1 h.svdm] false false t → exec (.discoverIdentitySop p h) s =
      .next (s.finish (t.pdSend p (.vdm false 1 1 0xFF00 (t.identityObjects p) (min h.svdm 1))))) ∧
    (s.fresh.Serves p h 15 [vdmHeader 0xFF00 0 0 2 h.svdm] false false t →
      (t.modal p = true → exec (.discoverSvids p h) s = .next (s.finish (t.pdSend p (.vdm false 2 1 0xFF00 [0x3A5D0000] (min h.svdm 1))))) ∧
      (t.modal p = false → exec (.discoverSvids p h) s = .next (s.finish (t.pdSend p (.vdm false 2 2 0xFF00 [] (min h.svdm 1)))))) ∧
    (s.fresh.Serves p h 15 [vdmHeader 0x3A5D 0 0 3 h.svdm] false false t → t.portLink p = some k → t.modal p = true →
      exec (.discoverModes p h 0x3A5D) s = .next (s.finish (t.pdSend p (.vdm false 3 1 0x3A5D [t.modeVdo k] (min h.svdm 1))))) ∧
    (s.fresh.Serves p h 15 [vdmHeader 0x3A5D 1 0 4 h.svdm] false false t → t.modal p = true → t.domainOn 6 = true →
      exec (.enterMode p h 0x3A5D 1) s =
        .next (s.finish (((t.pdSend p (.vdm false 4 1 0x3A5D [] (min h.svdm 1))).modTc p fun x => { x with entryStep :=
          6 }).entering p true))) ∧
    (∀ svid position, s.fresh.Serves p h 15 [vdmHeader svid position 0 4 h.svdm] false false t →
      (svid ≠ 0x3A5D → exec (.enterMode p h svid position) s = .next (s.finish (((t.bump (.tc p .pdViolationCount)).flag (.pd .pdEvents)
        pdViolation).pdSend p (.vdm false 4 2 svid [] (min h.svdm 1))))) ∧
      (svid = 0x3A5D → position ≠ 1 → exec (.enterMode p h svid position) s = .next (s.finish ((((t.bump (.tc p .pdViolationCount)).flag
        (.pd .pdEvents) pdViolation).refuseLink p 6).pdSend p (.vdm false 4 2 svid [] (min h.svdm 1)))))) ∧
    (s.fresh.Serves p h 15 [vdmHeader 0x3A5D 1 0 4 h.svdm] false false t → (t.modal p = false ∨ t.domainOn 6 = false) →
      exec (.enterMode p h 0x3A5D 1) s = .next (s.finish ((t.refuseLink p 6).pdSend p (.vdm false 4 2 0x3A5D [] (min h.svdm 1))))) ∧
    (s.portLink p = some k → ∀ code, s.refuseLink p code = s.set (.link k .linkRefusal) code) ∧
    (s.portLink p = some k → (s.tc p).entryStep = 6 → (s.tc p).entered = false → s.time.pll = true →
      exec (.enterModeAck p) s = .next (s.finish
      ((((((s.fresh.ackTx p).usbDisconnect p).modTc p fun x => { x with entered := true, entryStep := 9 }).set (.link k .linkRefusal)
        0).setPst p 8).cmdLinkTrainingStart k))) ∧
    (s.fresh.Serves p h 15 [vdmHeader 0x3A5D 1 0 5 h.svdm] false false t → (t.tc p).entered = true → exec (.exitMode p h) s =
      .next (s.finish ((t.pdSend p (.vdm false 5 1 0x3A5D [] (min h.svdm 1))).leaveWyhelen p))) ∧
    (s.fresh.Serves p h 15 [vdmHeader 0x3A5D 1 0 5 h.svdm] false false t → (t.tc p).entered = false → exec (.exitMode p h) s =
      .next (s.finish (t.pdSend p (.vdm false 5 2 0x3A5D [] (min h.svdm 1))))) ∧
    (s.fresh.Serves p h 15 [vdmHeader 0x3A5D 1 0 6 h.svdm] false true t → exec (.attention p h) s = .next (s.finish t)) ∧
    (s.portLink p = some k → s.ident.wyhelen = true → (s.tc p).explicit = true → (s.tc p).source = true → (s.tc p).dfp = true →
      (s.tc p).entryStep = 0 → s.policy = true → s.pdReady p = true → (s.tc p).entered = false →
      ((s.modeOf k ≠ 0 ∨ s.domainOn 6 = false) → exec (.wyhelenEntryStart p) s = .next (s.finish (s.fresh.endEntry p 5))) ∧
      (s.modeOf k = 0 → s.domainOn 6 = true → (s.tc p).cableKnown = false → exec (.wyhelenEntryStart p) s =
        .next (s.finish (s.fresh.endEntry p 2))) ∧
      (s.modeOf k = 0 → s.domainOn 6 = true → (s.tc p).cableKnown = true → 2 ≤ bitField (s.get (.tc p .pdCableVdo)) 2 0 →
        exec (.wyhelenEntryStart p) s = .next (s.finish (s.fresh.entryGo p 2)))) ∧
    (∀ v rest, s.fresh.Serves p h 15 (vdmHeader 0xFF00 0 1 1 h.svdm :: v :: rest) false ((s.tc p).await == .vdm 2) t →
      (s.tc p).await = .vdm 2 →
      (v % 65536 = 0x3A5D → v.testBit 26 = true → exec (.structuredVdmAnswer p h .identity true (v :: rest)) s =
        .next (s.finish (t.entryGo p 3))) ∧
      ((v % 65536 ≠ 0x3A5D ∨ v.testBit 26 = false) → exec (.structuredVdmAnswer p h .identity true (v :: rest)) s =
        .next (s.finish (t.endEntry p 1)))) ∧
    (∀ v rest, s.fresh.Serves p h 15 (vdmHeader 0x3A5D 0 1 3 h.svdm :: v :: rest) false ((s.tc p).await == .vdm 4) t →
      (s.tc p).await = .vdm 4 →
      (bitField v 31 24 = 0x11 → exec (.structuredVdmAnswer p h .modes true (v :: rest)) s = .next (s.finish (t.entryGo p 5))) ∧
      (bitField v 31 24 ≠ 0x11 → exec (.structuredVdmAnswer p h .modes true (v :: rest)) s = .next (s.finish (t.endEntry p 4)))) ∧
    (∀ vdos, s.fresh.Serves p h 15 (vdmHeader 0x3A5D 1 2 4 h.svdm :: vdos) false ((s.tc p).await == .vdm 5) t → (s.tc p).await = .vdm 5 →
      exec (.structuredVdmAnswer p h .enterMode false vdos) s = .next (s.finish (t.endEntry p 3)))

/-- R17, R210, R260, R280, R332, R407, R455: supplies, clocks and the temperature. Loss of the PLL's lock is counted, flagged and raised,
and on relock the counter returns to TIME edges; a supply, CORE_PG and the oscillator are conditions, and their sources are live from the
loss to the return. -/
def Obligations.SupplyAndClockEvents : Prop :=
  ∀ s : State,
    (s.time.pll = true → s.domains.wake = none → exec .pllUnlock s = .next (s.finish ((((s.fresh.setClock true false).bump
      (.domain .pllUnlockCount)).flag (.domain .domainEvents) domPllUnlock).raise 27 0))) ∧
    (s.time.pll = false → s.pllEnabled = true → s.domains.xo = true → s.domains.wake = none → exec .pllRelock s =
      .next (s.finish (s.fresh.lockPll))) ∧
    (s.isTrue (.pd .tcVbusAonEnable) = true → exec .vaonLow s = .next (s.finish ((({ s.fresh with path := { s.path with
      vbusAon := true,
      supplies := setBit s.path.supplies 0 true } }).raiseLive 31 0)))) ∧
    (s.isTrue (.pd .tcVbusAonEnable) = false → exec .vaonLow s = .next (s.finish ((({ s.fresh with path := { s.path with
      supplies := setBit s.path.supplies 0 true } }).raiseLive 31 0)))) ∧
    (setBit s.path.supplies 0 false = 0 → exec .vaonRestored s = .next (s.finish (({ s.fresh with path := { s.path with
      vbusAon := false,
      supplies := 0 } }).endLive 31))) ∧
    (∀ n : Fin 3, exec (.supplyMonitorExcursion n) s = .next (s.finish ((({ s.fresh with path := { s.path with
      supplies := setBit s.path.supplies (n.val + 1) true } }).raiseLive 31 (n.val + 1))))) ∧
    (∀ n : Fin 3, setBit s.path.supplies (n.val + 1) false = 0 → exec (.supplyMonitorReturn n) s =
      .next (s.finish (({ s.fresh with path := { s.path with supplies := 0 } }).endLive 31))) ∧
    (∀ n : Fin 3, setBit s.path.supplies (n.val + 1) false ≠ 0 → exec (.supplyMonitorReturn n) s =
      .next (s.finish ({ s.fresh with path := { s.path with supplies := setBit s.path.supplies (n.val + 1) false } }))) ∧
    ((s.get (.domain .coreRegState) = 1 ∨ s.get (.domain .coreRegState) = 2) → s.domains.corePg = true → exec .corePgFall s =
      .next (s.finish ((s.fresh.modDomains fun x => { x with corePg := false }).raiseLive 25 (s.get (.domain .coreRegState))))) ∧
    (exec .corePgRise s = .next (s.finish ((s.fresh.modDomains fun x => { x with corePg := true }).endLive 25))) ∧
    (s.time.pll = false → exec .xoLoss s =
      .next (s.finish (((s.fresh.modDomains fun x => { x with xo := false }).setClock s.pllEnabled false).raiseLive 26 0))) ∧
    (s.time.pll = true → s.domains.wake = none → ∃ t, t = (((((s.fresh.modDomains fun x => { x with xo := false }).setClock true
        false).bump (.domain .pllUnlockCount)).flag (.domain .domainEvents) domPllUnlock).raise 27 0) ∧
      exec .xoLoss s = .next (s.finish ((t.setClock t.pllEnabled false).raiseLive 26 0))) ∧
    (exec .xoReturn s = .next (s.finish (((s.fresh.modDomains fun x => { x with xo := true }).setClock s.pllEnabled s.time.pll).endLive
      26))) ∧
    (∀ w, s.domains.wake = some w → w.source = 0 → exec .xoStartTimeout s =
      .next (s.finish (((s.fresh.modDomains fun x => { x with xo := false }).setClock s.pllEnabled false).raiseLive 26 0))) ∧
    (∀ reading other, s.domainOn 1 = true → s.path.temp = some other → ∃ t, t = ((s.fresh.modDomains fun x => { x with
        temp := some reading }).setInt (.fault .dieTemperature) (max reading other)) ∧
      ∃ v : State, v = (if t.getInt (.fault .thermWarnLevel) < max reading other ∧ t.live 29 = false then
        t.forEach t.allPorts fun w p => if (w.tc p).source && (w.tc p).explicit then w.queueAms p .alert else w
        else t) ∧
      exec (.temperatureConversion false reading) s = .next (s.finish ((v.liveIf 29 (ofSigned 32 (max reading other))
        (decide (v.getInt (.fault .thermWarnLevel) < max reading other))).liveIf 30 (ofSigned 32 (max reading other))
        (decide (v.getInt (.fault .thermCritLevel) < max reading other))))) ∧
    (∀ reading, s.domainOn 1 = false → exec (.temperatureConversion true reading) s =
      .next (s.finish ({ s.fresh with path := { s.path with temp := some reading } })))

/-- R287 to R293, R298: the feeds. A lost condition opens the switches; the start goes step by step; and the failures trip. -/
def Obligations.FeedEvents : Prop :=
  ∀ (s : State) (x : Feed),
    (s.pwr = true → ∃ t, t = (s.fresh.modFeed x fun f => { f with en := false }).stopFeed x ∧
      exec (.feedEnFall x) s = .next (s.finish (if (t.feed x.other).en then t else t.clearTrip chanColl))) ∧
    (s.pwr = true → (s.feed x).en = false → exec (.feedEnRise x) s =
      .next (s.finish (((s.fresh.modFeed x fun f => { f with en := true }).clearTrip (chanOfFeed x)).feedsRefresh))) ∧
    (∀ mv t, s.pwr = true → t = s.fresh.measure (chanOfFeed x) mv (s.getInt (.chan (chanOfFeed x) .chanCurrent)) →
      ((t.feed x).inside = true → mv < t.get (.feed x .feedUvFall) → exec (.feedUndervoltage x mv) s = .next (s.finish (t.leaveWindow x))) ∧
      ((t.feed x).inside = true → t.get (.feed x .feedOvRise) < mv → exec (.feedOvervoltage x mv) s = .next (s.finish (t.leaveWindow x))) ∧
      ((t.feed x).inside = false → t.get (.feed x .feedUvRise) < mv → mv < t.get (.feed x .feedOvFall) → exec (.feedWindowEntry x mv) s =
        .next (s.finish ((t.modFeed x fun f => { f with inside := true, revHold := false }).feedsRefresh)))) ∧
    (∀ w, (s.feed x).step = 1 → (w.last * 10 < s.get (.chan (chanOfFeed x) .chanVoltage) ∨ (s.feed x.other).step = 5 ∨
      (w.most < 50 ∧ (w.last - w.first) * 100 ≤ 2 * s.get (.chan (chanOfFeed x) .chanVoltage))) →
      exec (.insertionDelayExpiry x w) s = .next (s.finish ((s.fresh.modFeed x fun f => { f with step := 2 }).showFeeds))) ∧
    (∀ w, (s.feed x).step = 1 → (s.feed x.other).step ≠ 5 → s.get (.chan (chanOfFeed x) .chanVoltage) ≤ w.last * 10 →
      (50 ≤ w.most ∨ 2 * s.get (.chan (chanOfFeed x) .chanVoltage) < (w.last - w.first) * 100) →
      exec (.insertionDelayExpiry x w) s = .next (s.finish ((((s.fresh.trip (chanOfFeed x) 6 w.most).set (.power .passDevChannel)
        (chanOfFeed x).val).flag (.power .powerEvents) powPassDev).raise 19 (chanOfFeed x).val))) ∧
    ((s.feed x).step = 2 → exec (.diodeGateReady x) s = .next (s.finish ((s.fresh.modFeed x fun f => { f with step := 3 }).showFeeds))) ∧
    ((s.feed x).step = 3 → exec (.prechargeComplete x) s =
      .next (s.finish (((s.fresh.modFeed x fun f => { f with step := 4 }).showFeeds).lensBreaker (chanOfFeed x) 3))) ∧
    ((s.feed x).step = 3 → exec (.prechargeTimeout x) s =
      .next (s.finish ((s.fresh.trip (chanOfFeed x) 3 (s.getInt (.chan (chanOfFeed x) .chanCurrent))).flag (.power .powerEvents)
        powTimeout))) ∧
    (∀ t : State, t = (if s.get (.chan chanColl .brkState) = 1 then (s.fresh.rampEnds (chanOfFeed x)).rampEnds chanColl
        else s.fresh.rampEnds (chanOfFeed x)) → (s.feed x).step = 4 →
      exec (.rampComplete x) s = .next (s.finish (((((t.modFeed x fun f => { f with step := 5 }).bump
        (.feed x .feedStartCount)).flag (.power .powerEvents) powFeedUp).showFeeds).lensBreaker (chanOfFeed x) 4))) ∧
    (2 ≤ (s.feed x).step ∨ (s.chan (chanOfFeed x).val).tripAt = some s.time.elapsed → exec (.fastReverseTurnOff x) s =
      .next (s.finish ((((((s.fresh.bump (.feed x .idealRevCount)).raise 20 x.num).flag (.power .powerEvents) powIdealRev).openFeed
        x).modFeed x fun f => { f with revHold := true }).showFeeds.lensBreaker (chanOfFeed x) 7))) ∧
    (s.pwr = true → (s.feed x).revHold = true → (s.feed x).inside = true → exec (.reverseHoldExpiry x) s =
      .next (s.finish ((s.fresh.modFeed x fun f => { f with revHold := false }).feedsRefresh)))

/-- R292, R293, R296 to R301, R303: the breakers, power-good, port VBUS and the energy checkpoint. -/
def Obligations.BreakerEvents : Prop :=
  ∀ (s : State) (c : Channel) (p : Port),
    (∀ mA, s.hasChan c = true → s.get (.chan c .brkState) = 1 → exec (.rampTimeout c mA) s =
      .next (s.finish ((s.fresh.trip c 4 mA).flag (.power .powerEvents) powTimeout))) ∧
    (∀ mA, s.hasChan c = true → s.get (.chan c .brkState) = 2 → (s.chan c.val).rampedAt = some s.time.elapsed →
      exec (.rampTimeout c mA) s = .next (s.finish (((s.fresh.uncountStart c).trip c 4 mA).flag (.power .powerEvents) powTimeout))) ∧
    (s.hasPort p = true → s.get (.chan (chanOf p) .brkState) = 1 → exec (.gateFailure (chanOf p)) s = .next (s.finish ((((s.fresh.trip
      (chanOf p) 5 (s.getInt (.chan (chanOf p) .chanCurrent))).set (.power .passDevChannel) (chanOf p).val).flag (.power .powerEvents)
        powPassDev).raise 19 (chanOf p).val))) ∧
    (∀ x : Feed, (s.feed x).step = 2 ∨ (s.feed x).step = 4 → exec (.gateFailure (chanOfFeed x)) s = .next (s.finish ((((s.fresh.trip
      (chanOfFeed x) 5 (s.getInt (.chan (chanOfFeed x) .chanCurrent))).set (.power .passDevChannel) (chanOfFeed x).val).flag
        (.power .powerEvents) powPassDev).raise 19 (chanOfFeed x).val))) ∧
    (s.pwr = true → s.hasPort p = true → (s.tc p).attach = none → s.get (.tc p .tcState) = 1 → s.get (.chan (chanOf p) .brkState) = 0 →
      (s.tc p).discharging = false → exec (.portPairShort p) s = .next (s.finish ((((s.fresh.trip (chanOf p) 6
        (s.getInt (.chan (chanOf p) .chanCurrent))).set (.power .passDevChannel) (chanOf p).val).flag (.power .powerEvents)
          powPassDev).raise 19 (chanOf p).val))) ∧
    (∀ mA, s.pwr = true → s.hasChan c = true → s.tripped c = false → s.ramping c = false → (s.curveTime c mA).isSome = true →
      exec (.curveTrip c mA) s = .next (s.finish ((s.fresh.setHeat c heatFull).trip c 1 mA))) ∧
    (∀ mA, s.pwr = true → s.hasChan c = true → s.ramping c = false → s.get (.chan c .brkInstLevel) < mA →
      exec (.instantaneousTrip c mA) s = .next (s.finish (s.fresh.trip c 2 mA))) ∧
    (∀ mA, s.pwr = true → s.hasChan c = true → s.get (.chan c .brkState) = 2 →
      (s.curveTime c mA = none → exec (.curveTrip c mA) s = .next (s.finish (s.fresh.measureCurrent c mA))) ∧
      (mA ≤ s.get (.chan c .brkInstLevel) → exec (.instantaneousTrip c mA) s = .next (s.finish (s.fresh.measureCurrent c mA)))) ∧
    (∀ d, s.Takes d (entryWrite (0x3C10 + c.val) 0x0A [1]) →
      (s.tripped c = true → (∀ q, portOfChan c = some q → s.unitHeld (.port q) = true) →
        (portOfChan c).isSome = true → exec (.brkRearm d c) s = .next (s.finish (s.fresh.verdict d 0))) ∧
      (s.tripped c = true → (∀ q, portOfChan c = some q → s.unitHeld (.port q) = false) →
        exec (.brkRearm d c) s = .next (s.finish (((s.fresh.clearTrip c).feedsRefresh).verdict d 0))) ∧
      (s.tripped c = false → exec (.brkRearm d c) s = .next (s.finish (s.fresh.verdict d 0)))) ∧
    (∀ (mv mA : Nat) (t : State), s.pwr = true → t = s.fresh.measure c mv mA → s.hasChan c = true → t.sound c = true →
      t.curveTime c mA = none → exec (.powerGoodRise c mv mA) s = .next (s.finish (t.setGood c true))) ∧
    (s.sound (chanOf p) = (s.get (.chan (chanOf p) .brkState) == 2 && inRegWindow (s.tc p).mv (s.get (.chan (chanOf p) .chanVoltage)))) ∧
    (∀ x : Feed, s.sound (chanOfFeed x) = (s.get (.chan (chanOfFeed x) .brkState) == 2 && (s.feed x).inside)) ∧
    (s.sound chanColl = (s.get (.chan chanColl .brkState) == 2 && s.collectorNear (s.get (.chan chanColl .chanVoltage)))) ∧
    (s.pwr = true → s.get (.chan (chanOf p) .brkState) = 1 →
      ∃ t, t = ((s.fresh.rampEnds (chanOf p)).set (.chan (chanOf p) .brkState) 2).lensBreaker (chanOf p) 4 ∧
        exec (.softStartComplete p) s = .next (s.finish (if (t.tc p).swap = 6 then
          (((t.modTc p fun x => { x with swap := 0 }).pdSend p .psRdy).set (.tc p .pdContractState) 1).flag (.pd .pdEvents) pdPrSwap
          else t))) ∧
    (s.pwr = false → exec (.portDischargeComplete p) s =
      .next (s.finish (s.fresh.modTc p fun x => { x with discharging := false, vbus := 0 }))) ∧
    (s.pwr = true → (s.tc p).hardStage = 0 → (s.tc p).swap = 0 → exec (.portDischargeComplete p) s =
      .next (s.finish ((s.fresh.modTc p fun x => { x with discharging := false, vbus := 0 }).vbusOn p))) ∧
    (s.pwr = true → (s.tc p).discharging = true → exec (.dischargeTimeout p) s = .next (s.finish (((s.fresh.trip (chanOf p) 7
      (s.getInt (.chan (chanOf p) .chanCurrent))).flag (.power .powerEvents) powDischargeTimeout).modTc p fun x =>
        { x with discharging := false }))) ∧
    (s.faults.gaspRun = none → s.boot.running = true → exec .energyCheckpoint s = .next (s.finish (s.fresh.checkpoint))) ∧
    (s.faults.gaspRun = none → s.boot.running = false → exec .energyCheckpoint s =
      .next (s.finish ({ s.fresh with path := { s.path with due := true } })))

/-- R314, R315, R317 to R319, R325, R328: a write of DomainCommand is checked, then takes effect after its answer, is armed, or is refused;
of two doors in one cycle the lower wins (DESIGN CHOICE, log 82); the trigger checks it again; and the core regulator's answer ends a
sleep. -/
def Obligations.DomainCommands : Prop :=
  ∀ (s : State) (d : Door) (word w : Nat) (m : State), w < 2 ^ 32 →
    m = s.fresh.modDomains (fun x => { x with written := some (s.time.elapsed, d.num) }) →
    (w = putBits word 9 8 0 → s.Takes d (entryWrite 0x4000 2 (bytesBe 4 w)) → s.rivalDoor d = none → bitField w 9 8 = 0 →
      (bitField w 12 10 = 0 → m.domainRefusal w true = none → exec (.domainCommandOff d word) s =
        .next (s.finish (({ m with due := [.sleep (w % 256) 0] }).verdict d 0))) ∧
      (bitField w 12 10 ≠ 0 → m.domainRefusal w false = none → exec (.domainCommandOff d word) s =
        .next (s.finish (((m.set (.domain .domainArmed) (2 ^ 31 + w)).modDomains fun x => { x with armedDoor := d.num }).verdict
          d 0))) ∧
      (∀ r, bitField w 12 10 = 0 → m.domainRefusal w true = some r → exec (.domainCommandOff d word) s =
        .next (s.finish ((m.refuseDomain r).verdict d (refusalCode r.1))))) ∧
    (w = putBits word 9 8 1 → s.Takes d (entryWrite 0x4000 2 (bytesBe 4 w)) → s.rivalDoor d = none → bitField w 9 8 = 1 →
      bitField w 12 10 = 0 → m.domainRefusal w true = none → exec (.domainCommandRetention d word) s =
        .next (s.finish (({ m with due := [.sleep (w % 256) 1] }).verdict d 0))) ∧
    (w = putBits word 9 8 2 → s.Takes d (entryWrite 0x4000 2 (bytesBe 4 w)) → bitField w 9 8 = 2 → bitField w 12 10 = 0 →
      (s.rivalDoor d = none → m.domainRefusal w true = none → exec (.domainCommandOn d word) s =
        .next (s.finish (({ m with due := [.wake ⟨8, d.num, w % 256, s.now⟩] }).verdict d 0))) ∧
      (∀ e, s.rivalDoor d = some e → e < d.num → exec (.domainCommandOn d word) s =
        .next (s.finish ((s.fresh.refuseDomain (5, firstDomain w)).verdict d 0x08000022))) ∧
      (∀ (e v : Nat) (t : State), s.rivalDoor d = some e → d.num < e → s.domains.armedDoor = e →
        s.get (.domain .domainArmed) = 2 ^ 31 + v → v < 2 ^ 31 → t = ((s.fresh.set (.domain .domainArmed) 0).refuseDomain
          (5, firstDomain (2 ^ 31 + v))).modDomains (fun x => { x with written := some (s.time.elapsed, d.num) }) →
        t.domainRefusal w true = none → exec (.domainCommandOn d word) s =
          .next (s.finish (({ t with due := [.wake ⟨8, d.num, w % 256, s.now⟩] }).verdict d 0)))) ∧
    (w = putBits word 9 8 3 → s.Takes d (entryWrite 0x4000 2 (bytesBe 4 w)) → s.rivalDoor d = none → bitField w 9 8 = 3 →
      w / 2 ^ 15 = 0 → bitField w 12 10 < 4 →
      exec (.domainCommandCancel d word) s = .next (s.finish ((m.set (.domain .domainArmed) 0).verdict d 0))) ∧
    (s.Takes d (entryWrite 0x4000 0x0A (bytesBe 4 w)) → exec (.wakeTimerWrite d w) s = .next (s.finish ((s.fresh.modDomains fun x =>
      { x with timerEnd := if w = 0 then none else some (s.elapsedMs + w) }).verdict d 0))) ∧
    (∀ wakes t, s.get (.domain .domainArmed) = 2 ^ 31 + w → w < 2 ^ 31 → s.triggerHolds w = true →
      t = s.fresh.set (.domain .domainArmed) 0 →
      (t.domainRefusal w true = none → exec (.domainTrigger wakes) s =
        .next (s.finish ((t.applyDomain s.domains.armedDoor w).meetSleep wakes))) ∧
      (∀ r, t.domainRefusal w true = some r → exec (.domainTrigger wakes) s = .next (s.finish (t.refuseDomain r)))) ∧
    (s.get (.domain .coreRegState) = 3 → s.domains.wake = none → s.domains.sleeping ≠ 0 → exec .coreRegAck s = .next (s.finish
      (((s.fresh.set (.domain .coreRegState) s.coreWanted).modDomains fun x => { x with corePg := true }).sleepEnds true))) ∧
    (∀ x, s.get (.domain .coreRegState) = 3 → s.domains.wake = some x → x.shared = 1 → x.resting = false → exec .coreRegAck s =
      .next (s.finish ((s.fresh.set (.domain .coreRegState) 2).wakeGo { x with shared := 0 }))) ∧
    (s.get (.domain .coreRegState) = 3 → s.domains.wake = none → exec .coreRegLowerFail s = .next (s.finish ((((s.fresh.set
      (.domain .coreRegState) 4).raise 23 (s.get (.domain .coreRegAddress))).flag (.domain .domainEvents) domCoreRegFail).sleepEnds
        false)))

/-- R322 to R325: the wake sources. Each is heard where its own place sleeps, and where it cannot be heard nothing happens. -/
def Obligations.WakeSources : Prop :=
  ∀ (s : State) (also : List WakeSeen),
    (∀ p, s.hasPort p = true → s.domainState (s.portDomain p) = 1 → exec (.wakeDownstreamPort p .remoteWake also) s =
      .next (s.finish (s.fresh.heard 1 (p.val + 1) also))) ∧
    (∀ p, s.hasPort p = true → s.domainState (s.portDomain p) = 0 → s.domainOn 5 = true → exec (.wakeDownstreamPort p .tcAttach also) s =
      .next (s.finish (s.fresh.heard 1 (p.val + 1) also))) ∧
    (∀ p how, 2 ≤ s.domainState (s.portDomain p) → exec (.wakeDownstreamPort p how also) s = .next (s.finish s.fresh)) ∧
    (∀ u, s.domainState 2 = 1 → exec (.wakeUpstream u .resume also) s = .next (s.finish (s.fresh.heard 2 (17 + u.num) also))) ∧
    (∀ u, s.domainState 2 = 0 → exec (.wakeUpstream u .vbus also) s = .next (s.finish (s.fresh.heard 2 (17 + u.num) also))) ∧
    (∀ k, s.domainState 6 = 1 → exec (.wakeLink k also) s = .next (s.finish (s.fresh.heard 3 (32 + k.val) also))) ∧
    (s.domainOn 1 = false → s.isTrue (.domain .canStbyInSleep) = true → exec (.wakeCanWup also) s =
      .next (s.finish (s.fresh.heard 4 0 also))) ∧
    (s.domainOn 1 = false → s.straps.testBit 3 = true → exec (.wakeLocAddressMatch (s.get (.loc .locAddress)) also) s =
      .next (s.finish (s.fresh.heard 5 0 also))) ∧
    (∀ n, s.domains.timerEnd = some n → exec (.wakeTimerExpiry also) s =
      .next (s.finish ((s.fresh.modDomains fun x => { x with timerEnd := none }).heard 6 0 also))) ∧
    (s.domainOn 5 = true → exec (.wakeFeedChange also) s = .next (s.finish (s.fresh.heard 7 0 also))) ∧
    (∀ source detail, s.domainOn 0 = true → s.domains.sleeping = 0 → s.sourceEnabled source detail = true →
      s.heard source detail [] = s.wakeFor [⟨source, detail, s.get (.domain .wakeDomains), s.now⟩] 0) ∧
    (∀ source detail, s.sourceEnabled source detail = false → s.heard source detail [] = s)

/-- R326, R327: the steps of a wake. A ready step is followed by the next; a failed one is undone and tried again after 1 ms; the fourth
failure leaves the domain off. -/
def Obligations.WakeSteps : Prop :=
  ∀ (s : State) (w : WakeRt), s.domains.wake = some w →
    (∀ bad, w.shared = 1 → w.resting = false → exec (.wakeStepReady 255 bad) s =
      .next (s.finish ((s.fresh.set (.domain .coreRegState) 2).wakeGo { w with shared := 0 }))) ∧
    (∀ bad, w.shared = 2 → w.resting = false → s.domains.xo = true → exec (.wakeStepReady 255 bad) s =
      .next (s.finish ((s.fresh.lockPll).wakeGo { w with
        shared := 0,
        doms := w.doms.map fun x => if x.step = 2 then { x with step := 3 } else x }))) ∧
    (∀ d x bad, d ≠ 255 → w.doms.find? (fun y => y.d == d && !y.resting) = some x →
      (x.step = 1 → w.shared ≠ 1 → exec (.wakeStepReady d bad) s = .next (s.finish (s.fresh.wakeGo { w with
        doms := w.doms.map fun z => if z.d = d then { x with step := 2, failed := 0 } else z }))) ∧
      (x.step = 3 → x.cold = false → exec (.wakeStepReady d bad) s = .next (s.finish (s.fresh.wakeGo { w with
        doms := w.doms.map fun z => if z.d = d then { x with step := 4, failed := 0 } else z }))) ∧
      (x.step = 3 → x.cold = true → d = 1 → exec (.wakeStepReady d bad) s = .next (s.finish ((s.fresh.sramTest 8 21 bad).wakeGo { w with
        doms := w.doms.map fun z => if z.d = d then { x with step := 4, failed := 0 } else z }))) ∧
      (x.step = 4 → s.domainOn 1 = true → exec (.wakeStepReady d bad) s = .next (s.finish ((s.fresh.domainStarts d x.cold).wakeGo { w with
        doms := w.doms.filter fun z => z.d != d,
        woken := w.woken ||| 2 ^ d }))) ∧
      (∀ reason, x.step ≠ 2 → x.failed < 3 → reason ≠ 1 → reason ≠ 5 → exec (.wakeStepTimeout d reason) s =
        .next (s.finish (s.fresh.modDomains fun y => { y with wake := some { w with
          doms := w.doms.map fun z => if z.d = d then { x with failed := x.failed + 1, resting := true } else z } }))) ∧
      (∀ reason, x.step ≠ 2 → 3 ≤ x.failed → reason ≠ 1 → reason ≠ 5 → exec (.wakeStepTimeout d reason) s =
        .next (s.finish (s.fresh.wakeFails w (2 ^ d) d x.step reason)))) ∧
    (∀ reason, w.shared = 1 → w.resting = false → w.failed < 3 → reason ≠ 1 → reason ≠ 5 → exec (.wakeStepTimeout 255 reason) s =
      .next (s.finish (s.fresh.modDomains fun x => { x with wake := some { w with failed := w.failed + 1, resting := true } }))) ∧
    (w.resting = true → w.shared = 1 → exec (.wakeStepRetry 255) s =
      .next (s.finish ((s.fresh.modDomains fun x => { x with wake := some { w with resting := false } }).commandCore 2))) ∧
    (∀ d, d ≠ 255 → exec (.wakeStepRetry d) s = .next (s.finish (s.fresh.modDomains fun x => { x with wake := some { w with
      doms := w.doms.map fun z => if z.d = d then { z with resting := false } else z } })))

/-- R332, R334, R335, R338, R340, R343, R345, R346, R352, R371: the fault system's own commands. -/
def Obligations.FaultCommands : Prop :=
  ∀ (s : State) (d : Door),
    (∀ r, s.faults.safe = none → s.faults.running = some r → r.level = 2 → exec .faultReactionComplete s =
      .next (s.finish ((s.fresh.modFaults fun f => { f with running := none }).reactionEnds r))) ∧
    (∀ r, s.faults.safe = none → s.faults.running = some r → r.level = 3 → s.resetOver r.unit = true → exec .faultReactionComplete s =
      .next (s.finish (((s.fresh.modFaults fun f => { f with running := none }).resetDone r.unit).reactionEnds r))) ∧
    (∀ r, s.faults.safe = some r → exec .faultReactionComplete s =
      .next (s.finish ((s.fresh.modFaults fun f => { f with safe := none }).reactionEnds r))) ∧
    (∀ w rest, s.faults.windows = w :: rest → exec .reactionWindowEnd s =
      .next (s.finish ((s.fresh.modFaults fun f => { f with windows := rest }).raiseAgain w.merged))) ∧
    (s.faults.pulse = true → s.get (.fault .faultSafeState) = 0 → s.get (.fault .faultNControl) = 0 → exec .faultPulseEnd s =
      .next (s.finish ((s.fresh.modFaults fun f => { f with pulse := false }).emit (.pin .faultN .high)))) ∧
    (∀ m rest, s.canRuns = true → (∀ t, s.doors.emcyTime = some t → t + s.get (.comm .inhibitEmcy) * 240000 ≤ s.time.elapsed) →
      s.faults.emcyLost = 0 → s.faults.emcy = m :: rest → exec .emcySend s = .next (s.finish (({ s.fresh with
        faults := { s.faults with emcy := rest },
        doors := { s.doors with emcyTime := some s.time.elapsed } }).sendCan (s.get (.comm .cobIdEmcy) % 2048) m.bytes))) ∧
    (∀ n, n < 64 → s.Takes d (entryWrite 0x4400 0x10 [byteOf n]) → s.live n = false → exec (.faultUnitRelease d n) s =
      .next (s.finish ((((s.fresh.modFaults fun f => { f with held := f.held.filter fun e => e.1 != n }).setRegBit
        (.fault .faultUnitsDisabled) n false).forEach ((s.faults.held.filter fun e => e.1 == n).map Prod.snd) fun s u =>
          s.unitBack u).verdict d 0))) ∧
    (∀ n, n < 64 → s.Takes d (entryWrite 0x4400 0x10 [byteOf n]) → s.live n = true → exec (.faultUnitRelease d n) s =
      .next (s.finish (s.fresh.verdict d abortState))) ∧
    (s.Takes d (entryWrite 0x4400 0x11 [0xA5]) → s.get (.fault .faultSafeState) ≠ 0 →
      (∀ n, n < 64 → s.live n = true → s.severity n ≠ 5) →
      exec (.faultSafeRelease d) s = .next (s.finish ((s.fresh.releaseStart).verdict d 0))) ∧
    (∀ detail, detail < 2 ^ 32 → s.Takes d (entryWrite 0x4400 0x12 (bytesBe 4 detail)) → exec (.faultSoftRaise d detail) s =
      .next (s.finish ((s.fresh.raise 63 detail).verdict d 0))) ∧
    (s.Takes d (entryWrite 0x4400 0x0E [1]) → s.get (.fault .faultNControl) = 0 → s.get (.fault .faultSafeState) = 0 →
      s.faults.pulse = false → exec (.faultNControl d 1) s =
        .next (s.finish (((s.fresh.set (.fault .faultNControl) 1).emit (.pin .faultN .low)).verdict d 0))) ∧
    (∀ n, n < 256 → s.Takes d (entryWrite 0x4400 5 (bytesBe 4 (n * 2 ^ 24 + 1))) →
      (n = eventSeq (s.get (.fault .faultStatus)) → exec (.faultLatchClear d n) s =
        .next (s.finish ((s.fresh.clearFaultStatus (n * 2 ^ 24 + 1)).verdict d 0))) ∧
      (n ≠ eventSeq (s.get (.fault .faultStatus)) → exec (.faultLatchClear d n) s =
        .next (s.finish (((s.fresh.bump (.doors .staleClearCount)).flag (.doors .doorEvents) doorStaleClear).verdict d 0)))) ∧
    (s.domainOn 1 = true → s.boot.running = true → exec .stewardWatchdogExpiry s = .next (s.finish (s.fresh.raise 58 0))) ∧
    (∀ errors, s.coreRuns = true → s.doors.canOff = false → s.doors.busOff = false → exec (.canBusOff errors) s =
      .next (s.finish ((({ s.fresh.cutReads .can with doors := { s.doors with busOff := true, sdo := none } }).bump
        (.can .canBusOffCount)).raiseLive 59 errors))) ∧
    (s.coreRuns = true → s.doors.busOff = true → exec .busOffRecovery s =
      .next (s.finish ((({ s.fresh with doors := { s.doors with busOff := false } }).cmdEmcySend).endLive 59))) ∧
    (∀ b, s.faults.gaspRun = some b → exec .lastGaspProgramDone s =
      .next (s.finish (s.fresh.modFaults fun f => { f with gasp := some b, gaspRun := none })))

/-- R107, R279, R310, R350, R379, R404, R406 to R409, R418, R420: what starts and stops the facet, what its flash answers, and its
upstreams. -/
def Obligations.StartUpCommands : Prop :=
  ∀ s : State,
    (∃ t : State, t = { s.fresh.losePwr with path := { s.fresh.losePwr.path with temp := none } } ∧ exec .powerDieStart s =
      .next (s.finish ((if t.domainOn 1 = true ∧ t.boot.started = true then t else
        { t with regs := t.regs.filter fun e => e.1.dom != 5 }).domainStarts 5 true))) ∧
    (s.domainState 0 = 0 → s.boot.inReset = false → exec .powerOn s =
      .next (s.finish ((s.fresh.dropLogic fun _ => false).startLogic 1))) ∧
    (exec .resetNLow s = .next (s.finish ((s.fresh.dropLogic latchKept).modBoot fun b => { b with inReset := true }))) ∧
    (s.boot.inReset = true → exec .resetNRise s = .next (s.finish (s.fresh.startLogic 2))) ∧
    (exec .powerRemoval s = .next (s.finish ((s.fresh.dropLogic fun _ => false).modBoot fun b => { b with inReset := false }))) ∧
    (∀ ok sfdp, s.coreRuns = true → s.boot.running = false → s.boot.inReset = false → s.faults.safeRun = false → s.bootSource = 2 →
      s.bankFits 0 = true → s.boot.valid.getD 1 false = false → s.get (.strap .resetCause) ≠ 1 → exec (.stewardBoot (true, ok) sfdp) s =
        .next (s.finish (((s.fresh.discoverFlash sfdp).modBoot fun x => { x with valid := [true, false] }).runBank 0))) ∧
    (∀ ok, s.coreRuns = true → s.boot.running = true → s.boot.started = false → s.boot.recovery = false → s.boot.restart = false →
      s.cfg.copyB = none → ∃ v, v = ((s.fresh.loadCopy (if ok then s.cfg.copyA else none)).when
          ((if ok then s.cfg.copyA else none).isNone && !s.cfg.copyA.isNone) fun t => t.raise 57 0x020000).modBoot (fun x =>
            { x with started := true, waiting := true, restart := false, aonLoaded := true }) ∧
        ∃ t, t = (v.forEach (v.allPorts.filter fun p => v.wired p) fun w p => w.setPst p 8).drivePins ∧
        ∃ u : State, u = (({ t with time := { t.time with
          base := if t.get (.time .servoState) = 0 then t.getInt (.time .timeFocalTrim) * 256 else t.storedFreq } }).setFreq
            (if t.get (.time .servoState) = 0 then t.getInt (.time .timeFocalTrim) * 256 else t.storedFreq)).powerCommitted.resumeEnergy ∧
        (u.faults.gasp = none → exec (.configLoad ok true) s = .next (s.finish (u.canBoot.wakeFor [⟨0, 0, 0xFC, u.now⟩] 0)))) ∧
    (∀ u rp v w, s.domainOn 2 = true → ((s.up u).attached = false ∨ (s.up u).vbus = false) →
      v = (s.fresh.modUp u fun x => { x with attached := true, vbus := true }) →
      w = (if (s.up u).presents = .nothing then v else v.setUpSpeed u 2) → exec (.upstreamAttach u rp) s = .next (s.finish
        (((w.set (.pd .tcUpstreamRp) (putBits (w.get (.pd .tcUpstreamRp)) (2 * u.num + 1) (2 * u.num) rp)).endLive
          (32 + u.num)).showUp u))) ∧
    (s.coreRuns = true → s.boot.started = true → s.boot.waiting = true → s.settled = true → exec .upstreamPullupConnect s =
      .next (s.finish (((s.fresh.modBoot fun b => { b with waiting := false }).showUp .UA).showUp .UB))) ∧
    (s.coreRuns = true → s.boot.running = true → s.cfg.storing = true →
      ∃ t : State, t = { s.fresh with cfg := { s.cfg with storing := false } } ∧
      exec (.configStoreDone true) s = .next (s.finish (t.store.set (.commit .configCommitResult) 1)) ∧
      exec (.configStoreDone false) s = .next (s.finish (((t.set (.commit .configCommitResult) 4).raise 57 s.storeSector).flag
        (.doors .doorEvents) doorStoreFail))) ∧
    (s.boot.running = false → exec (.configStoreDone true) s = .next (s.finish s.fresh) ∧
      exec (.prismStoreDone true) s = .next (s.finish s.fresh)) ∧
    (s.coreRuns = true → s.boot.running = true → s.cfg.prismStore = true →
      ∃ t : State, t = { s.fresh with cfg := { s.cfg with prismStore := false } } ∧
      exec (.prismStoreDone false) s = .next (s.finish ((t.raise 57 s.storeSector).flag (.doors .doorEvents) doorStoreFail)) ∧
      (s.get (.lock .prismCommitResult) = 3 → exec (.prismStoreDone true) s =
        .next (s.finish (t.store.set (.lock .prismCommitResult) 1))))

/-- A step takes the command at the front of the queue and runs it with the rest waiting; on an empty queue one clock edge passes
(DESIGN CHOICE, log 4). -/
def Obligations.StepRunsFrontCommand : Prop :=
  (∀ (c : Instr) (rest : List Instr) (s : State), step { s with pending := c :: rest } = exec c { s with pending := rest }) ∧
    (∀ (c : Instr) (s : State), s.pending = [] → step { s with pending := [c] } = exec c s) ∧
    (∀ s : State, s.pending = [] → step s = .next s.tick)

/-- What the facet is after reset: nothing waits and nothing is due, its identity is a variant, every domain it has is on, and the fault
latch, the breakers, the hold-overs and the links hold their resets (R356, R286, R148, R78; the moment and the identity are log 2's). -/
def Obligations.ResetState : Prop :=
  State.reset.Between ∧ State.reset.pending = [] ∧ (∀ d : Fin 8, State.reset.domainOn d.val = true) ∧
    State.reset.get (.fault .faultFirstSource) = 0xFF ∧ State.reset.get (.fault .faultStatus) = 0 ∧
    (∀ c : Channel, State.reset.get (.chan c .brkState) = 0 ∧ State.reset.tripped c = false) ∧
    (∀ i : Image, State.reset.holdState i = 0) ∧
    (∀ k : Link, State.reset.get (.link k .linkState) = 0) ∧ State.reset.get (.time .servoState) = 0

/-- R2. The layout of `VariantCode`, and the entry that shows it. -/
def Obligations.VariantCodeLayout : Prop :=
  ∀ (s : State) (c : Caller) (staged : Bool),
    s.entryBytes c 0x4C00 1 staged = bytesBe 2 s.ident.variantCode ∧
    (s.ident.ports < 256 → bitField s.ident.variantCode 15 8 = s.ident.ports) ∧
    s.ident.variantCode.testBit 1 = s.ident.wyhelen ∧ s.ident.variantCode.testBit 0 = s.ident.dram ∧
    bitField s.ident.variantCode 7 2 = 0

/-- R71. The layout of the Wyhelen Mode VDO of link k, for every value that `RingMemberState`, one byte wide, can hold. -/
def Obligations.WyhelenModeVdo : Prop :=
  ∀ (s : State) (k : Link), s.get (.ring .ringMemberState) < 256 →
    bitField (s.modeVdo k) 31 28 = 1 ∧ bitField (s.modeVdo k) 27 24 = 1 ∧ bitField (s.modeVdo k) 23 16 = 0 ∧
    bitField (s.modeVdo k) 15 8 = s.get (.ring .ringMemberState) ∧ bitField (s.modeVdo k) 7 0 = k.val

/-- R190. A write to `StreamCommand` of a stream that is not configured, and of a value outside 1 to 4, is refused and changes nothing; a
clearing write to `StreamEvents` acts whether or not the stream is configured. -/
def Obligations.StreamCommandRefusals : Prop :=
  ∀ (s : State) (d : Door) (n : Stream),
    (s.configured n.val = false →
      (s.Takes d (entryWrite (0x2D00 + n.val) 16 [1]) → exec (.streamMark d n) s = .next (s.finish (s.fresh.verdict d 0x08000022))) ∧
      (s.Takes d (entryWrite (0x2D00 + n.val) 16 [2]) → exec (.streamRewind d n) s = .next (s.finish (s.fresh.verdict d 0x08000022))) ∧
      (s.Takes d (entryWrite (0x2D00 + n.val) 16 [3]) → exec (.streamRelease d n) s = .next (s.finish (s.fresh.verdict d 0x08000022))) ∧
      (s.Takes d (entryWrite (0x2D00 + n.val) 16 [4]) → exec (.streamFlush d n) s = .next (s.finish (s.fresh.verdict d 0x08000022)))) ∧
    (∀ v : Byte, (v.toNat = 0 ∨ 4 < v.toNat) → s.Takes d (entryWrite (0x2D00 + n.val) 16 [1]) →
      exec (.registerWrite d (entryWrite (0x2D00 + n.val) 16 [v])) s = .next (s.finish (s.fresh.verdict d 0x06090030))) ∧
    (∀ w, w < 2 ^ 32 → s.Takes d (entryWrite (0x2D00 + n.val) 19 (bytesBe 4 w)) →
      exec (.eventFlagClear d (0x2D00 + n.val) 19 w) s =
        .next (s.finish ((s.fresh.clearEvents (.stream n .streamEvents) w).verdict d 0))) ∧
    (∀ w, s.writeChecks (callerAt d) (entryWrite (0x2D00 + n.val) 19 (bytesBe 4 w)) =
      (s.set (.stream n .streamEnable) 0).writeChecks (callerAt d) (entryWrite (0x2D00 + n.val) 19 (bytesBe 4 w)))

/-- R212. A wrap of the counter: `TimeWrapCount` increments, WRAP is flagged, and TIME_WRAP (source 62) is raised with the count;
`TimeExtended` is the wrap count × 2³² plus the counter, both read from one state. -/
def Obligations.CounterWrap : Prop :=
  ∀ (s : State) (amount : Nat),
    (2 ^ 64 ≤ s.counter + amount → ∃ t : State, s.advanceTime amount = t ∧
      t.get (.time .timeWrapCount) = (s.get (.time .timeWrapCount) + 1) % 2 ^ 32 ∧
      t.get (.time .timeEvents) = eventSet (s.get (.time .timeEvents)) timeWrap % 2 ^ 32 ∧
      t.due = s.due ++ [.raised 62 (t.get (.time .timeWrapCount))] ∧ t.counter = (s.counter + amount) % 2 ^ 64) ∧
    (s.counter + amount < 2 ^ 64 → ∃ t : State, s.advanceTime amount = t ∧ t.regs = s.regs ∧ t.due = s.due ∧
      t.counter = s.counter + amount) ∧
    s.extended = s.get (.time .timeWrapCount) * 2 ^ 32 + s.now ∧
    ∀ (c : Caller) (staged : Bool), s.entryBytes c 0x3400 3 staged = bytesBe 8 s.extended

/-- R325. A write of n to `WakeTimer` starts a countdown of n ms and 0 stops it; a read returns the time that remains; and at 0 the timer
fires and then reads 0. -/
def Obligations.WakeTimerCounts : Prop :=
  ∀ (s u : State) (d : Door) (n : Nat) (also : List WakeSeen), n < 2 ^ 32 →
    (s.Takes d (entryWrite 0x4000 0x0A (bytesBe 4 n)) → ∃ t : State, exec (.wakeTimerWrite d n) s = .next (s.finish (t.verdict d 0)) ∧
      t.wakeTimer = n ∧ (n = 0 → t.domains.timerEnd = none) ∧
      (u.domains.timerEnd = t.domains.timerEnd → t.elapsedMs ≤ u.elapsedMs → u.wakeTimer = n - (u.elapsedMs - t.elapsedMs))) ∧
    (∀ c staged, s.entryBytes c 0x4000 0x0A staged = bytesBe 4 s.wakeTimer) ∧
    (s.domains.timerEnd = none → exec (.wakeTimerExpiry also) s = .next (s.finish s.fresh)) ∧
    (s.domains.timerEnd ≠ none → ∃ t : State, t.wakeTimer = 0 ∧ t.regs = s.regs ∧
      exec (.wakeTimerExpiry also) s = .next (s.finish (t.heard 6 0 also)))

/-- R340, R375, R376: setting a flag of an event-status entry, and the clear of an entry and of the fault latch. A set flag reads 1 and
the sequence number advances modulo 256. A current sequence number, judged before what the hub set in the cycle, clears what the write
names but for those flags, and nothing else; a stale one changes nothing and is counted; a clear of FIRST empties the latch and keeps the
bits of live sources. -/
def Obligations.EventFlags : Prop :=
  (∀ (s : State) (r : Reg) (b : Nat), r = .fault .faultStatus ∨ eventReg r = true → b < 24 →
    ((s.flag r b).get r).testBit b = true ∧ (∀ k, k < 24 → k ≠ b → ((s.flag r b).get r).testBit k = (s.get r).testBit k) ∧
    eventSeq ((s.flag r b).get r) = (eventSeq (s.get r) + 1) % 256 ∧ ∀ x, x ≠ r → (s.flag r b).get x = s.get x) ∧
  ∀ (s : State) (d : Door) (idx sub v : Nat) (r : Reg) (e : Entry), v < 2 ^ 32 → entryOf idx sub = some e → e.access = .rs →
    e.regs = [r] → s.Takes d (entryWrite idx sub (bytesBe 4 v)) →
    (eventReg r = true → s.seqBefore r = none → bitField v 31 24 = eventSeq (s.get r) → ∃ t : State,
      exec (.eventFlagClear d idx sub v) s = .next (s.finish (t.verdict d 0)) ∧
      (∀ b, b < 24 → (t.get r).testBit b = ((s.get r).testBit b && !v.testBit b)) ∧ eventSeq (t.get r) = eventSeq (s.get r) ∧
      ∀ x, x ≠ r → t.get x = s.get x) ∧
    (∀ seq flags, eventReg r = true → s.seqBefore r = some (seq, flags) → flags < 2 ^ 24 → bitField v 31 24 = seq → ∃ t : State,
      exec (.eventFlagClear d idx sub v) s = .next (s.finish (t.verdict d 0)) ∧
      (∀ b, b < 24 → (t.get r).testBit b = ((s.get r).testBit b && (!v.testBit b || flags.testBit b))) ∧
      eventSeq (t.get r) = eventSeq (s.get r) ∧ ∀ x, x ≠ r → t.get x = s.get x) ∧
    ((eventReg r = true ∧ bitField v 31 24 ≠ ((s.seqBefore r).map Prod.fst).getD (eventSeq (s.get r))) ∨
      (r = .fault .faultStatus ∧ bitField v 31 24 ≠ eventSeq (s.get r)) → ∃ t : State,
      exec (.eventFlagClear d idx sub v) s = .next (s.finish (t.verdict d 0)) ∧
      t.get (.doors .staleClearCount) = (s.get (.doors .staleClearCount) + 1) % 2 ^ 32 ∧
      t.get (.doors .doorEvents) = eventSet (s.get (.doors .doorEvents)) doorStaleClear % 2 ^ 32 ∧
      ∀ x, x ≠ .doors .staleClearCount → x ≠ .doors .doorEvents → t.get x = s.get x) ∧
    (r = .fault .faultStatus → bitField v 31 24 = eventSeq (s.get r) → v.testBit 0 = true → (s.get r).testBit 0 = true → ∃ t : State,
      exec (.eventFlagClear d idx sub v) s = .next (s.finish (t.verdict d 0)) ∧
      t.get (.fault .faultFirstSource) = 0xFF ∧ t.get (.fault .faultMerged) = 0 ∧
      (∀ n, n < 64 → (t.get (.fault .faultLatched)).testBit n = ((s.get (.fault .faultLatched)).testBit n && s.live n)) ∧
      (∀ b, b < 5 → (t.get r).testBit b = ((s.get r).testBit b && !v.testBit b)) ∧
      (s.get (.fault .faultSafeState) = 1 → (t.get r).testBit 5 = (s.get r).testBit 5)) ∧
    (∀ n detail, s.live n = true → s.raiseLive n detail = s)

/-- R360, R361, R363, R419: the order in which a write is turned away. A closed door comes first, then fail-safe, the recovery loader, an
entry that does not exist, a missing right, an entry that is read-only. -/
def Obligations.WriteChecksInOrder : Prop :=
  ∀ (s : State) (c : Caller) (w : RegWrite),
    (s.doorOpen c.via = false → s.writeChecks c w = abLocal) ∧
    (s.doorOpen c.via = true → s.faults.safeRun = true → (w.index ≠ 0x4400 ∨ w.sub ≠ 17) → s.writeChecks c w = abortState) ∧
    (s.doorOpen c.via = true → s.faults.safeRun = false →
      (s.boot.recovery = true → c.via ≠ .loc → s.writeChecks c w = abBusy) ∧
      (s.boot.recovery = false →
        (indexExists w.index = false → s.writeChecks c w = abNoIndex) ∧
        (indexExists w.index = true → entryOf w.index w.sub = none → s.writeChecks c w = abNoSub) ∧
        (∀ e, indexExists w.index = true → entryOf w.index w.sub = some e →
          (∀ b, writeRight w.index w.sub e = some b → (s.rights c.via).testBit b = false → s.writeChecks c w = abRights) ∧
          (writeRight w.index w.sub e = none → locOnly w = false → e.access = .ro → s.writeChecks c w = abReadOnly))))

/-- Every write that a command stands for goes through the checks of its door. A door that cannot be reached does nothing, and so
does a closed LOC door; any other closed door answers 0x08000021, one in fail-safe 0x08000022 to all but `FaultSafeRelease`. Whatever the
reason, a refused write changes nothing but what counts the answer. -/
def Obligations.RefusedWrites : Prop :=
  ∀ (s : State) (c : Instr) (d : Door) (w : RegWrite), asWrite c = some (d, w) →
    (s.doorReach d = false → exec c s = .next (s.finish s.fresh)) ∧
    (s.doorReach d = true → s.writeChecks (callerAt d) w ≠ 0 →
      exec c s = .next (s.finish (s.fresh.verdict d (s.writeChecks (callerAt d) w)))) ∧
    (s.doorReach d = true → s.doorOpen d = false → exec c s = .next (s.finish (s.fresh.verdict d 0x08000021))) ∧
    (s.doorReach d = true → s.doorOpen d = true → s.faults.safeRun = true → (w.index ≠ 0x4400 ∨ w.sub ≠ 17) →
      exec c s = .next (s.finish (s.fresh.verdict d 0x08000022)))

/-- R16, R17: while the PLL is not locked, or HUB is not on, nothing happens in the logic that its clocks drive: a command that acts
there leaves the state as the end of a step leaves it. -/
def Obligations.StoppedLogic : Prop :=
  ∀ (s : State) (c : Instr), coreRow c = true → s.coreRuns = false → exec c s = .next (s.finish s.fresh)

/-- What the end of a step does where nothing follows from the command: nothing. So the statements of a command's effect say, for every
field but the queue and the identity, what the next state holds. -/
def Obligations.CalmFinish : Prop :=
  ∀ s t : State, s.Calm t → s.finish t = { t with pending := s.pending, ident := s.ident, due := [] }

/-- What stands between two commands is kept by every step: nothing is due, the identity is that of a variant and does not change, the
commands that wait stay well-formed, and exactly the command at the front has gone. -/
def Obligations.StepKeepsBetween : Prop :=
  ∀ s t : State, s.Between → step s = .next t → t.Between ∧ t.ident = s.ident ∧ t.pending = s.pending.tail

/-- The queue is first in, first out, and no command is dropped or refused: as many steps as commands wait run them in their order, each on
the state that the one before it left, and end with an empty queue. -/
def Obligations.QueueInOrder : Prop :=
  ∀ (l : List Instr) (s : State), ∃ t : State,
    steps l.length { s with pending := l } = .next t ∧ runAll l { s with pending := l } = .next t ∧ t.pending = []

/-- R208, R210, R212: edges of the clock. With the PLL locked the 64-bit counter advances by exactly the increment at each TIME edge,
wraps, and each wrap is counted; without it, by 19.2 times the increment at each XO edge; with neither clock nothing changes but the
power die's own time (DESIGN CHOICE, log 4). -/
def Obligations.ClockEdges : Prop :=
  ∀ (s : State) (n : Nat), s.counter < 2 ^ 64 → s.get (.time .timeWrapCount) < 2 ^ 32 →
    (s.time.pll = true → s.increment < 2 ^ 64 → ∃ t : State, State.clockEdge^[n] s = t ∧
      t.time.elapsed = s.time.elapsed + 5 * n ∧ t.counter = (s.counter + n * s.increment) % 2 ^ 64 ∧
      t.get (.time .timeWrapCount) = (s.get (.time .timeWrapCount) + (s.counter + n * s.increment) / 2 ^ 64) % 2 ^ 32) ∧
    (s.time.pll = false → s.domains.xo = true → s.increment * 192 / 10 < 2 ^ 64 → ∃ t : State, State.clockEdge^[n] s = t ∧
      t.time.elapsed = s.time.elapsed + 96 * n ∧ t.counter = (s.counter + n * (s.increment * 192 / 10)) % 2 ^ 64) ∧
    (s.time.pll = false → s.domains.xo = false →
      State.clockEdge^[n] s = { s with time := { s.time with elapsed := s.time.elapsed + 96 * n } })

/-- R208: an idle facet keeps time. From every state at rest, n steps with no command are n clock edges: the counter has advanced by n
increments, nothing has been sent, and the facet is still at rest. The step on an empty queue is the model's (DESIGN CHOICE, log 4). -/
def Obligations.IdleFacetKeepsTime : Prop :=
  ∀ (s : State) (n : Nat), s.Idle → s.counter + n * s.increment < 2 ^ 64 → ∃ t : State, steps n s = .next t ∧ t.Idle ∧
    t.counter = s.counter + n * s.increment ∧ t.time.elapsed = s.time.elapsed + 5 * n ∧ t.increment = s.increment ∧
    t.ident = s.ident ∧ (0 < n → t.out = []) ∧ t.get (.time .timeWrapCount) = s.get (.time .timeWrapCount) ∧
    t.get (.fault .faultStatus) = s.get (.fault .faultStatus)

/-- R456, R457: the check codes. The CRC-32 is the division by 0x04C11DB7 from 0xFFFFFFFF over the bytes' reflected bits, with the result
reflected and inverted; the CRC-16 the division by 0x1021 from 0xFFFF over the bits as they stand; and both give the manual's check
values. -/
def Obligations.CheckCodes : Prop :=
  (∀ bytes : List Byte, crc32 bytes = mirrored 32 ((bytes.flatMap bitsUp).foldl (crcBit 32 0x04C11DB7) 0xFFFFFFFF) ^^^ 0xFFFFFFFF) ∧
    (∀ bytes : List Byte, crc16 bytes = (bytes.flatMap bitsDown).foldl (crcBit 16 0x1021) 0xFFFF) ∧
    crc32 [0x31, 0x32, 0x33, 0x34, 0x35, 0x36, 0x37, 0x38, 0x39] = 0xCBF43926 ∧
    crc16 [0x31, 0x32, 0x33, 0x34, 0x35, 0x36, 0x37, 0x38, 0x39] = 0x29B1

/-- The register file: a register reads what was written, cut to its width, no other register changes, and the table of registers stays in
its one form, in which equal register files are equal data. -/
def Obligations.RegisterFile : Prop :=
  ∀ (s : State) (r : Reg) (v : Nat), (s.set r v).get r = v % 2 ^ r.bits ∧ (∀ x, x ≠ r → (s.set r v).get x = s.get x) ∧
    (Table.Canonical Reg.addr (fun x => x.default s.ident) s.regs →
      Table.Canonical Reg.addr (fun x => x.default s.ident) (s.set r v).regs) ∧
    Table.Canonical Reg.addr (fun x => x.default State.reset.ident) State.reset.regs
end

