-- ==== Sys2Proof/Laws/Fresh.lean ====
section
/-! SUPPORT. What is read of a state reads the same in the state a command starts from. -/

namespace Sys2Proof.Machine

@[simp] theorem fresh_get (s : State) (r : Reg) : s.fresh.get r = s.get r := rfl
@[simp] theorem fresh_getInt (s : State) (r : Reg) : s.fresh.getInt r = s.getInt r := rfl
@[simp] theorem fresh_isTrue (s : State) (r : Reg) : s.fresh.isTrue r = s.isTrue r := rfl
@[simp] theorem fresh_now (s : State) : s.fresh.now = s.now := rfl
@[simp] theorem fresh_extended (s : State) : s.fresh.extended = s.extended := rfl
@[simp] theorem fresh_momentOf (s : State) (t : Nat) : s.fresh.momentOf t = s.momentOf t := rfl
@[simp] theorem fresh_elapsedMs (s : State) : s.fresh.elapsedMs = s.elapsedMs := rfl
@[simp] theorem fresh_port (s : State) (p : Port) : s.fresh.port p = s.port p := rfl
@[simp] theorem fresh_hub (s : State) (i : Image) : s.fresh.hub i = s.hub i := rfl
@[simp] theorem fresh_emb (s : State) (i : Image) : s.fresh.emb i = s.emb i := rfl
@[simp] theorem fresh_up (s : State) (u : Upstream) : s.fresh.up u = s.up u := rfl
@[simp] theorem fresh_hold (s : State) (i : Image) : s.fresh.hold i = s.hold i := rfl
@[simp] theorem fresh_record (s : State) (i : Image) (m : Nat) : s.fresh.record i m = s.record i m := rfl
@[simp] theorem fresh_entry (s : State) (i : Image) (a : Nat) : s.fresh.entry i a = s.entry i a := rfl
@[simp] theorem fresh_device (s : State) (i : Image) (a : Nat) : s.fresh.device i a = s.device i a := rfl
@[simp] theorem fresh_remotePort (s : State) (i : Image) (m : Nat) : s.fresh.remotePort i m = s.remotePort i m := rfl
@[simp] theorem fresh_link (s : State) (k : Link) : s.fresh.link k = s.link k := rfl
@[simp] theorem fresh_slot (s : State) (j : Nat) : s.fresh.slot j = s.slot j := rfl
@[simp] theorem fresh_context (s : State) (n : Nat) : s.fresh.context n = s.context n := rfl
@[simp] theorem fresh_relayEp (s : State) (i : Image) (a e : Nat) (dirIn : Bool) :
    s.fresh.relayEp i a e dirIn = s.relayEp i a e dirIn := rfl
@[simp] theorem fresh_ownEp (s : State) (p : Port) (a e : Nat) (dirIn : Bool) : s.fresh.ownEp p a e dirIn = s.ownEp p a e dirIn := rfl
@[simp] theorem fresh_tc (s : State) (p : Port) : s.fresh.tc p = s.tc p := rfl
@[simp] theorem fresh_feed (s : State) (x : Feed) : s.fresh.feed x = s.feed x := rfl
@[simp] theorem fresh_stream (s : State) (n : Nat) : s.fresh.stream n = s.stream n := rfl
@[simp] theorem fresh_session (s : State) (d : Door) : s.fresh.session d = s.session d := rfl
@[simp] theorem fresh_req (s : State) (n : Nat) : s.fresh.req n = s.req n := rfl
@[simp] theorem fresh_chan (s : State) (c : Nat) : s.fresh.chan c = s.chan c := rfl
@[simp] theorem fresh_sramOnly (s : State) : s.fresh.sramOnly = s.sramOnly := rfl
@[simp] theorem fresh_lensCapacity (s : State) : s.fresh.lensCapacity = s.lensCapacity := rfl
@[simp] theorem fresh_lensFill (s : State) : s.fresh.lensFill = s.lensFill := rfl
@[simp] theorem fresh_lensBlocked (s : State) : s.fresh.lensBlocked = s.lensBlocked := rfl
@[simp] theorem fresh_live (s : State) (source : Nat) : s.fresh.live source = s.live source := rfl
@[simp] theorem fresh_unitHeld (s : State) (u : FaultUnit) : s.fresh.unitHeld u = s.unitHeld u := rfl
@[simp] theorem fresh_memberAt (s : State) (n : Nat) : s.fresh.memberAt n = s.memberAt n := rfl
@[simp] theorem fresh_members (s : State) : s.fresh.members = s.members := rfl
@[simp] theorem fresh_indexOf (s : State) (uid : Nat) : s.fresh.indexOf uid = s.indexOf uid := rfl
@[simp] theorem fresh_memberOfIndex (s : State) (n : Nat) : s.fresh.memberOfIndex n = s.memberOfIndex n := rfl
@[simp] theorem fresh_slotOf (s : State) (uid : Nat) : s.fresh.slotOf uid = s.slotOf uid := rfl
@[simp] theorem fresh_ownSlot (s : State) : s.fresh.ownSlot = s.ownSlot := rfl
@[simp] theorem fresh_ownIndex (s : State) : s.fresh.ownIndex = s.ownIndex := rfl
@[simp] theorem fresh_alone (s : State) : s.fresh.alone = s.alone := rfl
@[simp] theorem fresh_portsOf (s : State) (uid : Nat) : s.fresh.portsOf uid = s.portsOf uid := rfl
@[simp] theorem fresh_swappedRoles (s : State) (i : Image) : s.fresh.swappedRoles i = s.swappedRoles i := rfl
@[simp] theorem fresh_activeByte (s : State) (i : Image) : s.fresh.activeByte i = s.activeByte i := rfl
@[simp] theorem fresh_mirrorByte (s : State) (i : Image) : s.fresh.mirrorByte i = s.mirrorByte i := rfl
@[simp] theorem fresh_ownUpstream (s : State) (b : Nat) : s.fresh.ownUpstream b = s.ownUpstream b := rfl
@[simp] theorem fresh_enabled (s : State) (i : Image) : s.fresh.enabled i = s.enabled i := rfl
@[simp] theorem fresh_activeUp (s : State) (i : Image) : s.fresh.activeUp i = s.activeUp i := rfl
@[simp] theorem fresh_mirrorUp (s : State) (i : Image) : s.fresh.mirrorUp i = s.mirrorUp i := rfl
@[simp] theorem fresh_entryHere (s : State) (i : Image) : s.fresh.entryHere i = s.entryHere i := rfl
@[simp] theorem fresh_imageOfUp (s : State) (u : Upstream) : s.fresh.imageOfUp u = s.imageOfUp u := rfl
@[simp] theorem fresh_imageOfMirror (s : State) (u : Upstream) : s.fresh.imageOfMirror u = s.imageOfMirror u := rfl
@[simp] theorem fresh_entryFacet (s : State) (i : Image) : s.fresh.entryFacet i = s.entryFacet i := rfl
@[simp] theorem fresh_portCount (s : State) (i : Image) : s.fresh.portCount i = s.portCount i := rfl
@[simp] theorem fresh_mapEntry (s : State) (i : Image) (m : Nat) : s.fresh.mapEntry i m = s.mapEntry i m := rfl
@[simp] theorem fresh_placeOf (s : State) (e : Nat) : s.fresh.placeOf e = s.placeOf e := rfl
@[simp] theorem fresh_place (s : State) (i : Image) (m : Nat) : s.fresh.place i m = s.place i m := rfl
@[simp] theorem fresh_logicalOf (s : State) (p : Port) : s.fresh.logicalOf p = s.logicalOf p := rfl
@[simp] theorem fresh_logicalRemote (s : State) (slot port : Nat) : s.fresh.logicalRemote slot port = s.logicalRemote slot port := rfl
@[simp] theorem fresh_ownPorts (s : State) (i : Image) : s.fresh.ownPorts i = s.ownPorts i := rfl
@[simp] theorem fresh_logicalPorts (s : State) (i : Image) : s.fresh.logicalPorts i = s.logicalPorts i := rfl
@[simp] theorem fresh_hasPort (s : State) (p : Port) : s.fresh.hasPort p = s.hasPort p := rfl
@[simp] theorem fresh_allPorts (s : State) : s.fresh.allPorts = s.allPorts := rfl
@[simp] theorem fresh_linkPort (s : State) (k : Link) : s.fresh.linkPort k = s.linkPort k := rfl
@[simp] theorem fresh_portLink (s : State) (p : Port) : s.fresh.portLink p = s.portLink p := rfl
@[simp] theorem fresh_modeOf (s : State) (k : Link) : s.fresh.modeOf k = s.modeOf k := rfl
@[simp] theorem fresh_portDomain (s : State) (p : Port) : s.fresh.portDomain p = s.portDomain p := rfl
@[simp] theorem fresh_domainState (s : State) (d : Nat) : s.fresh.domainState d = s.domainState d := rfl
@[simp] theorem fresh_domainOn (s : State) (d : Nat) : s.fresh.domainOn d = s.domainOn d := rfl
@[simp] theorem fresh_bootSource (s : State) : s.fresh.bootSource = s.bootSource := rfl
@[simp] theorem fresh_floats (s : State) : s.fresh.floats = s.floats := rfl
@[simp] theorem fresh_level (s : State) (p : Pin) : s.fresh.level p = s.level p := rfl
@[simp] theorem fresh_ownLsf (s : State) : s.fresh.ownLsf = s.ownLsf := rfl
@[simp] theorem fresh_lsfOf (s : State) (uid : Nat) : s.fresh.lsfOf uid = s.lsfOf uid := rfl
@[simp] theorem fresh_upLinks (s : State) (uid : Nat) : s.fresh.upLinks uid = s.upLinks uid := rfl
@[simp] theorem fresh_relax (s : State) (start : Nat) (l : List Route) : s.fresh.relax start l = s.relax start l := rfl
@[simp] theorem fresh_routesFrom (s : State) (start : Nat) (ban : Option Nat) : s.fresh.routesFrom start ban = s.routesFrom start ban := rfl
@[simp] theorem fresh_routeTo (s : State) (uid : Nat) : s.fresh.routeTo uid = s.routeTo uid := rfl
@[simp] theorem fresh_alternateTo (s : State) (uid : Nat) : s.fresh.alternateTo uid = s.alternateTo uid := rfl
@[simp] theorem fresh_paths (s : State) : s.fresh.paths = s.paths := rfl
@[simp] theorem fresh_reachable (s : State) (uid : Nat) : s.fresh.reachable uid = s.reachable uid := rfl
@[simp] theorem fresh_presence (s : State) : s.fresh.presence = s.presence := rfl
@[simp] theorem fresh_quorum (s : State) : s.fresh.quorum = s.quorum := rfl
@[simp] theorem fresh_keeper (s : State) : s.fresh.keeper = s.keeper := rfl
@[simp] theorem fresh_treeRoot (s : State) : s.fresh.treeRoot = s.treeRoot := rfl
@[simp] theorem fresh_treeLinks (s : State) : s.fresh.treeLinks = s.treeLinks := rfl
@[simp] theorem fresh_edges (s : State) : s.fresh.edges = s.edges := rfl
@[simp] theorem fresh_topology (s : State) : s.fresh.topology = s.topology := rfl
@[simp] theorem fresh_defaultMap (s : State) (i : Image) (taken : List Nat) : s.fresh.defaultMap i taken = s.defaultMap i taken := rfl
@[simp] theorem fresh_portLatency (s : State) (i : Image) (m : Nat) : s.fresh.portLatency i m = s.portLatency i m := rfl
@[simp] theorem fresh_epPairs (s : State) (i : Image) (a : Nat) : s.fresh.epPairs i a = s.epPairs i a := rfl
@[simp] theorem fresh_mapEp (s : State) (i : Image) (a e : Nat) : s.fresh.mapEp i a e = s.mapEp i a e := rfl
@[simp] theorem fresh_pairsWord (s : State) (i : Image) (a : Nat) : s.fresh.pairsWord i a = s.pairsWord i a := rfl
@[simp] theorem fresh_xlateWord (s : State) (i : Image) (a : Nat) : s.fresh.xlateWord i a = s.xlateWord i a := rfl
@[simp] theorem fresh_formSet (s : State) (typ : Nat) : s.fresh.formSet typ = s.formSet typ := rfl
@[simp] theorem fresh_peerOf (s : State) (typ n : Nat) : s.fresh.peerOf typ n = s.peerOf typ n := rfl
@[simp] theorem fresh_indexFor (s : State) (typ uid : Nat) : s.fresh.indexFor typ uid = s.indexFor typ uid := rfl
@[simp] theorem fresh_selfIndex (s : State) (typ : Nat) : s.fresh.selfIndex typ = s.selfIndex typ := rfl
@[simp] theorem fresh_newFrame (s : State) (typ dst : Nat) (bcast : Bool) (image tag : Nat) (body : RingBody) :
    s.fresh.newFrame typ dst bcast image tag body = s.newFrame typ dst bcast image tag body := rfl
@[simp] theorem fresh_linkOpen (s : State) (k : Link) (typ : Nat) : s.fresh.linkOpen k typ = s.linkOpen k typ := rfl
@[simp] theorem fresh_windowShut (s : State) (k : Link) (f : Frame) : s.fresh.windowShut k f = s.windowShut k f := rfl
@[simp] theorem fresh_mayStart (s : State) (k : Link) (f : Frame) : s.fresh.mayStart k f = s.mayStart k f := rfl
@[simp] theorem fresh_heads (s : State) (k : Link) : s.fresh.heads k = s.heads k := rfl
@[simp] theorem fresh_carriesImages (s : State) : s.fresh.carriesImages = s.carriesImages := rfl
@[simp] theorem fresh_sharesImages (s : State) : s.fresh.sharesImages = s.sharesImages := rfl
@[simp] theorem fresh_openLinks (s : State) : s.fresh.openLinks = s.openLinks := rfl
@[simp] theorem fresh_provisionalSet (s : State) : s.fresh.provisionalSet = s.provisionalSet := rfl
@[simp] theorem fresh_topologyBroken (s : State) : s.fresh.topologyBroken = s.topologyBroken := rfl
@[simp] theorem fresh_seqGap (s : State) (k : Link) (h : FrameHdr) : s.fresh.seqGap k h = s.seqGap k h := rfl
@[simp] theorem fresh_staleEpoch (s : State) (h : FrameHdr) (typ : Nat) (body : RingBody) :
    s.fresh.staleEpoch h typ body = s.staleEpoch h typ body := rfl
@[simp] theorem fresh_configured (s : State) (n : Nat) : s.fresh.configured n = s.configured n := rfl
@[simp] theorem fresh_granules (s : State) (n : Nat) : s.fresh.granules n = s.granules n := rfl
@[simp] theorem fresh_fill (s : State) (n : Nat) : s.fresh.fill n = s.fill n := rfl
@[simp] theorem fresh_room (s : State) (n : Nat) : s.fresh.room n = s.room n := rfl
@[simp] theorem fresh_tailFull (s : State) (n size : Nat) : s.fresh.tailFull n size = s.tailFull n size := rfl
@[simp] theorem fresh_fits (s : State) (n size : Nat) : s.fresh.fits n size = s.fits n size := rfl
@[simp] theorem fresh_spills (s : State) (n : Nat) : s.fresh.spills n = s.spills n := rfl
@[simp] theorem fresh_deliveringFrom (s : State) (n : Nat) : s.fresh.deliveringFrom n = s.deliveringFrom n := rfl
@[simp] theorem fresh_streamStatus (s : State) (n : Nat) : s.fresh.streamStatus n = s.streamStatus n := rfl
@[simp] theorem fresh_sessionHere (s : State) (d : Door) : s.fresh.sessionHere d = s.sessionHere d := rfl
@[simp] theorem fresh_ready (s : State) (d : Door) : s.fresh.ready d = s.ready d := rfl
@[simp] theorem fresh_chooseStream (s : State) (d : Door) : s.fresh.chooseStream d = s.chooseStream d := rfl
@[simp] theorem fresh_fetches (s : State) (d : Door) : s.fresh.fetches d = s.fetches d := rfl
@[simp] theorem fresh_pieces (s : State) (d : Door) : s.fresh.pieces d = s.pieces d := rfl
@[simp] theorem fresh_sendable (s : State) (d : Door) : s.fresh.sendable d = s.sendable d := rfl
@[simp] theorem fresh_readable (s : State) (d : Door) (n : Nat) : s.fresh.readable d n = s.readable d n := rfl
@[simp] theorem fresh_streamAt (s : State) (addr : Nat) : s.fresh.streamAt addr = s.streamAt addr := rfl
@[simp] theorem fresh_ps (s : State) (p : Port) (b : Nat) : s.fresh.ps p b = s.ps p b := rfl
@[simp] theorem fresh_setNow (s : State) (p : Port) (b : Nat) : s.fresh.setNow p b = s.setNow p b := rfl
@[simp] theorem fresh_pst (s : State) (p : Port) : s.fresh.pst p = s.pst p := rfl
@[simp] theorem fresh_wired (s : State) (p : Port) : s.fresh.wired p = s.wired p := rfl
@[simp] theorem fresh_tripped (s : State) (c : Channel) : s.fresh.tripped c = s.tripped c := rfl
@[simp] theorem fresh_portTripped (s : State) (p : Port) : s.fresh.portTripped p = s.portTripped p := rfl
@[simp] theorem fresh_good (s : State) (c : Channel) : s.fresh.good c = s.good c := rfl
@[simp] theorem fresh_slotEntry (s : State) (i : Nat) (j : Nat) : s.fresh.slotEntry i j = s.slotEntry i j := rfl
@[simp] theorem fresh_slotsOf (s : State) (i : Image) (m : Nat) : s.fresh.slotsOf i m = s.slotsOf i m := rfl
@[simp] theorem fresh_portOn (s : State) (p : Port) : s.fresh.portOn p = s.portOn p := rfl
@[simp] theorem fresh_awake (s : State) (p : Port) : s.fresh.awake p = s.awake p := rfl
@[simp] theorem fresh_heldPort (s : State) (i : Image) (m : Nat) : s.fresh.heldPort i m = s.heldPort i m := rfl
@[simp] theorem fresh_keeps (s : State) (i : Image) (m : Nat) : s.fresh.keeps i m = s.keeps i m := rfl
@[simp] theorem fresh_holdState (s : State) (i : Image) : s.fresh.holdState i = s.holdState i := rfl
@[simp] theorem fresh_armed (s : State) (i : Image) : s.fresh.armed i = s.armed i := rfl
@[simp] theorem fresh_onGrid (s : State) (i : Image) (m : Nat) : s.fresh.onGrid i m = s.onGrid i m := rfl
@[simp] theorem fresh_alloc (s : State) (p : Port) : s.fresh.alloc p = s.alloc p := rfl
@[simp] theorem fresh_budget (s : State) : s.fresh.budget = s.budget := rfl
@[simp] theorem fresh_allocated (s : State) : s.fresh.allocated = s.allocated := rfl
@[simp] theorem fresh_allocatedOrOffered (s : State) : s.fresh.allocatedOrOffered = s.allocatedOrOffered := rfl
@[simp] theorem fresh_offerPower (s : State) (p : Port) : s.fresh.offerPower p = s.offerPower p := rfl
@[simp] theorem fresh_shed (s : State) (p : Port) : s.fresh.shed p = s.shed p := rfl
@[simp] theorem fresh_tcIdle (s : State) (p : Port) : s.fresh.tcIdle p = s.tcIdle p := rfl
@[simp] theorem fresh_mayPower (s : State) (p : Port) : s.fresh.mayPower p = s.mayPower p := rfl
@[simp] theorem fresh_feedCode (s : State) (x : Feed) : s.fresh.feedCode x = s.feedCode x := rfl
@[simp] theorem fresh_feedsOn (s : State) : s.fresh.feedsOn = s.feedsOn := rfl
@[simp] theorem fresh_feedLimit (s : State) : s.fresh.feedLimit = s.feedLimit := rfl
@[simp] theorem fresh_feedMayRun (s : State) (x : Feed) : s.fresh.feedMayRun x = s.feedMayRun x := rfl
@[simp] theorem fresh_heldView (s : State) (i : Image) (m : Nat) (st : Nat) : s.fresh.heldView i m st = s.heldView i m st := rfl
@[simp] theorem fresh_adoptView (s : State) (i : Image) (m : Nat) : s.fresh.adoptView i m = s.adoptView i m := rfl
@[simp] theorem fresh_outside (s : State) (i : Image) (m : Nat) : s.fresh.outside i m = s.outside i m := rfl
@[simp] theorem fresh_portReport (s : State) (p : Port) : s.fresh.portReport p = s.portReport p := rfl
@[simp] theorem fresh_addrOf (s : State) (i : Image) (m : Nat) (p : Port) : s.fresh.addrOf i m p = s.addrOf i m p := rfl
@[simp] theorem fresh_recordNow (s : State) (i : Image) (m : Nat) (p : Port) : s.fresh.recordNow i m p = s.recordNow i m p := rfl
@[simp] theorem fresh_slotPort (s : State) (e : SlotEntry) : s.fresh.slotPort e = s.slotPort e := rfl
@[simp] theorem fresh_standbyReady (s : State) (u : Upstream) : s.fresh.standbyReady u = s.standbyReady u := rfl
@[simp] theorem fresh_adoptRefusal (s : State) (i : Image) : s.fresh.adoptRefusal i = s.adoptRefusal i := rfl
@[simp] theorem fresh_adoptionDone (s : State) (i : Image) : s.fresh.adoptionDone i = s.adoptionDone i := rfl
@[simp] theorem fresh_addr0Ports (s : State) (i : Image) : s.fresh.addr0Ports i = s.addr0Ports i := rfl
@[simp] theorem fresh_ttPorts (s : State) (i : Image) (m : Nat) : s.fresh.ttPorts i m = s.ttPorts i m := rfl
@[simp] theorem fresh_ttInUse (s : State) (i : Image) (m : Nat) : s.fresh.ttInUse i m = s.ttInUse i m := rfl
@[simp] theorem fresh_ttRoom (s : State) (i : Image) (m : Nat) (p : Port) (periodic : Bool) (bytes : Nat) :
    s.fresh.ttRoom i m p periodic bytes = s.ttRoom i m p periodic bytes := rfl
@[simp] theorem fresh_viaTt (s : State) (p : Port) : s.fresh.viaTt p = s.viaTt p := rfl
@[simp] theorem fresh_mayRun (s : State) (x : Xact) : s.fresh.mayRun x = s.mayRun x := rfl
@[simp] theorem fresh_freeContext (s : State) : s.fresh.freeContext = s.freeContext := rfl
@[simp] theorem fresh_nextWork (s : State) : s.fresh.nextWork = s.nextWork := rfl
@[simp] theorem fresh_increment (s : State) : s.fresh.increment = s.increment := rfl
@[simp] theorem fresh_ahead (s : State) (t : Nat) : s.fresh.ahead t = s.ahead t := rfl
@[simp] theorem fresh_sofRow (s : State) (r : Nat) : s.fresh.sofRow r = s.sofRow r := rfl
@[simp] theorem fresh_sofTable (s : State) : s.fresh.sofTable = s.sofTable := rfl
@[simp] theorem fresh_imageRows (s : State) (i : Image) : s.fresh.imageRows i = s.imageRows i := rfl
@[simp] theorem fresh_echo (s : State) (k : Link) : s.fresh.echo k = s.echo k := rfl
@[simp] theorem fresh_ppsValid (s : State) : s.fresh.ppsValid = s.ppsValid := rfl
@[simp] theorem fresh_ownAnnounce (s : State) : s.fresh.ownAnnounce = s.ownAnnounce := rfl
@[simp] theorem fresh_bestFocal (s : State) : s.fresh.bestFocal = s.bestFocal := rfl
@[simp] theorem fresh_parentLink (s : State) : s.fresh.parentLink = s.parentLink := rfl
@[simp] theorem fresh_storedFreq (s : State) : s.fresh.storedFreq = s.storedFreq := rfl
@[simp] theorem fresh_pathLatency (s : State) (i : Image) (m : Nat) : s.fresh.pathLatency i m = s.pathLatency i m := rfl
@[simp] theorem fresh_farFacet (s : State) (i : Image) (m : Nat) : s.fresh.farFacet i m = s.farFacet i m := rfl
@[simp] theorem fresh_farGone (s : State) (i : Image) (m : Nat) : s.fresh.farGone i m = s.farGone i m := rfl
@[simp] theorem fresh_stamp48 (s : State) : s.fresh.stamp48 = s.stamp48 := rfl
@[simp] theorem fresh_deviceOn (s : State) (i : Image) (m : Nat) : s.fresh.deviceOn i m = s.deviceOn i m := rfl
@[simp] theorem fresh_launchRefusal (s : State) (b : List Byte) : s.fresh.launchRefusal b = s.launchRefusal b := rfl
@[simp] theorem fresh_hubUp (s : State) (i : Image) : s.fresh.hubUp i = s.hubUp i := rfl
@[simp] theorem fresh_hubHere (s : State) (i : Image) : s.fresh.hubHere i = s.hubHere i := rfl
@[simp] theorem fresh_fullSpeed (s : State) (i : Image) : s.fresh.fullSpeed i = s.fullSpeed i := rfl
@[simp] theorem fresh_frameCount (s : State) (i : Image) : s.fresh.frameCount i = s.frameCount i := rfl
@[simp] theorem fresh_nextReset (s : State) (i : Image) : s.fresh.nextReset i = s.nextReset i := rfl
@[simp] theorem fresh_resettable (s : State) (p : Port) : s.fresh.resettable p = s.resettable p := rfl
@[simp] theorem fresh_testAllowed (s : State) (p : Port) : s.fresh.testAllowed p = s.testAllowed p := rfl
@[simp] theorem fresh_suspendedNow (s : State) (p : Port) : s.fresh.suspendedNow p = s.suspendedNow p := rfl
@[simp] theorem fresh_imageSuspended (s : State) (i : Image) : s.fresh.imageSuspended i = s.imageSuspended i := rfl
@[simp] theorem fresh_portAt (s : State) (i : Image) (a m : Nat) : s.fresh.portAt i a m = s.portAt i a m := rfl
@[simp] theorem fresh_configIsAbsorbed (s : State) (i : Image) (a value : Nat) :
    s.fresh.configIsAbsorbed i a value = s.configIsAbsorbed i a value := rfl
@[simp] theorem fresh_absorbs (s : State) (i : Image) (a m : Nat) (setup : List Byte) :
    s.fresh.absorbs i a m setup = s.absorbs i a m setup := rfl
@[simp] theorem fresh_cellsFree (s : State) : s.fresh.cellsFree = s.cellsFree := rfl
@[simp] theorem fresh_relayTarget (s : State) (i : Image) (a : Nat) : s.fresh.relayTarget i a = s.relayTarget i a := rfl
@[simp] theorem fresh_relayed (s : State) (i : Image) (m : Nat) : s.fresh.relayed i m = s.relayed i m := rfl
@[simp] theorem fresh_relayOpen (s : State) (i : Image) (m : Nat) : s.fresh.relayOpen i m = s.relayOpen i m := rfl
@[simp] theorem fresh_infoOf (s : State) (i : Image) (a m : Nat) : s.fresh.infoOf i a m = s.infoOf i a m := rfl
@[simp] theorem fresh_hostAddrOf (s : State) (i : Image) (m w : Nat) : s.fresh.hostAddrOf i m w = s.hostAddrOf i m w := rfl
@[simp] theorem fresh_readAhead (s : State) (i : Image) (a e m : Nat) : s.fresh.readAhead i a e m = s.readAhead i a e m := rfl
@[simp] theorem fresh_outRoom (s : State) (i : Image) (a e : Nat) : s.fresh.outRoom i a e = s.outRoom i a e := rfl
@[simp] theorem fresh_recordPort (s : State) (r : RelayHdr) : s.fresh.recordPort r = s.recordPort r := rfl
@[simp] theorem fresh_recordLogical (s : State) (h : FrameHdr) (r : RelayHdr) : s.fresh.recordLogical h r = s.recordLogical h r := rfl
@[simp] theorem fresh_portStatusBody (s : State) (p : Port) : s.fresh.portStatusBody p = s.portStatusBody p := rfl
@[simp] theorem fresh_overtakes (s : State) (i : Image) : s.fresh.overtakes i = s.overtakes i := rfl
@[simp] theorem fresh_servingUp (s : State) (i : Image) : s.fresh.servingUp i = s.servingUp i := rfl
@[simp] theorem fresh_upMask (s : State) (u : Upstream) : s.fresh.upMask u = s.upMask u := rfl
@[simp] theorem fresh_nextBoundary (s : State) (i : Image) : s.fresh.nextBoundary i = s.nextBoundary i := rfl
@[simp] theorem fresh_slotCount (s : State) (i : Image) (m : Nat) : s.fresh.slotCount i m = s.slotCount i m := rfl
@[simp] theorem fresh_slotPayload (s : State) (i off len : Nat) : s.fresh.slotPayload i off len = s.slotPayload i off len := rfl
@[simp] theorem fresh_entryNow (s : State) (j : Nat) : s.fresh.entryNow j = s.entryNow j := rfl
@[simp] theorem fresh_wordNow (s : State) (e : SlotEntry) (j : Nat) : s.fresh.wordNow e j = s.wordNow e j := rfl
@[simp] theorem fresh_slotRuns (s : State) (j : Nat) : s.fresh.slotRuns j = s.slotRuns j := rfl
@[simp] theorem fresh_inHold (s : State) (i : Image) : s.fresh.inHold i = s.inHold i := rfl
@[simp] theorem fresh_absorbingAt (s : State) (i : Image) (m : Nat) : s.fresh.absorbingAt i m = s.absorbingAt i m := rfl
@[simp] theorem fresh_slotXact (s : State) (e : SlotEntry) (p : Port) (q : Option EpInfo) (dirIn setup : Bool) (toggle : Option Bool)
  (data : List Byte) (who : Requester) :
    s.fresh.slotXact e p q dirIn setup toggle data who = s.slotXact e p q dirIn setup toggle data who := rfl
@[simp] theorem fresh_targeted (s : State) (i : Image) (n : Nat) : s.fresh.targeted i n = s.targeted i n := rfl
@[simp] theorem fresh_slotCheck (s : State) (w : Nat) : s.fresh.slotCheck w = s.slotCheck w := rfl
@[simp] theorem fresh_shadowWord (s : State) (j : Nat) : s.fresh.shadowWord j = s.shadowWord j := rfl
@[simp] theorem fresh_stepDecided (s : State) (i : Image) : s.fresh.stepDecided i = s.stepDecided i := rfl
@[simp] theorem fresh_holdValues (s : State) (i : Image) : s.fresh.holdValues i = s.holdValues i := rfl
@[simp] theorem fresh_rootId (s : State) : s.fresh.rootId = s.rootId := rfl
@[simp] theorem fresh_serialText (s : State) (i : Image) : s.fresh.serialText i = s.serialText i := rfl
@[simp] theorem fresh_bitmapBytes (s : State) (i : Image) : s.fresh.bitmapBytes i = s.bitmapBytes i := rfl
@[simp] theorem fresh_hubConfig (s : State) (i : Image) (typ : Nat) (hs : Bool) : s.fresh.hubConfig i typ hs = s.hubConfig i typ hs := rfl
@[simp] theorem fresh_bosDesc (s : State) (i : Image) : s.fresh.bosDesc i = s.bosDesc i := rfl
@[simp] theorem fresh_embeddedPort (s : State) (i : Image) : s.fresh.embeddedPort i = s.embeddedPort i := rfl
@[simp] theorem fresh_hubDesc (s : State) (i : Image) : s.fresh.hubDesc i = s.hubDesc i := rfl
@[simp] theorem fresh_textOf (s : State) (product : String) (i : Image) (index : Nat) :
    s.fresh.textOf product i index = s.textOf product i index := rfl
@[simp] theorem fresh_descriptor (s : State) (f : Fn) (kind index : Nat) :
    s.fresh.descriptor f kind index = s.descriptor f kind index := rfl
@[simp] theorem fresh_fnHere (s : State) : s.fresh.fnHere = s.fnHere := rfl
@[simp] theorem fresh_fnDev (s : State) : s.fresh.fnDev = s.fnDev := rfl
@[simp] theorem fresh_controlOpen (s : State) : s.fresh.controlOpen = s.controlOpen := rfl
@[simp] theorem fresh_portView (s : State) (i : Image) (m : Nat) : s.fresh.portView i m = s.portView i m := rfl
@[simp] theorem fresh_wireAddr (s : State) (i : Image) (addr m : Nat) : s.fresh.wireAddr i addr m = s.wireAddr i addr m := rfl
@[simp] theorem fresh_autoOvertaken (s : State) (u : Upstream) : s.fresh.autoOvertaken u = s.autoOvertaken u := rfl
@[simp] theorem fresh_changeBitmap (s : State) (i : Image) : s.fresh.changeBitmap i = s.changeBitmap i := rfl
@[simp] theorem fresh_flipOf (s : State) (i : Image) (m : Nat) (x : Xlate) (ep : Nat) (dirIn : Bool) :
    s.fresh.flipOf i m x ep dirIn = s.flipOf i m x ep dirIn := rfl
@[simp] theorem fresh_directOpen (s : State) (i : Image) (m : Nat) (p : Port) : s.fresh.directOpen i m p = s.directOpen i m p := rfl
@[simp] theorem fresh_addr0Direct (s : State) (i : Image) : s.fresh.addr0Direct i = s.addr0Direct i := rfl
@[simp] theorem fresh_splitPort (s : State) (i : Image) (p : Port) : s.fresh.splitPort i p = s.splitPort i p := rfl
@[simp] theorem fresh_splitsOpen (s : State) (u : Upstream) (i : Image) : s.fresh.splitsOpen u i = s.splitsOpen u i := rfl
@[simp] theorem fresh_splitRewrite (s : State) (i : Image) (x : Split) : s.fresh.splitRewrite i x = s.splitRewrite i x := rfl
@[simp] theorem fresh_ttSplitOf (s : State) (i : Image) (x : Split) : s.fresh.ttSplitOf i x = s.ttSplitOf i x := rfl
@[simp] theorem fresh_remoteSplitPort (s : State) (i : Image) (m : Nat) : s.fresh.remoteSplitPort i m = s.remoteSplitPort i m := rfl
@[simp] theorem fresh_splitPacket (s : State) (i : Image) (addr m e : Nat) (dirIn : Bool) :
    s.fresh.splitPacket i addr m e dirIn = s.splitPacket i addr m e dirIn := rfl
@[simp] theorem fresh_ttHostAddr (s : State) (i : Image) (m w : Nat) : s.fresh.ttHostAddr i m w = s.ttHostAddr i m w := rfl
@[simp] theorem fresh_ttLaunch (s : State) (p : Port) : s.fresh.ttLaunch p = s.ttLaunch p := rfl
@[simp] theorem fresh_ttWrongToggle (s : State) (p : Port) (q : TtSplit) (answer : DevAnswer) :
    s.fresh.ttWrongToggle p q answer = s.ttWrongToggle p q answer := rfl
@[simp] theorem fresh_committed (s : State) (r : Reg) : s.fresh.committed r = s.committed r := rfl
@[simp] theorem fresh_stagedValue (s : State) (r : Reg) : s.fresh.stagedValue r = s.stagedValue r := rfl
@[simp] theorem fresh_candidates (s : State) : s.fresh.candidates = s.candidates := rfl
@[simp] theorem fresh_topologyRecord (s : State) (n : Nat) : s.fresh.topologyRecord n = s.topologyRecord n := rfl
@[simp] theorem fresh_topologyMap (s : State) : s.fresh.topologyMap = s.topologyMap := rfl
@[simp] theorem fresh_lockState (s : State) (c : Caller) : s.fresh.lockState c = s.lockState c := rfl
@[simp] theorem fresh_tcStatus (s : State) (p : Port) : s.fresh.tcStatus p = s.tcStatus p := rfl
@[simp] theorem fresh_dictBusy (s : State) : s.fresh.dictBusy = s.dictBusy := rfl
@[simp] theorem fresh_wakeTimer (s : State) : s.fresh.wakeTimer = s.wakeTimer := rfl
@[simp] theorem fresh_provokeRemaining (s : State) : s.fresh.provokeRemaining = s.provokeRemaining := rfl
@[simp] theorem fresh_versionText (s : State) : s.fresh.versionText = s.versionText := rfl
@[simp] theorem fresh_runningBytes (s : State) : s.fresh.runningBytes = s.runningBytes := rfl
@[simp] theorem fresh_latencyBytes (s : State) (i : Image) : s.fresh.latencyBytes i = s.latencyBytes i := rfl
@[simp] theorem fresh_derived (s : State) (c : Caller) (idx sub : Nat) : s.fresh.derived c idx sub = s.derived c idx sub := rfl
@[simp] theorem fresh_shownValue (s : State) (r : Reg) (v : Nat) : s.fresh.shownValue r v = s.shownValue r v := rfl
@[simp] theorem fresh_entryBytes (s : State) (c : Caller) (idx sub : Nat) (staged : Bool) :
    s.fresh.entryBytes c idx sub staged = s.entryBytes c idx sub staged := rfl
@[simp] theorem fresh_configCrc (s : State) : s.fresh.configCrc = s.configCrc := rfl
@[simp] theorem fresh_stagedDigest (s : State) : s.fresh.stagedDigest = s.stagedDigest := rfl
@[simp] theorem fresh_linkMode (s : State) (k : Link) : s.fresh.linkMode k = s.linkMode k := rfl
@[simp] theorem fresh_takenId (s : State) (k : Link) (g : Ts2) : s.fresh.takenId k g = s.takenId k g := rfl
@[simp] theorem fresh_foreignPartner (s : State) (k : Link) (g : Ts2) : s.fresh.foreignPartner k g = s.foreignPartner k g := rfl
@[simp] theorem fresh_ts2Group (s : State) (k : Link) : s.fresh.ts2Group k = s.ts2Group k := rfl
@[simp] theorem fresh_servesSync (s : State) (uid : Nat) : s.fresh.servesSync uid = s.servesSync uid := rfl
@[simp] theorem fresh_linkIsUp (s : State) (k : Link) : s.fresh.linkIsUp k = s.linkIsUp k := rfl
@[simp] theorem fresh_lockHeld (s : State) : s.fresh.lockHeld = s.lockHeld := rfl
@[simp] theorem fresh_lockFacet (s : State) : s.fresh.lockFacet = s.lockFacet := rfl
@[simp] theorem fresh_lockHere (s : State) : s.fresh.lockHere = s.lockHere := rfl
@[simp] theorem fresh_leaseEnd (s : State) : s.fresh.leaseEnd = s.leaseEnd := rfl
@[simp] theorem fresh_leaseOver (s : State) : s.fresh.leaseOver = s.leaseOver := rfl
@[simp] theorem fresh_prismWrite (s : State) (w : RegWrite) : s.fresh.prismWrite w = s.prismWrite w := rfl
@[simp] theorem fresh_lockless (s : State) (src : Nat) : s.fresh.lockless src = s.lockless src := rfl
@[simp] theorem fresh_stagedMember (s : State) (n : Nat) : s.fresh.stagedMember n = s.stagedMember n := rfl
@[simp] theorem fresh_mapBad (s : State) (v : ImageView) : s.fresh.mapBad v = s.mapBad v := rfl
@[simp] theorem fresh_upBad (s : State) (b : Nat) : s.fresh.upBad b = s.upBad b := rfl
@[simp] theorem fresh_latencyFrom (s : State) (a b : Nat) : s.fresh.latencyFrom a b = s.latencyFrom a b := rfl
@[simp] theorem fresh_tooFar (s : State) (v : ImageView) (up aperture : Nat) : s.fresh.tooFar v up aperture = s.tooFar v up aperture := rfl
@[simp] theorem fresh_imageRefusal (s : State) (i : Image) : s.fresh.imageRefusal i = s.imageRefusal i := rfl
@[simp] theorem fresh_memberRefusal (s : State) : s.fresh.memberRefusal = s.memberRefusal := rfl
@[simp] theorem fresh_rangeRefusal (s : State) : s.fresh.rangeRefusal = s.rangeRefusal := rfl
@[simp] theorem fresh_dissolves (s : State) : s.fresh.dissolves = s.dissolves := rfl
@[simp] theorem fresh_stagedRefusal (s : State) : s.fresh.stagedRefusal = s.stagedRefusal := rfl
@[simp] theorem fresh_applyTime (s : State) : s.fresh.applyTime = s.applyTime := rfl
@[simp] theorem fresh_digestOf (s : State) (formed : Bool) : s.fresh.digestOf formed = s.digestOf formed := rfl
@[simp] theorem fresh_commitCheck (s : State) (formed : Bool) : s.fresh.commitCheck formed = s.commitCheck formed := rfl
@[simp] theorem fresh_stagedIds (s : State) : s.fresh.stagedIds = s.stagedIds := rfl
@[simp] theorem fresh_isMember (s : State) : s.fresh.isMember = s.isMember := rfl
@[simp] theorem fresh_takesPart (s : State) (formed : Bool) : s.fresh.takesPart formed = s.takesPart formed := rfl
@[simp] theorem fresh_inPrism (s : State) : s.fresh.inPrism = s.inPrism := rfl
@[simp] theorem fresh_partnerAfter (s : State) (old : List Nat) (dissolved : Bool) (g : Ts2) :
    s.fresh.partnerAfter old dissolved g = s.partnerAfter old dissolved g := rfl
@[simp] theorem fresh_nextPrism (s : State) (behind : Bool) : s.fresh.nextPrism behind = s.nextPrism behind := rfl
@[simp] theorem fresh_nextViews (s : State) (formed behind : Bool) : s.fresh.nextViews formed behind = s.nextViews formed behind := rfl
@[simp] theorem fresh_sessionPeer (s : State) (d : Door) : s.fresh.sessionPeer d = s.sessionPeer d := rfl
@[simp] theorem fresh_mgmtFn (s : State) (u : Upstream) : s.fresh.mgmtFn u = s.mgmtFn u := rfl
@[simp] theorem fresh_ep1Size (s : State) (u : Upstream) : s.fresh.ep1Size u = s.ep1Size u := rfl
@[simp] theorem fresh_resUnits (s : State) : s.fresh.resUnits = s.resUnits := rfl
@[simp] theorem fresh_lensRegion (s : State) (f : Reg → Nat) : s.fresh.lensRegion f = s.lensRegion f := rfl
@[simp] theorem fresh_regionRefusal (s : State) (f : Reg → Nat) : s.fresh.regionRefusal f = s.regionRefusal f := rfl
@[simp] theorem fresh_dramReady (s : State) : s.fresh.dramReady = s.dramReady := rfl
@[simp] theorem fresh_lensSlotAt (s : State) (addr : Nat) : s.fresh.lensSlotAt addr = s.lensSlotAt addr := rfl
@[simp] theorem fresh_scrubs (s : State) : s.fresh.scrubs = s.scrubs := rfl
@[simp] theorem fresh_waitLimit (s : State) (n : Nat) : s.fresh.waitLimit n = s.waitLimit n := rfl
@[simp] theorem fresh_arbChoice (s : State) : s.fresh.arbChoice = s.arbChoice := rfl
@[simp] theorem fresh_anchorBytes (s : State) : s.fresh.anchorBytes = s.anchorBytes := rfl
@[simp] theorem fresh_canRuns (s : State) : s.fresh.canRuns = s.canRuns := rfl
@[simp] theorem fresh_pdReady (s : State) (p : Port) : s.fresh.pdReady p = s.pdReady p := rfl
@[simp] theorem fresh_policy (s : State) : s.fresh.policy = s.policy := rfl
@[simp] theorem fresh_ccRuns (s : State) (p : Port) : s.fresh.ccRuns p = s.ccRuns p := rfl
@[simp] theorem fresh_rev2 (s : State) (p : Port) : s.fresh.rev2 p = s.rev2 p := rfl
@[simp] theorem fresh_txHeader (s : State) (p : Port) (m : PdMsg) : s.fresh.txHeader p m = s.txHeader p m := rfl
@[simp] theorem fresh_cableLimit (s : State) (p : Port) : s.fresh.cableLimit p = s.cableLimit p := rfl
@[simp] theorem fresh_offerObjects (s : State) (p : Port) (mw : Nat) : s.fresh.offerObjects p mw = s.offerObjects p mw := rfl
@[simp] theorem fresh_requestedObject (s : State) (p : Port) (rdo : Nat) : s.fresh.requestedObject p rdo = s.requestedObject p rdo := rfl
@[simp] theorem fresh_unattached (s : State) (p : Port) : s.fresh.unattached p = s.unattached p := rfl
@[simp] theorem fresh_wetReading (s : State) (z : List Nat) : s.fresh.wetReading z = s.wetReading z := rfl
@[simp] theorem fresh_anyWet (s : State) : s.fresh.anyWet = s.anyWet := rfl
@[simp] theorem fresh_statusBytes (s : State) : s.fresh.statusBytes = s.statusBytes := rfl
@[simp] theorem fresh_swapRefusal (s : State) (p : Port) : s.fresh.swapRefusal p = s.swapRefusal p := rfl
@[simp] theorem fresh_modal (s : State) (p : Port) : s.fresh.modal p = s.modal p := rfl
@[simp] theorem fresh_identityObjects (s : State) (p : Port) : s.fresh.identityObjects p = s.identityObjects p := rfl
@[simp] theorem fresh_modeVdo (s : State) (k : Link) : s.fresh.modeVdo k = s.modeVdo k := rfl
@[simp] theorem fresh_shedOrder (s : State) : s.fresh.shedOrder = s.shedOrder := rfl
@[simp] theorem fresh_restoreOrder (s : State) : s.fresh.restoreOrder = s.restoreOrder := rfl
@[simp] theorem fresh_pwr (s : State) : s.fresh.pwr = s.pwr := rfl
@[simp] theorem fresh_hasChan (s : State) (c : Channel) : s.fresh.hasChan c = s.hasChan c := rfl
@[simp] theorem fresh_curvePoints (s : State) (c : Channel) : s.fresh.curvePoints c = s.curvePoints c := rfl
@[simp] theorem fresh_curveTime (s : State) (c : Channel) (mA : Nat) : s.fresh.curveTime c mA = s.curveTime c mA := rfl
@[simp] theorem fresh_ramping (s : State) (c : Channel) : s.fresh.ramping c = s.ramping c := rfl
@[simp] theorem fresh_collectorNear (s : State) (mv : Nat) : s.fresh.collectorNear mv = s.collectorNear mv := rfl
@[simp] theorem fresh_powerRefusal (s : State) (f : Reg → Nat) : s.fresh.powerRefusal f = s.powerRefusal f := rfl
@[simp] theorem fresh_hasDomain (s : State) (d : Nat) : s.fresh.hasDomain d = s.hasDomain d := rfl
@[simp] theorem fresh_wakingMask (s : State) : s.fresh.wakingMask = s.wakingMask := rfl
@[simp] theorem fresh_dropsBank (s : State) (lo hi : Nat) : s.fresh.dropsBank lo hi = s.dropsBank lo hi := rfl
@[simp] theorem fresh_coreWanted (s : State) : s.fresh.coreWanted = s.coreWanted := rfl
@[simp] theorem fresh_pllEnabled (s : State) : s.fresh.pllEnabled = s.pllEnabled := rfl
@[simp] theorem fresh_wakeMask (s : State) (mask : Nat) : s.fresh.wakeMask mask = s.wakeMask mask := rfl
@[simp] theorem fresh_resulting (s : State) (mask goal d : Nat) : s.fresh.resulting mask goal d = s.resulting mask goal d := rfl
@[simp] theorem fresh_unitDomains (s : State) (source detail : Nat) : s.fresh.unitDomains source detail = s.unitDomains source detail := rfl
@[simp] theorem fresh_hostRuns (s : State) : s.fresh.hostRuns = s.hostRuns := rfl
@[simp] theorem fresh_portsRun (s : State) (d : Nat) : s.fresh.portsRun d = s.portsRun d := rfl
@[simp] theorem fresh_domainRefusal (s : State) (word : Nat) (now : Bool) : s.fresh.domainRefusal word now = s.domainRefusal word now := rfl
@[simp] theorem fresh_triggerHolds (s : State) (word : Nat) : s.fresh.triggerHolds word = s.triggerHolds word := rfl
@[simp] theorem fresh_sourceEnabled (s : State) (source detail : Nat) :
    s.fresh.sourceEnabled source detail = s.sourceEnabled source detail := rfl
@[simp] theorem fresh_askOf (s : State) (x : WakeSeen) : s.fresh.askOf x = s.askOf x := rfl
@[simp] theorem fresh_formerHost (s : State) (u : Upstream) : s.fresh.formerHost u = s.formerHost u := rfl
@[simp] theorem fresh_settled (s : State) : s.fresh.settled = s.settled := rfl
@[simp] theorem fresh_bankFits (s : State) (b : Nat) : s.fresh.bankFits b = s.bankFits b := rfl
@[simp] theorem fresh_liveCopy (s : State) (seq : Nat) : s.fresh.liveCopy seq = s.liveCopy seq := rfl
@[simp] theorem fresh_storeSector (s : State) : s.fresh.storeSector = s.storeSector := rfl
@[simp] theorem fresh_bankBytes (s : State) (n : Nat) : s.fresh.bankBytes n = s.bankBytes n := rfl
@[simp] theorem fresh_imageGood (s : State) : s.fresh.imageGood = s.imageGood := rfl
@[simp] theorem fresh_faultLow (s : State) : s.fresh.faultLow = s.faultLow := rfl
@[simp] theorem fresh_note (s : State) (kind item value detail : Nat) :
    s.fresh.note kind item value detail = s.note kind item value detail := rfl
@[simp] theorem fresh_severity (s : State) (n : Nat) : s.fresh.severity n = s.severity n := rfl
@[simp] theorem fresh_domainsOf (s : State) : s.fresh.domainsOf = s.domainsOf := rfl
@[simp] theorem fresh_unitOn (s : State) (u : FaultUnit) : s.fresh.unitOn u = s.unitOn u := rfl
@[simp] theorem fresh_resetOver (s : State) (u : FaultUnit) : s.fresh.resetOver u = s.resetOver u := rfl
@[simp] theorem fresh_handImages (s : State) (n detail : Nat) : s.fresh.handImages n detail = s.handImages n detail := rfl
@[simp] theorem fresh_handedOver (s : State) (r : Reaction) : s.fresh.handedOver r = s.handedOver r := rfl
@[simp] theorem fresh_lensRecord (s : State) (j : Nat) : s.fresh.lensRecord j = s.lensRecord j := rfl
@[simp] theorem fresh_injEnabled (s : State) : s.fresh.injEnabled = s.injEnabled := rfl
@[simp] theorem fresh_provokeStart (s : State) (k : Nat) : s.fresh.provokeStart k = s.provokeStart k := rfl
@[simp] theorem fresh_mayStage (s : State) (c : Caller) : s.fresh.mayStage c = s.mayStage c := rfl
@[simp] theorem fresh_stageable (s : State) : s.fresh.stageable = s.stageable := rfl
@[simp] theorem fresh_entryFailure (s : State) (x : Nat × Nat × Entry) : s.fresh.entryFailure x = s.entryFailure x := rfl
@[simp] theorem fresh_commitFailures (s : State) : s.fresh.commitFailures = s.commitFailures := rfl
@[simp] theorem fresh_doorOpen (s : State) (d : Door) : s.fresh.doorOpen d = s.doorOpen d := rfl
@[simp] theorem fresh_rights (s : State) (d : Door) : s.fresh.rights d = s.rights d := rfl
@[simp] theorem fresh_stewardServes (s : State) : s.fresh.stewardServes = s.stewardServes := rfl
@[simp] theorem fresh_farBusy (s : State) (d : Nat) : s.fresh.farBusy d = s.farBusy d := rfl
@[simp] theorem fresh_domainCheck (s : State) (idx sub : Nat) (staged write : Bool) :
    s.fresh.domainCheck idx sub staged write = s.domainCheck idx sub staged write := rfl
@[simp] theorem fresh_spliced (s : State) (e : Entry) (w : RegWrite) : s.fresh.spliced e w = s.spliced e w := rfl
@[simp] theorem fresh_writeChecks (s : State) (c : Caller) (w : RegWrite) : s.fresh.writeChecks c w = s.writeChecks c w := rfl
@[simp] theorem fresh_readChecks (s : State) (c : Caller) (idx sub : Nat) (staged : Bool) (offset len : Nat) :
    s.fresh.readChecks c idx sub staged offset len = s.readChecks c idx sub staged offset len := rfl
@[simp] theorem fresh_forwardDenied (s : State) (d : Door) (b : List Byte) : s.fresh.forwardDenied d b = s.forwardDenied d b := rfl
@[simp] theorem fresh_commandTarget (s : State) (b : List Byte) : s.fresh.commandTarget b = s.commandTarget b := rfl
@[simp] theorem fresh_upServes (s : State) (u : Upstream) : s.fresh.upServes u = s.upServes u := rfl
@[simp] theorem fresh_upFull (s : State) (u : Upstream) : s.fresh.upFull u = s.upFull u := rfl
@[simp] theorem fresh_sdoServes (s : State) : s.fresh.sdoServes = s.sdoServes := rfl
@[simp] theorem fresh_doorReach (s : State) (d : Door) : s.fresh.doorReach d = s.doorReach d := rfl
@[simp] theorem fresh_sdoOffset (s : State) (idx sub : Nat) : s.fresh.sdoOffset idx sub = s.sdoOffset idx sub := rfl
@[simp] theorem fresh_sdoTakes (s : State) : s.fresh.sdoTakes = s.sdoTakes := rfl
@[simp] theorem fresh_nmtServes (s : State) (node : Nat) : s.fresh.nmtServes node = s.nmtServes node := rfl
@[simp] theorem fresh_operational (s : State) : s.fresh.operational = s.operational := rfl
@[simp] theorem fresh_coreRuns (s : State) : s.fresh.coreRuns = s.coreRuns := rfl
@[simp] theorem fresh_seqBefore (s : State) (r : Reg) : s.fresh.seqBefore r = s.seqBefore r := rfl
@[simp] theorem fresh_seqNote (s : State) (r : Reg) (b : Nat) : s.fresh.seqNote r b = s.seqNote r b := rfl
@[simp] theorem fresh_granted (s : State) (q : Nat) : s.fresh.granted q = s.granted q := rfl
@[simp] theorem fresh_upShows (s : State) (u : Upstream) : s.fresh.upShows u = s.upShows u := rfl
@[simp] theorem fresh_provisional (s : State) : s.fresh.provisional = s.provisional := rfl
@[simp] theorem fresh_passes (s : State) (uid : Nat) : s.fresh.passes uid = s.passes uid := rfl
@[simp] theorem fresh_inRouting (s : State) : s.fresh.inRouting = s.inRouting := rfl
@[simp] theorem fresh_mayTransmit (s : State) (k : Link) (f : Frame) : s.fresh.mayTransmit k f = s.mayTransmit k f := rfl
@[simp] theorem fresh_fetcher (s : State) (d : Door) : s.fresh.fetcher d = s.fetcher d := rfl
@[simp] theorem fresh_untaken (s : State) (d : Door) (n : Nat) : s.fresh.untaken d n = s.untaken d n := rfl
@[simp] theorem fresh_nextAt (s : State) (d : Door) (n : Nat) : s.fresh.nextAt d n = s.nextAt d n := rfl
@[simp] theorem fresh_offerBeside (s : State) (p : Port) (more : Nat) : s.fresh.offerBeside p more = s.offerBeside p more := rfl
@[simp] theorem fresh_readAheadItem (s : State) (i : Image) (p : Port) (w e mps stamp : Nat) (data : List Byte) :
    s.fresh.readAheadItem i p w e mps stamp data = s.readAheadItem i p w e mps stamp data := rfl
@[simp] theorem fresh_mirrorRefuses (s : State) (i : Image) : s.fresh.mirrorRefuses i = s.mirrorRefuses i := rfl
@[simp] theorem fresh_addr0Port (s : State) (i : Image) : s.fresh.addr0Port i = s.addr0Port i := rfl
@[simp] theorem fresh_imageCount (s : State) (i : Image) : s.fresh.imageCount i = s.imageCount i := rfl
@[simp] theorem fresh_adoptingFacet (s : State) (i : Image) : s.fresh.adoptingFacet i = s.adoptingFacet i := rfl
@[simp] theorem fresh_launchAge (s : State) (l : Launch) : s.fresh.launchAge l = s.launchAge l := rfl
@[simp] theorem fresh_inWindow (s : State) (l : Launch) : s.fresh.inWindow l = s.inWindow l := rfl
@[simp] theorem fresh_launchFirst (s : State) (l : Launch) : s.fresh.launchFirst l = s.launchFirst l := rfl
@[simp] theorem fresh_frameAllows (s : State) (p : Port) (n : Nat) : s.fresh.frameAllows p n = s.frameAllows p n := rfl
@[simp] theorem fresh_hubServes (s : State) (i : Image) : s.fresh.hubServes i = s.hubServes i := rfl
@[simp] theorem fresh_controlPending (s : State) (i : Image) (addr e : Nat) :
    s.fresh.controlPending i addr e = s.controlPending i addr e := rfl
@[simp] theorem fresh_recordPorts (s : State) (h : FrameHdr) (kind : Nat) : s.fresh.recordPorts h kind = s.recordPorts h kind := rfl
@[simp] theorem fresh_recordShape (s : State) (h : FrameHdr) (r : RelayHdr) (kind n : Nat) :
    s.fresh.recordShape h r kind n = s.recordShape h r kind n := rfl
@[simp] theorem fresh_openControls (s : State) (u : Upstream) (midControl : Bool) :
    s.fresh.openControls u midControl = s.openControls u midControl := rfl
@[simp] theorem fresh_splitAbsorbed (s : State) (i : Image) (x : Split) : s.fresh.splitAbsorbed i x = s.splitAbsorbed i x := rfl
@[simp] theorem fresh_carriedToggle (s : State) (p : Port) (q : TtSplit) : s.fresh.carriedToggle p q = s.carriedToggle p q := rfl
@[simp] theorem fresh_commitBusy (s : State) : s.fresh.commitBusy = s.commitBusy := rfl
@[simp] theorem fresh_openingOf (s : State) (tag : Nat) : s.fresh.openingOf tag = s.openingOf tag := rfl
@[simp] theorem fresh_saveStream (s : State) (d : Door) (n v : Nat) : s.fresh.saveStream d n v = s.saveStream d n v := rfl
@[simp] theorem fresh_regionStays (s : State) (f : Reg → Nat) (n : Nat) : s.fresh.regionStays f n = s.regionStays f n := rfl
@[simp] theorem fresh_saveArb (s : State) (w : Nat) : s.fresh.saveArb w = s.saveArb w := rfl
@[simp] theorem fresh_shedDue (s : State) : s.fresh.shedDue = s.shedDue := rfl
@[simp] theorem fresh_fetShorted (s : State) (x : Feed) (w : CollWatch) : s.fresh.fetShorted x w = s.fetShorted x w := rfl
@[simp] theorem fresh_inRamp (s : State) (c : Channel) : s.fresh.inRamp c = s.inRamp c := rfl
@[simp] theorem fresh_sound (s : State) (c : Channel) : s.fresh.sound c = s.sound c := rfl
@[simp] theorem fresh_rivalDoor (s : State) (d : Door) : s.fresh.rivalDoor d = s.rivalDoor d := rfl
@[simp] theorem fresh_clearSeq (s : State) (r : Reg) : s.fresh.clearSeq r = s.clearSeq r := rfl
@[simp] theorem fresh_pending_field (s : State) : s.fresh.pending = s.pending := rfl
@[simp] theorem fresh_ident_field (s : State) : s.fresh.ident = s.ident := rfl
@[simp] theorem fresh_straps_field (s : State) : s.fresh.straps = s.straps := rfl
@[simp] theorem fresh_pins_field (s : State) : s.fresh.pins = s.pins := rfl
@[simp] theorem fresh_regs_field (s : State) : s.fresh.regs = s.regs := rfl
@[simp] theorem fresh_staged_field (s : State) : s.fresh.staged = s.staged := rfl
@[simp] theorem fresh_pstaged_field (s : State) : s.fresh.pstaged = s.pstaged := rfl
@[simp] theorem fresh_parked_field (s : State) : s.fresh.parked = s.parked := rfl
@[simp] theorem fresh_hubs_field (s : State) : s.fresh.hubs = s.hubs := rfl
@[simp] theorem fresh_embs_field (s : State) : s.fresh.embs = s.embs := rfl
@[simp] theorem fresh_ups_field (s : State) : s.fresh.ups = s.ups := rfl
@[simp] theorem fresh_ports_field (s : State) : s.fresh.ports = s.ports := rfl
@[simp] theorem fresh_remote_field (s : State) : s.fresh.remote = s.remote := rfl
@[simp] theorem fresh_xlate_field (s : State) : s.fresh.xlate = s.xlate := rfl
@[simp] theorem fresh_devices_field (s : State) : s.fresh.devices = s.devices := rfl
@[simp] theorem fresh_records_field (s : State) : s.fresh.records = s.records := rfl
@[simp] theorem fresh_holds_field (s : State) : s.fresh.holds = s.holds := rfl
@[simp] theorem fresh_slots_field (s : State) : s.fresh.slots = s.slots := rfl
@[simp] theorem fresh_running_field (s : State) : s.fresh.running = s.running := rfl
@[simp] theorem fresh_runPayload_field (s : State) : s.fresh.runPayload = s.runPayload := rfl
@[simp] theorem fresh_switched_field (s : State) : s.fresh.switched = s.switched := rfl
@[simp] theorem fresh_swapping_field (s : State) : s.fresh.swapping = s.swapping := rfl
@[simp] theorem fresh_engine_field (s : State) : s.fresh.engine = s.engine := rfl
@[simp] theorem fresh_waiting_field (s : State) : s.fresh.waiting = s.waiting := rfl
@[simp] theorem fresh_lastImage_field (s : State) : s.fresh.lastImage = s.lastImage := rfl
@[simp] theorem fresh_engineMissed_field (s : State) : s.fresh.engineMissed = s.engineMissed := rfl
@[simp] theorem fresh_relayEps_field (s : State) : s.fresh.relayEps = s.relayEps := rfl
@[simp] theorem fresh_ownEps_field (s : State) : s.fresh.ownEps = s.ownEps := rfl
@[simp] theorem fresh_splits_field (s : State) : s.fresh.splits = s.splits := rfl
@[simp] theorem fresh_poolLow_field (s : State) : s.fresh.poolLow = s.poolLow := rfl
@[simp] theorem fresh_links_field (s : State) : s.fresh.links = s.links := rfl
@[simp] theorem fresh_streams_field (s : State) : s.fresh.streams = s.streams := rfl
@[simp] theorem fresh_sessions_field (s : State) : s.fresh.sessions = s.sessions := rfl
@[simp] theorem fresh_arb_field (s : State) : s.fresh.arb = s.arb := rfl
@[simp] theorem fresh_arbSaved_field (s : State) : s.fresh.arbSaved = s.arbSaved := rfl
@[simp] theorem fresh_seqs_field (s : State) : s.fresh.seqs = s.seqs := rfl
@[simp] theorem fresh_tcs_field (s : State) : s.fresh.tcs = s.tcs := rfl
@[simp] theorem fresh_feeds_field (s : State) : s.fresh.feeds = s.feeds := rfl
@[simp] theorem fresh_chans_field (s : State) : s.fresh.chans = s.chans := rfl
@[simp] theorem fresh_path_field (s : State) : s.fresh.path = s.path := rfl
@[simp] theorem fresh_boot_field (s : State) : s.fresh.boot = s.boot := rfl
@[simp] theorem fresh_ring_field (s : State) : s.fresh.ring = s.ring := rfl
@[simp] theorem fresh_faults_field (s : State) : s.fresh.faults = s.faults := rfl
@[simp] theorem fresh_domains_field (s : State) : s.fresh.domains = s.domains := rfl
@[simp] theorem fresh_doors_field (s : State) : s.fresh.doors = s.doors := rfl
@[simp] theorem fresh_cfg_field (s : State) : s.fresh.cfg = s.cfg := rfl
@[simp] theorem fresh_lens_field (s : State) : s.fresh.lens = s.lens := rfl
@[simp] theorem fresh_time_field (s : State) : s.fresh.time = s.time := rfl
@[simp] theorem fresh_out_nil (s : State) : s.fresh.out = [] := rfl
@[simp] theorem fresh_due_nil (s : State) : s.fresh.due = [] := rfl

end Sys2Proof.Machine
end

