-- ==== Sys2Proof/Laws/Table.lean ====
section
/-! SUPPORT. Tables: what a key reads after another key, or the same one, is put. -/

namespace Sys2Proof

variable {κ α : Type} [DecidableEq κ]

theorem Table.drop_cons (t : Table κ α) (e : κ × α) (k : κ) :
    Table.drop (e :: t) k = if e.1 = k then t.drop k else e :: t.drop k := by
  unfold Table.drop
  by_cases h : e.1 = k <;> simp [h]

theorem Table.get_drop_ne (d : α) (t : Table κ α) {k k' : κ} (h : k' ≠ k) : Table.get d (t.drop k) k' = Table.get d t k' := by
  induction t with
  | nil => rfl
  | cons e r ih =>
    rw [Table.drop_cons]
    split
    · next ha => simp [Table.get, ha, Ne.symm h, ih]
    · simp [Table.get, ih]

theorem Table.get_drop_self (d : α) (t : Table κ α) (k : κ) : Table.get d (t.drop k) k = d := by
  induction t with
  | nil => rfl
  | cons e r ih =>
    rw [Table.drop_cons]
    split
    · exact ih
    · next ha => simp [Table.get, ha, ih]

theorem Table.get_place_ne (ord : κ → Nat) (d : α) (t : Table κ α) {k k' : κ} (v : α) (h : k' ≠ k) :
    Table.get d (Table.place ord k v t) k' = Table.get d t k' := by
  induction t with
  | nil => simp [Table.place, Table.get, Ne.symm h]
  | cons e r ih =>
    obtain ⟨a, w⟩ := e
    simp only [Table.place]
    split
    · simp [Table.get, Ne.symm h]
    · simp [Table.get, ih]

theorem Table.get_place_self (ord : κ → Nat) (d : α) (t : Table κ α) (k : κ) (v : α) (h : ∀ e ∈ t, e.1 ≠ k) :
    Table.get d (Table.place ord k v t) k = v := by
  induction t with
  | nil => simp [Table.place, Table.get]
  | cons e r ih =>
    obtain ⟨a, w⟩ := e
    simp only [Table.place]
    split
    · simp [Table.get]
    · have ha : a ≠ k := h (a, w) (by simp)
      simp [Table.get, ha, ih fun e he => h e (by simp [he])]

/-- A key reads what was put there. -/
@[simp] theorem Table.get_put_self [DecidableEq α] (ord : κ → Nat) (d : α) (t : Table κ α) (k : κ) (v : α) :
    Table.get d (Table.put ord d t k v) k = v := by
  unfold Table.put
  split
  · next h => rw [h]; exact Table.get_drop_self d t k
  · exact Table.get_place_self ord d _ k v fun e he => by simp [Table.drop] at he; exact he.2

/-- Another key reads what it read before. -/
theorem Table.get_put_ne [DecidableEq α] (ord : κ → Nat) (d : α) (t : Table κ α) {k k' : κ} (v : α) (h : k' ≠ k) :
    Table.get d (Table.put ord d t k v) k' = Table.get d t k' := by
  unfold Table.put
  split
  · exact Table.get_drop_ne d t h
  · rw [Table.get_place_ne ord d _ v h, Table.get_drop_ne d t h]

/-- The default read elsewhere does not matter to a key that is put. -/
theorem Table.get_put_other [DecidableEq α] (ord : κ → Nat) (d d' : α) (t : Table κ α) {k k' : κ} (v : α) (h : k' ≠ k) :
    Table.get d' (Table.put ord d t k v) k' = Table.get d' t k' := by
  unfold Table.put
  split
  · exact Table.get_drop_ne d' t h
  · rw [Table.get_place_ne ord d' _ v h, Table.get_drop_ne d' t h]

end Sys2Proof
end

