-- ==== Sys2Proof/Laws/State.lean ====
section
/-! SUPPORT. What each named update leaves: the queue, the identity, the registers, what is left to do; and what a register reads after a
write. -/

namespace Sys2Proof.Machine

/-! ### Writing and reading registers -/

@[simp] theorem set_pending (s : State) (r : Reg) (v : Nat) : (s.set r v).pending = s.pending := rfl
@[simp] theorem set_ident (s : State) (r : Reg) (v : Nat) : (s.set r v).ident = s.ident := rfl
@[simp] theorem set_due (s : State) (r : Reg) (v : Nat) : (s.set r v).due = s.due := rfl
@[simp] theorem set_out (s : State) (r : Reg) (v : Nat) : (s.set r v).out = s.out := rfl
@[simp] theorem set_time (s : State) (r : Reg) (v : Nat) : (s.set r v).time = s.time := rfl
@[simp] theorem set_straps (s : State) (r : Reg) (v : Nat) : (s.set r v).straps = s.straps := rfl
@[simp] theorem set_boot (s : State) (r : Reg) (v : Nat) : (s.set r v).boot = s.boot := rfl
@[simp] theorem set_domains (s : State) (r : Reg) (v : Nat) : (s.set r v).domains = s.domains := rfl
@[simp] theorem set_doors (s : State) (r : Reg) (v : Nat) : (s.set r v).doors = s.doors := rfl
@[simp] theorem set_faults (s : State) (r : Reg) (v : Nat) : (s.set r v).faults = s.faults := rfl
@[simp] theorem set_ring (s : State) (r : Reg) (v : Nat) : (s.set r v).ring = s.ring := rfl
@[simp] theorem set_cfg (s : State) (r : Reg) (v : Nat) : (s.set r v).cfg = s.cfg := rfl
@[simp] theorem set_lens (s : State) (r : Reg) (v : Nat) : (s.set r v).lens = s.lens := rfl
@[simp] theorem set_ports (s : State) (r : Reg) (v : Nat) : (s.set r v).ports = s.ports := rfl
@[simp] theorem set_feeds (s : State) (r : Reg) (v : Nat) : (s.set r v).feeds = s.feeds := rfl
@[simp] theorem set_links (s : State) (r : Reg) (v : Nat) : (s.set r v).links = s.links := rfl
@[simp] theorem set_tcs (s : State) (r : Reg) (v : Nat) : (s.set r v).tcs = s.tcs := rfl

/-- A register reads what was written, in its width. -/
@[simp] theorem get_set_self (s : State) (r : Reg) (v : Nat) : (s.set r v).get r = v % 2 ^ r.bits := by
  simp [State.get, State.set]

/-- Another register reads what it read before. -/
theorem get_set_ne (s : State) {r r' : Reg} (v : Nat) (h : r' ≠ r) : (s.set r v).get r' = s.get r' := by
  simp [State.get, State.set, Table.get_put_other _ _ _ _ _ h]

/-! The flags of this cycle (R376). -/

@[simp] theorem putSeqs_get (s : State) (l : List (Nat × Nat × Nat × Nat)) (r : Reg) : (s.putSeqs l).get r = s.get r := rfl
@[simp] theorem putSeqs_pending (s : State) (l : List (Nat × Nat × Nat × Nat)) : (s.putSeqs l).pending = s.pending := rfl
@[simp] theorem putSeqs_ident (s : State) (l : List (Nat × Nat × Nat × Nat)) : (s.putSeqs l).ident = s.ident := rfl
@[simp] theorem putSeqs_due (s : State) (l : List (Nat × Nat × Nat × Nat)) : (s.putSeqs l).due = s.due := rfl
@[simp] theorem putSeqs_out (s : State) (l : List (Nat × Nat × Nat × Nat)) : (s.putSeqs l).out = s.out := rfl
@[simp] theorem putSeqs_time (s : State) (l : List (Nat × Nat × Nat × Nat)) : (s.putSeqs l).time = s.time := rfl
@[simp] theorem putSeqs_straps (s : State) (l : List (Nat × Nat × Nat × Nat)) : (s.putSeqs l).straps = s.straps := rfl
@[simp] theorem putSeqs_boot (s : State) (l : List (Nat × Nat × Nat × Nat)) : (s.putSeqs l).boot = s.boot := rfl
@[simp] theorem putSeqs_domains (s : State) (l : List (Nat × Nat × Nat × Nat)) : (s.putSeqs l).domains = s.domains := rfl
@[simp] theorem putSeqs_doors (s : State) (l : List (Nat × Nat × Nat × Nat)) : (s.putSeqs l).doors = s.doors := rfl
@[simp] theorem putSeqs_faults (s : State) (l : List (Nat × Nat × Nat × Nat)) : (s.putSeqs l).faults = s.faults := rfl
@[simp] theorem putSeqs_ring (s : State) (l : List (Nat × Nat × Nat × Nat)) : (s.putSeqs l).ring = s.ring := rfl
@[simp] theorem putSeqs_cfg (s : State) (l : List (Nat × Nat × Nat × Nat)) : (s.putSeqs l).cfg = s.cfg := rfl
@[simp] theorem putSeqs_lens (s : State) (l : List (Nat × Nat × Nat × Nat)) : (s.putSeqs l).lens = s.lens := rfl
@[simp] theorem putSeqs_ports (s : State) (l : List (Nat × Nat × Nat × Nat)) : (s.putSeqs l).ports = s.ports := rfl
@[simp] theorem putSeqs_feeds (s : State) (l : List (Nat × Nat × Nat × Nat)) : (s.putSeqs l).feeds = s.feeds := rfl
@[simp] theorem putSeqs_links (s : State) (l : List (Nat × Nat × Nat × Nat)) : (s.putSeqs l).links = s.links := rfl
@[simp] theorem putSeqs_tcs (s : State) (l : List (Nat × Nat × Nat × Nat)) : (s.putSeqs l).tcs = s.tcs := rfl

/-- A flag of an event-status entry is set and its sequence number advances (R375). -/
@[simp] theorem get_flag_self (s : State) (r : Reg) (b : Nat) : (s.flag r b).get r = eventSet (s.get r) b % 2 ^ r.bits :=
  (putSeqs_get _ _ _).trans (get_set_self s r _)

theorem get_flag_ne (s : State) {r r' : Reg} (b : Nat) (h : r' ≠ r) : (s.flag r b).get r' = s.get r' :=
  (putSeqs_get _ _ _).trans (get_set_ne s _ h)

@[simp] theorem get_bump_self (s : State) (r : Reg) : (s.bump r).get r = (s.get r + 1) % 2 ^ r.bits := get_set_self s r _

theorem get_bump_ne (s : State) {r r' : Reg} (h : r' ≠ r) : (s.bump r).get r' = s.get r' := get_set_ne s _ h

@[simp] theorem flag_pending (s : State) (r : Reg) (b : Nat) : (s.flag r b).pending = s.pending :=
  (putSeqs_pending _ _).trans (set_pending s r _)
@[simp] theorem flag_ident (s : State) (r : Reg) (b : Nat) : (s.flag r b).ident = s.ident :=
  (putSeqs_ident _ _).trans (set_ident s r _)
@[simp] theorem flag_due (s : State) (r : Reg) (b : Nat) : (s.flag r b).due = s.due :=
  (putSeqs_due _ _).trans (set_due s r _)
@[simp] theorem flag_out (s : State) (r : Reg) (b : Nat) : (s.flag r b).out = s.out :=
  (putSeqs_out _ _).trans (set_out s r _)
@[simp] theorem flag_time (s : State) (r : Reg) (b : Nat) : (s.flag r b).time = s.time :=
  (putSeqs_time _ _).trans (set_time s r _)
@[simp] theorem flag_straps (s : State) (r : Reg) (b : Nat) : (s.flag r b).straps = s.straps :=
  (putSeqs_straps _ _).trans (set_straps s r _)
@[simp] theorem flag_boot (s : State) (r : Reg) (b : Nat) : (s.flag r b).boot = s.boot :=
  (putSeqs_boot _ _).trans (set_boot s r _)
@[simp] theorem flag_domains (s : State) (r : Reg) (b : Nat) : (s.flag r b).domains = s.domains :=
  (putSeqs_domains _ _).trans (set_domains s r _)
@[simp] theorem flag_doors (s : State) (r : Reg) (b : Nat) : (s.flag r b).doors = s.doors :=
  (putSeqs_doors _ _).trans (set_doors s r _)
@[simp] theorem flag_faults (s : State) (r : Reg) (b : Nat) : (s.flag r b).faults = s.faults :=
  (putSeqs_faults _ _).trans (set_faults s r _)
@[simp] theorem flag_ring (s : State) (r : Reg) (b : Nat) : (s.flag r b).ring = s.ring :=
  (putSeqs_ring _ _).trans (set_ring s r _)
@[simp] theorem flag_cfg (s : State) (r : Reg) (b : Nat) : (s.flag r b).cfg = s.cfg :=
  (putSeqs_cfg _ _).trans (set_cfg s r _)
@[simp] theorem flag_lens (s : State) (r : Reg) (b : Nat) : (s.flag r b).lens = s.lens :=
  (putSeqs_lens _ _).trans (set_lens s r _)
@[simp] theorem flag_ports (s : State) (r : Reg) (b : Nat) : (s.flag r b).ports = s.ports :=
  (putSeqs_ports _ _).trans (set_ports s r _)
@[simp] theorem flag_feeds (s : State) (r : Reg) (b : Nat) : (s.flag r b).feeds = s.feeds :=
  (putSeqs_feeds _ _).trans (set_feeds s r _)
@[simp] theorem flag_links (s : State) (r : Reg) (b : Nat) : (s.flag r b).links = s.links :=
  (putSeqs_links _ _).trans (set_links s r _)
@[simp] theorem flag_tcs (s : State) (r : Reg) (b : Nat) : (s.flag r b).tcs = s.tcs :=
  (putSeqs_tcs _ _).trans (set_tcs s r _)
@[simp] theorem bump_pending (s : State) (r : Reg) : (s.bump r).pending = s.pending := set_pending s r _
@[simp] theorem bump_ident (s : State) (r : Reg) : (s.bump r).ident = s.ident := set_ident s r _
@[simp] theorem bump_due (s : State) (r : Reg) : (s.bump r).due = s.due := set_due s r _
@[simp] theorem bump_out (s : State) (r : Reg) : (s.bump r).out = s.out := set_out s r _
@[simp] theorem bump_time (s : State) (r : Reg) : (s.bump r).time = s.time := set_time s r _
@[simp] theorem bump_straps (s : State) (r : Reg) : (s.bump r).straps = s.straps := set_straps s r _
@[simp] theorem bump_boot (s : State) (r : Reg) : (s.bump r).boot = s.boot := set_boot s r _
@[simp] theorem bump_domains (s : State) (r : Reg) : (s.bump r).domains = s.domains := set_domains s r _
@[simp] theorem bump_doors (s : State) (r : Reg) : (s.bump r).doors = s.doors := set_doors s r _
@[simp] theorem bump_faults (s : State) (r : Reg) : (s.bump r).faults = s.faults := set_faults s r _
@[simp] theorem bump_ring (s : State) (r : Reg) : (s.bump r).ring = s.ring := set_ring s r _
@[simp] theorem bump_cfg (s : State) (r : Reg) : (s.bump r).cfg = s.cfg := set_cfg s r _
@[simp] theorem bump_lens (s : State) (r : Reg) : (s.bump r).lens = s.lens := set_lens s r _
@[simp] theorem bump_ports (s : State) (r : Reg) : (s.bump r).ports = s.ports := set_ports s r _
@[simp] theorem bump_feeds (s : State) (r : Reg) : (s.bump r).feeds = s.feeds := set_feeds s r _
@[simp] theorem bump_links (s : State) (r : Reg) : (s.bump r).links = s.links := set_links s r _
@[simp] theorem bump_tcs (s : State) (r : Reg) : (s.bump r).tcs = s.tcs := set_tcs s r _
@[simp] theorem count_pending (s : State) (r : Reg) (n : Nat) : (s.count r n).pending = s.pending := set_pending s r _
@[simp] theorem count_ident (s : State) (r : Reg) (n : Nat) : (s.count r n).ident = s.ident := set_ident s r _
@[simp] theorem count_due (s : State) (r : Reg) (n : Nat) : (s.count r n).due = s.due := set_due s r _
@[simp] theorem count_out (s : State) (r : Reg) (n : Nat) : (s.count r n).out = s.out := set_out s r _
@[simp] theorem count_time (s : State) (r : Reg) (n : Nat) : (s.count r n).time = s.time := set_time s r _
@[simp] theorem count_straps (s : State) (r : Reg) (n : Nat) : (s.count r n).straps = s.straps := set_straps s r _
@[simp] theorem count_boot (s : State) (r : Reg) (n : Nat) : (s.count r n).boot = s.boot := set_boot s r _
@[simp] theorem count_domains (s : State) (r : Reg) (n : Nat) : (s.count r n).domains = s.domains := set_domains s r _
@[simp] theorem count_doors (s : State) (r : Reg) (n : Nat) : (s.count r n).doors = s.doors := set_doors s r _
@[simp] theorem count_faults (s : State) (r : Reg) (n : Nat) : (s.count r n).faults = s.faults := set_faults s r _
@[simp] theorem count_ring (s : State) (r : Reg) (n : Nat) : (s.count r n).ring = s.ring := set_ring s r _
@[simp] theorem count_cfg (s : State) (r : Reg) (n : Nat) : (s.count r n).cfg = s.cfg := set_cfg s r _
@[simp] theorem count_lens (s : State) (r : Reg) (n : Nat) : (s.count r n).lens = s.lens := set_lens s r _
@[simp] theorem count_ports (s : State) (r : Reg) (n : Nat) : (s.count r n).ports = s.ports := set_ports s r _
@[simp] theorem count_feeds (s : State) (r : Reg) (n : Nat) : (s.count r n).feeds = s.feeds := set_feeds s r _
@[simp] theorem count_links (s : State) (r : Reg) (n : Nat) : (s.count r n).links = s.links := set_links s r _
@[simp] theorem count_tcs (s : State) (r : Reg) (n : Nat) : (s.count r n).tcs = s.tcs := set_tcs s r _
@[simp] theorem setRegBit_pending (s : State) (r : Reg) (b : Nat) (v : Bool) : (s.setRegBit r b v).pending = s.pending := set_pending s r _
@[simp] theorem setRegBit_ident (s : State) (r : Reg) (b : Nat) (v : Bool) : (s.setRegBit r b v).ident = s.ident := set_ident s r _
@[simp] theorem setRegBit_due (s : State) (r : Reg) (b : Nat) (v : Bool) : (s.setRegBit r b v).due = s.due := set_due s r _
@[simp] theorem setRegBit_out (s : State) (r : Reg) (b : Nat) (v : Bool) : (s.setRegBit r b v).out = s.out := set_out s r _
@[simp] theorem setRegBit_time (s : State) (r : Reg) (b : Nat) (v : Bool) : (s.setRegBit r b v).time = s.time := set_time s r _
@[simp] theorem setRegBit_straps (s : State) (r : Reg) (b : Nat) (v : Bool) : (s.setRegBit r b v).straps = s.straps := set_straps s r _
@[simp] theorem setRegBit_boot (s : State) (r : Reg) (b : Nat) (v : Bool) : (s.setRegBit r b v).boot = s.boot := set_boot s r _
@[simp] theorem setRegBit_domains (s : State) (r : Reg) (b : Nat) (v : Bool) : (s.setRegBit r b v).domains = s.domains := set_domains s r _
@[simp] theorem setRegBit_doors (s : State) (r : Reg) (b : Nat) (v : Bool) : (s.setRegBit r b v).doors = s.doors := set_doors s r _
@[simp] theorem setRegBit_faults (s : State) (r : Reg) (b : Nat) (v : Bool) : (s.setRegBit r b v).faults = s.faults := set_faults s r _
@[simp] theorem setRegBit_ring (s : State) (r : Reg) (b : Nat) (v : Bool) : (s.setRegBit r b v).ring = s.ring := set_ring s r _
@[simp] theorem setRegBit_cfg (s : State) (r : Reg) (b : Nat) (v : Bool) : (s.setRegBit r b v).cfg = s.cfg := set_cfg s r _
@[simp] theorem setRegBit_lens (s : State) (r : Reg) (b : Nat) (v : Bool) : (s.setRegBit r b v).lens = s.lens := set_lens s r _
@[simp] theorem setRegBit_ports (s : State) (r : Reg) (b : Nat) (v : Bool) : (s.setRegBit r b v).ports = s.ports := set_ports s r _
@[simp] theorem setRegBit_feeds (s : State) (r : Reg) (b : Nat) (v : Bool) : (s.setRegBit r b v).feeds = s.feeds := set_feeds s r _
@[simp] theorem setRegBit_links (s : State) (r : Reg) (b : Nat) (v : Bool) : (s.setRegBit r b v).links = s.links := set_links s r _
@[simp] theorem setRegBit_tcs (s : State) (r : Reg) (b : Nat) (v : Bool) : (s.setRegBit r b v).tcs = s.tcs := set_tcs s r _
@[simp] theorem setInt_pending (s : State) (r : Reg) (v : Int) : (s.setInt r v).pending = s.pending := set_pending s r _
@[simp] theorem setInt_ident (s : State) (r : Reg) (v : Int) : (s.setInt r v).ident = s.ident := set_ident s r _
@[simp] theorem setInt_due (s : State) (r : Reg) (v : Int) : (s.setInt r v).due = s.due := set_due s r _
@[simp] theorem setInt_out (s : State) (r : Reg) (v : Int) : (s.setInt r v).out = s.out := set_out s r _
@[simp] theorem setInt_time (s : State) (r : Reg) (v : Int) : (s.setInt r v).time = s.time := set_time s r _
@[simp] theorem setInt_straps (s : State) (r : Reg) (v : Int) : (s.setInt r v).straps = s.straps := set_straps s r _
@[simp] theorem setInt_boot (s : State) (r : Reg) (v : Int) : (s.setInt r v).boot = s.boot := set_boot s r _
@[simp] theorem setInt_domains (s : State) (r : Reg) (v : Int) : (s.setInt r v).domains = s.domains := set_domains s r _
@[simp] theorem setInt_doors (s : State) (r : Reg) (v : Int) : (s.setInt r v).doors = s.doors := set_doors s r _
@[simp] theorem setInt_faults (s : State) (r : Reg) (v : Int) : (s.setInt r v).faults = s.faults := set_faults s r _
@[simp] theorem setInt_ring (s : State) (r : Reg) (v : Int) : (s.setInt r v).ring = s.ring := set_ring s r _
@[simp] theorem setInt_cfg (s : State) (r : Reg) (v : Int) : (s.setInt r v).cfg = s.cfg := set_cfg s r _
@[simp] theorem setInt_lens (s : State) (r : Reg) (v : Int) : (s.setInt r v).lens = s.lens := set_lens s r _
@[simp] theorem setInt_ports (s : State) (r : Reg) (v : Int) : (s.setInt r v).ports = s.ports := set_ports s r _
@[simp] theorem setInt_feeds (s : State) (r : Reg) (v : Int) : (s.setInt r v).feeds = s.feeds := set_feeds s r _
@[simp] theorem setInt_links (s : State) (r : Reg) (v : Int) : (s.setInt r v).links = s.links := set_links s r _
@[simp] theorem setInt_tcs (s : State) (r : Reg) (v : Int) : (s.setInt r v).tcs = s.tcs := set_tcs s r _

/-! ### The runs -/

@[simp] theorem emit_pending (s : State) (o : Out) : (s.emit o).pending = s.pending := rfl
@[simp] theorem emit_ident (s : State) (o : Out) : (s.emit o).ident = s.ident := rfl
@[simp] theorem emit_due (s : State) (o : Out) : (s.emit o).due = s.due := rfl
@[simp] theorem emit_get (s : State) (o : Out) (r : Reg) : (s.emit o).get r = s.get r := rfl
@[simp] theorem setPort_pending (s : State) (p : Port) (x : PortRt) : (s.setPort p x).pending = s.pending := rfl
@[simp] theorem setPort_ident (s : State) (p : Port) (x : PortRt) : (s.setPort p x).ident = s.ident := rfl
@[simp] theorem setPort_due (s : State) (p : Port) (x : PortRt) : (s.setPort p x).due = s.due := rfl
@[simp] theorem setPort_get (s : State) (p : Port) (x : PortRt) (r : Reg) : (s.setPort p x).get r = s.get r := rfl
@[simp] theorem modPort_pending (s : State) (p : Port) (f : PortRt → PortRt) : (s.modPort p f).pending = s.pending := rfl
@[simp] theorem modPort_ident (s : State) (p : Port) (f : PortRt → PortRt) : (s.modPort p f).ident = s.ident := rfl
@[simp] theorem modPort_due (s : State) (p : Port) (f : PortRt → PortRt) : (s.modPort p f).due = s.due := rfl
@[simp] theorem modPort_get (s : State) (p : Port) (f : PortRt → PortRt) (r : Reg) : (s.modPort p f).get r = s.get r := rfl
@[simp] theorem setHub_pending (s : State) (i : Image) (x : HubFn) : (s.setHub i x).pending = s.pending := rfl
@[simp] theorem setHub_ident (s : State) (i : Image) (x : HubFn) : (s.setHub i x).ident = s.ident := rfl
@[simp] theorem setHub_due (s : State) (i : Image) (x : HubFn) : (s.setHub i x).due = s.due := rfl
@[simp] theorem setHub_get (s : State) (i : Image) (x : HubFn) (r : Reg) : (s.setHub i x).get r = s.get r := rfl
@[simp] theorem modHub_pending (s : State) (i : Image) (f : HubFn → HubFn) : (s.modHub i f).pending = s.pending := rfl
@[simp] theorem modHub_ident (s : State) (i : Image) (f : HubFn → HubFn) : (s.modHub i f).ident = s.ident := rfl
@[simp] theorem modHub_due (s : State) (i : Image) (f : HubFn → HubFn) : (s.modHub i f).due = s.due := rfl
@[simp] theorem modHub_get (s : State) (i : Image) (f : HubFn → HubFn) (r : Reg) : (s.modHub i f).get r = s.get r := rfl
@[simp] theorem setEmb_pending (s : State) (i : Image) (x : DevFn) : (s.setEmb i x).pending = s.pending := rfl
@[simp] theorem setEmb_ident (s : State) (i : Image) (x : DevFn) : (s.setEmb i x).ident = s.ident := rfl
@[simp] theorem setEmb_due (s : State) (i : Image) (x : DevFn) : (s.setEmb i x).due = s.due := rfl
@[simp] theorem setEmb_get (s : State) (i : Image) (x : DevFn) (r : Reg) : (s.setEmb i x).get r = s.get r := rfl
@[simp] theorem setUp_pending (s : State) (u : Upstream) (x : UpRt) : (s.setUp u x).pending = s.pending := rfl
@[simp] theorem setUp_ident (s : State) (u : Upstream) (x : UpRt) : (s.setUp u x).ident = s.ident := rfl
@[simp] theorem setUp_due (s : State) (u : Upstream) (x : UpRt) : (s.setUp u x).due = s.due := rfl
@[simp] theorem setUp_get (s : State) (u : Upstream) (x : UpRt) (r : Reg) : (s.setUp u x).get r = s.get r := rfl
@[simp] theorem modUp_pending (s : State) (u : Upstream) (f : UpRt → UpRt) : (s.modUp u f).pending = s.pending := rfl
@[simp] theorem modUp_ident (s : State) (u : Upstream) (f : UpRt → UpRt) : (s.modUp u f).ident = s.ident := rfl
@[simp] theorem modUp_due (s : State) (u : Upstream) (f : UpRt → UpRt) : (s.modUp u f).due = s.due := rfl
@[simp] theorem modUp_get (s : State) (u : Upstream) (f : UpRt → UpRt) (r : Reg) : (s.modUp u f).get r = s.get r := rfl
@[simp] theorem setHold_pending (s : State) (i : Image) (x : HoldRt) : (s.setHold i x).pending = s.pending := rfl
@[simp] theorem setHold_ident (s : State) (i : Image) (x : HoldRt) : (s.setHold i x).ident = s.ident := rfl
@[simp] theorem setHold_due (s : State) (i : Image) (x : HoldRt) : (s.setHold i x).due = s.due := rfl
@[simp] theorem setHold_get (s : State) (i : Image) (x : HoldRt) (r : Reg) : (s.setHold i x).get r = s.get r := rfl
@[simp] theorem modHold_pending (s : State) (i : Image) (f : HoldRt → HoldRt) : (s.modHold i f).pending = s.pending := rfl
@[simp] theorem modHold_ident (s : State) (i : Image) (f : HoldRt → HoldRt) : (s.modHold i f).ident = s.ident := rfl
@[simp] theorem modHold_due (s : State) (i : Image) (f : HoldRt → HoldRt) : (s.modHold i f).due = s.due := rfl
@[simp] theorem modHold_get (s : State) (i : Image) (f : HoldRt → HoldRt) (r : Reg) : (s.modHold i f).get r = s.get r := rfl
@[simp] theorem setRecord_pending (s : State) (i : Image) (m : Nat) (x : AdoptRec) : (s.setRecord i m x).pending = s.pending := rfl
@[simp] theorem setRecord_ident (s : State) (i : Image) (m : Nat) (x : AdoptRec) : (s.setRecord i m x).ident = s.ident := rfl
@[simp] theorem setRecord_due (s : State) (i : Image) (m : Nat) (x : AdoptRec) : (s.setRecord i m x).due = s.due := rfl
@[simp] theorem setRecord_get (s : State) (i : Image) (m : Nat) (x : AdoptRec) (r : Reg) : (s.setRecord i m x).get r = s.get r := rfl
@[simp] theorem setEntry_pending (s : State) (i : Image) (a : Nat) (x : Option Xlate) : (s.setEntry i a x).pending = s.pending := rfl
@[simp] theorem setEntry_ident (s : State) (i : Image) (a : Nat) (x : Option Xlate) : (s.setEntry i a x).ident = s.ident := rfl
@[simp] theorem setEntry_due (s : State) (i : Image) (a : Nat) (x : Option Xlate) : (s.setEntry i a x).due = s.due := rfl
@[simp] theorem setEntry_get (s : State) (i : Image) (a : Nat) (x : Option Xlate) (r : Reg) : (s.setEntry i a x).get r = s.get r := rfl
@[simp] theorem setDevice_pending (s : State) (i : Image) (a : Nat) (x : DevInfo) : (s.setDevice i a x).pending = s.pending := rfl
@[simp] theorem setDevice_ident (s : State) (i : Image) (a : Nat) (x : DevInfo) : (s.setDevice i a x).ident = s.ident := rfl
@[simp] theorem setDevice_due (s : State) (i : Image) (a : Nat) (x : DevInfo) : (s.setDevice i a x).due = s.due := rfl
@[simp] theorem setDevice_get (s : State) (i : Image) (a : Nat) (x : DevInfo) (r : Reg) : (s.setDevice i a x).get r = s.get r := rfl
@[simp] theorem setRemotePort_pending (s : State) (i : Image) (m : Nat) (x : PortStatusBody) :
    (s.setRemotePort i m x).pending = s.pending := rfl
@[simp] theorem setRemotePort_ident (s : State) (i : Image) (m : Nat) (x : PortStatusBody) : (s.setRemotePort i m x).ident = s.ident := rfl
@[simp] theorem setRemotePort_due (s : State) (i : Image) (m : Nat) (x : PortStatusBody) : (s.setRemotePort i m x).due = s.due := rfl
@[simp] theorem setRemotePort_get (s : State) (i : Image) (m : Nat) (x : PortStatusBody) (r : Reg) :
    (s.setRemotePort i m x).get r = s.get r := rfl
@[simp] theorem setLink_pending (s : State) (k : Link) (x : LinkRt) : (s.setLink k x).pending = s.pending := rfl
@[simp] theorem setLink_ident (s : State) (k : Link) (x : LinkRt) : (s.setLink k x).ident = s.ident := rfl
@[simp] theorem setLink_due (s : State) (k : Link) (x : LinkRt) : (s.setLink k x).due = s.due := rfl
@[simp] theorem setLink_get (s : State) (k : Link) (x : LinkRt) (r : Reg) : (s.setLink k x).get r = s.get r := rfl
@[simp] theorem modLink_pending (s : State) (k : Link) (f : LinkRt → LinkRt) : (s.modLink k f).pending = s.pending := rfl
@[simp] theorem modLink_ident (s : State) (k : Link) (f : LinkRt → LinkRt) : (s.modLink k f).ident = s.ident := rfl
@[simp] theorem modLink_due (s : State) (k : Link) (f : LinkRt → LinkRt) : (s.modLink k f).due = s.due := rfl
@[simp] theorem modLink_get (s : State) (k : Link) (f : LinkRt → LinkRt) (r : Reg) : (s.modLink k f).get r = s.get r := rfl
@[simp] theorem setSlot_pending (s : State) (j : Nat) (x : SlotRt) : (s.setSlot j x).pending = s.pending := rfl
@[simp] theorem setSlot_ident (s : State) (j : Nat) (x : SlotRt) : (s.setSlot j x).ident = s.ident := rfl
@[simp] theorem setSlot_due (s : State) (j : Nat) (x : SlotRt) : (s.setSlot j x).due = s.due := rfl
@[simp] theorem setSlot_get (s : State) (j : Nat) (x : SlotRt) (r : Reg) : (s.setSlot j x).get r = s.get r := rfl
@[simp] theorem setContext_pending (s : State) (n : Nat) (x : Option Xact) : (s.setContext n x).pending = s.pending := rfl
@[simp] theorem setContext_ident (s : State) (n : Nat) (x : Option Xact) : (s.setContext n x).ident = s.ident := rfl
@[simp] theorem setContext_due (s : State) (n : Nat) (x : Option Xact) : (s.setContext n x).due = s.due := rfl
@[simp] theorem setContext_get (s : State) (n : Nat) (x : Option Xact) (r : Reg) : (s.setContext n x).get r = s.get r := rfl
@[simp] theorem setTc_pending (s : State) (p : Port) (x : TcRt) : (s.setTc p x).pending = s.pending := rfl
@[simp] theorem setTc_ident (s : State) (p : Port) (x : TcRt) : (s.setTc p x).ident = s.ident := rfl
@[simp] theorem setTc_due (s : State) (p : Port) (x : TcRt) : (s.setTc p x).due = s.due := rfl
@[simp] theorem setTc_get (s : State) (p : Port) (x : TcRt) (r : Reg) : (s.setTc p x).get r = s.get r := rfl
@[simp] theorem modTc_pending (s : State) (p : Port) (f : TcRt → TcRt) : (s.modTc p f).pending = s.pending := rfl
@[simp] theorem modTc_ident (s : State) (p : Port) (f : TcRt → TcRt) : (s.modTc p f).ident = s.ident := rfl
@[simp] theorem modTc_due (s : State) (p : Port) (f : TcRt → TcRt) : (s.modTc p f).due = s.due := rfl
@[simp] theorem modTc_get (s : State) (p : Port) (f : TcRt → TcRt) (r : Reg) : (s.modTc p f).get r = s.get r := rfl
@[simp] theorem setFeed_pending (s : State) (x : Feed) (f : FeedRt) : (s.setFeed x f).pending = s.pending := rfl
@[simp] theorem setFeed_ident (s : State) (x : Feed) (f : FeedRt) : (s.setFeed x f).ident = s.ident := rfl
@[simp] theorem setFeed_due (s : State) (x : Feed) (f : FeedRt) : (s.setFeed x f).due = s.due := rfl
@[simp] theorem setFeed_get (s : State) (x : Feed) (f : FeedRt) (r : Reg) : (s.setFeed x f).get r = s.get r := rfl
@[simp] theorem modFeed_pending (s : State) (x : Feed) (f : FeedRt → FeedRt) : (s.modFeed x f).pending = s.pending := rfl
@[simp] theorem modFeed_ident (s : State) (x : Feed) (f : FeedRt → FeedRt) : (s.modFeed x f).ident = s.ident := rfl
@[simp] theorem modFeed_due (s : State) (x : Feed) (f : FeedRt → FeedRt) : (s.modFeed x f).due = s.due := rfl
@[simp] theorem modFeed_get (s : State) (x : Feed) (f : FeedRt → FeedRt) (r : Reg) : (s.modFeed x f).get r = s.get r := rfl
@[simp] theorem setStream_pending (s : State) (n : Nat) (x : StreamRt) : (s.setStream n x).pending = s.pending := rfl
@[simp] theorem setStream_ident (s : State) (n : Nat) (x : StreamRt) : (s.setStream n x).ident = s.ident := rfl
@[simp] theorem setStream_due (s : State) (n : Nat) (x : StreamRt) : (s.setStream n x).due = s.due := rfl
@[simp] theorem setStream_get (s : State) (n : Nat) (x : StreamRt) (r : Reg) : (s.setStream n x).get r = s.get r := rfl
@[simp] theorem modStream_pending (s : State) (n : Nat) (f : StreamRt → StreamRt) : (s.modStream n f).pending = s.pending := rfl
@[simp] theorem modStream_ident (s : State) (n : Nat) (f : StreamRt → StreamRt) : (s.modStream n f).ident = s.ident := rfl
@[simp] theorem modStream_due (s : State) (n : Nat) (f : StreamRt → StreamRt) : (s.modStream n f).due = s.due := rfl
@[simp] theorem modStream_get (s : State) (n : Nat) (f : StreamRt → StreamRt) (r : Reg) : (s.modStream n f).get r = s.get r := rfl
@[simp] theorem setSession_pending (s : State) (d : Door) (x : SessRt) : (s.setSession d x).pending = s.pending := rfl
@[simp] theorem setSession_ident (s : State) (d : Door) (x : SessRt) : (s.setSession d x).ident = s.ident := rfl
@[simp] theorem setSession_due (s : State) (d : Door) (x : SessRt) : (s.setSession d x).due = s.due := rfl
@[simp] theorem setSession_get (s : State) (d : Door) (x : SessRt) (r : Reg) : (s.setSession d x).get r = s.get r := rfl
@[simp] theorem modSession_pending (s : State) (d : Door) (f : SessRt → SessRt) : (s.modSession d f).pending = s.pending := rfl
@[simp] theorem modSession_ident (s : State) (d : Door) (f : SessRt → SessRt) : (s.modSession d f).ident = s.ident := rfl
@[simp] theorem modSession_due (s : State) (d : Door) (f : SessRt → SessRt) : (s.modSession d f).due = s.due := rfl
@[simp] theorem modSession_get (s : State) (d : Door) (f : SessRt → SessRt) (r : Reg) : (s.modSession d f).get r = s.get r := rfl
@[simp] theorem setReq_pending (s : State) (n : Nat) (x : ReqRt) : (s.setReq n x).pending = s.pending := rfl
@[simp] theorem setReq_ident (s : State) (n : Nat) (x : ReqRt) : (s.setReq n x).ident = s.ident := rfl
@[simp] theorem setReq_due (s : State) (n : Nat) (x : ReqRt) : (s.setReq n x).due = s.due := rfl
@[simp] theorem setReq_get (s : State) (n : Nat) (x : ReqRt) (r : Reg) : (s.setReq n x).get r = s.get r := rfl
@[simp] theorem setChan_pending (s : State) (c : Nat) (x : ChanRt) : (s.setChan c x).pending = s.pending := rfl
@[simp] theorem setChan_ident (s : State) (c : Nat) (x : ChanRt) : (s.setChan c x).ident = s.ident := rfl
@[simp] theorem setChan_due (s : State) (c : Nat) (x : ChanRt) : (s.setChan c x).due = s.due := rfl
@[simp] theorem setChan_get (s : State) (c : Nat) (x : ChanRt) (r : Reg) : (s.setChan c x).get r = s.get r := rfl

@[simp] theorem emit_out (s : State) (o : Out) : (s.emit o).out = s.out ++ [o] := rfl
@[simp] theorem raise_due (s : State) (n d : Nat) : (s.raise n d).due = s.due ++ [.raised n d] := rfl
@[simp] theorem raise_get (s : State) (n d : Nat) (r : Reg) : (s.raise n d).get r = s.get r := rfl

@[simp] theorem port_setPort_self (s : State) (p : Port) (x : PortRt) : (s.setPort p x).port p = x := by simp [State.port, State.setPort]
theorem port_setPort_ne (s : State) {p q : Port} (x : PortRt) (h : q ≠ p) : (s.setPort p x).port q = s.port q := by
  simp [State.port, State.setPort, Table.get_put_ne _ _ _ _ h]
@[simp] theorem hub_setHub_self (s : State) (i : Image) (x : HubFn) : (s.setHub i x).hub i = x := by simp [State.hub, State.setHub]
theorem hub_setHub_ne (s : State) {i q : Image} (x : HubFn) (h : q ≠ i) : (s.setHub i x).hub q = s.hub q := by
  simp [State.hub, State.setHub, Table.get_put_ne _ _ _ _ h]
@[simp] theorem hold_setHold_self (s : State) (i : Image) (x : HoldRt) : (s.setHold i x).hold i = x := by simp [State.hold, State.setHold]
theorem hold_setHold_ne (s : State) {i q : Image} (x : HoldRt) (h : q ≠ i) : (s.setHold i x).hold q = s.hold q := by
  simp [State.hold, State.setHold, Table.get_put_ne _ _ _ _ h]
@[simp] theorem tc_setTc_self (s : State) (p : Port) (x : TcRt) : (s.setTc p x).tc p = x := by simp [State.tc, State.setTc]
theorem tc_setTc_ne (s : State) {p q : Port} (x : TcRt) (h : q ≠ p) : (s.setTc p x).tc q = s.tc q := by
  simp [State.tc, State.setTc, Table.get_put_ne _ _ _ _ h]
@[simp] theorem link_setLink_self (s : State) (k : Link) (x : LinkRt) : (s.setLink k x).link k = x := by simp [State.link, State.setLink]
theorem link_setLink_ne (s : State) {k q : Link} (x : LinkRt) (h : q ≠ k) : (s.setLink k x).link q = s.link q := by
  simp [State.link, State.setLink, Table.get_put_ne _ _ _ _ h]
@[simp] theorem stream_setStream_self (s : State) (n : Nat) (x : StreamRt) : (s.setStream n x).stream n = x :=
    by simp [State.stream, State.setStream]
theorem stream_setStream_ne (s : State) {n q : Nat} (x : StreamRt) (h : q ≠ n) : (s.setStream n x).stream q = s.stream q := by
  simp [State.stream, State.setStream, Table.get_put_ne _ _ _ _ h]
@[simp] theorem slot_setSlot_self (s : State) (j : Nat) (x : SlotRt) : (s.setSlot j x).slot j = x := by simp [State.slot, State.setSlot]
theorem slot_setSlot_ne (s : State) {j q : Nat} (x : SlotRt) (h : q ≠ j) : (s.setSlot j x).slot q = s.slot q := by
  simp [State.slot, State.setSlot, Table.get_put_ne _ _ _ _ h]

end Sys2Proof.Machine
end

