-- ==== Sys2Proof/Laws/After.lean ====
section
/-! SUPPORT. What the end of a step does: once, for every command. -/

namespace Sys2Proof.Machine

/-! ### The state a command starts from -/

theorem fresh_fresh (s : State) : s.fresh.fresh = s.fresh := rfl

/-! ### What runs -/

theorem whenCore_on {s : State} (h : s.coreRuns = true) (f : State → State) : s.whenCore f = f s := by simp [State.whenCore, h]

theorem whenCore_off {s : State} (h : s.coreRuns = false) (f : State → State) : s.whenCore f = s := by simp [State.whenCore, h]

theorem whenRing_on {s : State} (h : s.coreRuns = true) (hr : s.domainOn 6 = true) (f : State → State) : s.whenRing f = f s := by
  simp [State.whenRing, h, hr]

theorem whenRing_off {s : State} (h : (s.coreRuns && s.domainOn 6) = false) (f : State → State) : s.whenRing f = s := by
  simp [State.whenRing, h]

/-! ### The end of a step -/

@[simp] theorem close_pending (t s : State) : (t.close s).pending = s.pending := rfl
@[simp] theorem close_ident (t s : State) : (t.close s).ident = s.ident := rfl
@[simp] theorem close_due (t s : State) : (t.close s).due = [] := rfl
@[simp] theorem finish_pending (s t : State) : (s.finish t).pending = s.pending := close_pending _ s
@[simp] theorem finish_ident (s t : State) : (s.finish t).ident = s.ident := close_ident _ s
@[simp] theorem finish_due (s t : State) : (s.finish t).due = [] := close_due _ s
@[simp] theorem after_pending (s : State) (f : State → State) : (s.after f).pending = s.pending := finish_pending s _
@[simp] theorem after_ident (s : State) (f : State → State) : (s.after f).ident = s.ident := finish_ident s _
@[simp] theorem after_due (s : State) (f : State → State) : (s.after f).due = [] := finish_due s _

/-- A command's step rests on what it does to the state it starts from. -/
theorem after_of {s : State} {f : State → State} {e : State} (h : f s.fresh = e) : s.after f = s.finish e := by rw [State.after, h]

/-- With nothing due there is nothing to settle. -/
theorem settle_nil (n : Nat) {s : State} (h : s.due = []) : State.settle n s = s := by
  cases n with
  | zero => rfl
  | succ n => simp [State.settle, h]

/-- A change for each element that changes nothing for any of them changes nothing. -/
theorem forEach_id {α : Type} (s : State) (l : List α) (f : State → α → State) (h : ∀ x ∈ l, f s x = s) : s.forEach l f = s := by
  induction l with
  | nil => rfl
  | cons a r ih =>
    have h1 : f s a = s := h a (by simp)
    show r.foldl f (f s a) = s
    rw [h1]
    exact ih fun x hx => h x (by simp [hx])

theorem forEach_nil {α : Type} (s : State) (f : State → α → State) : s.forEach [] f = s := rfl

end Sys2Proof.Machine
end

