-- ==== Sys2Proof/Laws/Config.lean ====
section
/-! SUPPORT. What the configuration check depends on (R383): commit-class entries alone, so that its reference is no part of it. -/

namespace Sys2Proof.Machine

/-- The reference of the check is no commit-class entry. -/
theorem reference_not_committed : (commitEntries fun _ => true).all
    (fun x => x.2.2.regs.all fun r => r.addr != Reg.addr (.commit .configCrcReference)) = true := by decide +kernel

/-- Bytes of entries agree when the registers of each entry do. -/
theorem checkBytes_congr {f g : Reg → Nat} (l : List (Nat × Nat × Entry)) (h : ∀ x ∈ l, ∀ r ∈ x.2.2.regs, f r = g r) :
    checkBytes l f = checkBytes l g := by
  unfold checkBytes
  refine List.flatMap_congr fun x hx => ?_
  simp only [Entry.bytes]
  congr 1
  exact List.flatMap_congr fun r hr => by rw [h x hx r hr]

/-- Writing the reference leaves the check code. -/
theorem configCrc_set_reference (s : State) (v : Nat) : (s.set (.commit .configCrcReference) v).configCrc = s.configCrc := by
  unfold State.configCrc
  rw [checkBytes_congr]
  intro x hx r hr
  have h := List.all_eq_true.1 (List.all_eq_true.1 reference_not_committed x hx) r hr
  exact get_set_ne s v fun e => by simp [e] at h

theorem crc32Shift_lt (n c : Nat) (h : c < 2 ^ 32) : crc32Shift n c < 2 ^ 32 := by
  induction n generalizing c with
  | zero => exact h
  | succ n ih =>
    apply ih
    split
    · exact Nat.xor_lt_two_pow (by omega) (by norm_num)
    · omega

/-- A CRC-32 fits in 32 bits. -/
theorem crc32_lt (bs : List Byte) : crc32 bs < 2 ^ 32 := by
  have h : ∀ (l : List Byte) (c : Nat), c < 2 ^ 32 → l.foldl (fun c b => crc32Shift 8 (c ^^^ b.toNat)) c < 2 ^ 32 := by
    intro l
    induction l with
    | nil => exact fun c h => h
    | cons b t ih =>
      exact fun c hc => ih _ (crc32Shift_lt 8 _ (Nat.xor_lt_two_pow hc (lt_of_lt_of_le b.isLt (by norm_num))))
  exact Nat.xor_lt_two_pow (h bs _ (by norm_num)) (by norm_num)

/-- A reference equal to the check code exists, and so does one that differs. -/
theorem configCrc_referenced (s : State) :
    (s.set (.commit .configCrcReference) s.configCrc).configCrc =
      (s.set (.commit .configCrcReference) s.configCrc).get (.commit .configCrcReference) := by
  rw [configCrc_set_reference, get_set_self]
  exact (Nat.mod_eq_of_lt (crc32_lt _)).symm

theorem configCrc_unreferenced (s : State) :
    (s.set (.commit .configCrcReference) (s.configCrc + 1)).configCrc ≠
      (s.set (.commit .configCrcReference) (s.configCrc + 1)).get (.commit .configCrcReference) := by
  rw [configCrc_set_reference, get_set_self]
  have h : s.configCrc < 2 ^ 32 := crc32_lt _
  show s.configCrc ≠ (s.configCrc + 1) % 2 ^ 32
  omega

end Sys2Proof.Machine
end

