-- ==== Sys2Proof/Laws/Doors.lean ====
section
/-! SUPPORT. What a door's command comes to once the checks of R363 find nothing against it, and what bytes of a written number spell. -/

namespace Sys2Proof

/-- The last byte of a number, most significant first, is its low byte; the bytes before it are those of the rest. -/
theorem bytesBe_last (n v : Nat) : bytesBe (n + 1) v = bytesBe n (v / 256) ++ [byteOf v] := by
  unfold bytesBe
  rw [List.range_succ, List.map_append]
  congr 1
  · refine List.map_congr_left fun j hj => ?_
    have e : n + 1 - 1 - j = (n - 1 - j) + 1 := by have := List.mem_range.1 hj; omega
    rw [e, Nat.div_div_eq_div_mul, Nat.pow_succ']
  · simp

/-- The last byte adds to 256 times what the bytes before it spell. -/
theorem ofBytesBe_last (bs : List Byte) (b : Byte) : ofBytesBe (bs ++ [b]) = 256 * ofBytesBe bs + b.toNat := by
  rw [ofBytesBe, List.foldl_append]; rfl

/-- The bytes of a number, most significant first, spell its low part. -/
theorem ofBytesBe_bytesBe : ∀ n v : Nat, ofBytesBe (bytesBe n v) = v % 256 ^ n
  | 0, v => (Nat.mod_one v).symm
  | n + 1, v => by
    rw [bytesBe_last, ofBytesBe_last, ofBytesBe_bytesBe n, Nat.pow_succ', Nat.mod_mul]
    exact Nat.add_comm _ _

/-- The bytes of a number, least significant first, spell its low part. -/
theorem ofBytesLe_bytesLe (n v : Nat) : ofBytesLe (bytesLe n v) = v % 256 ^ n := by
  rw [ofBytesLe, bytesLe, List.reverse_reverse, ofBytesBe_bytesBe]

/-- One byte spells itself. -/
theorem ofBytesBe_singleton (b : Byte) : ofBytesBe [b] = b.toNat := Nat.zero_add _

namespace Machine

/-- A write that a door takes has its entry's effect, and the door is told, or the answer waits for another facet's (R363, R184). -/
theorem directWrite_takes (s : State) (d : Door) (w : RegWrite) (e : Entry) (h : s.Takes d w) (he : entryOf w.index w.sub = some e) :
    s.fresh.directWrite d w.index w.sub w.offset w.data =
      ((s.fresh.doorEffect (callerAt d) w e).2.answered d (s.fresh.doorEffect (callerAt d) w e).1).writeVerdict d
        (s.fresh.doorEffect (callerAt d) w e).1 := by
  obtain ⟨h1, h2⟩ := h
  obtain ⟨a, b, c, x⟩ := w
  simp only at he h2 ⊢
  unfold State.directWrite State.doorWrite State.applyWrite
  simp [h1, he, callerAt]
  simp [callerAt] at h2
  simp [h2]

/-- An answer that waits for nothing is the door's verdict. -/
theorem writeVerdict_of_ne (s : State) (d : Door) {r : Nat} (h : r ≠ abWaits) :
    (s.answered d r).writeVerdict d r = s.verdict d r := by
  simp [State.writeVerdict, State.verdict, h]

/-- A write that a door takes and that waits for nothing has its entry's effect, and the door's verdict follows (R363). -/
theorem directWrite_of_takes (s : State) (d : Door) (w : RegWrite) (e : Entry) (h : s.Takes d w) (he : entryOf w.index w.sub = some e)
    (hr : (s.fresh.doorEffect (callerAt d) w e).1 ≠ abWaits) :
    s.fresh.directWrite d w.index w.sub w.offset w.data =
      (s.fresh.doorEffect (callerAt d) w e).2.verdict d (s.fresh.doorEffect (callerAt d) w e).1 :=
  (directWrite_takes s d w e h he).trans (writeVerdict_of_ne _ d hr)

/-- The same for a write of whole data. -/
theorem directWrite_entryWrite (s : State) (d : Door) (idx sub : Nat) (data : List Byte) (e : Entry)
    (h : s.Takes d (entryWrite idx sub data)) (he : entryOf idx sub = some e)
    (hr : (s.fresh.doorEffect (callerAt d) (entryWrite idx sub data) e).1 ≠ abWaits) :
    s.fresh.directWrite d idx sub 0 data =
      (s.fresh.doorEffect (callerAt d) (entryWrite idx sub data) e).2.verdict d
        (s.fresh.doorEffect (callerAt d) (entryWrite idx sub data) e).1 :=
  directWrite_of_takes s d (entryWrite idx sub data) e h he hr

end Machine

end Sys2Proof
end

