-- ==== Sys2Proof/Tests/Slice0.lean ====
section
/-! SUPPORT. Tests: ill-formed commands are refused, every statement of Certificates/Slice0 has a state and operands that meet its
hypotheses (one for each clause), and single steps whose outcome is worked out from the spec by hand. -/

namespace Sys2Proof.Tests

open Sys2Proof Sys2Proof.Machine

set_option maxRecDepth 40000
set_option linter.unusedVariables false

/-! ### Small states -/

/-- The facet after reset. -/
abbrev R : State := State.reset

/-- The facet with a host that has configured image 0 on upstream A. -/
abbrev U : State := (R.modUp .UA fun x => { x with attached := true, vbus := true, presents := .hub, speed :=
    3 }).modHub 0 fun h => { h with config := 1 }

/-- A PD message header. -/
abbrev H0 : PdHdr := { rev := 1, id := 2 }

/-- A state with port 16 in a state of its machine, with status bits. -/
abbrev P (st status : Nat) : State := (U.set (.port 15 .portState) st).modPort 15 fun x => { x with status := status }

/-- A translation entry of the last port. -/
abbrev X0 : Xlate := ⟨5, 16, 3, false⟩

/-- A host IN token. -/
abbrev tokIn : Token := ⟨.input, 9, 1, true, true, false, [], 0⟩

/-- A periodic start-split for the last port. -/
abbrev split0 : Split := ⟨16, 9, 1, true, false, true, false, 0, false, [], none⟩

/-- A transaction of a launch. -/
abbrev xact0 : Xact :=
  { port := 15, addr := 5, ep := 1, dirIn := true, setup := false, epType := 2, maxPacket := 512, toggle := false, data := [], errors := 1,
    who := .launch 7 }

/-- A partner identity. -/
abbrev g0 : Ts2 := ⟨9, 0, 0, 0, 0, 0, 0, 0⟩

/-- A frame header. -/
abbrev hdr0 : FrameHdr := ⟨0, 15, false, false, 0, 0, 0, 15, 0, 0, 0, .good⟩

/-- Link 3 in a state. -/
abbrev L (st : Nat) : State := R.set (.link 3 .linkState) st

/-- A facet with a partner on link 3. -/
abbrev N : State := ((R.set (.link 3 .linkState) 3).set (.link 3 .linkPartnerId) 9)

/-- A prism of two members, this facet (1) and facet 9 on link 3. -/
abbrev M : State :=
  { (((((N.set (.ring (.prismMembership 0)) 1).set (.ring (.prismMembership 1)) 9).set (.ring .prismOrigin) 1).set (.ring .ringMemberState)
      2).set (.ring .prismEpoch) 5).set (.ring .quorumState) 1 with ring := { lsdb := [⟨9, 1, [⟨1, 3, 3, 0⟩]⟩], seenEpoch := 5 } }

/-- A frame of facet 9 for this facet. -/
abbrev hd (len : Nat) : FrameHdr := ⟨1, 0, false, false, 0, 1, 0, 15, len, 0, 5, .good⟩

/-- A broadcast frame of facet 9. -/
abbrev hb : FrameHdr := ⟨1, 0, true, false, 0, 1, 0, 15, 0, 0, 5, .good⟩

/-- The prism with its lock at a facet, taken on the LOC door. -/
abbrev lk (f : Nat) : State := M.set (.lock .prismLockOwner) (7 + f * 2 ^ 16 + 3 * 2 ^ 20 + 2 ^ 23)

/-- A result in a translator. -/
abbrev ttr : TtResult := ⟨5, 1, true, .ack⟩

/-- A split in a translator. -/
abbrev tts : TtSplit :=
  { addr := 5, ep := 1, dirIn := true, setup := false, iso := false, micro := 0, toggle := false, data := [], remote := none }

/-- A start-split for a buffer. -/
abbrev split1 : Split := { split0 with periodic := false }

/-- A translator that holds a result. -/
abbrev HT3 : State := (((U.set (.port 15 .portState) 4).set (.port 15 .portSpeed) 2).setEntry 0 9
    (some X0)).modPort 15 fun y => { y with tt := { done := [ttr] } }

/-- A translator that holds a split. -/
abbrev HT4 : State := U.modPort 15 fun y => { y with tt := { buffers := [tts] } }

/-- A facet whose image's first port lies on facet 9 and is enabled. -/
abbrev RL : State := (({ U with regs := M.regs, ring := M.ring }.set (.image 0 (.imagePortMap 0)) 0x1101).setRemotePort 0 1 ⟨3, 0, 4,
  3⟩).setEntry 0 5 (some ⟨2, 1, 3, false⟩)

/-- A member with its last port enabled. -/
abbrev RO : State := M.set (.port 15 .portState) 4

/-- A standby host that has configured the mirror, and an image in hold-over. -/
abbrev SB : State := (R.set (.hold4 0 .holdoverState) 4).modUp .UB fun x => { x with presents := .standby, standby := { config := 1 } }

/-- Every image locked to its host. -/
abbrev LCK : State := (List.finRange 4).foldl (fun s i => s.modHub i fun h => { h with locked := true }) R

/-- A firmware image of one byte. -/
abbrev fwImage : List Byte :=
  [70, 87, 67, 84, 0, 0, 0, 2, 0, 0, 0, 1, 16, 32, 0, 0, 165, 5, 223, 27, 0, 0, 0, 0] ++ List.replicate 36 0 ++ [253, 20, 138, 90, 1]

/-- A bank that holds a whole image. -/
abbrev FWG : State := ({ R with boot := { resetBoot with target := some 1, pages := [(0, fwImage)] } }).set (.fw .fwUpdateState) 2

/-- The configuration check referenced. -/
abbrev CR : State := R.set (.commit .configCrcState) 1

/-- The reference of the configuration check does not stop the core. -/
theorem test_core_set (s : State) (v : Nat) : (s.set (.commit .configCrcReference) v).coreRuns = s.coreRuns := by
  unfold State.coreRuns State.domainOn State.domainState
  rw [get_set_ne _ _ (by decide)]
  rfl

/-- The staged digest depends on the registers and on what is staged. -/
theorem test_digest_of (s t : State) (h : s.regs = t.regs ∧ s.ident = t.ident ∧ s.staged = t.staged ∧ s.pstaged = t.pstaged ∧
    s.parked = t.parked) : s.stagedDigest = t.stagedDigest := by
  obtain ⟨h1, h2, h3, h4, h5⟩ := h
  unfold State.stagedDigest State.stagedValue State.committed State.get
  rw [h1, h2, h3, h4, h5]

/-- A number that differs from a given one. -/
def other (n : Nat) : Nat := n + 1

theorem test_other_ne {m n : Nat} (h : m = n) : other m ≠ n := by
  subst h
  exact Nat.succ_ne_self m

/-- Empty shadow slots pass the check. -/
theorem test_no_shadow (j : Nat) : LCK.slotCheck (LCK.shadowWord j) = 0 := by
  unfold State.shadowWord
  split
  · next h => exact (by decide : ∀ j : Fin 256, LCK.slotCheck (LCK.get (.hold (.holdoverTableShadow j))) = 0) ⟨j, h⟩
  · decide

/-- A held first port in an adoption state. -/
abbrev HP (st : Nat) : State :=
  ((R.set (.hold4 0 .holdoverState) st).set (.hold4 0 .holdoverHeldPorts) 1).setRecord 0 1 { valid := true, stage := .addressed }

/-- A held last port with a slot entry of an action. -/
abbrev SLOT (act : Nat) : State :=
  { ((R.set (.hold4 0 .holdoverState) 4).set (.hold4 0 .holdoverHeldPorts) (2 ^ 15)).set (.port 15 .portState) 4 with running :=
    [(7, 2 ^ 63 + 16 * 2 ^ 53 + act * 2 ^ 28)] }

/-- Stream 255 configured. -/
abbrev STR : State := (R.set (.stream 255 .streamEnable) 1).set (.stream 255 .streamSize) 4

/-- DRAM in training, its geometry committed. -/
abbrev DRG : State := (R.set (.res .reservoirDramState) 1).set (.res .reservoirDramGeometry) 5

/-- DRAM ready. -/
abbrev DR : State := R.set (.res .reservoirDramState) 2

/-- DRAM ready, stream 255 configured. -/
abbrev DRST : State := (DR.set (.stream 255 .streamEnable) 1).set (.stream 255 .streamSize) 4

/-- A host that has configured the embedded function. -/
abbrev EM : State := U.setEmb 0 { config := 1 }

/-- A queued launch. -/
abbrev lau : Launch := { time := 0, tag := 7, image := 0, port := 16, ep := 1, data := [], window := 1, mode := 0, retry := false }

/-- A queued launch for a device at a speed. -/
abbrev LST (speed : Nat) : State :=
  { (((P 4 1).set (.port 15 .portSpeed) speed).setEntry 0 5 (some ⟨5, 16, 3, false⟩)) with time := { launches := [lau] } }

/-- A device for a launch. -/
abbrev LAU : State := (P 4 1).setEntry 0 5 (some ⟨5, 16, 3, false⟩)

/-- PPS input in use. -/
abbrev PPSIN : State := (R.set (.pps .ppsInEnable) 1).set (.pps .ppsInState) 2

/-- CAN in Operational. -/
abbrev OP : State := R.set (.can .canState) 5

/-- The bytes of a launch. -/
abbrev launchBytes : List Byte := [0, 0, 0, 0, 0, 7, 0, 16, 1] ++ List.replicate 71 0

/-- The last port sources to a partner. -/
abbrev PS : State := (R.set (.tc 15 .tcState) 3).modTc 15 fun x => { x with source := true, dfp := true }

/-- The first port sources to a partner. -/
abbrev P0 : State := (R.set (.tc 0 .tcState) 3).modTc 0 fun x => { x with source := true, dfp := true }

/-- A start of the logic die that waits for the oscillator. -/
abbrev wk0 : WakeRt := ⟨0, 0, 0, 0, 2, 0, false, [], 0⟩

/-- A wake that waits for the regulator. -/
abbrev wk1 : WakeRt := ⟨1, 0, 0, 0, 1, 0, false, [], 0⟩

/-- A domain off. -/
abbrev OFF (d : Nat) : State := R.setDomain d 0

/-- HUB off. -/
abbrev OFF1 : State := OFF 1

/-- PWR off. -/
abbrev OFF5 : State := OFF 5

/-- A budget of 100 W. -/
abbrev BUD : State := (R.set (.pd .pdBudgetBoard) 100000).set (.pd .pdBudgetFeedLimit) 100000

/-- The facet after reset idles. -/
theorem test_reset_idle : State.reset.Idle := by
  refine ⟨rfl, rfl, by decide, rfl, rfl, rfl, ?_⟩
  decide

/-- A relay header of a kind with a length of data. -/
abbrev rk (kind len : Nat) : RelayHdr := ⟨kind, 1, 5, false, 2, true, 1, 512, 1, 0, 1, len, 0⟩

/-- An XACT_REQ without data. -/
abbrev rh : RelayHdr := rk 1 0

/-- A relay header of a kind for a port. -/
abbrev rp (kind port : Nat) : RelayHdr := { rk kind 0 with localPort := port }

/-! ### Well-formed and ill-formed commands -/

/-- Commands that are well formed. -/
theorem test_wf_accepts_1 :
    ([.getStatus (.hub 0) .device 1,
      .setFeatureEndpointHalt (.dev 0 5 1) 1,
      .clearFeatureEndpointHalt (.dev 0 5 1) 1,
      .setFeatureTestMode 0 1,
      .setAddress (.dev 0 5 1) 1 .whole,
      .getDescriptor (.dev 0 5 1) 1 1 [],
      .setConfiguration (.dev 0 5 1) 1 .whole,
      .setInterface (.dev 0 5 1) 1 1,
      .clearHubFeature 0 1,
      .getPortStatus 0 1,
      .setPortFeaturePortPower 0 1,
      .setPortFeaturePortReset 0 1,
      .setPortFeaturePortSuspend 0 1,
      .setPortFeaturePortTest 0 1 1,
      .clearPortFeaturePortEnable 0 1,
      .clearPortFeaturePortPower 0 1,
      .clearPortFeaturePortSuspend 0 1,
      .clearPortFeatureCPort 0 1 1,
      .clearTtBuffer 0 1 1 1,
      .resetTt 0 1,
      .stopTt 0 1,
      .hostSof .UA 1 1,
      .hostToken .UA tokIn .ack true,
      .hostStartSplit .UA split0,
      .hostCompleteSplit .UA split0,
      .ttFsTransactionDone 0 .ack,
      .hsEngineTransactionEnd 0 .ack,
      .discoverIdentitySop 0 H0,
      .discoverSvids 0 H0,
      .discoverModes 0 H0 1,
      .enterMode 0 H0 1 1,
      .exitMode 0 H0,
      .attention 0 H0,
      .linkUp 0 g0 1,
      .linkFrame 0 (hd 0) none [],
      .lsf 0 (hd 0) ⟨1, 0, []⟩,
      .syncFrame 0 (hd 0) (.arm 0 true),
      .syncingComplete 1 [],
      .withdraw 0 (hd 0),
      .prismLockRequest .loc 1] : List Instr).all (fun c => c.wf) = true := by decide

/-- Commands that are well formed. -/
theorem test_wf_accepts_2 :
    ([.lockRequestAtKeeper [],
      .lockGrant 0 (hd 0) .lost,
      .prismStagingWrite (.door .loc) ⟨0x2410, 1, 0, [1]⟩,
      .prepare 0 (hd 0) 1 ⟨1, 1, 1⟩,
      .ready 0 (hd 0),
      .refuse 0 (hd 0) 1 1,
      .abort 0 (hd 0),
      .apply 0 (hd 0) 1,
      .portStatus 0 (hd 0) rh ⟨0, 0, 0, 0⟩,
      .portReq 0 (hd 0) rh (.reset 5),
      .hostHsInRelayed 0 1 1 true,
      .hostHsOutRelayed 0 1 1 true [],
      .hostPingRelayed 0 1 1,
      .hostSetupRelayed 0 1 1 [],
      .xactReq 0 (hd 0) rh [],
      .xactRsp 0 (hd 0) rh [],
      .cancel 0 (hd 0) rh [],
      .splitStart 0 (hd 0) rh [],
      .splitResult 0 (hd 0) rh [],
      .relayTimeout 0 1 1 true,
      .absorbedResetComplete 0 1,
      .adoptDeviceTimeout 0 1,
      .dramTrainingDone 1 true,
      .hostEp1In .UA true [],
      .sessionDataRead .loc 1 [],
      .dramCorrectedError 1,
      .dramUncorrectableError 1,
      .sramUncorrectableError 0 .other,
      .scrubBurst 1 true,
      .arbDecision 1 1,
      .echoReceive 0 ⟨0, 0, 0, 0, 0, 0, false, 0⟩ 1,
      .ppsOutNextWrite .loc 1,
      .timeCivilAnchorWrite .loc 1 [],
      .canTimeSend 1,
      .canTimeReceive 1 1,
      .canSyncPhaseWrite .loc 1,
      .launchSubmit .loc [],
      .launchCancel .loc 1,
      .launchStart 1,
      .launchEnd 1 .ack] : List Instr).all (fun c => c.wf) = true := by decide

/-- Commands that are well formed. -/
theorem test_wf_accepts_3 :
    ([.launchWindowEnd 1,
      .attachMoistureResult 0 [],
      .ccSinkAttach 0 true 1,
      .moistureResult 0 [],
      .cableIdentity 0 ⟨true, 2⟩ 1,
      .request 0 H0 1,
      .getSourceCap 0 H0,
      .getSinkCap 0 H0,
      .sinkCapabilities 0 H0 [],
      .drSwap 0 H0,
      .prSwap 0 H0,
      .vconnSwap 0 H0,
      .frSwap 0 H0,
      .pdSoftReset 0 H0,
      .pdGetStatus 0 H0,
      .getPpsStatus 0 H0,
      .getRevision 0 H0,
      .getSourceInfo 0 H0,
      .pdUnsupportedMessage 0 H0 (.vdmUnknown 1 1),
      .bistCarrierMode 0 H0,
      .bistTestData 0 H0,
      .pdPartnerNotice 0 H0 .alert,
      .sourceCapabilitiesReceived 0 H0 [],
      .psRdyReceived 0 H0,
      .regulatorPoll 0 ⟨true, 0, 0, false⟩,
      .upstreamAttach .UA 1,
      .feedUndervoltage .A 1,
      .feedOvervoltage .A 1,
      .feedWindowEntry .A 1,
      .rampTimeout 0 1,
      .curveTrip 0 1,
      .instantaneousTrip 0 1,
      .powerGoodRise 0 1 1,
      .domainCommandOff .loc 1,
      .domainCommandRetention .loc 1,
      .domainCommandOn .loc 1,
      .domainCommandCancel .loc 1,
      .domainTrigger [],
      .wakeDownstreamPort 0 .connect [],
      .wakeUpstream .UA .reset []] : List Instr).all (fun c => c.wf) = true := by decide

/-- Commands that are well formed. -/
theorem test_wf_accepts_4 :
    ([.wakeLink 0 [],
      .wakeCanWup [],
      .wakeLocAddressMatch 1 [],
      .wakeTimerExpiry [],
      .wakeFeedChange [],
      .wakeTimerWrite .loc 1,
      .wakeStepReady 1 1,
      .wakeStepTimeout 1 1,
      .wakeStepRetry 1,
      .faultUnitRelease .loc 1,
      .faultSoftRaise .loc 1,
      .faultNControl .loc 1,
      .faultLatchClear .loc 1,
      .canBusOff 1,
      .doorRead .loc 1 1 1 1 true 1 1 [],
      .doorWrite .loc 1 1 ⟨0x3400, 23, 0, []⟩,
      .locBlockWrite [] true,
      .door 0 (hd 0) .loc (.command []) [],
      .sdoUpload 1 1 [],
      .sdoDownload 1 1 none,
      .sdoSegment true none,
      .nmtStart 1,
      .nmtStop 1,
      .nmtEnterPreOperational 1,
      .nmtResetNode 1,
      .nmtResetCommunication 1,
      .rpdoReceive 0 [],
      .communicationObjectWrite .loc 0x1017 0 [],
      .postedWriteApply 1,
      .eventFlagClear .loc 0x3400 22 1,
      .configStagingWrite .loc ⟨0x4C04, 1, 0, [9]⟩,
      .configCrcReferenceWrite .loc 1,
      .registerWrite .loc ⟨0x3400, 23, 0, []⟩,
      .lensDataRead .loc 1,
      .lensReadPtrWrite .loc 1,
      .fwUpdateData .loc 1 [],
      .structuredVdmAnswer 0 H0 .modes true [],
      .acceptReceived 0 H0] : List Instr).all (fun c => c.wf) = true := by decide

/-- One ill-formed command for each check of a row. -/
theorem test_wf_refuses_1 :
    ([.getStatus (.hub 0) .device 256,
      .setFeatureEndpointHalt (.dev 0 128 1) 1,
      .setFeatureEndpointHalt (.dev 0 5 1) 256,
      .clearFeatureEndpointHalt (.dev 0 128 1) 1,
      .clearFeatureEndpointHalt (.dev 0 5 1) 256,
      .setFeatureTestMode 0 256,
      .setAddress (.dev 0 128 1) 1 .whole,
      .setAddress (.dev 0 5 1) 128 .whole,
      .getDescriptor (.dev 0 128 1) 1 1 [],
      .getDescriptor (.dev 0 5 1) 256 1 [],
      .getDescriptor (.dev 0 5 1) 1 256 [],
      .getDescriptor (.dev 0 5 1) 1 1 (List.replicate 1089 0),
      .setConfiguration (.dev 0 128 1) 1 .whole,
      .setConfiguration (.dev 0 5 1) 256 .whole,
      .setInterface (.dev 0 128 1) 1 1,
      .setInterface (.dev 0 5 1) 256 1,
      .setInterface (.dev 0 5 1) 1 256,
      .clearHubFeature 0 65536,
      .getPortStatus 0 0,
      .setPortFeaturePortPower 0 0,
      .setPortFeaturePortReset 0 0,
      .setPortFeaturePortSuspend 0 0,
      .setPortFeaturePortTest 0 0 1,
      .setPortFeaturePortTest 0 1 256,
      .clearPortFeaturePortEnable 0 0,
      .clearPortFeaturePortPower 0 0,
      .clearPortFeaturePortSuspend 0 0,
      .clearPortFeatureCPort 0 0 1,
      .clearPortFeatureCPort 0 1 32,
      .clearTtBuffer 0 0 1 1,
      .clearTtBuffer 0 1 128 1,
      .clearTtBuffer 0 1 1 16,
      .resetTt 0 0,
      .stopTt 0 0,
      .hostSof .UA 2048 1,
      .hostSof .UA 1 8,
      .hostToken .UA { tokIn with addr := 128 } .ack true,
      .hostToken .UA tokIn (.data (List.replicate 1089 0) false) true,
      .hostStartSplit .UA { split0 with port := 0 },
      .hostCompleteSplit .UA { split0 with port := 0 }] : List Instr).all (fun c => !c.wf) = true := by decide

/-- One ill-formed command for each check of a row. -/
theorem test_wf_refuses_2 :
    ([.ttFsTransactionDone 0 (.data (List.replicate 1089 0) false),
      .hsEngineTransactionEnd 0 (.data (List.replicate 1089 0) false),
      .discoverIdentitySop 0 { rev := 4, id := 0 },
      .discoverSvids 0 { rev := 4, id := 0 },
      .discoverModes 0 { rev := 4, id := 0 } 1,
      .discoverModes 0 H0 65536,
      .enterMode 0 { rev := 4, id := 0 } 1 1,
      .enterMode 0 H0 65536 1,
      .enterMode 0 H0 1 8,
      .exitMode 0 { rev := 4, id := 0 },
      .attention 0 { rev := 4, id := 0 },
      .linkUp 0 ⟨18446744073709551616, 0, 0, 0, 0, 0, 0, 0⟩ 1,
      .linkUp 0 g0 8,
      .linkFrame 0 ⟨16, 0, false, false, 0, 0, 0, 0, 0, 0, 0, .good⟩ none [],
      .linkFrame 0 (hd 0) none [4294967296],
      .lsf 0 ⟨16, 0, false, false, 0, 0, 0, 0, 0, 0, 0, .good⟩ ⟨1, 0, []⟩,
      .lsf 0 (hd 0) ⟨18446744073709551616, 0, []⟩,
      .syncFrame 0 ⟨16, 0, false, false, 0, 0, 0, 0, 0, 0, 0, .good⟩ (.arm 0 true),
      .syncFrame 0 (hd 0) (.frame 0 2048 0 0),
      .syncingComplete 4294967296 [],
      .syncingComplete 1 [⟨65536, 0, 0, []⟩],
      .withdraw 0 ⟨16, 0, false, false, 0, 0, 0, 0, 0, 0, 0, .good⟩,
      .prismLockRequest .loc 65536,
      .lockRequestAtKeeper [⟨16, .loc, 1⟩],
      .lockGrant 0 ⟨16, 0, false, false, 0, 0, 0, 0, 0, 0, 0, .good⟩ .lost,
      .lockGrant 0 (hd 0) (.grant ⟨16, .loc, 1⟩ 0),
      .prismStagingWrite (.frame 0 ⟨16, 0, false, false, 0, 0, 0, 0, 0, 0, 0, .good⟩) ⟨0x2410, 1, 0, [1]⟩,
      .prismStagingWrite (.door .loc) ⟨65536, 0, 0, []⟩,
      .prepare 0 ⟨16, 0, false, false, 0, 0, 0, 0, 0, 0, 0, .good⟩ 1 ⟨1, 1, 1⟩,
      .prepare 0 (hd 0) 4294967296 ⟨1, 1, 1⟩,
      .prepare 0 (hd 0) 1 ⟨4294967296, 1, 1⟩,
      .prepare 0 (hd 0) 1 ⟨1, 18446744073709551616, 1⟩,
      .prepare 0 (hd 0) 1 ⟨1, 1, 2⟩,
      .ready 0 ⟨16, 0, false, false, 0, 0, 0, 0, 0, 0, 0, .good⟩,
      .refuse 0 ⟨16, 0, false, false, 0, 0, 0, 0, 0, 0, 0, .good⟩ 1 1,
      .refuse 0 (hd 0) 256 1,
      .refuse 0 (hd 0) 1 4294967296,
      .abort 0 ⟨16, 0, false, false, 0, 0, 0, 0, 0, 0, 0, .good⟩,
      .apply 0 ⟨16, 0, false, false, 0, 0, 0, 0, 0, 0, 0, .good⟩ 1,
      .apply 0 (hd 0) 18446744073709551616,
      .portStatus 0 ⟨16, 0, false, false, 0, 0, 0, 0, 0, 0, 0, .good⟩ rh ⟨0, 0, 0, 0⟩,
      .portStatus 0 (hd 0) { rh with localPort := 256 } ⟨0, 0, 0, 0⟩] : List Instr).all (fun c => !c.wf) = true := by decide

/-- One ill-formed command for each check of a row. -/
theorem test_wf_refuses_3 :
    ([.portStatus 0 (hd 0) rh ⟨65536, 0, 0, 0⟩,
      .portReq 0 ⟨16, 0, false, false, 0, 0, 0, 0, 0, 0, 0, .good⟩ rh (.reset 5),
      .portReq 0 (hd 0) { rh with localPort := 256 } (.reset 5),
      .portReq 0 (hd 0) rh (.test 256),
      .hostHsInRelayed 0 128 1 true,
      .hostHsInRelayed 0 1 16 true,
      .hostHsOutRelayed 0 128 1 true [],
      .hostHsOutRelayed 0 1 16 true [],
      .hostHsOutRelayed 0 1 1 true (List.replicate 1089 0),
      .hostPingRelayed 0 128 1,
      .hostPingRelayed 0 1 16,
      .hostSetupRelayed 0 128 1 [],
      .hostSetupRelayed 0 1 16 [],
      .hostSetupRelayed 0 1 1 (List.replicate 1089 0),
      .xactReq 0 ⟨16, 0, false, false, 0, 0, 0, 0, 0, 0, 0, .good⟩ rh [],
      .xactReq 0 (hd 0) { rh with localPort := 256 } [],
      .xactReq 0 (hd 0) rh (List.replicate 1089 0),
      .xactRsp 0 ⟨16, 0, false, false, 0, 0, 0, 0, 0, 0, 0, .good⟩ rh [],
      .xactRsp 0 (hd 0) { rh with localPort := 256 } [],
      .xactRsp 0 (hd 0) rh (List.replicate 1089 0),
      .cancel 0 ⟨16, 0, false, false, 0, 0, 0, 0, 0, 0, 0, .good⟩ rh [],
      .cancel 0 (hd 0) { rh with localPort := 256 } [],
      .cancel 0 (hd 0) rh (List.replicate 1089 0),
      .splitStart 0 ⟨16, 0, false, false, 0, 0, 0, 0, 0, 0, 0, .good⟩ rh [],
      .splitStart 0 (hd 0) { rh with localPort := 256 } [],
      .splitStart 0 (hd 0) rh (List.replicate 1089 0),
      .splitResult 0 ⟨16, 0, false, false, 0, 0, 0, 0, 0, 0, 0, .good⟩ rh [],
      .splitResult 0 (hd 0) { rh with localPort := 256 } [],
      .splitResult 0 (hd 0) rh (List.replicate 1089 0),
      .relayTimeout 0 128 1 true,
      .relayTimeout 0 1 16 true,
      .absorbedResetComplete 0 0,
      .adoptDeviceTimeout 0 0,
      .dramTrainingDone 4294967296 true,
      .hostEp1In .UA true (List.replicate 1089 0),
      .sessionDataRead .loc 4294967296 [],
      .sessionDataRead .loc 1 (List.replicate 1089 0),
      .dramCorrectedError 68719476736,
      .dramUncorrectableError 68719476736,
      .sramUncorrectableError 0 (.stream 0 68719476736)] : List Instr).all (fun c => !c.wf) = true := by decide

/-- One ill-formed command for each check of a row. -/
theorem test_wf_refuses_4 :
    ([.scrubBurst 68719476736 true,
      .arbDecision 2048 1,
      .arbDecision 1 65536,
      .echoReceive 0 ⟨4294967296, 0, 0, 0, 0, 0, false, 0⟩ 1,
      .echoReceive 0 ⟨0, 0, 0, 0, 0, 0, false, 0⟩ 281474976710656,
      .ppsOutNextWrite .loc 4294967296,
      .timeCivilAnchorWrite .loc 4294967296 [],
      .timeCivilAnchorWrite .loc 1 (List.replicate 1089 0),
      .canTimeSend 4294967296,
      .canTimeReceive 268435456 1,
      .canTimeReceive 1 65536,
      .canSyncPhaseWrite .loc 4294967296,
      .launchSubmit .loc (List.replicate 1089 0),
      .launchCancel .loc 65536,
      .launchStart 65536,
      .launchEnd 65536 .ack,
      .launchEnd 1 (.data (List.replicate 1089 0) false),
      .launchWindowEnd 65536,
      .attachMoistureResult 0 [4294967296],
      .ccSinkAttach 0 true 0,
      .moistureResult 0 [4294967296],
      .cableIdentity 0 ⟨true, 2⟩ 4294967296,
      .cableIdentity 0 ⟨true, 8⟩ 1,
      .request 0 { rev := 4, id := 0 } 1,
      .request 0 H0 4294967296,
      .getSourceCap 0 { rev := 4, id := 0 },
      .getSinkCap 0 { rev := 4, id := 0 },
      .sinkCapabilities 0 { rev := 4, id := 0 } [],
      .sinkCapabilities 0 H0 [4294967296],
      .drSwap 0 { rev := 4, id := 0 },
      .prSwap 0 { rev := 4, id := 0 },
      .vconnSwap 0 { rev := 4, id := 0 },
      .frSwap 0 { rev := 4, id := 0 },
      .pdSoftReset 0 { rev := 4, id := 0 },
      .pdGetStatus 0 { rev := 4, id := 0 },
      .getPpsStatus 0 { rev := 4, id := 0 },
      .getRevision 0 { rev := 4, id := 0 },
      .getSourceInfo 0 { rev := 4, id := 0 },
      .pdUnsupportedMessage 0 { rev := 4, id := 0 } (.vdmUnknown 1 1),
      .pdUnsupportedMessage 0 H0 (.vdmUnknown 32 1),
      .bistCarrierMode 0 { rev := 4, id := 0 }] : List Instr).all (fun c => !c.wf) = true := by decide

/-- One ill-formed command for each check of a row. -/
theorem test_wf_refuses_5 :
    ([.bistTestData 0 { rev := 4, id := 0 },
      .pdPartnerNotice 0 { rev := 4, id := 0 } .alert,
      .sourceCapabilitiesReceived 0 { rev := 4, id := 0 } [],
      .sourceCapabilitiesReceived 0 H0 [4294967296],
      .psRdyReceived 0 { rev := 4, id := 0 },
      .regulatorPoll 0 ⟨true, 4294967296, 0, false⟩,
      .upstreamAttach .UA 0,
      .feedUndervoltage .A 4294967296,
      .feedOvervoltage .A 4294967296,
      .feedWindowEntry .A 4294967296,
      .insertionDelayExpiry .A ⟨4294967296, 0, 0⟩,
      .insertionDelayExpiry .A ⟨0, 4294967296, 0⟩,
      .insertionDelayExpiry .A ⟨0, 0, 4294967296⟩,
      .rampTimeout 0 4294967296,
      .curveTrip 0 4294967296,
      .instantaneousTrip 0 4294967296,
      .powerGoodRise 0 4294967296 1,
      .powerGoodRise 0 1 4294967296,
      .domainCommandOff .loc 4294967296,
      .domainCommandRetention .loc 4294967296,
      .domainCommandOn .loc 4294967296,
      .domainCommandCancel .loc 4294967296,
      .domainTrigger [⟨8, 0⟩],
      .wakeDownstreamPort 0 .connect [⟨8, 0⟩],
      .wakeUpstream .UA .reset [⟨8, 0⟩],
      .wakeLink 0 [⟨8, 0⟩],
      .wakeCanWup [⟨8, 0⟩],
      .wakeLocAddressMatch 128 [],
      .wakeLocAddressMatch 1 [⟨8, 0⟩],
      .wakeTimerExpiry [⟨8, 0⟩],
      .wakeFeedChange [⟨8, 0⟩],
      .wakeTimerWrite .loc 4294967296,
      .wakeStepReady 0 1,
      .wakeStepReady 1 4194304,
      .wakeStepTimeout 0 1,
      .wakeStepTimeout 1 256,
      .wakeStepRetry 0,
      .faultUnitRelease .loc 256,
      .faultSoftRaise .loc 4294967296,
      .faultNControl .loc 256,
      .faultLatchClear .loc 256,
      .canBusOff 65536,
      .doorRead .loc 256 1 1 1 true 1 1 []] : List Instr).all (fun c => !c.wf) = true := by decide

/-- One ill-formed command for each check of a row. -/
theorem test_wf_refuses_6 :
    ([.doorRead .loc 1 65536 1 1 true 1 1 [],
      .doorRead .loc 1 1 65536 1 true 1 1 [],
      .doorRead .loc 1 1 1 256 true 1 1 [],
      .doorRead .loc 1 1 1 1 true 4294967296 1 [],
      .doorRead .loc 1 1 1 1 true 1 4294967296 [],
      .doorRead .loc 1 1 1 1 true 1 1 (List.replicate 1089 0),
      .doorWrite .loc 256 1 ⟨0x3400, 23, 0, []⟩,
      .doorWrite .loc 1 65536 ⟨0x3400, 23, 0, []⟩,
      .doorWrite .loc 1 1 ⟨65536, 0, 0, []⟩,
      .locBlockWrite (List.replicate 1089 0) true,
      .door 0 ⟨16, 0, false, false, 0, 0, 0, 0, 0, 0, 0, .good⟩ .loc (.command []) [],
      .door 0 (hd 0) .loc (.command (List.replicate 1089 0)) [],
      .door 0 (hd 0) .loc (.command []) (List.replicate 1089 0),
      .sdoUpload 65536 1 [],
      .sdoUpload 1 256 [],
      .sdoUpload 1 1 (List.replicate 1089 0),
      .sdoDownload 65536 1 none,
      .sdoDownload 1 256 none,
      .nmtStart 128,
      .nmtStop 128,
      .nmtEnterPreOperational 128,
      .nmtResetNode 128,
      .nmtResetCommunication 128,
      .rpdoReceive 0 (List.replicate 1089 0),
      .communicationObjectWrite .loc 65536 0 [],
      .communicationObjectWrite .loc 0x1017 256 [],
      .communicationObjectWrite .loc 0x1017 0 (List.replicate 1089 0),
      .postedWriteApply 8,
      .eventFlagClear .loc 65536 22 1,
      .eventFlagClear .loc 0x3400 256 1,
      .eventFlagClear .loc 0x3400 22 4294967296,
      .configStagingWrite .loc ⟨65536, 0, 0, []⟩,
      .configCrcReferenceWrite .loc 4294967296,
      .registerWrite .loc ⟨65536, 0, 0, []⟩,
      .lensDataRead .loc 4294967296,
      .lensReadPtrWrite .loc 4294967296,
      .fwUpdateData .loc 4294967296 [],
      .fwUpdateData .loc 1 (List.replicate 1089 0),
      .structuredVdmAnswer 0 { rev := 4, id := 0 } .modes true [],
      .structuredVdmAnswer 0 H0 .modes true [4294967296]] : List Instr).all (fun c => !c.wf) = true := by decide

/-- One ill-formed command for each check of a row. -/
theorem test_wf_refuses_7 :
    ([.acceptReceived 0 { rev := 4, id := 0 },
      .linkUp 0 g0 8,
      .linkFrame 0 (hd 0) (some 256) [],
      .linkFrame 0 (hd 0) none [4294967296],
      .sdoDownload 1 1 (some (List.replicate 1089 0)),
      .sdoSegment true (some ((List.replicate 1089 0), false)),
      .prismStagingWrite (.door .loc) ⟨0x3000, 12, 0, [1]⟩,
      .communicationObjectWrite .loc 0x2000 1 [],
      .eventFlagClear .loc 0x3400 1 0,
      .configStagingWrite .loc ⟨0x3400, 23, 0, []⟩,
      .configStagingWrite .loc ⟨0x2410, 1, 0, [1]⟩,
      .registerWrite .loc ⟨0x2410, 1, 0, [1]⟩,
      .registerWrite .loc ⟨0x4C04, 1, 0, [9]⟩,
      .registerWrite .loc ⟨0x3400, 22, 0, []⟩,
      .wakeStepReady 8 0,
      .ccSinkAttach 0 true 4] : List Instr).all (fun c => !c.wf) = true := by decide

/-- One ill-formed operand for each check of its type. -/
theorem test_wf_refuses_operand_1 :
    ([.withdraw 0 (⟨16, 0, false, false, 0, 0, 0, 0, 0, 0, 0, .good⟩),
      .withdraw 0 (⟨0, 16, false, false, 0, 0, 0, 0, 0, 0, 0, .good⟩),
      .withdraw 0 (⟨0, 0, false, false, 4, 0, 0, 0, 0, 0, 0, .good⟩),
      .withdraw 0 (⟨0, 0, false, false, 0, 256, 0, 0, 0, 0, 0, .good⟩),
      .withdraw 0 (⟨0, 0, false, false, 0, 0, 256, 0, 0, 0, 0, .good⟩),
      .withdraw 0 (⟨0, 0, false, false, 0, 0, 0, 16, 0, 0, 0, .good⟩),
      .withdraw 0 (⟨0, 0, false, false, 0, 0, 0, 0, 4096, 0, 0, .good⟩),
      .withdraw 0 (⟨0, 0, false, false, 0, 0, 0, 0, 0, 65536, 0, .good⟩),
      .withdraw 0 (⟨0, 0, false, false, 0, 0, 0, 0, 0, 0, 4294967296, .good⟩),
      .drSwap 0 { rev := 4, id := 0 },
      .drSwap 0 { rev := 0, id := 8 },
      .drSwap 0 { rev := 0, id := 0, rp := 4 },
      .drSwap 0 { rev := 0, id := 0, svdm := 4 },
      .linkUp 0 ⟨18446744073709551616, 0, 0, 0, 0, 0, 0, 0⟩ 0,
      .linkUp 0 ⟨0, 18446744073709551616, 0, 0, 0, 0, 0, 0⟩ 0,
      .linkUp 0 ⟨0, 0, 4294967296, 0, 0, 0, 0, 0⟩ 0,
      .linkUp 0 ⟨0, 0, 0, 4, 0, 0, 0, 0⟩ 0,
      .linkUp 0 ⟨0, 0, 0, 0, 16, 0, 0, 0⟩ 0,
      .linkUp 0 ⟨0, 0, 0, 0, 0, 256, 0, 0⟩ 0,
      .linkUp 0 ⟨0, 0, 0, 0, 0, 0, 256, 0⟩ 0,
      .linkUp 0 ⟨0, 0, 0, 0, 0, 0, 0, 2⟩ 0,
      .hostToken .UA { tokIn with addr := 128 } .ack true,
      .hostToken .UA { tokIn with ep := 16 } .ack true,
      .hostToken .UA { tokIn with port := 256 } .ack true,
      .hostToken .UA { tokIn with data := List.replicate 1089 0 } .ack true,
      .hostStartSplit .UA { split0 with port := 0 },
      .hostStartSplit .UA { split0 with port := 256 },
      .hostStartSplit .UA { split0 with addr := 128 },
      .hostStartSplit .UA { split0 with ep := 16 },
      .hostStartSplit .UA { split0 with micro := 16384 },
      .hostStartSplit .UA { split0 with data := List.replicate 1089 0 },
      .hostStartSplit .UA { split0 with external := some (128, none) },
      .hostStartSplit .UA { split0 with external := some (5, some (.data (List.replicate 1089 0) false)) },
      .launchEnd 1 (.data (List.replicate 1089 0) false),
      .setAddress (.dev 0 128 1) 1 .whole,
      .setAddress (.dev 0 1 256) 1 .whole,
      .lockRequestAtKeeper [⟨16, .loc, 1⟩],
      .lockRequestAtKeeper [⟨0, .loc, 65536⟩],
      .lockGrant 0 (hd 0) (.grant ⟨16, .loc, 1⟩ 0),
      .lockGrant 0 (hd 0) (.grant ⟨0, .loc, 1⟩ 18446744073709551616),
      .lockGrant 0 (hd 0) (.renew 18446744073709551616),
      .lsf 0 (hd 0) ⟨18446744073709551616, 0, []⟩,
      .lsf 0 (hd 0) ⟨1, 65536, []⟩,
      .lsf 0 (hd 0) ⟨1, 0, List.replicate 5 ⟨0, 0, 0, 0⟩⟩,
      .lsf 0 (hd 0) ⟨1, 0, [⟨18446744073709551616, 0, 0, 0⟩]⟩,
      .lsf 0 (hd 0) ⟨1, 0, [⟨0, 256, 0, 0⟩]⟩] : List Instr).all (fun c => !c.wf) = true := by decide

/-- One ill-formed operand for each check of its type. -/
theorem test_wf_refuses_operand_2 :
    ([.lsf 0 (hd 0) ⟨1, 0, [⟨0, 0, 8, 0⟩]⟩,
      .lsf 0 (hd 0) ⟨1, 0, [⟨0, 0, 0, 4294967296⟩]⟩,
      .syncFrame 0 (hd 0) (.frame 0 2048 0 0),
      .syncFrame 0 (hd 0) (.frame 0 0 8 0),
      .syncFrame 0 (hd 0) (.frame 0 0 0 18446744073709551616),
      .syncFrame 0 (hd 0) (.xlate 0 128 0 0),
      .syncFrame 0 (hd 0) (.xlate 0 0 4294967296 0),
      .syncFrame 0 (hd 0) (.xlate 0 0 0 4294967296),
      .syncFrame 0 (hd 0) (.held 0 0 true),
      .syncFrame 0 (hd 0) (.holdInfo 0 [4294967296]),
      .syncFrame 0 (hd 0) (.wakeK 0 0),
      .syncFrame 0 (hd 0) (.record 0 0 []),
      .syncFrame 0 (hd 0) (.record 0 1 (List.replicate 1089 0)),
      .syncFrame 0 (hd 0) (.holdEntry 0 8 0 0 0),
      .syncFrame 0 (hd 0) (.holdEntry 0 0 18446744073709551616 0 0),
      .syncFrame 0 (hd 0) (.holdEntry 0 0 0 4294967296 0),
      .syncFrame 0 (hd 0) (.holdEntry 0 0 0 0 16384),
      .syncFrame 0 (hd 0) (.holdState 0 16),
      .syncFrame 0 (hd 0) (.anchor (List.replicate 1089 0)),
      .cancel 0 (hd 0) { rh with kind := 256 } [],
      .cancel 0 (hd 0) { rh with length := 2048 } [],
      .cancel 0 (hd 0) { rh with localPort := 256 } [],
      .cancel 0 (hd 0) { rh with devAddr := 128 } [],
      .cancel 0 (hd 0) { rh with epType := 4 } [],
      .cancel 0 (hd 0) { rh with ep := 16 } [],
      .cancel 0 (hd 0) { rh with maxPacket := 2048 } [],
      .cancel 0 (hd 0) { rh with count := 256 } [],
      .cancel 0 (hd 0) { rh with result := 256 } [],
      .cancel 0 (hd 0) { rh with seq := 65536 } [],
      .cancel 0 (hd 0) { rh with stamp := 4294967296 } [],
      .portStatus 0 (hd 0) rh ⟨65536, 0, 0, 0⟩,
      .portStatus 0 (hd 0) rh ⟨0, 65536, 0, 0⟩,
      .portStatus 0 (hd 0) rh ⟨0, 0, 256, 0⟩,
      .portStatus 0 (hd 0) rh ⟨0, 0, 0, 256⟩,
      .portReq 0 (hd 0) rh (.test 256),
      .portReq 0 (hd 0) rh (.reset 256),
      .portReq 0 (hd 0) rh (.clearChange 32),
      .portReq 0 (hd 0) rh (.ttClear 128 0),
      .portReq 0 (hd 0) rh (.ttClear 0 16),
      .echoReceive 0 ⟨4294967296, 0, 0, 0, 0, 0, false, 0⟩ 0,
      .echoReceive 0 ⟨0, 281474976710656, 0, 0, 0, 0, false, 0⟩ 0,
      .echoReceive 0 ⟨0, 0, 281474976710656, 0, 0, 0, false, 0⟩ 0,
      .echoReceive 0 ⟨0, 0, 0, 4294967296, 0, 0, false, 0⟩ 0,
      .echoReceive 0 ⟨0, 0, 0, 0, 18446744073709551616, 0, false, 0⟩ 0,
      .echoReceive 0 ⟨0, 0, 0, 0, 0, 256, false, 0⟩ 0,
      .echoReceive 0 ⟨0, 0, 0, 0, 0, 0, false, 256⟩ 0,
      .regulatorPoll 0 ⟨true, 4294967296, 0, false⟩,
      .regulatorPoll 0 ⟨true, 0, 4294967296, false⟩] : List Instr).all (fun c => !c.wf) = true := by decide

/-- One ill-formed operand for each check of its type. -/
theorem test_wf_refuses_operand_3 :
    ([.pdUnsupportedMessage 0 H0 (.vdmUnknown 32 1),
      .pdUnsupportedMessage 0 H0 (.vdmUnknown 1 65536),
      .door 0 (hd 0) .loc (.command (List.replicate 1089 0)) [],
      .prismStagingWrite (.frame 0 ⟨16, 0, false, false, 0, 0, 0, 0, 0, 0, 0, .good⟩) ⟨0x2410, 1, 0, [1]⟩,
      .sramUncorrectableError 0 (.stream 0 68719476736),
      .sramUncorrectableError 0 (.cell 0 128 0 true),
      .sramUncorrectableError 0 (.cell 0 0 16 true),
      .sramUncorrectableError 0 (.table 0 128),
      .sramUncorrectableError 0 (.split 0 128 0 true),
      .sramUncorrectableError 0 (.split 0 0 16 true),
      .sramUncorrectableError 0 (.staged 65536 0),
      .sramUncorrectableError 0 (.staged 0 256),
      .sramUncorrectableError 0 (.record 0 0),
      .wakeFeedChange [⟨8, 0⟩],
      .wakeFeedChange [⟨0, 256⟩],
      .stewardBoot (true, true) (some (16777216, 0)),
      .stewardBoot (true, true) (some (0, 4294967296)),
      .doorWrite .loc 0 0 ⟨65536, 0, 0, []⟩,
      .doorWrite .loc 0 0 ⟨0, 256, 0, []⟩,
      .doorWrite .loc 0 0 ⟨0, 0, 4294967296, []⟩,
      .doorWrite .loc 0 0 ⟨0, 0, 0, List.replicate 1025 0⟩] : List Instr).all (fun c => !c.wf) = true := by decide

/-! ### What the statements assume can be met -/

theorem test_witness_HubFunctionAnswers :
    (∃ (s : State) (i : Image), s.coreRuns = true ∧ s.hubServes i = true) ∧
    (∃ (s : State) (i : Image) (kind : Nat) (index : Nat) (b : List Byte), s.coreRuns = true ∧ s.hubServes i = true ∧
      s.descriptor (.hub i) kind index = some b) ∧
    (∃ (s : State) (i : Image) (kind : Nat) (index : Nat), s.coreRuns = true ∧ s.hubServes i = true ∧ s.descriptor (.hub i) kind index =
      none) ∧
    (∃ (s : State) (i : Image) (m : Nat), s.coreRuns = true ∧ s.hubServes i = true ∧ 1 ≤ m ∧ m ≤ s.portCount i) ∧
    (∃ (s : State) (i : Image) (m : Nat), s.coreRuns = true ∧ s.hubServes i = true ∧ (m = 0 ∨ s.portCount i < m)) :=
  ⟨⟨U, 0, by decide, by decide⟩,
    ⟨U, 0, 1, 0, (((U.descriptor (.hub 0) 1 0)).getD []), by decide, by decide, by decide⟩,
    ⟨U, 0, 77, 0, by decide, by decide, by decide⟩,
    ⟨U, 0, 16, by decide, by decide, by decide, by decide⟩,
    ⟨U, 0, 18, by decide, by decide, by decide⟩⟩

theorem test_witness_HubFunctionSettings :
    (∃ (s : State) (i : Image), s.coreRuns = true ∧ s.hubServes i = true) ∧
    (∃ (s : State) (i : Image) (u : Upstream) (sel : Nat), s.coreRuns = true ∧ s.hubServes i = true ∧ s.hubUp i = some u ∧ 1 ≤ sel ∧
      sel ≤ 4) ∧
    (∃ (s : State) (i : Image) (addr : Nat), s.coreRuns = true ∧ s.hubServes i = true ∧ addr ≤ 127) ∧
    (∃ (s : State) (i : Image) (cut : Cut), s.coreRuns = true ∧ s.hubServes i = true ∧ cut ≠ .whole) ∧
    (∃ (s : State) (i : Image), s.coreRuns = true ∧ s.hubServes i = true ∧ s.holdState i ≠ 6) ∧
    (∃ (s : State) (i : Image), s.coreRuns = true ∧ s.hubServes i = true ∧ s.fullSpeed i = false) ∧
    (∃ (s : State) (i : Image) (f : Nat), s.coreRuns = true ∧ s.hubServes i = true ∧ f ≤ 1) :=
  ⟨⟨U, 0, by decide, by decide⟩,
    ⟨U, 0, Upstream.UA, 4, by decide, by decide, by decide, by decide, by decide⟩,
    ⟨U, 0, 127, by decide, by decide, by decide⟩,
    ⟨U, 0, Cut.reset, by decide, by decide, by decide⟩,
    ⟨U, 0, by decide, by decide, by decide⟩,
    ⟨U, 0, by decide, by decide, by decide⟩,
    ⟨U, 0, 1, by decide, by decide, by decide⟩⟩

theorem test_witness_PortRequests :
    (∃ (s : State) (i : Image) (m : Nat) (p : Port), s.coreRuns = true ∧ s.hubServes i = true ∧ 1 ≤ m ∧ m ≤ s.portCount i ∧
      s.place i m = .own
      p) ∧
    (∃ (s : State) (i : Image) (m : Nat) (p : Port), s.coreRuns = true ∧ s.hubServes i = true ∧ 1 ≤ m ∧ m ≤ s.portCount i ∧
      s.place i m = .own
      p ∧ s.pst p < 8) ∧
    (∃ (s : State) (i : Image) (m : Nat) (p : Port), s.coreRuns = true ∧ s.hubServes i = true ∧ 1 ≤ m ∧ m ≤ s.portCount i ∧
      s.place i m = .own
      p ∧ s.logicalOf p = some (i, m) ∧ s.heldPort i m = false ∧ (s.pst p = 2 ∨ s.pst p = 4 ∨ s.pst p = 5 ∨ s.pst p = 6) ∧ s.portOn p =
      true) ∧
    (∃ (s : State) (i : Image) (m : Nat) (p : Port), s.coreRuns = true ∧ s.hubServes i = true ∧ 1 ≤ m ∧ m ≤ s.portCount i ∧
      s.place i m = .own
      p ∧ s.pst p = 4) ∧
    (∃ (s : State) (i : Image) (m : Nat) (p : Port), s.coreRuns = true ∧ s.hubServes i = true ∧ 1 ≤ m ∧ m ≤ s.portCount i ∧
      s.place i m = .own
      p ∧ s.pst p = 5 ∧ s.portOn p = true) ∧
    (∃ (s : State) (i : Image) (m : Nat) (p : Port), s.coreRuns = true ∧ s.hubServes i = true ∧ 1 ≤ m ∧ m ≤ s.portCount i ∧
      s.place i m = .own
      p ∧ (s.pst p = 4 ∨ s.pst p = 5 ∨ s.pst p = 6)) ∧
    (∃ (s : State) (i : Image) (m : Nat) (p : Port) (sel : Nat), s.coreRuns = true ∧ s.hubServes i = true ∧ 1 ≤ m ∧ m ≤ s.portCount i ∧
      s.place i m = .own p ∧ 1 ≤ sel ∧ sel ≤ 5 ∧ s.testAllowed p = true) ∧
    (∃ (s : State) (i : Image) (m : Nat) (p : Port), s.coreRuns = true ∧ s.hubServes i = true ∧ 1 ≤ m ∧ m ≤ s.portCount i ∧
      s.place i m = .own
      p ∧ s.testAllowed p = false) ∧
    (∃ (s : State) (i : Image) (m : Nat) (p : Port) (bit : Nat), s.coreRuns = true ∧ s.hubServes i = true ∧ 1 ≤ m ∧ m ≤ s.portCount i ∧
      s.place i m = .own p ∧ bit ≤ 4 ∧ s.setNow p bit = false) ∧
    (∃ (s : State) (i : Image) (m : Nat) (p : Port) (bit : Nat), s.coreRuns = true ∧ s.hubServes i = true ∧ 1 ≤ m ∧ m ≤ s.portCount i ∧
      s.place i m = .own p ∧ bit ≤ 4 ∧ s.setNow p bit = true) ∧
    (∃ (s : State) (i : Image) (m : Nat) (p : Port) (addr ep : Nat), s.coreRuns = true ∧ s.hubServes i = true ∧ 1 ≤ m ∧ m ≤ s.portCount i ∧
      s.place i m = .own p ∧ s.fullSpeed i = false ∧ s.logicalOf p = some (i, m) ∧ s.ttPorts i m = [p] ∧ (s.splits.any fun x => x.image ==
      i.val && x.port == m && x.addr == addr && x.ep == ep && !x.periodic) = false) ∧
    (∃ (s : State) (i : Image) (m : Nat) (p : Port), s.coreRuns = true ∧ s.hubServes i = true ∧ 1 ≤ m ∧ m ≤ s.portCount i ∧
      s.place i m = .own
      p ∧ s.fullSpeed i = false ∧ s.logicalOf p = some (i, m) ∧ s.ttPorts i m = [p] ∧ (s.splits.any fun x => x.image == i.val && x.port ==
      m) = false) :=
  ⟨⟨U, 0, 16, 15, by decide⟩,
    ⟨P 1 1, 0, 16, 15, by decide⟩,
    ⟨P 2 1, 0, 16, 15, by decide⟩,
    ⟨P 4 1, 0, 16, 15, by decide⟩,
    ⟨P 5 1, 0, 16, 15, by decide⟩,
    ⟨P 6 1, 0, 16, 15, by decide⟩,
    ⟨P 2 1, 0, 16, 15, 5, by decide⟩,
    ⟨P 4 1, 0, 16, 15, by decide⟩,
    ⟨U, 0, 16, 15, 4, by decide⟩,
    ⟨(P 2 1).setPc 15 4, 0, 16, 15, 4, by decide⟩,
    ⟨(P 4 1).set (.hub .singleTtImages) 0, 0, 16, 15, 127, 15, by decide⟩,
    ⟨(P 4 1).set (.hub .singleTtImages) 0, 0, 16, 15, by decide⟩⟩

theorem test_witness_PortEvents :
    (∃ (s : State) (p : Port), s.coreRuns = true ∧ s.pst p = 1 ∧ s.portOn p = true ∧ s.good (chanOf p) = true ∧ s.ps p psPower = true ∧
      (s.tc p).detectOff = false) ∧
    (∃ (s : State) (p : Port), s.coreRuns = true ∧ 1 < s.pst p ∧ s.pst p < 8 ∧ (s.tc p).detectOff = false ∧ s.logicalOf p = none) ∧
    (∃ (s : State) (p : Port) (i : Image) (m : Nat), s.coreRuns = true ∧ 1 < s.pst p ∧ s.pst p < 8 ∧ (s.tc p).detectOff = false ∧
      s.logicalOf p = some (i, m)) ∧
    (∃ (s : State) (p : Port) (chirp : Chirp) (full : Bool) (speed : Nat), s.coreRuns = true ∧ s.pst p = 3 ∧ s.ps p psConn = true ∧ s.portOn
      p = true ∧ ((s.logicalOf p).any fun e => s.fullSpeed e.1) = full ∧ foundSpeed full (s.port p).lowPull chirp = speed ∧ s.logicalOf p =
      none) ∧
    (∃ (s : State) (p : Port) (chirp : Chirp) (full : Bool) (speed : Nat) (i : Image) (m : Nat), s.coreRuns = true ∧ s.pst p = 3 ∧ s.ps p
      psConn = true ∧ s.portOn p = true ∧ ((s.logicalOf p).any fun e => s.fullSpeed e.1) = full ∧ foundSpeed full (s.port p).lowPull chirp =
      speed ∧ s.logicalOf p = some (i, m)) ∧
    (∃ (s : State) (p : Port), s.coreRuns = true ∧ (s.pst p = 4 ∨ s.suspendedNow p = true)) ∧
    (∃ (s : State) (p : Port), s.coreRuns = true ∧ s.pst p = 6 ∧ s.portOn p = true ∧ s.logicalOf p = none) ∧
    (∃ (s : State) (p : Port) (i : Image) (m : Nat), s.coreRuns = true ∧ s.pst p = 6 ∧ s.portOn p = true ∧ s.logicalOf p = some (i, m)) ∧
    (∃ (s : State) (p : Port) (i : Image) (m : Nat), s.coreRuns = true ∧ s.logicalOf p = some (i, m) ∧ (s.pst p = 5 ∨ s.pst p = 6 ∨ s.pst p
      = 4 ∧ (s.port p).globalSusp = true) ∧ s.portOn p = true ∧ s.time.elapsed < (s.port p).suspendedAt + 5 * msUnits) ∧
    (∃ (s : State) (p : Port) (i : Image) (m : Nat), s.coreRuns = true ∧ s.logicalOf p = some (i, m) ∧ (s.pst p = 5 ∨ s.pst p = 6 ∨ s.pst p
      = 4 ∧ (s.port p).globalSusp = true) ∧ s.portOn p = true ∧ (s.port p).suspendedAt + 5 * msUnits ≤ s.time.elapsed ∧ (s.pst p = 6 ∨
      (s.hub i).resuming = true)) ∧
    (∃ (s : State) (p : Port) (i : Image) (m : Nat), s.coreRuns = true ∧ s.logicalOf p = some (i, m) ∧ (s.pst p = 5 ∨ s.pst p = 6 ∨ s.pst p
      = 4 ∧ (s.port p).globalSusp = true) ∧ s.portOn p = true ∧ (s.port p).suspendedAt + 5 * msUnits ≤ s.time.elapsed ∧ s.pst p ≠ 6 ∧ (s.hub
      i).resuming = false ∧ s.heldPort i m = true ∧ s.holdState i = 5) ∧
    (∃ (s : State) (p : Port) (i : Image) (m : Nat), s.coreRuns = true ∧ s.logicalOf p = some (i, m) ∧ (s.pst p = 5 ∨ s.pst p = 6 ∨ s.pst p
      = 4 ∧ (s.port p).globalSusp = true) ∧ s.portOn p = true ∧ (s.port p).suspendedAt + 5 * msUnits ≤ s.time.elapsed ∧ s.pst p = 5 ∧ (s.hub
      i).resuming = false ∧ (s.heldPort i m = false ∨ s.holdState i ≠ 5) ∧ s.imageSuspended i = false) ∧
    (∃ (s : State) (p : Port) (i : Image) (m : Nat), s.coreRuns = true ∧ s.logicalOf p = some (i, m) ∧ (s.pst p = 5 ∨ s.pst p = 6 ∨ s.pst p
      = 4 ∧ (s.port p).globalSusp = true) ∧ s.portOn p = true ∧ (s.port p).suspendedAt + 5 * msUnits ≤ s.time.elapsed ∧ s.pst p ≠ 6 ∧ (s.hub
      i).resuming = false ∧ (s.heldPort i m = false ∨ s.holdState i ≠ 5) ∧ (s.imageSuspended i = true ∨ s.pst p = 4) ∧ s.entryHere i = true)
      ∧
    (∃ (s : State) (p : Port) (i : Image) (m : Nat), s.coreRuns = true ∧ s.logicalOf p = some (i, m) ∧ (s.pst p = 5 ∨ s.pst p = 6 ∨ s.pst p
      = 4 ∧ (s.port p).globalSusp = true) ∧ s.portOn p = true ∧ (s.port p).suspendedAt + 5 * msUnits ≤ s.time.elapsed ∧ s.pst p ≠ 6 ∧ (s.hub
      i).resuming = false ∧ (s.heldPort i m = false ∨ s.holdState i ≠ 5) ∧ (s.imageSuspended i = true ∨ s.pst p = 4) ∧ s.entryHere i =
      false) :=
  ⟨⟨(P 1 (2 ^ 8)).set (.power .powerGood) (2 ^ 18), 15, by decide⟩,
    ⟨(P 2 1).set (.image 0 .imageEnable) 0, 15, by decide⟩,
    ⟨P 7 1, 15, 0, 16, by decide⟩,
    ⟨(P 3 1).set (.image 0 .imageEnable) 0, 15, .malformed, false, 2, by decide⟩,
    ⟨P 3 1, 15, .completed, false, 3, 0, 16, by decide⟩,
    ⟨P 4 1, 15, by decide⟩,
    ⟨(P 6 1).set (.image 0 .imageEnable) 0, 15, by decide⟩,
    ⟨P 6 1, 15, 0, 16, by decide⟩,
    ⟨P 5 1, 15, 0, 16, by decide⟩,
    ⟨{ P 6 1 with time := { elapsed := 5 * msUnits } }, 15, 0, 16, by decide⟩,
    ⟨{ ((P 5 1).set (.hold4 0 .holdoverState) 5).set (.hold4 0 .holdoverHeldPorts) (2 ^ 15) with time := { elapsed := 5 * msUnits } }, 15,
      0, 16, by decide⟩,
    ⟨{ P 5 1 with time := { elapsed := 5 * msUnits } }, 15, 0, 16, by decide⟩,
    ⟨{ ((P 4 1).modPort 15 fun x => { x with globalSusp := true }).modHub 0 fun h => { h with suspended := true } with time := { elapsed :=
      5 * msUnits } }, 15, 0, 16, by decide⟩,
    ⟨{ ((P 5 1).modHub 0 fun h => { h with suspended := true }).set (.image 0 .imagePrimary) 0xFF with time := { elapsed := 5 * msUnits } },
      15, 0, 16, by decide⟩⟩

theorem test_witness_UpstreamEvents :
    (∃ (s : State) (u : Upstream) (i : Image), s.coreRuns = true ∧ s.imageOfUp u = some i ∧ s.upShows u = .hub ∧ s.holdState i = 0) ∧
    (∃ (s : State) (u : Upstream) (i : Image), s.coreRuns = true ∧ s.imageOfUp u = some i ∧ s.upShows u = Presents.hub ∧ (s.hub i).suspended
      = true ∧ s.alone = true ∧ s.holdState i = 0 ∧ (s.hub i).wakeEnd ≤ s.time.elapsed) ∧
    (∃ (s : State) (u : Upstream) (i : Image), s.coreRuns = true ∧ s.imageOfUp u = some i ∧ s.upShows u = Presents.hub ∧ (s.hub i).suspended
      = true ∧ s.alone = true ∧ s.holdState i = 0 ∧ s.time.elapsed < (s.hub i).wakeEnd) ∧
    (∃ (s : State) (u : Upstream) (i : Image), s.coreRuns = true ∧ s.imageOfUp u = some i ∧ s.upShows u = Presents.hub ∧ (s.hub i).suspended
      = true ∧ s.holdState i = 3 ∧ (s.hub i).wakeEnd ≤ s.time.elapsed) ∧
    (∃ (s : State) (u : Upstream) (i : Image) (micro : Nat), s.coreRuns = true ∧ s.imageOfUp u = some i ∧ s.upShows u = .hub ∧ micro ≠ 0 ∧
      s.holdState i ≠ 4 ∧ (s.hub i).suspended = false ∧ (s.hub i).resuming = false ∧ s.alone = true) ∧
    (∃ (s : State) (u : Upstream) (i : Image), s.coreRuns = true ∧ s.imageOfUp u = some i ∧ s.upShows u = .hub ∧ (s.up u).speed = 3 ∧ (s.hub
      i).config = 1 ∧ (s.hub i).suspended = false ∧ s.holdState i ≠ 4 ∧ s.holdState i ≠ 5) ∧
    (∃ (s : State) (u : Upstream) (i : Image), s.coreRuns = true ∧ s.imageOfUp u = some i ∧ s.upShows u = .hub ∧ s.holdState i = 0 ∧ (s.hub
      i).suspended = false ∧ s.alone = true) ∧
    (∃ (s : State) (u : Upstream) (i : Image) (p : Port) (m : Nat), s.coreRuns = true ∧ s.imageOfUp u = some i ∧ s.upShows u = .hub ∧
      s.logicalOf p = some (i, m) ∧ s.awake p = true ∧ s.get (.port p .portSpeed) = 2 ∧ s.onGrid i m = false ∧ s.holdState i ≠ 5 ∧
      s.fullSpeed i = false) :=
  ⟨⟨U, .UA, 0, by decide⟩,
    ⟨U.modHub 0 fun h => { h with suspended := true }, .UA, 0, by decide⟩,
    ⟨U.modHub 0 fun h => { h with suspended := true, wakeEnd := 1 }, .UA, 0, by decide⟩,
    ⟨(U.modHub 0 fun h => { h with suspended := true }).set (.hold4 0 .holdoverState) 3, .UA, 0, by decide⟩,
    ⟨U, .UA, 0, 7, by decide⟩,
    ⟨U, .UA, 0, by decide⟩,
    ⟨U, .UA, 0, by decide⟩,
    ⟨(P 4 1).set (.port 15 .portSpeed) 2, .UA, 0, 15, 16, by decide⟩⟩

theorem test_witness_HostTransfers :
    (∃ (s : State) (u : Upstream) (i : Image) (p : Port) (t : Token) (x : Xlate), s.coreRuns = true ∧ s.imageOfUp u = some i ∧ s.upShows u =
      .hub ∧ (s.hold i).blocked = false ∧ s.holdState i ≠ 4 ∧ s.holdState i ≠ 5 ∧ s.lens.armed = false ∧ s.isTrue (.lens .lensEnable) =
      false ∧ t.pid = .input ∧ t.pidOk = true ∧ t.crcOk = true ∧ t.addr ≠ 0 ∧ t.addr ≠ (s.hub i).addr ∧ s.entry i t.addr = some x ∧
      s.relayed i x.port = false ∧ s.place i x.port = .own p ∧ s.directOpen i x.port p = true) ∧
    (∃ (s : State) (u : Upstream) (i : Image) (p : Port) (t : Token), s.coreRuns = true ∧ s.imageOfUp u = some i ∧ s.upShows u = .hub ∧
      (s.hold i).blocked = false ∧ s.holdState i ≠ 4 ∧ s.holdState i ≠ 5 ∧ s.lens.armed = false ∧ s.isTrue (.lens .lensEnable) = false ∧
      t.pid = .input ∧ t.pidOk = true ∧ t.crcOk = true ∧ t.addr ≠ 0 ∧ t.addr ≠ (s.hub i).addr ∧ s.entry i t.addr = none) ∧
    (∃ (s : State) (u : Upstream) (i : Image) (p : Port) (x : Split) (e : Xlate), s.coreRuns = true ∧ s.imageOfUp u = some i ∧ s.upShows u =
      Presents.hub ∧ (s.hold i).blocked = false ∧ s.holdState i ≠ 4 ∧ s.holdState i ≠ 5 ∧ s.lens.armed = false ∧ s.isTrue (.lens
      .lensEnable) = false ∧ x.external = none ∧ s.entry i x.addr = some e ∧ s.place i x.port = Place.own p ∧ s.splitPort i p = true ∧
      s.splitAbsorbed i x = false ∧ (x.setup = true → (s.relayEp i x.addr 0 false).control ≠ 5) ∧ (s.port p).tt.stopped = false ∧ s.ttRoom i
      x.port p x.periodic x.data.length = true) ∧
    (∃ (s : State) (u : Upstream) (i : Image) (p : Port) (x : Split) (e : Xlate), s.coreRuns = true ∧ s.imageOfUp u = some i ∧ s.upShows u =
      Presents.hub ∧ (s.hold i).blocked = false ∧ s.holdState i ≠ 4 ∧ s.holdState i ≠ 5 ∧ s.lens.armed = false ∧ s.isTrue (.lens
      .lensEnable) = false ∧ x.external = none ∧ s.entry i x.addr = some e ∧ s.place i x.port = Place.own p ∧ s.splitPort i p = true ∧
      s.splitAbsorbed i x = false ∧ (x.setup = true → (s.relayEp i x.addr 0 false).control ≠ 5) ∧ (s.port p).tt.stopped = false ∧ s.ttRoom i
      x.port p x.periodic x.data.length = true ∧ x.periodic = true) ∧
    (∃ (s : State) (u : Upstream) (i : Image) (p : Port) (x : Split) (e : Xlate), s.coreRuns = true ∧ s.imageOfUp u = some i ∧ s.upShows u =
      Presents.hub ∧ (s.hold i).blocked = false ∧ s.holdState i ≠ 4 ∧ s.holdState i ≠ 5 ∧ s.lens.armed = false ∧ s.isTrue (.lens
      .lensEnable) = false ∧ x.external = none ∧ s.entry i x.addr = some e ∧ s.place i x.port = Place.own p ∧ s.splitPort i p = true ∧
      s.splitAbsorbed i x = false ∧ (x.setup = true → (s.relayEp i x.addr 0 false).control ≠ 5) ∧ (s.port p).tt.stopped = false ∧ s.ttRoom i
      x.port p x.periodic x.data.length = true ∧ x.periodic = false) ∧
    (∃ (s : State) (u : Upstream) (i : Image) (p : Port) (x : Split) (w ep : Nat) (flip : Bool) (r : TtResult), s.coreRuns = true ∧
      s.imageOfUp u = some i ∧ s.upShows u = Presents.hub ∧ (s.hold i).blocked = false ∧ s.holdState i ≠ 4 ∧ s.holdState i ≠ 5 ∧
      s.lens.armed = false ∧ s.isTrue (.lens .lensEnable) = false ∧ x.external = none ∧ s.place i x.port = Place.own p ∧ s.splitPort i p =
      true ∧ s.splitAbsorbed i { x with setup := x.setup && (s.relayEp i x.addr 0 false).control != 5 } = false ∧ (s.port p).tt.stopped =
      false ∧ x.periodic = false ∧ s.splitRewrite i x = (w, ep, flip) ∧ List.find? (fun q => q.addr == w && q.ep == ep && q.dirIn ==
      x.dirIn) (s.port p).tt.done = some r) ∧
    (∃ (s : State) (u : Upstream) (i : Image) (p : Port) (q : TtSplit) (rest : List TtSplit) (answer judged : DevAnswer) (r : State),
      s.coreRuns = true ∧ s.imageOfUp u = some i ∧ s.upShows u = Presents.hub ∧ (s.hold i).blocked = false ∧ s.holdState i ≠ 4 ∧ s.holdState
      i ≠ 5 ∧ s.lens.armed = false ∧ s.isTrue (.lens .lensEnable) = false ∧ s.ttLaunch p = none ∧ (s.port p).tt.pipeline = [] ∧ (s.port
      p).tt.staging = [] ∧ (s.port p).tt.buffers = q :: rest ∧ q.engine = none ∧ (if s.ttWrongToggle p q answer = true then (DevAnswer.nak,
      (s.fresh.bump (.hub .deviceToggleMismatchCount)).flag (.hub .hubEvents) hubToggleMismatch) else (answer, ((if answer =
      DevAnswer.badPid then s.fresh.deviceBadPid p else s.fresh).ttToggle p q answer).modPort p fun x =>
      { x with tt := x.tt.control q answer })) = (judged, r)) :=
  ⟨⟨(U.set (.port 15 .portState) 4).set (.port 15 .portSpeed) 3 |>.setEntry 0 9 (some X0), .UA, 0, 15, tokIn, X0, by decide⟩,
    ⟨U, .UA, 0, 15, tokIn, by decide⟩,
    ⟨(U.set (.port 15 .portState) 4).set (.port 15 .portSpeed) 2 |>.setEntry 0 9 (some X0), .UA, 0, 15, split0, X0, by decide⟩,
    ⟨(U.set (.port 15 .portState) 4).set (.port 15 .portSpeed) 2 |>.setEntry 0 9 (some X0), .UA, 0, 15, split0, X0, by decide⟩,
    ⟨(U.set (.port 15 .portState) 4).set (.port 15 .portSpeed) 2 |>.setEntry 0 9 (some X0), .UA, 0, 15, split1, X0, by decide⟩,
    ⟨HT3, .UA, 0, 15, split1, 5, 1, false, ttr, by decide⟩,
    ⟨HT4, .UA, 0, 15, tts, [], .nak, .nak, _, by decide, by decide, by decide, by decide, by decide, by decide, by decide, by decide, by
      decide, by decide, by decide, by decide, by decide, rfl⟩⟩

theorem test_witness_EngineCommands :
    (∃ (s : State) (n : Nat) (x : Xact) (tag : Nat), s.coreRuns = true ∧ s.freeContext = some n ∧ s.nextWork = some x ∧ x.who =
      .launch tag) ∧
    (∃ (s : State) (n : Fin 4) (x : Xact), s.coreRuns = true ∧ s.context n.val = some x ∧ x.errors < 2) ∧
    (∃ (s : State) (n : Fin 4) (x : Xact), s.coreRuns = true ∧ s.context n.val = some x ∧ 2 ≤ x.errors) ∧
    (∃ (s : State) (n : Fin 4) (x : Xact), s.coreRuns = true ∧ s.context n.val = some x ∧ x.dirIn = true ∧ x.setup = false ∧ x.ping =
      false ∧ s.lens.armed = false ∧ s.isTrue (.lens .lensEnable) = false) :=
  ⟨⟨{ P 4 1 with waiting := [xact0] }, 0, xact0, 7, by decide, by decide, by decide, by decide⟩,
    ⟨R.setContext 3 (some xact0), 3, xact0, by decide, by decide, by decide⟩,
    ⟨R.setContext 3 (some { xact0 with errors := 2 }), 3, { xact0 with errors := 2 }, by decide, by decide, by decide⟩,
    ⟨R.setContext 3 (some xact0), 3, xact0, by decide, by decide, by decide, by decide, by decide, by decide, by decide⟩⟩

theorem test_witness_LinkTraining :
    (∃ (s : State) (k : Link) (p : Port), s.coreRuns = true ∧ s.domainOn 6 = true ∧ s.linkMode k = true ∧ s.linkPort k = some p ∧ (s.get
      (.link k .linkState) = 0 ∨ s.get (.link k .linkState) = 1)) ∧
    (∃ (s : State) (k : Link), s.coreRuns = true ∧ s.domainOn 6 = true ∧ s.linkMode k = true ∧ (s.get (.link k .linkState) = 0 ∨ s.get
      (.link k .linkState) = 5)) ∧
    (∃ (s : State) (k : Link), s.coreRuns = true ∧ s.domainOn 6 = true ∧ s.get (.link k .linkState) = 2 ∧ (s.link k).fails < 2) ∧
    (∃ (s : State) (k : Link), s.coreRuns = true ∧ s.domainOn 6 = true ∧ s.get (.link k .linkState) = 2 ∧ 2 ≤ (s.link k).fails) ∧
    (∃ (s : State) (k : Link) (g : Ts2), s.coreRuns = true ∧ s.domainOn 6 = true ∧ (s.get (.link k .linkState) = 2 ∨ (s.get (.link k
      .linkState) = 4 ∧ g.uid = s.get (.link k .linkPartnerId)))) ∧
    (∃ (s : State) (k : Link) (g : Ts2), s.coreRuns = true ∧ s.domainOn 6 = true ∧ s.get (.link k .linkState) = 4 ∧ g.uid ≠ s.get (.link k
      .linkPartnerId)) ∧
    (∃ (s : State) (k : Link), s.coreRuns = true ∧ s.domainOn 6 = true ∧ (s.get (.link k .linkState) = 3 ∨ s.get (.link k .linkState) = 6))
      ∧
    (∃ (s : State) (k : Link), s.coreRuns = true ∧ s.domainOn 6 = true ∧ s.get (.link k .linkState) = 4) ∧
    (∃ (s : State) (k : Link), s.coreRuns = true ∧ s.domainOn 6 = true ∧ (s.get (.link k .linkState) = 3 ∨ s.get (.link k .linkState) = 4 ∨
      s.get (.link k .linkState) = 6)) ∧
    (∃ (s : State) (k : Link), s.coreRuns = true ∧ s.domainOn 6 = true ∧ s.get (.link k .linkState) = 3) ∧
    (∃ (s : State) (k : Link), s.coreRuns = true ∧ s.domainOn 6 = true ∧ (s.link k).ackDue = true ∧ s.get (.link k .linkState) = 3) ∧
    (∃ (s : State) (k : Link), s.coreRuns = true ∧ s.domainOn 6 = true ∧ 2 ≤ s.get (.link k .linkState) ∧ s.get (.link k .linkState) ≠ 5) :=
  ⟨⟨R.set (.link 3 .linkMode) 1, 3, 15, by decide⟩,
    ⟨(L 5).set (.link 3 .linkMode) 1, 3, by decide⟩,
    ⟨(L 2).modLink 3 fun x => { x with fails := 1 }, 3, by decide⟩,
    ⟨(L 2).modLink 3 fun x => { x with fails := 2 }, 3, by decide⟩,
    ⟨(L 4).set (.link 3 .linkPartnerId) 9, 3, g0, by decide⟩,
    ⟨L 4, 3, g0, by decide⟩,
    ⟨L 6, 3, by decide⟩,
    ⟨L 4, 3, by decide⟩,
    ⟨L 6, 3, by decide⟩,
    ⟨L 3, 3, by decide⟩,
    ⟨(L 3).modLink 3 fun x => { x with ackDue := true }, 3, by decide⟩,
    ⟨L 6, 3, by decide⟩⟩

theorem test_witness_RingFrames :
    (∃ (s : State) (k : Link) (h : FrameHdr) (r : State) (credits : List Nat), s.coreRuns = true ∧ s.domainOn 6 = true ∧ credits.length = 7
      ∧ s.fresh.receive k h 1 (.link h.ackSeq none credits) = (true, r)) ∧
    (∃ (s : State) (k : Link) (h : FrameHdr) (r : State) (credits : List Nat) (n : Nat), s.coreRuns = true ∧ s.domainOn 6 = true ∧
      credits.length = 7 ∧ s.fresh.receive k h 1 (.link h.ackSeq (some n) credits) = (true, r)) ∧
    (∃ (s : State) (k : Link) (h : FrameHdr) (r : State) (b : LsfBody), s.coreRuns = true ∧ s.domainOn 6 = true ∧ b.uid ≠ r.ident.uniqueId ∧
      (r.ring.lsdb.find? fun e => e.uid == b.uid) = none ∧ s.fresh.receive k h 2 (.lsf b) = (true, r)) ∧
    (∃ (s : State) (k : Link) (h : FrameHdr) (r : State) (b old : LsfBody), s.coreRuns = true ∧ s.domainOn 6 = true ∧ b.uid ≠
      r.ident.uniqueId ∧ (r.ring.lsdb.find? fun e => e.uid == b.uid) = some old ∧ newerSeq b.seq old.seq = true ∧ s.fresh.receive k h 2
      (.lsf b) = (true, r)) ∧
    (∃ (s : State) (k : Link) (h : FrameHdr) (r : State) (b : SyncBody), s.coreRuns = true ∧ s.domainOn 6 = true ∧ s.fresh.receive k h 4
      (.sync b) = (true, r)) ∧
    (∃ (s : State) (k : Link) (h : FrameHdr) (r : State) (u : Nat), s.coreRuns = true ∧ s.domainOn 6 = true ∧ s.fresh.receive k h 11
      .withdraw = (true, r) ∧ r.memberOfIndex h.src = some u ∧ u ≠ r.ident.uniqueId ∧ u ∉ r.ring.withdrawn) :=
  ⟨⟨N, 3, hd 0, _, [1, 1, 1, 1, 1, 1, 1], by decide, by decide, by decide, Prod.ext (by decide) rfl⟩,
    ⟨N, 3, hd 0, _, [1, 1, 1, 1, 1, 1, 1], 3, by decide, by decide, by decide, Prod.ext (by decide) rfl⟩,
    ⟨N, 3, hb, _, ⟨9, 1, []⟩, by decide, by decide, by decide, by decide, Prod.ext (by decide) rfl⟩,
    ⟨M, 3, hb, _, ⟨9, 2, []⟩, ⟨9, 1, [⟨1, 3, 3, 0⟩]⟩, by decide, by decide, by decide, by decide, by decide, Prod.ext (by decide) rfl⟩,
    ⟨M, 3, hd 0, _, .holdState 0 1, by decide, by decide, Prod.ext (by decide) rfl⟩,
    ⟨M, 3, hb, _, 9, by decide, by decide, Prod.ext (by decide) rfl, by decide⟩⟩

theorem test_witness_UndeliveredFrames :
    (∃ (s : State) (k : Link) (h : FrameHdr) (typ : Nat) (body : RingBody), (s.receive k h typ body).1 = true ∧ s.get (.link k .linkState) =
      6 ∧ replayed typ = false) ∧
    (∃ (s : State) (k : Link) (h : FrameHdr) (typ : Nat) (body : RingBody), (s.receive k h typ body).1 = true ∧ replayed typ = true) :=
  ⟨⟨(N.set (.link 3 .linkState) 6), 3, hd 0, 1, .link 0 none [], by decide⟩,
    ⟨N, 3, hd 0, 2, .lsf ⟨9, 1, []⟩, by decide⟩⟩

theorem test_witness_PrismTimers :
    (∃ (s : State), s.coreRuns = true ∧ s.ring.commitRunning = false ∧ s.lockHeld = false ∧ s.get (.ring .ringMemberState) ≠ 1 ∧ s.get
      (.ring .prismOrigin) = 0 ∧ s.isTrue (.ring .quorumState) = true ∧ s.provisionalSet.head? = some s.ident.uniqueId ∧ s.provisionalSet ≠
      rising (List.map Prod.snd s.members)) ∧
    (∃ (s : State) (epoch : Nat) (values : List RegWrite) (r : State), s.coreRuns = true ∧ s.get (.ring .ringMemberState) = 3 ∧
      (s.ring.origins.contains (s.ring.seenFrom, 0)) = false ∧ (s.fresh.forEach values fun s w =>
      match s.prismWrite w with | some l => s.stagePrism l | none => s) = r ∧ (r.applyPrism epoch (r.get (.ring .prismId)) 1 false
      false).ring.returning = true) ∧
    (∃ (s : State) (epoch : Nat) (values : List RegWrite) (r : State), s.coreRuns = true ∧ s.get (.ring .ringMemberState) = 3 ∧
      (s.ring.origins.contains (s.ring.seenFrom, 0)) = false ∧ (s.fresh.forEach values fun s w =>
      match s.prismWrite w with | some l => s.stagePrism l | none => s) = r ∧ (r.applyPrism epoch (r.get (.ring .prismId)) 1 false
      false).ring.returning = false) ∧
    (∃ (s : State), s.coreRuns = true ∧ s.ring.withdrawing = true ∧ s.lockHere = false) ∧
    (∃ (s : State), s.coreRuns = true ∧ s.ring.withdrawing = true ∧ s.lockHere = true) ∧
    (∃ (s : State), s.coreRuns = true ∧ s.boot.running = true ∧ 0 < s.ring.lockLosses) ∧
    (∃ (s : State), s.coreRuns = true ∧ (s.boot.running = false ∨ s.isTrue (.ring .quorumState) = false)) ∧
    (∃ (s : State), s.coreRuns = true ∧ s.lockHere = true ∧ s.ring.lockRenewing = true ∧ s.boot.running = true ∧ s.isTrue (.ring
      .quorumState) = true) ∧
    (∃ (s : State), s.coreRuns = true ∧ s.ahead s.ring.lockExpiry = 0 ∧ s.lockHeld = true ∧ s.ring.applyAt = none ∧ s.ring.prepared = false
      ∧ s.keeper ≠ some s.ownIndex) ∧
    (∃ (s : State), s.coreRuns = true ∧ s.ahead s.ring.lockExpiry = 0 ∧ s.lockHeld = true ∧ s.ring.applyAt = none ∧ s.ring.prepared = false
      ∧ s.keeper = some s.ownIndex) ∧
    (∃ (s : State), s.coreRuns = true ∧ s.ahead s.ring.lockExpiry = 0 ∧ s.ring.prepared = true ∧ s.lockHere = false ∧ s.ring.applyAt = none)
      ∧
    (∃ (s : State), s.coreRuns = true ∧ s.lockHere = true ∧ s.ring.lockTime + s.get (.lock .prismLockIdleLimit) * 1000 ≤ s.elapsedMs) ∧
    (∃ (s : State) (u : Nat) (rest : List Nat), s.coreRuns = true ∧ (s.ring.commitWaiting.filter fun x => s.reachable x) = u :: rest ∧
      s.ring.commitRunning = true ∧ s.ring.applyAt = none) ∧
    (∃ (s : State), s.coreRuns = true ∧ s.ring.commitWaiting ≠ [] ∧ (∀ u ∈ s.ring.commitWaiting, s.reachable u = false) ∧
      s.ring.commitRunning = true ∧ s.ring.applyAt = none) ∧
    (∃ (s : State) (t : Nat), s.coreRuns = true ∧ s.ring.applyAt = some t ∧ s.ring.commitSame = true ∧ s.ring.commitRunning = false) ∧
    (∃ (s : State) (t : Nat), s.coreRuns = true ∧ s.ring.applyAt = some t ∧ s.ring.commitSame = false) ∧
    (∃ (s : State) (i : Image) (u : Upstream), s.coreRuns = true ∧ (s.hold i).softDetach = true ∧ s.activeUp i = some u ∧ (s.up u).attached
      = true ∧ (s.up u).disabled = false) :=
  ⟨⟨N.set (.ring .quorumState) 1, by decide⟩,
    ⟨(R.set (.ring .ringMemberState) 3).modRing fun r => { r with returning := true }, 6, [], _, by decide, by decide, by decide, rfl, by
      decide⟩,
    ⟨R.set (.ring .ringMemberState) 3, 6, [], _, by decide, by decide, by decide, rfl, by decide⟩,
    ⟨R.modRing fun r => { r with withdrawing := true }, by decide⟩,
    ⟨(lk 0).modRing fun r => { r with withdrawing := true }, by decide⟩,
    ⟨R.modRing fun r => { r with lockLosses := 1 }, by decide⟩,
    ⟨lk 0 |>.set (.ring .quorumState) 0, by decide⟩,
    ⟨(lk 0).modRing fun r => { r with lockRenewing := true }, by decide⟩,
    ⟨(((lk 1).set (.ring (.prismMembership 0)) 9).set (.ring (.prismMembership 1)) 1).set (.ring .facetIndex) 1, by decide⟩,
    ⟨lk 0, by decide⟩,
    ⟨(lk 1).modRing fun r => { r with prepared := true }, by decide⟩,
    ⟨{ lk 0 with time := { elapsed := 10 ^ 14 } }, by decide⟩,
    ⟨M.modRing fun r => { r with commitRunning := true, commitWaiting := [9] }, 9, [], by decide⟩,
    ⟨M.modRing fun r => { r with commitRunning := true, commitWaiting := [7] }, by decide⟩,
    ⟨M.modRing fun r => { r with applyAt := some 5 }, 5, by decide⟩,
    ⟨M.modRing fun r => { r with applyAt := some 5, commitSame := false }, 5, by decide⟩,
    ⟨U.modHold 0 fun h => { h with softDetach := true }, 0, .UA, by decide⟩⟩

theorem test_witness_PrismFrames :
    (∃ (s : State) (k : Link) (h : FrameHdr) (r : State), s.coreRuns = true ∧ s.domainOn 6 = true ∧ s.keeper = some s.ownIndex) ∧
    (∃ (s : State) (k : Link) (h : FrameHdr) (r : State) (q : LockReq) (e : Nat), s.coreRuns = true ∧ s.domainOn 6 = true ∧ s.fresh.receive
      k h 5 (.lock (.tell (.grant q e))) = (true, r)) ∧
    (∃ (s : State) (k : Link) (h : FrameHdr) (r : State) (e : Nat), s.coreRuns = true ∧ s.domainOn 6 = true ∧ s.fresh.receive k h 5 (.lock
      (.tell (.renew e))) = (true, r) ∧ r.lockHeld = true ∧ r.lockFacet = h.src) ∧
    (∃ (s : State) (k : Link) (h : FrameHdr) (r : State), s.coreRuns = true ∧ s.domainOn 6 = true ∧ s.fresh.receive k h 5 (.lock (.tell
      .release)) = (true, r) ∧ r.lockHeld = true ∧ r.lockFacet = h.src) ∧
    (∃ (s : State) (k : Link) (h : FrameHdr) (r : State), s.coreRuns = true ∧ s.domainOn 6 = true ∧ s.fresh.receive k h 5 (.lock (.tell
      .release)) = (true, r) ∧ r.lockHeld = false) ∧
    (∃ (s : State) (k : Link) (h : FrameHdr) (r : State) (w : RegWrite) (l : List (Reg × Nat)), s.coreRuns = true ∧ s.domainOn 6 = true ∧
      s.fresh.receive k h 6 (.commit (.stage w)) = (true, r) ∧ r.lockHeld = true ∧ r.lockFacet = h.src ∧ r.ownIndex ≠ h.src ∧ r.prismWrite w
      = some l) ∧
    (∃ (s : State) (k : Link) (h : FrameHdr) (r : State) (digest epoch prism : Nat), s.coreRuns = true ∧ s.domainOn 6 = true ∧
      s.fresh.receive k h 6 (.commit (.prepare digest epoch prism 1)) = (true, r) ∧ r.lockHeld = true ∧ r.lockFacet = h.src ∧ r.isMember =
      true ∧ digest = r.stagedDigest ∧ (r.notePrepare h.src digest epoch prism 1).stagedRefusal = none) ∧
    (∃ (s : State) (k : Link) (h : FrameHdr) (r : State) (digest epoch prism : Nat), s.coreRuns = true ∧ s.domainOn 6 = true ∧
      s.fresh.receive k h 6 (.commit (.prepare digest epoch prism 1)) = (true, r) ∧ r.lockHeld = true ∧ r.lockFacet = h.src ∧ r.isMember =
      true ∧ digest ≠ r.stagedDigest) ∧
    (∃ (s : State) (k : Link) (h : FrameHdr) (r : State) (digest epoch prism : Nat), s.coreRuns = true ∧ s.domainOn 6 = true ∧
      s.fresh.receive k h 6 (.commit (.prepare digest epoch prism 1)) = (true, r) ∧ r.lockHeld = true ∧ r.lockFacet ≠ h.src) ∧
    (∃ (s : State) (k : Link) (h : FrameHdr) (r : State) (u : Nat), s.coreRuns = true ∧ s.domainOn 6 = true ∧ s.fresh.receive k h 6 (.commit
      .ready) = (true, r) ∧ r.ring.commitRunning = true ∧ r.ring.applyAt = none ∧ r.peerOf 6 h.src = some u ∧ (r.ring.commitWaiting.filter
      fun x => decide (x ≠ u)) = []) ∧
    (∃ (s : State) (k : Link) (h : FrameHdr) (r : State) (reason detail : Nat), s.coreRuns = true ∧ s.domainOn 6 = true ∧ s.fresh.receive k
      h 6 (.commit (.refuse reason detail)) = (true, r) ∧ r.ring.commitRunning = true ∧ r.ring.applyAt = none) ∧
    (∃ (s : State) (k : Link) (h : FrameHdr) (r : State), s.coreRuns = true ∧ s.domainOn 6 = true ∧ s.fresh.receive k h 6 (.commit .abort) =
      (true, r) ∧ r.ring.prepared = true) ∧
    (∃ (s : State) (k : Link) (h : FrameHdr) (r : State) (time : Nat), s.coreRuns = true ∧ s.domainOn 6 = true ∧ s.fresh.receive k h 6
      (.commit (.apply time)) = (true, r) ∧ r.ring.prepared = true) :=
  ⟨⟨M, 3, hd 0, M, by decide⟩,
    ⟨M, 3, hd 0, _, ⟨0, .loc, 7⟩, 5, by decide, by decide, Prod.ext (by decide) rfl⟩,
    ⟨lk 1, 3, hd 0, _, 5, by decide, by decide, Prod.ext (by decide) rfl, by decide⟩,
    ⟨lk 1, 3, hd 0, _, by decide, by decide, Prod.ext (by decide) rfl, by decide⟩,
    ⟨M, 3, hd 0, _, by decide, by decide, Prod.ext (by decide) rfl, by decide⟩,
    ⟨lk 1, 3, hd 0, _, ⟨0x2410, 1, 0, [1]⟩, [(.image 0 .imageEnable, 1)], by decide, by decide, Prod.ext (by decide) rfl, by decide⟩,
    ⟨lk 1, 3, hd 0, _, (lk 1).stagedDigest, 6, 1, by decide, by decide, Prod.ext (by decide) rfl, by decide, by decide, by decide,
      test_digest_of _ _ (by decide), by decide⟩,
    ⟨lk 1, 3, hd 0, _, other (lk 1).stagedDigest, 6, 1, by decide, by decide, Prod.ext (by decide) rfl, by decide, by decide, by decide,
      test_other_ne (test_digest_of _ _ (by decide))⟩,
    ⟨lk 0, 3, hd 0, _, 0, 6, 1, by decide, by decide, Prod.ext (by decide) rfl, by decide⟩,
    ⟨M.modRing fun r => { r with commitRunning := true, commitWaiting := [9] }, 3, hd 0, _, 9, by decide, by decide, Prod.ext (by decide)
      rfl, by decide⟩,
    ⟨M.modRing fun r => { r with commitRunning := true, commitWaiting := [9] }, 3, hd 0, _, 3, 1, by decide, by decide, Prod.ext (by decide)
      rfl, by decide⟩,
    ⟨M.modRing fun r => { r with prepared := true }, 3, hd 0, _, by decide, by decide, Prod.ext (by decide) rfl, by decide⟩,
    ⟨M.modRing fun r => { r with prepared := true }, 3, hd 0, _, 3, by decide, by decide, Prod.ext (by decide) rfl, by decide⟩⟩

theorem test_witness_PrismWrites :
    (∃ (s : State) (d : Door), s.Takes d (entryWrite 0x3000 12 [1])) ∧
    (∃ (s : State) (d : Door), s.Takes d (entryWrite 0x3000 12 [2]) ∧ s.ring.withdrawing = false ∧ s.get (.ring .ringMemberState) = 4 ∧
      s.ring.faultWithdrawn = none ∧ s.ring.seenEpoch ≤ s.get (.ring .prismEpoch)) ∧
    (∃ (s : State) (d : Door) (tag : Nat), 0 < tag ∧ tag < 65536 ∧ s.Takes d (entryWrite 0x2400 1 (bytesBe 2 tag)) ∧ s.lockState (callerAt
      d) ≠ 2 ∧ s.ring.lockPending = none) ∧
    (∃ (s : State) (d : Door), s.Takes d (entryWrite 0x2400 1 [0, 0]) ∧ s.lockState (callerAt d) = 2) ∧
    (∃ (s : State) (d : Door) (w : RegWrite) (e : Entry), s.Takes d w ∧ prismIndex w.index = true ∧ entryOf w.index w.sub = some e ∧
      e.access = Access.rwc ∧ s.lockState (callerAt d) = 2 ∧ s.commitBusy = false) ∧
    (∃ (s : State) (d : Door), s.Takes d (entryWrite 9216 7 [1]) ∧ s.commitBusy = false ∧ s.lockState (callerAt d) = 2 ∧ s.isTrue (.ring
      .quorumState) = true) ∧
    (∃ (s : State) (d : Door), s.Takes d (entryWrite 9216 7 [2]) ∧ s.commitBusy = false ∧ s.lockState (callerAt d) = 2) ∧
    (∃ (s : State) (d : Door) (i : Image), s.Takes d (entryWrite (9232 + ↑i) 7 [1]) ∧ s.commitBusy = false ∧
      s.lockState (callerAt d) = 2) :=
  ⟨⟨R, Door.loc, by decide⟩,
    ⟨R.set (.ring .ringMemberState) 4, Door.loc, by decide, by decide, by decide, by decide, by decide⟩,
    ⟨R, Door.loc, 5, by decide, by decide, by decide, by decide, by decide⟩,
    ⟨lk 0, Door.loc, by decide, by decide⟩,
    ⟨lk 0, Door.loc, ⟨0x2410,1,0,[1]⟩, _, by decide, by decide, rfl, by decide, by decide, by decide⟩,
    ⟨lk 0, Door.loc, by decide⟩,
    ⟨lk 0, Door.loc, by decide⟩,
    ⟨lk 0, Door.loc, 3, by decide⟩⟩

theorem test_witness_ConfigurationCommands :
    (∃ (s : State) (d : Door) (w : RegWrite) (e : Entry), s.Takes d w ∧ (w.index = 10240 ∧ s.swapping = false ∨ (∃ c, w.index = 11272 +
      c.num ∧ w.sub < 3 ∧ (s.session c).opened = false ∧ (s.session c).opening = none) ∨ w.index = 18440 ∧ s.lens.armed = false) ∧ entryOf
      w.index w.sub = some e ∧ e.access = Access.rw ∧ (∀ (x : ℕ × ℕ × List (Reg × ℕ)), s.doors.wrote = some x → x.1 = s.time.elapsed → x.2.1
      ≤ d.num ∨ List.map Prod.fst x.2.2 ≠ List.map Prod.fst (s.spliced e w))) ∧
    (∃ (s : State) (d : Door) (w : RegWrite) (e : Entry) (k : Nat) (l : List (Reg × Nat)), s.Takes d w ∧ (w.index = 10240 ∧ s.swapping =
      false ∨ (∃ c, w.index = 11272 + c.num ∧ w.sub < 3 ∧ (s.session c).opened = false ∧ (s.session c).opening = none) ∨ w.index = 18440 ∧
      s.lens.armed = false) ∧ entryOf w.index w.sub = some e ∧ e.access = Access.rw ∧ s.doors.wrote = some (s.time.elapsed, k, l) ∧ d.num <
      k ∧ List.map Prod.fst l = List.map Prod.fst (s.spliced e w)) ∧
    (∃ (s : State) (d : Door) (i : Image) (w : RegWrite) (e : Entry), s.Takes d w ∧ w.index = 8256 + ↑i ∧ entryOf w.index w.sub = some e ∧
      e.access = Access.rw) ∧
    (∃ (s : State) (d : Door) (idx : Nat) (sub : Nat) (data : List Byte) (e : Entry), idx < 0x2000 ∧ s.Takes d (entryWrite idx sub data) ∧
      entryOf idx sub = some e ∧ e.access = .rwc ∧ s.pdoCheck idx (s.spliced e (entryWrite idx sub data)) = 0) ∧
    (∃ (s : State) (d : Door) (idx : Nat) (sub : Nat) (v : Nat) (e : Entry) (r : Reg) (rest : List Reg), v < 2 ^ 32 ∧ s.Takes d (entryWrite
      idx sub (bytesBe 4 v)) ∧ entryOf idx sub = some e ∧ e.access = .rs ∧ e.regs = r :: rest) ∧
    (∃ (s : State) (d : Door) (w : RegWrite) (e : Entry), s.Takes d w ∧ 0x3014 ≤ w.index ∧ entryOf w.index w.sub = some e ∧ e.access = .rwc
      ∧ s.mayStage (callerAt d) = true) ∧
    (∃ (s : State) (d : Door), s.Takes d (entryWrite 0x4C01 1 [1]) ∧ s.cfg.storing = false ∧ s.cfg.prismStore = false ∧ s.mayStage (callerAt
      d) = true) ∧
    (∃ (s : State) (d : Door), s.Takes d (entryWrite 0x4C01 1 [2]) ∧ s.mayStage (callerAt d) = true) ∧
    (∃ (s : State) (d : Door), s.Takes d (entryWrite 0x4C01 1 [3]) ∧ s.mayStage (callerAt d) = true) ∧
    (∃ (s : State) (d : Door), s.Takes d (entryWrite 0x4C01 1 [4])) ∧
    (∃ (s : State) (d : Door) (v : Nat), v < 2 ^ 32 ∧ s.Takes d (entryWrite 0x4C01 7 (bytesBe 4 v))) ∧
    (∃ (s : State), s.coreRuns = true ∧ s.configCrc = s.get (.commit .configCrcReference) ∧ s.cfg.refArmed = true) ∧
    (∃ (s : State), s.coreRuns = true ∧ s.configCrc ≠ s.get (.commit .configCrcReference) ∧ s.get (.commit .configCrcState) = 1) ∧
    (∃ (s : State), s.coreRuns = true ∧ s.cfg.owner ≠ none ∧ s.cfg.stagedAt + s.get (.commit .configStageIdleLimit) * 1000 ≤ s.elapsedMs) ∧
    (∃ (s : State) (dom : Nat) (x : Posted) (e : Entry), (s.doors.posted.find? fun x => x.domain == dom) = some x ∧ entryAt x.write.index
      x.write.sub = some e ∧ s.domainOn dom = true) :=
  ⟨⟨R, Door.loc, ⟨0x2C08,2,0,[9]⟩, _, by decide, .inr (.inl ⟨.can, by decide⟩), rfl, by decide, fun x h => by cases (h : none = some x)⟩,
    ⟨{ R with doors := { wrote := some (0, 4, [(.session .can .sessionFacet, 1)]) } }, Door.loc, ⟨0x2C08,2,0,[9]⟩, _, 4, [(.session .can
      .sessionFacet, 1)], by decide, .inr (.inl ⟨.can, by decide⟩), rfl, by decide, by decide, by decide, by decide⟩,
    ⟨R, Door.loc, 0, ⟨0x2040,3,0,[1]⟩, _, by decide, by decide, rfl, by decide⟩,
    ⟨R, Door.loc, 0x1017, 0, [0,100], _, by decide, by decide, rfl, by decide, by decide⟩,
    ⟨R, Door.loc, 0x3400, 22, 0, _, (Reg.time .timeEvents), [], by decide, by decide, rfl, by decide, by decide⟩,
    ⟨R, Door.loc, ⟨0x4C04,1,0,[9]⟩, _, by decide, by decide, rfl, by decide, by decide⟩,
    ⟨R, Door.loc, by decide, by decide, by decide, by decide⟩,
    ⟨R, Door.loc, by decide, by decide⟩,
    ⟨R, Door.loc, by decide, by decide⟩,
    ⟨R, Door.loc, by decide⟩,
    ⟨R, Door.loc, 0, by decide, by decide⟩,
    ⟨({ R with cfg := { refArmed := true } } : State).set (.commit .configCrcReference) ({ R with cfg := { refArmed := true } } :
      State).configCrc, (test_core_set _ _).trans (by decide), configCrc_referenced _, rfl⟩,
    ⟨CR.set (.commit .configCrcReference) (CR.configCrc + 1), (test_core_set _ _).trans (by decide), configCrc_unreferenced _, (get_set_ne _
      _ (by decide)).trans (by decide)⟩,
    ⟨{ R with cfg := { owner := some (.loc, none) }, time := { elapsed := 10 ^ 14 } }, by decide, by decide, by decide⟩,
    ⟨{ R with doors := { posted := [⟨5,.loc,⟨0x3C00,2,0,[0,0,0,0]⟩⟩] } }, 5, ⟨5,.loc,⟨0x3C00,2,0,[0,0,0,0]⟩⟩, _, by decide, rfl, by decide⟩⟩

theorem test_witness_LensCommands :
    (∃ (s : State) (d : Door), s.Takes d (entryWrite 0x4800 11 [1]) ∧ s.lensFill < s.lensCapacity) ∧
    (∃ (s : State) (d : Door), s.Takes d (entryWrite 0x4800 11 [2])) ∧
    (∃ (s : State) (d : Door) (v : Nat), v < 2 ^ 32 ∧ s.Takes d (entryWrite 0x4800 10 (bytesBe 4 v)) ∧
      (s.get (.lens .lensWritePtr) + 2 ^ 32 - v) % 2 ^ 32 ≤ s.lensCapacity) ∧
    (∃ (s : State) (d : Door) (v : Nat), v < 2 ^ 32 ∧ s.Takes d (entryWrite 0x4800 10 (bytesBe 4 v)) ∧
      s.lensCapacity < (s.get (.lens .lensWritePtr) + 2 ^ 32 - v) % 2 ^ 32) ∧
    (∃ (s : State) (d : Door) (len : Nat), s.doorReach d = true ∧ s.readChecks (callerAt d) 0x4800 9 false 0 len = 0) ∧
    (∃ (s : State) (d : Door), s.Takes d (entryWrite 0x4801 2 [1])) ∧
    (∃ (s : State) (d : Door), s.Takes d (entryWrite 0x4801 3 [1])) ∧
    (∃ (s : State) (d : Door), s.Takes d (entryWrite 0x4808 1 [1]) ∧ s.lens.armed = false ∧ s.straps.testBit 6 = true ∧ s.pins.testBit 6 =
      true ∧ (∃ k, s.get (.provoke (.provokeRates k)) ≠ 0)) ∧
    (∃ (s : State) (d : Door), s.Takes d (entryWrite 0x4808 1 [1]) ∧ s.lens.armed = false ∧ (s.straps.testBit 6 =
      false ∨ s.pins.testBit 6 = false)) ∧
    (∃ (s : State) (d : Door), s.Takes d (entryWrite 0x4808 1 [0])) ∧
    (∃ (s : State), s.coreRuns = true ∧ s.lens.armed = true) ∧
    (∃ (s : State), s.coreRuns = true) :=
  ⟨⟨R, Door.loc, by decide, by decide⟩,
    ⟨R, Door.loc, by decide⟩,
    ⟨R, Door.loc, 0, by decide, by decide, by decide⟩,
    ⟨R, Door.loc, 5, by decide, by decide, by decide⟩,
    ⟨R, Door.loc, 0, by decide, by decide⟩,
    ⟨R, Door.loc, by decide⟩,
    ⟨R, Door.loc, by decide⟩,
    ⟨({ R with straps := 0xC05F, pins := 0xC05F }).set (.provoke (.provokeRates 3)) 9, Door.loc, by decide, by decide, by decide,
      by decide, by decide⟩,
    ⟨R, Door.loc, by decide, by decide, by decide⟩,
    ⟨R, Door.loc, by decide⟩,
    ⟨{ R with lens := { armed := true } }, by decide, by decide⟩,
    ⟨R, by decide⟩⟩

theorem test_witness_FirmwareCommands :
    (∃ (s : State) (d : Door), s.boot.recovery = false ∧ (s.boot.owner = none ∨ s.boot.owner = some d) ∧ s.Takes d (entryWrite 0x4C03 5 [1])
      ∧ (s.get (.fw .fwUpdateState) = 0 ∨ s.get (.fw .fwUpdateState) = 5)) ∧
    (∃ (s : State) (d : Door), s.boot.recovery = false ∧ (s.boot.owner = none ∨ s.boot.owner = some d) ∧ s.coreRuns = true ∧ s.boot.running
      = true ∧ s.get (.fw .fwUpdateState) = 1 ∧ s.boot.eraseCut = false) ∧
    (∃ (s : State) (d : Door) (offset : Nat) (data : List Byte), s.boot.recovery = false ∧ (s.boot.owner = none ∨ s.boot.owner = some d) ∧
      offset % 256 = 0 ∧ offset + data.length ≤ 0x100000 ∧ s.get (.fw .fwUpdateState) = 2 ∧ s.cfg.storing = false ∧ s.cfg.prismStore = false
      ∧ (∀ k, Table.get [] s.boot.pages k = []) ∧ s.Takes d { index := 0x4C03, sub := 4, offset := offset, data := data }) ∧
    (∃ (s : State) (d : Door) (t : Nat), s.boot.recovery = false ∧ (s.boot.owner = none ∨ s.boot.owner = some d) ∧ s.boot.target = some t ∧
      s.get (.fw .fwUpdateState) = 2 ∧ s.imageGood = true ∧ s.Takes d (entryWrite 0x4C03 5 [2])) ∧
    (∃ (s : State) (d : Door) (t : Nat), s.boot.recovery = false ∧ (s.boot.owner = none ∨ s.boot.owner = some d) ∧ s.boot.target = some t ∧
      s.get (.fw .fwUpdateState) = 2 ∧ s.imageGood = false ∧ s.Takes d (entryWrite 0x4C03 5 [2])) ∧
    (∃ (s : State) (d : Door) (t : Nat), s.boot.recovery = false ∧ (s.boot.owner = none ∨ s.boot.owner = some d) ∧ s.boot.target = some t ∧
      s.get (.fw .fwUpdateState) = 3 ∧ s.Takes d (entryWrite 0x4C03 5 [3])) ∧
    (∃ (s : State) (d : Door) (t : Nat), s.boot.recovery = false ∧ (s.boot.owner = none ∨ s.boot.owner = some d) ∧ s.boot.target = some t ∧
      (1 ≤ s.get (.fw .fwUpdateState) ∧ s.get (.fw .fwUpdateState) ≤ 3 ∨ s.get (.fw .fwUpdateState) = 5) ∧ s.Takes d (entryWrite 0x4C03 5
      [4])) ∧
    (∃ (s : State) (d : Door), s.boot.recovery = false ∧ (s.boot.owner = none ∨ s.boot.owner = some d) ∧ s.coreRuns = true ∧ s.boot.running
      = true ∧ s.cfg.storing = false ∧ s.cfg.prismStore = false ∧ s.get (.fw .fwUpdateState) = 4) ∧
    (∃ (s : State) (d : Door), s.boot.recovery = false ∧ (s.boot.owner = none ∨ s.boot.owner = some d) ∧ s.coreRuns = true ∧ s.boot.running
      = true ∧ s.boot.started = true) :=
  ⟨⟨R, Door.loc, by decide, by decide, by decide, by decide⟩,
    ⟨({ R with boot := { resetBoot with target := some 1 } }).set (.fw .fwUpdateState) 1, Door.loc, by decide⟩,
    ⟨({ R with boot := { resetBoot with target := some 1 } }).set (.fw .fwUpdateState) 2, Door.loc, 0, [1], by decide, by decide, by decide,
      by decide, by decide, by decide, by decide, fun _ => rfl, by decide⟩,
    ⟨FWG, Door.loc, 1, by decide, by decide, by decide, by decide, by decide, by decide⟩,
    ⟨({ R with boot := { resetBoot with target := some 1 } }).set (.fw .fwUpdateState) 2, Door.loc, 1, by decide, by decide, by decide, by
      decide, by decide, by decide⟩,
    ⟨({ R with boot := { resetBoot with target := some 1 } }).set (.fw .fwUpdateState) 3, Door.loc, 1, by decide, by decide, by decide, by
      decide, by decide⟩,
    ⟨({ R with boot := { resetBoot with target := some 1 } }).set (.fw .fwUpdateState) 2, Door.loc, 1, by decide, by decide, by decide, by
      decide, by decide⟩,
    ⟨({ R with boot := { resetBoot with target := some 1 } }).set (.fw .fwUpdateState) 4, Door.loc, by decide, by decide, by decide, by
      decide, by decide, by decide, by decide⟩,
    ⟨R, Door.loc, by decide, by decide, by decide, by decide, by decide⟩⟩

theorem test_witness_RelayedTransfers :
    (∃ (s : State) (i : Image) (addr : Nat) (ep : Nat) (x : Xlate), s.coreRuns = true ∧ s.hubServes i = true ∧ s.relayTarget i addr = some x
      ∧ s.relayed i x.port = true ∧ s.relayOpen i x.port = true ∧ (∀ q, (s.infoOf i addr x.port).endpoint (s.mapEp i addr ep) true = some q
      → refusedType q = false) ∧ s.relayTrouble i addr (s.mapEp i addr ep) true = none ∧ s.mapEp i addr ep ≠ 0 ∧ (s.relayEp i addr (s.mapEp
      i addr ep) true).held = [] ∧ (s.relayEp i addr (s.mapEp i addr ep) true).asks = []) ∧
    (∃ (s : State) (i : Image) (addr ep : Nat) (x : Xlate) (d : Nat × List Byte) (rest : List (Nat × List Byte)), s.coreRuns = true ∧
      s.hubServes i = true ∧ s.relayTarget i addr = some x ∧ s.relayed i x.port = true ∧ s.relayOpen i x.port = true ∧ (∀ (q : EpInfo),
      (s.infoOf i addr x.port).endpoint (s.mapEp i addr ep) true = some q → refusedType q = false) ∧ s.relayTrouble i addr (s.mapEp i addr
      ep) true = none ∧ s.mapEp i addr ep ≠ 0 ∧ (s.relayEp i addr (s.mapEp i addr ep) true).held = d :: rest ∧ (s.relayEp i addr (s.mapEp i
      addr ep) true).heldAt ≠ some s.time.elapsed) ∧
    (∃ (s : State) (i : Image) (addr : Nat) (ep : Nat) (x : Xlate), s.coreRuns = true ∧ s.hubServes i = true ∧ s.relayTarget i addr = some x
      ∧ s.relayed i x.port = true ∧ s.relayOpen i x.port = true ∧ (∀ q, (s.infoOf i addr x.port).endpoint (s.mapEp i addr ep) false = some q
      → refusedType q = false) ∧ s.relayTrouble i addr (s.mapEp i addr ep) false = none) ∧
    (∃ (s : State) (i : Image) (addr ep : Nat) (x : Xlate) (toggle : Bool) (data : List Byte), s.coreRuns = true ∧ s.hubServes i = true ∧
      s.relayTarget i addr = some x ∧ s.relayed i x.port = true ∧ s.relayOpen i x.port = true ∧ (∀ (q : EpInfo), (s.infoOf i addr
      x.port).endpoint (s.mapEp i addr ep) false = some q → refusedType q = false) ∧ s.relayTrouble i addr (s.mapEp i addr ep) false = none
      ∧ s.mapEp i addr ep ≠ 0 ∧ data.length ≤ packetSize (s.mapEp i addr ep) ((s.infoOf i addr x.port).endpoint (s.mapEp i addr ep) false) ∧
      (s.relayEp i addr (s.mapEp i addr ep) false).lastOut = some toggle) ∧
    (∃ (s : State) (i : Image) (addr ep : Nat) (x : Xlate) (toggle : Bool) (data : List Byte), s.coreRuns = true ∧ s.hubServes i = true ∧
      s.relayTarget i addr = some x ∧ s.relayed i x.port = true ∧ s.relayOpen i x.port = true ∧ (∀ (q : EpInfo), (s.infoOf i addr
      x.port).endpoint (s.mapEp i addr ep) false = some q → refusedType q = false) ∧ s.relayTrouble i addr (s.mapEp i addr ep) false = none
      ∧ s.mapEp i addr ep ≠ 0 ∧ data.length ≤ packetSize (s.mapEp i addr ep) ((s.infoOf i addr x.port).endpoint (s.mapEp i addr ep) false) ∧
      (s.relayEp i addr (s.mapEp i addr ep) false).lastOut ≠ some toggle ∧ s.outRoom i addr (s.mapEp i addr ep) = false) ∧
    (∃ (s : State) (i : Image) (addr ep : Nat) (x : Xlate) (toggle : Bool) (data : List Byte), s.coreRuns = true ∧ s.hubServes i = true ∧
      s.relayTarget i addr = some x ∧ s.relayed i x.port = true ∧ s.relayOpen i x.port = true ∧ (∀ (q : EpInfo), (s.infoOf i addr
      x.port).endpoint (s.mapEp i addr ep) false = some q → refusedType q = false) ∧ s.relayTrouble i addr (s.mapEp i addr ep) false = none
      ∧ s.mapEp i addr ep ≠ 0 ∧ data.length ≤ packetSize (s.mapEp i addr ep) ((s.infoOf i addr x.port).endpoint (s.mapEp i addr ep) false) ∧
      (s.relayEp i addr (s.mapEp i addr ep) false).lastOut ≠ some toggle ∧ s.outRoom i addr (s.mapEp i addr ep) = true) ∧
    (∃ (s : State) (i : Image) (addr : Nat) (x : Xlate) (data : List Byte), s.coreRuns = true ∧ s.hubServes i = true ∧ s.relayTarget i addr
      = some x ∧ s.relayed i x.port = true ∧ s.relayOpen i x.port = true ∧ data.length = 8 ∧ s.absorbs i addr x.port data = false ∧
      (s.relayEp i addr 0 false).control = 0 ∧ ((s.relayEp i addr 0 false).deferred = true ∨ (s.relayEp i addr 0 false).stored = [])) ∧
    (∃ (s : State) (i : Image) (addr : Nat) (ep : Nat) (x : Xlate) (dirIn : Bool) (q : RelayAsk) (rest : List RelayAsk), s.coreRuns = true ∧
      s.hubServes i = true ∧ s.relayTarget i addr = some x ∧ s.relayed i x.port = true ∧ s.relayOpen i x.port = true ∧ (s.relayEp i addr ep
      dirIn).asks = q :: rest ∧ (s.relayEp i addr ep dirIn).retries < 4) ∧
    (∃ (s : State) (i : Image) (addr : Nat) (ep : Nat) (x : Xlate) (dirIn : Bool) (q : RelayAsk) (rest : List RelayAsk), s.coreRuns = true ∧
      s.hubServes i = true ∧ s.relayTarget i addr = some x ∧ s.relayed i x.port = true ∧ s.relayOpen i x.port = true ∧ (s.relayEp i addr ep
      dirIn).asks = q :: rest ∧ 4 ≤ (s.relayEp i addr ep dirIn).retries) :=
  ⟨⟨RL, 0, 5, 1, ⟨2,1,3,false⟩, by decide, by decide, by decide, by decide, by decide, by decide, by decide, by decide, by decide, by
      decide⟩,
    ⟨RL.setRelayEp 0 5 1 true { held := [(0, [7])] }, 0, 5, 1, ⟨2,1,3,false⟩, (0, [7]), [], by decide, by decide, by decide, by decide, by
      decide, by decide, by decide, by decide, by decide, by decide⟩,
    ⟨RL, 0, 5, 1, ⟨2,1,3,false⟩, by decide, by decide, by decide, by decide, by decide, by decide, by decide⟩,
    ⟨RL.setRelayEp 0 5 1 false { lastOut := some false }, 0, 5, 1, ⟨2,1,3,false⟩, false, [], by decide, by decide, by decide, by decide, by
      decide, by decide, by decide, by decide, by decide, by decide⟩,
    ⟨{ RL with poolLow := true }, 0, 5, 1, ⟨2,1,3,false⟩, false, [], by decide, by decide, by decide, by decide, by decide, by decide, by
      decide, by decide, by decide, by decide, by decide⟩,
    ⟨RL, 0, 5, 1, ⟨2,1,3,false⟩, false, [], by decide, by decide, by decide, by decide, by decide, by decide, by decide, by decide, by
      decide, by decide, by decide⟩,
    ⟨RL, 0, 5, ⟨2,1,3,false⟩, [0,9,1,0,0,0,0,0], by decide, by decide, by decide, by decide, by decide, by decide, by decide, by decide, by
      decide⟩,
    ⟨RL.setRelayEp 0 5 1 true { asks := [⟨1, true, 1, false, []⟩] }, 0, 5, 1, ⟨2,1,3,false⟩, true, ⟨1, true, 1, false, []⟩, [], by decide,
      by decide, by decide, by decide, by decide, by decide, by decide⟩,
    ⟨RL.setRelayEp 0 5 1 true { asks := [⟨1, true, 1, false, []⟩], retries := 4 }, 0, 5, 1, ⟨2,1,3,false⟩, true, ⟨1, true, 1, false, []⟩,
      [], by decide, by decide, by decide, by decide, by decide, by decide, by decide⟩⟩

theorem test_witness_RelayRecords :
    (∃ (s : State) (k : Link) (h : FrameHdr) (r : RelayHdr) (data : List Byte) (t : State) (p : Port) (i : Image) (m : Nat), s.coreRuns =
      true ∧ s.domainOn 6 = true ∧ s.fresh.receive k h 8 (RingBody.relay r data) = (true, t) ∧ t.recordShape h r 1 data.length = true ∧
      t.recordPort r = some p ∧ t.logicalOf p = some (i, m) ∧ t.pst p = 4 ∧ t.outside i m = false) ∧
    (∃ (s : State) (k : Link) (h : FrameHdr) (r : RelayHdr) (data : List Byte) (t : State) (i : Image) (m : Nat), s.coreRuns = true ∧
      s.domainOn 6 = true ∧ s.fresh.receive k h 9 (RingBody.relay r data) = (true, t) ∧ t.recordShape h r 2 data.length = true ∧ r.seq ≠ 0 ∧
      t.recordLogical h r = some (i, m)) ∧
    (∃ (s : State) (k : Link) (h : FrameHdr) (r : RelayHdr) (data : List Byte) (t : State) (p : Port) (i : Image) (m : Nat), s.coreRuns =
      true ∧ s.domainOn 6 = true ∧ s.fresh.receive k h 9 (RingBody.relay r data) = (true, t) ∧ t.recordShape h r 2 data.length = true ∧
      t.recordPort r = some p ∧ t.logicalOf p = some (i, m) ∧ t.keeps i m = true ∧ t.entryHere i = false ∧ r.dirIn = true ∧ r.seq = 0) ∧
    (∃ (s : State) (k : Link) (h : FrameHdr) (r : RelayHdr) (data : List Byte) (t : State) (p : Port), s.coreRuns = true ∧ s.domainOn 6 =
      true ∧ s.fresh.receive k h 8 (RingBody.relay r data) = (true, t) ∧ t.recordShape h r 5 data.length = true ∧ t.recordPort r = some p ∧
      r.ep = 0) ∧
    (∃ (s : State) (k : Link) (h : FrameHdr) (r : RelayHdr) (data : List Byte) (t : State) (p : Port), s.coreRuns = true ∧ s.domainOn 6 =
      true ∧ s.fresh.receive k h 8 (RingBody.relay r data) = (true, t) ∧ t.recordShape h r 5 data.length = true ∧ t.recordPort r = some p ∧
      r.ep ≠ 0) ∧
    (∃ (s : State) (k : Link) (h : FrameHdr) (r : RelayHdr) (t : State) (p : Port) (i : Image) (m : Nat) (q : PortReq), s.coreRuns = true ∧
      s.domainOn 6 = true ∧ s.fresh.receive k h 8 (RingBody.portReq r q) = (true, t) ∧ t.recordShape h r 3 (h.length - 16) = true ∧
      t.recordPort r = some p ∧ t.logicalOf p = some (i, m)) ∧
    (∃ (s : State) (k : Link) (h : FrameHdr) (r : RelayHdr) (t : State) (i : Image) (m : Nat) (b : PortStatusBody), s.coreRuns = true ∧
      s.domainOn 6 = true ∧ s.fresh.receive k h 9 (RingBody.portStatus r b) = (true, t) ∧ t.recordShape h r 4 (h.length - 16) = true ∧
      t.recordLogical h r = some (i, m) ∧ b.status.testBit psConn = true ∧ b.status.testBit psReset = false ∧ b.change.testBit psReset =
      false ∧ (t.hub i).waitsOn ≠ some (m, r.seq)) ∧
    (∃ (s : State) (k : Link) (h : FrameHdr) (r : RelayHdr) (t : State) (i : Image) (m : Nat) (b : PortStatusBody), s.coreRuns = true ∧
      s.domainOn 6 = true ∧ s.fresh.receive k h 9 (RingBody.portStatus r b) = (true, t) ∧ t.recordShape h r 4 (h.length - 16) = true ∧
      t.recordLogical h r = some (i, m) ∧ b.status.testBit psConn = true ∧ b.status.testBit psReset = false ∧ b.change.testBit psReset =
      false ∧ (t.hub i).waitsOn = some (m, r.seq)) ∧
    (∃ (s : State) (k : Link) (h : FrameHdr) (r : RelayHdr) (data : List Byte) (t : State) (p : Port), s.coreRuns = true ∧ s.domainOn 6 =
      true ∧ s.fresh.receive k h 10 (RingBody.relay r data) = (true, t) ∧ t.recordShape h r 6 data.length = true ∧ t.recordPort r = some p ∧
      t.pst p = 4 ∧ (t.get (.port p .portSpeed) = 1 ∨ t.get (.port p .portSpeed) = 2) ∧ (t.port p).tt.stopped = false ∧ (List.map (fun q =>
      q.data.length) (t.port p).tt.staging).sum + data.length ≤ 3584) ∧
    (∃ (s : State) (k : Link) (h : FrameHdr) (r : RelayHdr) (data : List Byte) (t : State), s.coreRuns = true ∧ s.domainOn 6 = true ∧
      s.fresh.receive k h 8 (RingBody.relay r data) = (true, t) ∧ t.recordShape h r 1 data.length = false) ∧
    (∃ (s : State) (k : Link) (h : FrameHdr) (r : RelayHdr) (data : List Byte) (t : State), s.coreRuns = true ∧ s.domainOn 6 = true ∧
      s.fresh.receive k h 10 (RingBody.relay r data) = (true, t) ∧ t.recordShape h r 6 data.length = false) ∧
    (∃ (s : State) (k : Link) (h : FrameHdr) (r : RelayHdr) (data : List Byte) (t : State), s.coreRuns = true ∧ s.domainOn 6 = true ∧
      s.fresh.receive k h 10 (RingBody.relay r data) = (true, t) ∧ t.recordShape h r 7 data.length = false) ∧
    (∃ (s : State) (k : Link) (h : FrameHdr) (r : RelayHdr) (data : List Byte) (t : State) (q : EntrySplit), s.coreRuns = true ∧ s.domainOn
      6 = true ∧ s.fresh.receive k h 10 (RingBody.relay r data) = (true, t) ∧ t.recordShape h r 7 data.length = true ∧ List.find? (fun y =>
      y.tag == h.tag && y.seq == r.seq && y.result.isNone) t.splits = some q ∧ (r.result ≠ 0 ∨ q.dirIn = true)) ∧
    (∃ (s : State) (k : Link) (h : FrameHdr) (r : RelayHdr) (data : List Byte) (t : State) (q : EntrySplit), s.coreRuns = true ∧ s.domainOn
      6 = true ∧ s.fresh.receive k h 10 (RingBody.relay r data) = (true, t) ∧ t.recordShape h r 7 data.length = true ∧ List.find? (fun y =>
      y.tag == h.tag && y.seq == r.seq && y.result.isNone) t.splits = some q ∧ r.result = 0 ∧ q.dirIn = false) ∧
    (∃ (s : State) (k : Link) (h : FrameHdr) (r : RelayHdr) (data : List Byte) (t : State), s.coreRuns = true ∧ s.domainOn 6 = true ∧
      s.fresh.receive k h 10 (RingBody.relay r data) = (true, t) ∧ t.recordShape h r 7 data.length = true ∧ List.find? (fun y => y.tag ==
      h.tag && y.seq == r.seq && y.result.isNone) t.splits = none) :=
  ⟨⟨RO, 3, hd 16, rp 1 16, [], _, 15, 0, 16, by decide, by decide, Prod.ext (by decide) rfl, by decide, by decide, by decide, by decide, by
      decide⟩,
    ⟨RL, 3, hd 16, rp 2 1, [], _, 0, 1, by decide, by decide, Prod.ext (by decide) rfl, by decide, by decide, by decide⟩,
    ⟨((RO.set (.image 0 .imagePrimary) 0xFF).set (.hold4 0 .holdoverState) 4).set (.hold4 0 .holdoverHeldPorts) (2 ^ 15), 3, hd 16, { rp 2
      16 with seq := 0 }, [], _, 15, 0, 16, by decide, by decide, Prod.ext (by decide) rfl, by decide, by decide, by decide, by decide, by
      decide, by decide, by decide⟩,
    ⟨RO, 3, hd 16, { rp 5 16 with ep := 0 }, [], _, 15, by decide, by decide, Prod.ext (by decide) rfl, by decide, by decide, by decide⟩,
    ⟨RO, 3, hd 16, rp 5 16, [], _, 15, by decide, by decide, Prod.ext (by decide) rfl, by decide, by decide, by decide⟩,
    ⟨RO, 3, hd 16, rp 3 16, _, 15, 0, 16, .reset 5, by decide, by decide, Prod.ext (by decide) rfl, by decide, by decide, by decide⟩,
    ⟨RL, 3, hd 16, rp 4 1, _, 0, 1, ⟨1, 0, 3, 3⟩, by decide, by decide, Prod.ext (by decide) rfl, by decide, by decide, by decide, by
      decide, by decide, by decide⟩,
    ⟨RL.modHub 0 fun h => { h with waitsOn := some (1, 1) }, 3, hd 16, rp 4 1, _, 0, 1, ⟨1, 0, 3, 3⟩, by decide, by decide, Prod.ext (by
      decide) rfl, by decide, by decide, by decide, by decide, by decide, by decide⟩,
    ⟨RO.set (.port 15 .portSpeed) 2, 3, hd 16, rp 6 16, [], _, 15, by decide, by decide, Prod.ext (by decide) rfl, by decide, by decide, by
      decide, by decide, by decide, by decide⟩,
    ⟨RO, 3, hd 17, rp 1 16, [], _, by decide, by decide, Prod.ext (by decide) rfl, by decide⟩,
    ⟨RO, 3, hd 17, rp 6 16, [], _, by decide, by decide, Prod.ext (by decide) rfl, by decide⟩,
    ⟨RO, 3, hd 17, rp 7 1, [], _, by decide, by decide, Prod.ext (by decide) rfl, by decide⟩,
    ⟨{ RO with splits := [⟨0, 16, 5, 1, true, false, 0, 0, 1, false, none⟩] }, 3, hd 16, rp 7 1, [], _, ⟨0, 16, 5, 1, true, false, 0, 0, 1,
      false, none⟩, by decide, by decide, Prod.ext (by decide) rfl, by decide, by decide, by decide⟩,
    ⟨{ RO with splits := [⟨0, 16, 5, 1, false, false, 0, 0, 1, false, none⟩] }, 3, hd 16, rp 7 1, [], _, ⟨0, 16, 5, 1, false, false, 0, 0,
      1, false, none⟩, by decide, by decide, Prod.ext (by decide) rfl, by decide, by decide, by decide, by decide⟩,
    ⟨RO, 3, hd 16, rp 7 1, [], _, by decide, by decide, Prod.ext (by decide) rfl, by decide, by decide⟩⟩

theorem test_witness_HoldoverWrites :
    (∃ (s : State) (d : Door) (i : Image), s.alone = true ∧ s.Takes d (entryWrite (0x2810 + i.val) 1 [1]) ∧ s.holdState i = 0 ∧ s.enabled i
      = true) ∧
    (∃ (s : State) (d : Door) (i : Image), s.alone = true ∧ s.Takes d (entryWrite (0x2810 + i.val) 1 [0]) ∧ (s.holdState i = 4 ∨ s.holdState
      i = 5 ∨ s.holdState i = 6)) ∧
    (∃ (s : State) (d : Door) (i : Image), s.alone = true ∧ s.Takes d (entryWrite (0x2810 + i.val) 2 [1]) ∧ s.holdState i = 1) ∧
    (∃ (s : State) (d : Door) (i : Image), s.alone = true ∧ s.Takes d (entryWrite (0x2810 + i.val) 2 [0]) ∧ s.holdState i = 2) ∧
    (∃ (s : State) (d : Door) (i : Image), s.alone = true ∧ s.Takes d (entryWrite (0x2810 + i.val) 3 [1]) ∧ (s.holdState i = 1 ∨ s.holdState
      i = 2 ∨ s.holdState i = 3)) ∧
    (∃ (s : State) (d : Door) (i : Image), s.alone = true ∧ s.Takes d (entryWrite (0x2810 + i.val) 3 [1]) ∧ ¬ (s.holdState i = 1 ∨
      s.holdState i = 2 ∨ s.holdState i = 3)) ∧
    (∃ (s : State) (d : Door) (i : Image), s.alone = true ∧ s.Takes d (entryWrite (0x2810 + i.val) 3 [2]) ∧ s.adoptRefusal i = 0 ∧
      (s.holdState i = 4 ∨ s.holdState i = 5)) ∧
    (∃ (s : State) (d : Door) (i : Image), s.alone = true ∧ s.Takes d (entryWrite (10256 + ↑i) 3 [2]) ∧ s.adoptRefusal i = 0 ∧ (s.holdState
      i = 1 ∨ s.holdState i = 2 ∨ s.holdState i = 3)) ∧
    (∃ (s : State) (d : Door) (i : Image), s.alone = true ∧ s.Takes d (entryWrite (0x2810 + i.val) 3 [2]) ∧ s.adoptRefusal i ≠ 0 ∧
      s.overtakes i = false) ∧
    (∃ (s : State) (d : Door) (i : Image), s.alone = true ∧ s.Takes d (entryWrite (0x2810 + i.val) 3 [3]) ∧ (s.holdState i = 4 ∨ s.holdState
      i = 5)) ∧
    (∃ (s : State) (d : Door) (i : Image), s.alone = true ∧ s.Takes d (entryWrite (0x2810 + i.val) 3 [4]) ∧ s.holdState i = 5) ∧
    (∃ (s : State) (d : Door) (i : Image) (j : Nat), s.alone = true ∧ s.Takes d (entryWrite 0x2800 4 [1]) ∧ s.swapping = false ∧
      ((List.range 256).find? fun j => s.slotCheck (s.shadowWord j) ≠ 0) = some j) ∧
    (∃ (s : State) (d : Door) (i : Image), s.alone = true ∧ s.Takes d (entryWrite 0x2800 4 [1]) ∧ s.swapping = false ∧ (∀ j, s.slotCheck
      (s.shadowWord j) = 0) ∧ (∀ i, (s.hub i).locked = true)) :=
  ⟨⟨R, .loc, 0, by decide⟩,
    ⟨R.set (.hold4 0 .holdoverState) 6, .loc, 0, by decide⟩,
    ⟨R.set (.hold4 0 .holdoverState) 1, .loc, 0, by decide⟩,
    ⟨R.set (.hold4 0 .holdoverState) 2, .loc, 0, by decide⟩,
    ⟨R.set (.hold4 0 .holdoverState) 3, .loc, 0, by decide⟩,
    ⟨R, .loc, 0, by decide⟩,
    ⟨SB, .loc, 0, by decide⟩,
    ⟨SB.set (.hold4 0 .holdoverState) 3, .loc, 0, by decide⟩,
    ⟨R, .loc, 0, by decide⟩,
    ⟨R.set (.hold4 0 .holdoverState) 5, .loc, 0, by decide⟩,
    ⟨R.set (.hold4 0 .holdoverState) 5, .loc, 0, by decide⟩,
    ⟨R.set (.hold (.holdoverTableShadow 3)) (2 ^ 64 - 1), .loc, 0, 3, by decide⟩,
    ⟨LCK, .loc, 0, by decide, by decide, by decide, test_no_shadow, by decide⟩⟩

theorem test_witness_HoldoverEvents :
    (∃ (s : State) (i : Image), s.coreRuns = true ∧ s.holdState i = 2 ∧ (s.hold i).windowOpen = true) ∧
    (∃ (s : State) (i : Image) (u : Upstream), s.coreRuns = true ∧ (s.up u).vbus = true) ∧
    (∃ (s : State) (i : Image) (u : Upstream), s.coreRuns = true ∧ (s.up u).attached = true) ∧
    (∃ (s : State) (i : Image), s.coreRuns = true ∧ s.hubHere i = true ∧ (s.hub i).config = 1 ∧ (s.hub i).suspended = false ∧ (s.hub
      i).resuming = false ∧ s.fullSpeed i = false ∧ s.holdState i = 1) ∧
    (∃ (s : State) (i : Image) (u : Upstream), s.coreRuns = true ∧ s.isTrue (.hold4 i .adoptAuto) = true ∧ s.mirrorUp i = some u ∧
      (s.holdState i = 4 ∨ s.holdState i = 5)) ∧
    (∃ (s : State) (i : Image) (u : Upstream), s.coreRuns = true ∧ s.mirrorUp i = some u ∧ s.holdState i = 6 ∧ (s.hold i).viaMirror = true ∧
      (s.hold i).attached = false ∧ (s.up u).attached = true) ∧
    (∃ (s : State) (i : Image) (m : Nat), s.coreRuns = true ∧ (s.entryHere i = true ∨ s.alone = true) ∧ s.heldPort i m = true ∧ (s.record i
      m).stage = AdoptStage.addressed) ∧
    (∃ (s : State) (i : Image) (m : Nat) (p : Port), s.coreRuns = true ∧ s.place i m = .own p ∧ (s.port p).absorbing = true ∧ s.pst p ≠ 6 ∧
      s.heldPort i m = true) ∧
    (∃ (s : State) (i : Image), s.coreRuns = true ∧ s.stepDecided i = true ∧ s.imageRows i = []) ∧
    (∃ (s : State) (i : Image), s.coreRuns = true ∧ s.swapping = true ∧ s.switched.testBit i.val = false ∧ (s.hold i).swapAt ≠ some
      s.time.elapsed) ∧
    (∃ (s : State) (i : Image), s.coreRuns = true ∧ s.holdState i ≠ 5 ∧ (s.hold i).started = true ∧ (s.hold i).boundary ≠ 0) ∧
    (∃ (s : State) (i : Image), s.coreRuns = true ∧ s.holdState i = 4 ∧ (s.hold i).started = true ∧ (s.hold i).boundary = 0 ∧ s.imageRows i
      ≠ []) ∧
    (∃ (s : State) (i : Image), s.coreRuns = true ∧ s.holdState i = 5) ∧
    (∃ (s : State) (i : Image) (j : Fin 256) (e : SlotEntry) (p : Port) (q : Option EpInfo) (b : List Byte), s.coreRuns = true ∧ s.entryNow
      j.val = e ∧ s.slotPayload e.image e.target e.length = b ∧ (s.slot j.val).left = false ∧ (s.slot j.val).stage = 0 ∧ e.valid = true ∧
      e.action = 3 ∧ (s.slot j.val).entry = true ∧ (s.slot j.val).running = false ∧ (s.slot j.val).waiting = false ∧ s.slotPort e = some (p,
      q)) ∧
    (∃ (s : State) (i : Image) (j : Fin 256) (e : SlotEntry), s.coreRuns = true ∧ s.entryNow j.val = e ∧ e.valid = true ∧ e.action = 1 ∧
      s.inHold (imageOf e.image) = true ∧ s.slotCount (imageOf e.image) e.port % 2 ^ e.interval = e.phase ∧ s.absorbingAt (imageOf e.image)
      e.port = false ∧ s.slotPort e = none) ∧
    (∃ (s : State) (i : Image) (j : Fin 256) (e : SlotEntry) (p : Port) (q : Option EpInfo), s.coreRuns = true ∧ s.entryNow j.val = e ∧
      e.valid = true ∧ e.action = 1 ∧ s.inHold (imageOf e.image) = true ∧ s.slotCount (imageOf e.image) e.port % 2 ^ e.interval = e.phase ∧
      s.absorbingAt (imageOf e.image) e.port = false ∧ s.slotPort e = some (p, q) ∧ (∀ k, (s.slot k).running = false ∧ (s.slot k).waiting =
      false ∧ (s.slot k).entry = false)) ∧
    (∃ (s : State) (i : Image) (j : Fin 256) (e : SlotEntry), s.coreRuns = true ∧ s.entryNow j.val = e ∧ e.valid = true ∧ e.action = 1 ∧
      s.inHold (imageOf e.image) = true ∧ s.slotCount (imageOf e.image) e.port % 2 ^ e.interval = e.phase ∧ s.absorbingAt (imageOf e.image)
      e.port = true) :=
  ⟨⟨(R.set (.hold4 0 .holdoverState) 2).modHold 0 fun h => { h with windowOpen := true }, 0, by decide⟩,
    ⟨U, 0, .UA, by decide⟩,
    ⟨U, 0, .UA, by decide⟩,
    ⟨U.set (.hold4 0 .holdoverState) 1, 0, by decide⟩,
    ⟨SB.set (.hold4 0 .adoptAuto) 1, 0, .UB, by decide⟩,
    ⟨((R.set (.hold4 0 .holdoverState) 6).modHold 0 fun h => { h with viaMirror := true }).modUp .UB fun x => { x with attached := true },
      0, .UB, by decide⟩,
    ⟨HP 6, 0, 1, by decide⟩,
    ⟨(HP 6).modPort 0 fun x => { x with absorbing := true }, 0, 1, 0, by decide⟩,
    ⟨(R.set (.hold4 1 .holdoverState) 6).modHold 1 fun h => { h with stepDue := true }, 1, by decide⟩,
    ⟨{ R with swapping := true }, 3, by decide⟩,
    ⟨(R.set (.hold4 1 .holdoverState) 4).modHold 1 fun h => { h with started := true, boundary := 1 }, 1, by decide⟩,
    ⟨((P 4 1).set (.hold4 0 .holdoverState) 4).modHold 0 fun h => { h with started := true }, 0, by decide⟩,
    ⟨R.set (.hold4 1 .holdoverState) 5, 1, by decide⟩,
    ⟨(SLOT 3).setSlot 7 { entry := true }, 0, 7, _, 15, none, _, by decide, rfl, rfl, by decide⟩,
    ⟨(SLOT 1).set (.port 15 .portState) 2, 0, 7, _, by decide, rfl, by decide⟩,
    ⟨SLOT 1, 0, 7, _, 15, none, by decide, rfl, by decide, by decide, by decide, by decide, by decide, by decide, fun _ => ⟨rfl, rfl, rfl⟩⟩,
    ⟨(SLOT 1).modPort 15 fun x => { x with absorbing := true }, 0, 7, _, by decide, rfl, by decide⟩⟩

theorem test_witness_ReservoirWrites :
    (∃ (s : State) (d : Door), s.Takes d (entryWrite (11272 + d.num) 3 [1]) ∧ (s.session d).opened = false ∧ (s.session d).opening = none ∧
      s.sessionHere d = true ∧ (∀ (e : Door), e ≠ d → (s.session e).opened = false)) ∧
    (∃ (s : State) (d e : Door), s.Takes d (entryWrite (11272 + d.num) 3 [1]) ∧ (s.session d).opened = false ∧ (s.session d).opening = none
      ∧ s.sessionHere d = true ∧ e ≠ d ∧ (s.session e).opened = true ∧ s.sessionHere e = true ∧ s.get (.session e .sessionStreams) &&& s.get
      (.session d .sessionStreams) ≠ 0) ∧
    (∃ (s : State) (d : Door), s.Takes d (entryWrite (0x2C08 + d.num) 3 [0]) ∧ s.sessionHere d = true) ∧
    (∃ (s : State) (d : Door) (len : Nat), d ≠ Door.upa ∧ d ≠ Door.upb ∧ 0 < len ∧ len ≤ 239 ∧ s.doorReach d = true ∧ s.readChecks (callerAt
      d) (11272 + d.num) 5 false 0 len = 0 ∧ (s.session d).opened = true ∧ s.sessionHere d = true ∧ (s.session d).readBy = none) ∧
    (∃ (s : State) (d : Door) (len u : Nat), d ≠ Door.upa ∧ d ≠ Door.upb ∧ 0 < len ∧ len ≤ 239 ∧ s.doorReach d = true ∧ s.readChecks
      (callerAt d) (11272 + d.num) 5 false 0 len = 0 ∧ (s.session d).opened = true ∧ s.sessionHere d = false ∧ s.sessionPeer d = some u) ∧
    (∃ (s : State) (d : Door) (n : Stream), s.configured n.val = true ∧ s.Takes d (entryWrite (0x2D00 + n.val) 16 [1])) ∧
    (∃ (s : State) (d : Door) (n : Stream), s.configured ↑n = true ∧ s.Takes d (entryWrite (11520 + ↑n) 16 [2]) ∧ (∀ (w : StreamSave),
      (s.stream ↑n).saved = some w → w.time ≠ s.time.elapsed ∨ w.value = 2)) ∧
    (∃ (s : State) (d : Door) (n : Stream), s.configured ↑n = true ∧ s.Takes d (entryWrite (11520 + ↑n) 16 [3]) ∧ (∀ (w : StreamSave),
      (s.stream ↑n).saved = some w → w.time ≠ s.time.elapsed ∨ w.value = 3)) ∧
    (∃ (s : State) (d : Door) (n : Stream) (w : StreamSave), s.configured ↑n = true ∧ s.Takes d (entryWrite (11520 + ↑n) 16 [2]) ∧ (s.stream
      ↑n).saved = some w ∧ w.time = s.time.elapsed ∧ w.value = 3 ∧ d.num < w.door) ∧
    (∃ (s : State) (d : Door) (n : Stream), s.configured n.val = true ∧ s.Takes d (entryWrite (0x2D00 + n.val) 16 [4])) ∧
    (∃ (s : State) (d : Door) (n : Stream), s.configured n.val = false ∧ s.Takes d (entryWrite (0x2D00 + n.val) 16 [4])) ∧
    (∃ (s : State) (d : Door), s.sramOnly = false ∧ s.Takes d (entryWrite 0x2C01 1 [1]) ∧ s.get (.arb .arbFreezeState) = 0) ∧
    (∃ (s : State) (d : Door), s.sramOnly = false ∧ s.Takes d (entryWrite 0x2C01 1 [0])) :=
  ⟨⟨R, Door.loc, by decide, by decide, by decide, by decide, fun e _ => by cases e <;> rfl⟩,
    ⟨((R.modSession .can fun x => { x with opened := true }).set (.session .can .sessionStreams) 6).set (.session .loc .sessionStreams) 4,
      Door.loc, Door.can, by decide⟩,
    ⟨R, Door.loc, by decide, by decide⟩,
    ⟨R.modSession .loc fun x => { x with opened := true }, Door.loc, 239, by decide⟩,
    ⟨(M.set (.session .loc .sessionFacet) 1).modSession .loc fun x => { x with opened := true }, Door.loc, 239, 9, by decide⟩,
    ⟨STR, Door.loc, 255, by decide, by decide⟩,
    ⟨STR, Door.loc, 255, by decide, by decide, fun w h => by cases (h : none = some w)⟩,
    ⟨STR, Door.loc, 255, by decide, by decide, fun w h => by cases (h : none = some w)⟩,
    ⟨STR.modStream 255 fun x => { x with saved := some ⟨0, 5, 3, [], 0, none, false, 0, 0, 0, 0, 0⟩ }, Door.loc, 255, ⟨0, 5, 3, [], 0, none,
      false, 0, 0, 0, 0, 0⟩, by decide⟩,
    ⟨STR, Door.loc, 255, by decide, by decide⟩,
    ⟨R, Door.loc, 255, by decide, by decide⟩,
    ⟨DR, Door.loc, by decide, by decide, by decide⟩,
    ⟨DR, Door.loc, by decide, by decide⟩⟩

theorem test_witness_ReservoirEvents :
    (∃ (s : State) (size : Nat), s.coreRuns = true ∧ s.domainOn 7 = true ∧ s.get (.res .reservoirDramState) = 1 ∧ size ≠ 0 ∧ size =
      geometrySize (s.get (.res .reservoirDramGeometry))) ∧
    (∃ (s : State) (size : Nat) (ok : Bool), s.coreRuns = true ∧ s.domainOn 7 = true ∧ s.get (.res .reservoirDramState) = 1 ∧ (ok = true →
      size = 0 ∨ size ≠ geometrySize (s.get (.res .reservoirDramGeometry)))) ∧
    (∃ (s : State) (n : Stream), s.coreRuns = true ∧ s.sramOnly = false ∧ s.spills ↑n = true) ∧
    (∃ (s : State), s.coreRuns = true ∧ s.sramOnly = false ∧ s.get (.res .reservoirDramState) = 2) ∧
    (∃ (s : State) (addr n off : Nat), s.coreRuns = true ∧ s.sramOnly = false ∧ s.get (.res .reservoirDramState) = 2 ∧ s.domainOn 7 = true ∧
      s.streamAt addr = some (n, off)) ∧
    (∃ (s : State) (addr n off : Nat), s.coreRuns = true ∧ s.sramOnly = false ∧ s.get (.res .reservoirDramState) = 2 ∧ s.domainOn 7 = true ∧
      s.granted 10 = true ∧ s.streamAt addr = some (n, off)) ∧
    (∃ (s : State), s.coreRuns = true ∧ s.sramOnly = false ∧ s.get (.res .reservoirDramState) = 2 ∧ s.get (.arb .arbFreezeState) = 0 ∧ (∀ k,
      s.req k = {})) ∧
    (∃ (s : State), s.coreRuns = true ∧ s.scrubs = true) ∧
    (∃ (s : State) (n : Fin 11), s.coreRuns = true ∧ (s.req n.val).waiting = true ∧ s.get (.arb .arbFreezeState) = 0) ∧
    (∃ (s : State), s.coreRuns = true ∧ s.get (.arb .arbFreezeState) = 1) ∧
    (∃ (s : State) (u : Upstream) (f : Fn), s.coreRuns = true ∧ s.mgmtFn u = some f ∧ (s.fnDev f).config = 1 ∧ (s.fnDev f).halted.testBit
      (haltBit 0x81) = false ∧ (s.up u).part = none ∧ (s.up u).answers = [] ∧ (s.session (upDoor u)).opened = false) ∧
    (∃ (s : State) (u : Upstream) (f : Fn) (b : List Byte), s.coreRuns = true ∧ s.mgmtFn u = some f ∧ (s.fnDev f).config = 1 ∧ (s.fnDev
      f).halted.testBit (haltBit 0x81) = false ∧ (s.up u).part = some (1, b)) :=
  ⟨⟨DRG, geometrySize (DRG.get (.res .reservoirDramGeometry)), by decide⟩,
    ⟨DRG, 0, true, by decide⟩,
    ⟨DR, 255, by decide⟩,
    ⟨DR, by decide⟩,
    ⟨DRST, 0, 255, 0, by decide⟩,
    ⟨DRST, 0, 255, 0, by decide⟩,
    ⟨DR, by decide, by decide, by decide, by decide, fun _ => rfl⟩,
    ⟨DRST, by decide⟩,
    ⟨R.setReq 10 { waiting := true }, 10, by decide⟩,
    ⟨R.set (.arb .arbFreezeState) 1, by decide⟩,
    ⟨EM, .UA, .emb 0, by decide⟩,
    ⟨EM.modUp .UA fun x => { x with part := some (1, [7]) }, .UA, .emb 0, [7], by decide⟩⟩

theorem test_witness_TimeWrites :
    (∃ (s : State) (d : Door), s.doors.posted = [] ∧ s.doorReach d = true ∧ s.readChecks (callerAt d) 0x3400 1 false 0 4 = 0) ∧
    (∃ (s : State) (d : Door), s.doors.posted = [] ∧ s.doorReach d = true ∧ s.readChecks (callerAt d) 0x3400 3 false 0 8 = 0) ∧
    (∃ (s : State) (d : Door) (v : Nat), s.doors.posted = [] ∧ v < 2 ^ 32 ∧ s.Takes d (entryWrite 0x3401 10 (bytesBe 4 v)) ∧
      s.ahead v < 2100000000) ∧
    (∃ (s : State) (d : Door) (v : Nat), s.doors.posted = [] ∧ v < 2 ^ 32 ∧ s.Takes d (entryWrite 0x3401 10 (bytesBe 4 v)) ∧
      2100000000 ≤ s.ahead v) ∧
    (∃ (s : State) (d : Door) (v : Nat), s.doors.posted = [] ∧ v < 2 ^ 32 ∧ s.Takes d (entryWrite 0x3402 4 (bytesBe 4 v)) ∧
      s.ahead v < 2100000000) ∧
    (∃ (s : State) (d : Door) (data : List Byte), s.doors.posted = [] ∧ data.length = 14 ∧ s.alone = true ∧
      s.Takes d (entryWrite 0x3400 23 data)) ∧
    (∃ (s : State) (d : Door) (data : List Byte), s.doors.posted = [] ∧ s.launchRefusal data = 0 ∧ s.Takes d (entryWrite 0x3430 1 data)) ∧
    (∃ (s : State) (d : Door) (data : List Byte), s.doors.posted = [] ∧ s.launchRefusal data = 2 ∧ s.Takes d (entryWrite 0x3430 1 data)) ∧
    (∃ (s : State) (d : Door) (tag : Nat) (l : Launch), s.doors.posted = [] ∧ tag < 65536 ∧
      s.Takes d (entryWrite 0x3430 2 (bytesBe 2 tag)) ∧ (s.time.launches.find? fun l => l.tag = tag) = some l ∧ l.attempts = 0) :=
  ⟨⟨R, Door.loc, by decide, by decide, by decide⟩,
    ⟨R, Door.loc, by decide, by decide, by decide⟩,
    ⟨R, Door.loc, 0, by decide, by decide, by decide, by decide⟩,
    ⟨R, Door.loc, 2100000000, by decide, by decide, by decide, by decide⟩,
    ⟨R, Door.loc, 0, by decide, by decide, by decide, by decide⟩,
    ⟨R, Door.loc, List.replicate 14 0, by decide, by decide, by decide, by decide⟩,
    ⟨LAU, Door.loc, launchBytes, by decide, by decide, by decide⟩,
    ⟨{ LAU with time := { launches := List.replicate 64 lau } }, Door.loc, launchBytes, by decide, by decide, by decide⟩,
    ⟨{ R with time := { launches := [lau] } }, Door.loc, 7, lau, by decide, by decide, by decide, by decide, by decide⟩⟩

theorem test_witness_TimeEvents :
    (∃ (s : State) (k : Link), s.coreRuns = true ∧ s.domainOn 6 = true ∧ s.get (.link k .linkState) = 3 ∧ (∀ j, j ≠ k → s.get (.link j
      .linkState) = 0)) ∧
    (∃ (s : State) (k : Link) (b : EchoBody), s.coreRuns = true ∧ s.domainOn 6 = true ∧ (s.echo k).exchange b = some none ∧ s.get (.link k
      .linkState) = 3) ∧
    (∃ (s : State) (k : Link) (b : EchoBody), s.coreRuns = true ∧ s.domainOn 6 = true ∧ (s.echo k).exchange b = some none ∧ s.get (.link k
      .linkState) = 6) ∧
    (∃ (s : State) (k : Link) (b : EchoBody), s.coreRuns = true ∧ s.domainOn 6 = true ∧ (s.echo k).exchange b = none ∧ s.get (.link k
      .linkState) = 3) ∧
    (∃ (s : State) (k : Link) (b : EchoBody) (fwd back : ℤ), s.coreRuns = true ∧ s.domainOn 6 = true ∧ (s.echo k).exchange b = some (some
      (fwd, back)) ∧ s.get (.link k .linkState) = 3) ∧
    (∃ (s : State), s.coreRuns = true ∧ (s.get (.time .servoState) = 2 ∨ s.get (.time .servoState) = 3)) ∧
    (∃ (s : State), s.coreRuns = true ∧ s.boot.running = true ∧ s.get (.time .servoState) = 3) ∧
    (∃ (s : State), s.isTrue (.pps .ppsInEnable) = true ∧ s.unitHeld .time = false ∧ s.time.pll = true ∧ s.ppsValid = true ∧ s.get (.time
      .servoState) ≠ 0 ∧ nearEdge (ofSigned 32 ((s.now : Int) - s.getInt (.pps .ppsInOffset))) s.time.ppsNext = true) ∧
    (∃ (s : State), s.isTrue (.pps .ppsInEnable) = true ∧ s.unitHeld FaultUnit.time = false ∧ s.time.pll = true ∧ s.ppsValid = true ∧
      s.time.ppsMiss < 2 ∧ nearEdge (ofSigned 32 (↑s.now - s.getInt (.pps .ppsInOffset))) s.time.ppsNext = false) ∧
    (∃ (s : State), s.isTrue (.pps .ppsInEnable) = true ∧ s.ppsValid = true ∧ s.time.ppsMiss < 2) ∧
    (∃ (s : State), s.isTrue (.pps .ppsInEnable) = true ∧ s.ppsValid = true ∧ 2 ≤ s.time.ppsMiss) ∧
    (∃ (s : State), s.isTrue (.pps .ppsOutEnable) = true) ∧
    (∃ (s : State), s.time.ppsOut = true) :=
  ⟨⟨L 3, 3, by decide, by decide, by decide, by decide⟩,
    ⟨L 3, 3, ⟨0, 0, 0, 0, 0, 0, false, 0⟩, by decide⟩,
    ⟨L 6, 3, ⟨0, 0, 0, 0, 0, 0, false, 0⟩, by decide⟩,
    ⟨(L 3).setEcho 3 { last := some (0, 0) }, 3, ⟨1, 0, 0, 0, 0, 0, false, 0⟩, by decide⟩,
    ⟨(L 3).setEcho 3 { last := some (0, 0), sent := [(0, 0)] }, 3, ⟨1, 0, 0, 0, 0, 0, false, 0⟩, 0, 0, by decide⟩,
    ⟨R.set (.time .servoState) 2, by decide, by decide⟩,
    ⟨R.set (.time .servoState) 3, by decide, by decide, by decide⟩,
    ⟨(PPSIN.set (.time .servoState) 3), by decide, by decide, by decide, by decide, by decide, by decide⟩,
    ⟨{ PPSIN with time := { ppsNext := 1000000 } }, by decide⟩,
    ⟨PPSIN, by decide, by decide, by decide⟩,
    ⟨{ PPSIN with time := { ppsMiss := 2 } }, by decide, by decide, by decide⟩,
    ⟨R.set (.pps .ppsOutEnable) 1, by decide⟩,
    ⟨{ R with time := { ppsOut := true } }, by decide⟩⟩

theorem test_witness_CanTimeAndLaunches :
    (∃ (s : State) (late : Nat), s.coreRuns = true ∧ s.canRuns = true ∧ (s.get (.comm .cobIdTime)).testBit 30 = true ∧ s.get (.canTime
      .canTimePeriod) ≠ 0 ∧ s.get (.time .timeCivilAnchor) = 0 ∧ late ≤ 500000) ∧
    (∃ (s : State), s.coreRuns = true ∧ s.canRuns = true ∧ (s.get (.comm .cobIdTime)).testBit 31 = true ∧ (s.get (.comm .cobIdTime)).testBit
      30 = false ∧ s.alone = true) ∧
    (∃ (s : State), s.coreRuns = true ∧ s.canRuns = true ∧ (s.get (.comm .cobIdSync)).testBit 30 = true ∧ s.get (.comm .commCyclePeriod) ≠ 0
      ∧ s.get (.can .canState) = 127) ∧
    (∃ (s : State) (tag : Nat) (l : Launch) (p : Port) (a : Nat) (x : Xlate), s.coreRuns = true ∧ List.find? (fun l => decide (l.tag = tag))
      s.time.launches = some l ∧ l.running = false ∧ s.inWindow l = true ∧ s.launchFirst l = true ∧ s.place (imageOf l.image) l.port =
      Place.own p ∧ s.keeps (imageOf l.image) l.port = false ∧ s.deviceOn (imageOf l.image) l.port = some (a, x) ∧ s.get (.port p
      .portSpeed) = 3) ∧
    (∃ (s : State) (tag : Nat) (l : Launch) (p : Port) (a : Nat) (x : Xlate), s.coreRuns = true ∧ List.find? (fun l => decide (l.tag = tag))
      s.time.launches = some l ∧ l.running = false ∧ s.inWindow l = true ∧ s.launchFirst l = true ∧ s.place (imageOf l.image) l.port =
      Place.own p ∧ s.keeps (imageOf l.image) l.port = false ∧ s.deviceOn (imageOf l.image) l.port = some (a, x) ∧ s.get (.port p
      .portSpeed) ≠ 3 ∧ s.frameAllows p l.data.length = false) ∧
    (∃ (s : State) (tag : Nat) (l : Launch) (p : Port) (a : Nat) (x : Xlate), s.coreRuns = true ∧ List.find? (fun l => decide (l.tag = tag))
      s.time.launches = some l ∧ l.running = false ∧ s.inWindow l = true ∧ s.launchFirst l = true ∧ s.place (imageOf l.image) l.port =
      Place.own p ∧ s.keeps (imageOf l.image) l.port = false ∧ s.deviceOn (imageOf l.image) l.port = some (a, x) ∧ s.get (.port p
      .portSpeed) ≠ 3 ∧ s.frameAllows p l.data.length = true) ∧
    (∃ (s : State) (tag : Nat) (l : Launch) (p : Port), s.coreRuns = true ∧ List.find? (fun l => decide (l.tag = tag)) s.time.launches =
      some l ∧ l.running = false ∧ s.inWindow l = true ∧ s.launchFirst l = true ∧ s.place (imageOf l.image) l.port = Place.own p ∧ s.keeps
      (imageOf l.image) l.port = true ∧ s.get (.port p .portSpeed) = 3) ∧
    (∃ (s : State) (tag : Nat) (n : Fin 4) (x : Xact), s.coreRuns = true ∧ s.context n.val = some x ∧ x.who = .launch tag ∧ (∀ k, k < n.val
      → s.context k = none)) ∧
    (∃ (s : State) (tag : Nat) (l : Launch) (p : Port), s.coreRuns = true ∧ (∀ (n : ℕ), s.context n = none) ∧ List.find? (fun l => decide
      (l.tag = tag) && l.running) s.time.launches = some l ∧ s.place (imageOf l.image) l.port = Place.own p ∧ s.get (.port p .portSpeed) ≠
      3) ∧
    (∃ (s : State) (tag : Nat) (l : Launch), s.coreRuns = true ∧ List.find? (fun l => decide (l.tag = tag)) s.time.launches = some l ∧
      (l.running = false ∨ (s.waiting.any fun x => decide (x.who = Requester.launch tag)) = true) ∧ Option.any (fun a => decide (l.window *
      1000 ≤ a)) (s.launchAge l) = true) :=
  ⟨⟨(R.set (.comm .cobIdTime) (2 ^ 30)).set (.canTime .canTimePeriod) 9, 500000, by decide⟩,
    ⟨R.set (.comm .cobIdTime) (2 ^ 31), by decide⟩,
    ⟨(R.set (.comm .cobIdSync) (2 ^ 30)).set (.comm .commCyclePeriod) 9, by decide⟩,
    ⟨LST 3, 7, lau, 15, 5, ⟨5, 16, 3, false⟩, by decide⟩,
    ⟨LST 2, 7, lau, 15, 5, ⟨5, 16, 3, false⟩, by decide⟩,
    ⟨({ LST 2 with time := { launches := [{ lau with time := 950000 - 1000 }], ns := 950000 } }), 7, { lau with time := 950000 -
      1000 }, 15, 5, ⟨5, 16, 3, false⟩, by decide⟩,
    ⟨(((LST 3).set (.hold4 0 .holdoverState) 4).set (.hold4 0 .holdoverHeldPorts) (2 ^ 15)), 7, lau, 15, by decide⟩,
    ⟨R.setContext 3 (some xact0), 7, 3, xact0, by decide⟩,
    ⟨{ LST 2 with time := { launches := [{ lau with running := true }] } }, 7, { lau with running := true }, 15, by decide, fun n => rfl, by
      decide, by decide, by decide⟩,
    ⟨{ R with time := { launches := [lau], ns := 1000 } }, 7, lau, by decide⟩⟩

theorem test_witness_DoorCommands :
    (∃ (s : State) (facet : Nat) (tag : Nat) (idx : Nat) (sub : Nat) (offset : Nat) (len : Nat), s.coreRuns = true ∧ facet < 256 ∧ tag <
      65536 ∧ idx < 65536 ∧ sub < 256 ∧ offset < 2 ^ 32 ∧ len < 65536 ∧ s.doorReach .can = true) ∧
    (∃ (s : State) (facet tag : Nat) (w : RegWrite), s.coreRuns = true ∧ facet < 256 ∧ tag < 65536 ∧ w.index < 65536 ∧ w.sub < 256 ∧
      w.offset < 2 ^ 32 ∧ w.data.length ≤ 1024 ∧ s.doorReach Door.can = true ∧ (s.fresh.doorWrite (callerAt Door.can) w false).1 ≠ abWaits)
      ∧
    (∃ (s : State) (facet tag : Nat) (w : RegWrite), s.coreRuns = true ∧ facet < 256 ∧ tag < 65536 ∧ w.index < 65536 ∧ w.sub < 256 ∧
      w.offset < 2 ^ 32 ∧ w.data.length ≤ 1024 ∧ s.doorReach Door.can = true ∧ (s.fresh.doorWrite (callerAt Door.can) w false).1 = abWaits)
      ∧
    (∃ (s : State), s.coreRuns = true ∧ s.doorOpen .loc = false) ∧
    (∃ (s : State), s.coreRuns = true ∧ s.doorOpen .loc = true ∧ s.isTrue (.loc .locPec) = true) ∧
    (∃ (s : State) (b : List Byte), s.coreRuns = true ∧ s.doorOpen Door.loc = true ∧ s.doors.forwarded = [] ∧ s.doors.posted = [] ∧
      wellFormedCommand Door.loc b = true ∧ byteAt b 0 = 1 ∧ s.commandTarget b = none ∧ (({ R.fresh.cutReads .loc with doors := { R.doors
      with loc := none } }).execCommand (callerAt .loc) b []).1 ≠ abWaits) ∧
    (∃ (s : State), s.coreRuns = true ∧ s.doorOpen .loc = true ∧ s.doors.loc = none) ∧
    (∃ (s : State) (a : List Byte), s.coreRuns = true ∧ s.doorOpen .loc = true ∧ s.doors.loc = some a) ∧
    (∃ (s : State) (k : Link) (h : FrameHdr) (origin : Door) (b remote : List Byte) (r : State), s.coreRuns = true ∧ s.domainOn 6 = true ∧
      s.fresh.receive k h 7 (RingBody.door origin (DoorBody.command b)) = (true, r) ∧ r.domainOn 1 = true ∧ r.faults.safeRun = false ∧ (∀ e
      ∈ r.ring.doorSeen, e.1 ≠ h.src ∨ e.2.1 ≠ h.tag) ∧ (r.serveRing k h origin b remote).1 ≠ abWaits) ∧
    (∃ (s : State) (k : Link) (h : FrameHdr) (origin : Door) (b remote : List Byte) (r : State), s.coreRuns = true ∧ s.domainOn 6 = true ∧
      s.fresh.receive k h 7 (RingBody.door origin (DoorBody.command b)) = (true, r) ∧ r.domainOn 1 = true ∧ r.faults.safeRun = false ∧ (∀ e
      ∈ r.ring.doorSeen, e.1 ≠ h.src ∨ e.2.1 ≠ h.tag) ∧ (r.serveRing k h origin b remote).1 = abWaits) ∧
    (∃ (s : State) (k : Link) (h : FrameHdr) (origin : Door) (b : List Byte) (r : State) (e : Nat × Nat × List Byte), s.coreRuns = true ∧
      s.domainOn 6 = true ∧ s.fresh.receive k h 7 (.door origin (.command b)) = (true, r) ∧ r.domainOn 1 = true ∧ r.faults.safeRun = false ∧
      (r.ring.doorSeen.find? fun e => e.1 == h.src && e.2.1 == h.tag) = some e) ∧
    (∃ (s : State) (d : Door) (f : Forward), s.coreRuns = true ∧ (∀ (e : Door), (s.session e).opening = none) ∧ List.find? (fun f => f.door
      == d && f.tag.isSome) s.doors.forwarded = some f) ∧
    (∃ (s : State) (d e : Door) (tag : Nat), s.coreRuns = true ∧ (s.session e).opening = some (tag, OpenBy.verdict d) ∧ (∀ (c : Door), c ≠ e
      → (s.session c).opening = none)) ∧
    (∃ (s : State) (u : Upstream) (f : Fn) (b : List Byte) (rest : List (List Byte)), s.coreRuns = true ∧ s.mgmtFn u = some f ∧ (s.fnDev
      f).config = 1 ∧ (s.fnDev f).halted.testBit (haltBit 0x82) = false ∧ (s.up u).lost = 0 ∧ (s.up u).notes = b :: rest) :=
  ⟨⟨R, 255, 65535, 65535, 255, 4294967295, 65535, by decide, by decide, by decide, by decide, by decide, by decide, by decide, by decide⟩,
    ⟨R, 255, 65535, ⟨65535,255,0,[1]⟩, by decide⟩,
    ⟨(M.set (.session .can .sessionFacet) 1), 255, 65535, ⟨0x2C08 + Door.can.num, 3, 0, [1]⟩, by decide⟩,
    ⟨{ R with straps := 0 }, by decide, by decide⟩,
    ⟨R.set (.loc .locPec) 1, by decide, by decide, by decide⟩,
    ⟨R, [1,0xFF,0,0,0x10,0,0,0,0,0,0,0,0,0,0,0], by decide, by decide, by decide, by decide, by decide, by decide, by decide, by decide⟩,
    ⟨R, by decide, by decide, by decide⟩,
    ⟨{ R with doors := { loc := some [1] } }, [1], by decide, by decide, by decide⟩,
    ⟨M, 3, hd 16, Door.can, [1,0xFF,0,0,0x10,0,0,0,0,0,0,0,0,0,0,0], [], _, by decide, by decide, Prod.ext (by decide) rfl, by decide, by
      decide, by decide, by decide⟩,
    ⟨M.set (.session .ring .sessionFacet) 1, 3, hd 17, Door.can, ([2,0xFF,0,0,0x2C,0x0C,3,0,0,0,0,0,0,1,0,0] ++ [1]), [], _, by decide, by
      decide, Prod.ext (by decide) rfl, by decide, by decide, by decide, by decide⟩,
    ⟨M.modRing fun r => { r with doorSeen := [(1, 0, [])] }, 3, hd 16, Door.can, [1,0xFF,0,0,0x10,0,0,0,0,0,0,0,0,0,0,0], _, (1, 0, []), by
      decide, by decide, Prod.ext (by decide) rfl, by decide, by decide, by decide⟩,
    ⟨{ R with doors := { forwarded := [⟨.loc, some 3, true, []⟩] } }, Door.loc, ⟨.loc, some 3, true, []⟩, by decide, fun e => by cases e <;>
      rfl, by decide⟩,
    ⟨R.modSession .can fun x => { x with opening := some (5, .verdict .loc) }, .loc, .can, 5, by decide, by decide, fun c _ => by cases c
      <;> first | contradiction | rfl⟩,
    ⟨EM.modUp .UA fun x => { x with notes := [[1]] }, Upstream.UA, (Fn.emb 0), [1], [], by decide, by decide, by decide, by decide, by
      decide, by decide⟩⟩

theorem test_witness_CanCommands :
    (∃ (s : State) (idx sub : Nat) (remote : List Byte), s.coreRuns = true ∧ s.sdoServes = true ∧ (s.fresh.endSdo.doorRead (callerAt
      Door.can) idx sub (s.get (.can .sdoReadStaged) == 1) (s.sdoOffset idx sub) 0 1024 remote).1 = 0 ∧ 0 < (canOrder idx sub
      (s.fresh.endSdo.doorRead (callerAt Door.can) idx sub (s.get (.can .sdoReadStaged) == 1) (s.sdoOffset idx sub) 0 1024
      remote).2.1).length ∧ (canOrder idx sub (s.fresh.endSdo.doorRead (callerAt Door.can) idx sub (s.get (.can .sdoReadStaged) == 1)
      (s.sdoOffset idx sub) 0 1024 remote).2.1).length ≤ 4) ∧
    (∃ (s : State) (idx sub : Nat) (remote : List Byte), s.coreRuns = true ∧ s.sdoServes = true ∧ (s.fresh.endSdo.doorRead (callerAt
      Door.can) idx sub (s.get (.can .sdoReadStaged) == 1) (s.sdoOffset idx sub) 0 1024 remote).1 = 0 ∧ 4 < (canOrder idx sub
      (s.fresh.endSdo.doorRead (callerAt Door.can) idx sub (s.get (.can .sdoReadStaged) == 1) (s.sdoOffset idx sub) 0 1024
      remote).2.1).length) ∧
    (∃ (s : State) (idx sub : Nat) (b : List Byte), s.coreRuns = true ∧ s.sdoServes = true ∧ (s.fresh.endSdo.sdoWrite idx sub (List.take 4
      b)).1 = 0) ∧
    (∃ (s : State) (idx sub : Nat) (b : List Byte), s.coreRuns = true ∧ s.sdoServes = true ∧ (s.fresh.endSdo.sdoWrite idx sub (List.take 4
      b)).1 ≠ 0 ∧ (s.fresh.endSdo.sdoWrite idx sub (List.take 4 b)).1 ≠ abWaits) ∧
    (∃ (s : State) (idx sub : Nat) (b : List Byte), s.coreRuns = true ∧ s.sdoServes = true ∧ (s.fresh.endSdo.sdoWrite idx sub (List.take 4
      b)).1 = abWaits) ∧
    (∃ (s : State), s.coreRuns = true ∧ s.sdoServes = true ∧ s.sdoTakes = true) ∧
    (∃ (s : State) (x : SdoRt), s.coreRuns = true ∧ s.sdoServes = true ∧ s.sdoTakes = true ∧ s.doors.sdo = some x ∧ x.download = false ∧
      x.done + 7 < x.data.length) ∧
    (∃ (s : State) (x : SdoRt), s.coreRuns = true ∧ s.sdoServes = true ∧ s.sdoTakes = true ∧ s.doors.sdo = some x ∧ x.download = false ∧
      x.data.length ≤ x.done + 7) ∧
    (∃ (s : State) (x : SdoRt) (toggle : Bool), s.coreRuns = true ∧ s.sdoServes = true ∧ s.sdoTakes = true ∧ s.doors.sdo = some x ∧
      x.download = true ∧ x.toggle = toggle) ∧
    (∃ (s : State) (x : SdoRt) (b : List Byte), s.coreRuns = true ∧ s.sdoServes = true ∧ s.sdoTakes = true ∧ s.doors.sdo = some x ∧
      x.download = true ∧ (s.fresh.sdoWrite x.index x.sub (x.data ++ List.take 7 b)).1 = 0) ∧
    (∃ (s : State) (x : SdoRt), s.coreRuns = true ∧ s.sdoServes = true ∧ s.sdoTakes = false ∧ s.doors.sdo = some x) ∧
    (∃ (s : State) (x : SdoRt) (toggle : Bool), s.coreRuns = true ∧ s.sdoServes = true ∧ s.sdoTakes = true ∧ s.doors.sdo = some x ∧
      x.download = false ∧ x.toggle = toggle) ∧
    (∃ (s : State) (idx sub : Nat) (remote : List Byte), s.coreRuns = true ∧ s.sdoServes = true ∧ (s.fresh.doorRead (callerAt .can) idx sub
      (s.get (.can .sdoReadStaged) == 1) (s.sdoOffset idx sub) 0 1024 remote).1 = 0 ∧ 0 < (s.fresh.doorRead (callerAt .can) idx sub (s.get
      (.can .sdoReadStaged) == 1) (s.sdoOffset idx sub) 0 1024 remote).2.1.length ∧ (s.fresh.doorRead (callerAt .can) idx sub (s.get (.can
      .sdoReadStaged) == 1) (s.sdoOffset idx sub) 0 1024 remote).2.1.length ≤ 4) ∧
    (∃ (s : State) (node : Nat), s.coreRuns = true ∧ s.nmtServes node = true) ∧
    (∃ (s : State), s.coreRuns = true ∧ s.nmtServes 0 = true ∧ s.get (.comm .heartbeatTime) ≠ 0) ∧
    (∃ (s : State) (r : Fin 4), s.coreRuns = true ∧ s.operational = true ∧ (s.get (.rpdo r .cobId)).testBit 31 = false ∧ s.doorOpen .can =
      true ∧ s.get (.rpdo r .transType) ≤ 240) ∧
    (∃ (s : State) (r : Fin 4), s.coreRuns = true ∧ s.operational = true ∧ (s.get (.rpdo r .cobId)).testBit 31 = false ∧ s.doorOpen .can =
      true ∧ 240 < s.get (.rpdo r .transType)) ∧
    (∃ (s : State) (t : Fin 8), s.coreRuns = true ∧ s.operational = true ∧ (s.get (.tpdo t .cobId)).testBit 31 = false ∧ s.get (.tpdo t
      .transType) = 0) ∧
    (∃ (s : State) (t : Fin 8), s.coreRuns = true ∧ s.operational = true ∧ (s.get (.tpdo t .cobId)).testBit 31 = false ∧ 240 < s.get (.tpdo
      t .transType) ∧ (∀ e ∈ s.doors.tpdoTimes, e.1 ≠ t.val)) :=
  ⟨⟨R, 0x1001, 0, [], by decide⟩,
    ⟨R, 0x1008, 0, [], by decide⟩,
    ⟨R, 0x1017, 0, [0, 0], by decide⟩,
    ⟨R, 0x1001, 0, [1], by decide⟩,
    ⟨M.set (.session .can .sessionFacet) 1, 0x2C08 + Door.can.num, 3, [1], by decide⟩,
    ⟨R, by decide⟩,
    ⟨{ R with doors := { sdo := some ⟨0x1000, 0, false, false, [1, 2, 3, 4, 5, 6, 7, 8], 0⟩ } }, ⟨0x1000, 0, false, false, [1, 2, 3, 4, 5,
      6, 7, 8], 0⟩, by decide⟩,
    ⟨{ R with doors := { sdo := some ⟨0x1000, 0, false, false, [1], 0⟩ } }, ⟨0x1000, 0, false, false, [1], 0⟩, by decide⟩,
    ⟨{ R with doors := { sdo := some ⟨0x1000, 0, true, false, [1], 0⟩ } }, ⟨0x1000, 0, true, false, [1], 0⟩, false, by decide⟩,
    ⟨{ R with doors := { sdo := some ⟨0x1017, 0, true, false, [], 0⟩ } }, ⟨0x1017, 0, true, false, [], 0⟩, [0, 0], by decide⟩,
    ⟨{ R with boot := { resetBoot with running := false }, doors := { sdo := some ⟨0x1000, 0, true, false, [1], 0⟩ } }, ⟨0x1000, 0, true,
      false, [1], 0⟩, by decide⟩,
    ⟨{ R with doors := { sdo := some ⟨0x1000, 0, false, false, [1], 0⟩ } }, ⟨0x1000, 0, false, false, [1], 0⟩, false, by decide⟩,
    ⟨R, 0x1001, 0, [], by decide⟩,
    ⟨R, 0, by decide⟩,
    ⟨R.set (.comm .heartbeatTime) 5, by decide⟩,
    ⟨(OP.set (.rpdo 3 .cobId) 0x203).set (.rpdo 3 .transType) 240, 3, by decide⟩,
    ⟨(OP.set (.rpdo 3 .cobId) 0x203).set (.rpdo 3 .transType) 254, 3, by decide⟩,
    ⟨(OP.set (.tpdo 7 .cobId) 0x203).set (.tpdo 7 .transType) 0, 7, by decide⟩,
    ⟨(OP.set (.tpdo 7 .cobId) 0x203).set (.tpdo 7 .transType) 255, 7, by decide⟩⟩

theorem test_witness_PdDelivery :
    (∃ (s : State) (p : Port) (h : PdHdr) (typ : Nat) (fits crossed : Bool) (w : State), s.pdReady p = true ∧ s.lens.armed = false ∧
      crossed = (h.crossed && (s.tc p).sent.isSome && (s.rev2 p || decide (h.rev < 2))) ∧ w = (if crossed then s.withdrawTx p else s.ackTx
      p) ∧       (w.tc p).lastId = some h.id ∧ typ ≠ 13) ∧
    (∃ (s : State) (p : Port) (h : PdHdr) (typ : Nat) (fits crossed : Bool) (w : State), s.pdReady p = true ∧ s.lens.armed = false ∧
      crossed = (h.crossed && (s.tc p).sent.isSome && (s.rev2 p || decide (h.rev < 2))) ∧ w = (if crossed then s.withdrawTx p else s.ackTx
      p) ∧       (w.tc p).lastId ≠ some h.id ∧ w.policy = true ∧ (w.tc p).fallback = false ∧ (w.tc p).hardStage = 0 ∧ (w.tc p).trans ≠ none)
      ∧
    (∃ (s : State) (p : Port) (h : PdHdr) (typ : Nat) (fits crossed : Bool) (w : State), s.pdReady p = true ∧ s.lens.armed = false ∧
      crossed = (h.crossed && (s.tc p).sent.isSome && (s.rev2 p || decide (h.rev < 2))) ∧ w = (if crossed then s.withdrawTx p else s.ackTx
      p) ∧       (w.tc p).lastId ≠ some h.id ∧ w.policy = true ∧ (w.tc p).fallback = false ∧ (w.tc p).hardStage = 0 ∧ (w.tc p).trans = none
      ∧ ((w.tc p).window = true ∨ crossed = true)) ∧
    (∃ (s : State) (p : Port) (h : PdHdr) (typ : Nat) (fits crossed : Bool) (w : State), s.pdReady p = true ∧ s.lens.armed = false ∧
      crossed = (h.crossed && (s.tc p).sent.isSome && (s.rev2 p || decide (h.rev < 2))) ∧ w = (if crossed then s.withdrawTx p else s.ackTx
      p) ∧       (w.tc p).lastId ≠ some h.id ∧ w.policy = true ∧ (w.tc p).fallback = false ∧ (w.tc p).hardStage = 0 ∧ (w.tc p).trans = none
      ∧ (w.tc p).window = false ∧ crossed = false ∧ (w.tc p).await ≠ .nothing ∧ fits = false ∧ typ ≠ 13) ∧
    (∃ (s : State) (p : Port) (h : PdHdr) (typ : Nat) (fits crossed : Bool) (w : State), s.pdReady p = true ∧ s.lens.armed = false ∧
      crossed = (h.crossed && (s.tc p).sent.isSome && (s.rev2 p || decide (h.rev < 2))) ∧ w = (if crossed then s.withdrawTx p else s.ackTx
      p) ∧       (w.tc p).lastId ≠ some h.id ∧ w.policy = true ∧ (w.tc p).fallback = false ∧ (w.tc p).hardStage = 0 ∧ (w.tc p).trans = none
      ∧ (w.tc p).window = false ∧ crossed = false ∧ ((w.tc p).await = .nothing ∨ fits = true ∨ typ = 13)) :=
  ⟨⟨PS.modTc 15 fun x => { x with lastId := some 2 }, 15, H0, 7, false, false, _, by decide, by decide, by decide, rfl, by decide, by
      decide⟩,
    ⟨PS.modTc 15 fun x => { x with trans := some ⟨0,0,0,false,0,false⟩ }, 15, H0, 7, false, false, _, by decide, by decide, by decide, rfl,
      by decide, by decide, by decide, by decide, by decide⟩,
    ⟨PS.modTc 15 fun x => { x with window := true }, 15, H0, 7, false, false, _, by decide, by decide, by decide, rfl, by decide, by decide,
      by decide, by decide, by decide, by decide⟩,
    ⟨PS.modTc 15 fun x => { x with await := .request }, 15, H0, 7, false, false, _, by decide, by decide, by decide, rfl, by decide, by
      decide, by decide, by decide, by decide, by decide, by decide, by decide, by decide, by decide⟩,
    ⟨PS, 15, H0, 7, false, false, _, by decide, by decide, by decide, rfl, by decide, by decide, by decide, by decide, by decide, by decide,
      by decide, by decide⟩⟩

theorem test_witness_TypecEvents :
    (∃ (s : State) (p : Port), s.ccRuns p = true ∧ s.unattached p = true ∧ (s.tc p).attach = none ∧ (s.tc p).trying ≠ 2 ∧ s.isTrue (.pd
      .moistureEnable) = false) ∧
    (∃ (s : State) (p : Port), s.ccRuns p = true ∧ s.unattached p = true ∧ (s.tc p).attach = none ∧ (s.tc p).trying ≠ 2 ∧ (s.tc p).backfed =
      false) ∧
    (∃ (s : State) (p : Port), s.ccRuns p = true ∧ s.unattached p = true ∧ (s.tc p).attach = none ∧ s.get (.tc p .tcRoleMode) = 1 ∧ (s.tc
      p).trying = 0) ∧
    (∃ (s : State) (p : Port), s.ccRuns p = true ∧ s.get (.tc p .tcRoleMode) = 1 ∧ s.get (.tc p .tcState) = 2 ∧ (s.tc p).trying = 1 ∧ (s.tc
      p).attach = none) ∧
    (∃ (s : State) (p : Port), s.ccRuns p = true ∧ s.unattached p = true ∧ (s.tc p).attach = none ∧ s.get (.tc p .tcRoleMode) = 1 ∧ (s.tc
      p).trying = 2) ∧
    (∃ (s : State) (p : Port), (s.tc p).attach = none ∧ s.get (.tc p .tcState) = 3) ∧
    (∃ (s : State) (p : Port), s.get (.tc p .tcState) = 4) ∧
    (∃ (s : State) (p : Port) (mw : Nat), (s.tc p).lowerTo = some mw) ∧
    (∃ (s : State) (p : Port), s.ccRuns p = true ∧ s.get (.tc p .tcState) = 1 ∧ s.get (.tc p .tcRoleMode) = 1 ∧ (s.tc p).measuring = false)
      ∧
    (∃ (s : State) (p : Port), s.get (.tc p .tcState) = 6 ∧ (s.tc p).recovery = false) ∧
    (∃ (s : State) (p : Port), (s.tc p).recovery = true) ∧
    (∃ (s : State) (p : Port), s.ccRuns p = true ∧ s.isTrue (.pd .moistureEnable) = true ∧ (s.get (.tc p .tcState) = 1 ∨ s.get (.tc p
      .tcState) = 5)) ∧
    (∃ (s : State) (p : Port) (z : List Nat), (s.tc p).measuring = true ∧ (s.tc p).attach = none ∧ s.get (.tc p .tcState) = 1 ∧ s.wetReading
      z = true) ∧
    (∃ (s : State) (p : Port) (z : List Nat), (s.tc p).measuring = true ∧ (s.tc p).attach = none ∧ s.get (.tc p .tcState) = 5 ∧ s.wetReading
      z = false ∧ 2 ≤ (s.tc p).dryRun) ∧
    (∃ (s : State) (p : Port) (z : List Nat) (pin : Nat) (ra : Bool), (s.tc p).measuring = true ∧ (s.tc p).attach = some (pin, ra) ∧
      s.wetReading z = false) :=
  ⟨⟨(R.set (.tc 15 .tcState) 1).set (.pd .moistureEnable) 0, 15, by decide⟩,
    ⟨(R.set (.tc 15 .tcState) 1), 15, by decide⟩,
    ⟨(R.set (.tc 15 .tcState) 1).set (.tc 15 .tcRoleMode) 1, 15, by decide⟩,
    ⟨((R.set (.tc 15 .tcState) 2).set (.tc 15 .tcRoleMode) 1).modTc 15 fun x => { x with trying := 1 }, 15, by decide⟩,
    ⟨((R.set (.tc 15 .tcState) 1).set (.tc 15 .tcRoleMode) 1).modTc 15 fun x => { x with trying := 2 }, 15, by decide⟩,
    ⟨R.set (.tc 15 .tcState) 3, 15, by decide, by decide⟩,
    ⟨R.set (.tc 15 .tcState) 4, 15, by decide⟩,
    ⟨(R.set (.tc 15 .tcState) 3).modTc 15 fun x => { x with lowerTo := some 7500 }, 15, 7500, by decide⟩,
    ⟨(R.set (.tc 15 .tcState) 1).set (.tc 15 .tcRoleMode) 1, 15, by decide, by decide, by decide, by decide⟩,
    ⟨R.set (.tc 15 .tcState) 6, 15, by decide, by decide⟩,
    ⟨(R.set (.tc 15 .tcState) 6).modTc 15 fun x => { x with recovery := true }, 15, by decide⟩,
    ⟨(R.set (.tc 15 .tcState) 1).set (.pd .moistureEnable) 1, 15, by decide, by decide, by decide⟩,
    ⟨(R.set (.tc 15 .tcState) 1).modTc 15 fun x => { x with measuring := true }, 15, [0,0,0,0], by decide, by decide, by decide, by decide⟩,
    ⟨(R.set (.tc 15 .tcState) 5).modTc 15 fun x => { x with measuring := true, dryRun := 2 }, 15,
      [4000000000,4000000000,4000000000,4000000000], by decide, by decide, by decide, by decide, by decide⟩,
    ⟨(R.set (.tc 15 .tcState) 2).modTc 15 fun x => { x with measuring := true, attach := some (1, false) }, 15,
      [4000000000,4000000000,4000000000,4000000000], 1, false, by decide, by decide, by decide⟩⟩

theorem test_witness_PdContracts :
    (∃ (s : State) (p : Port), (s.tc p).vconn = true ∧ (s.tc p).await ≠ Await.cable ∧ ((s.tc p).cable5A = false ∨ (s.tc p).vconnOut = true))
      ∧
    (∃ (s : State) (p : Port), (s.tc p).vconn = true ∧ (s.tc p).await ≠ Await.cable ∧ (s.tc p).cable5A = true ∧ (s.tc p).vconnOut = false) ∧
    (∃ (s : State) (p : Port), s.pdReady p = true ∧ s.policy = true ∧ (s.tc p).source = true ∧ (s.tc p).nonPd = false ∧ s.shed p = false ∧
      (s.tc p).hardStage = 0 ∧ (s.tc p).trans = none ∧ (s.tc p).swap = 0 ∧ s.get (.chan (chanOf p) .brkState) = 2 ∧ (s.tc p).explicit =
      false ∧ (s.tc p).caps < 50) ∧
    (∃ (s : State) (p : Port), s.pdReady p = true ∧ s.policy = true ∧ (s.tc p).source = true ∧ (s.tc p).vconn = true ∧ (s.tc p).cableKnown =
      false ∧ (s.tc p).hardStage = 0 ∧ (s.tc p).trans = none ∧ (s.tc p).explicit = false ∧ (s.tc p).cableTries < 4 ∧ (s.tc p).caps = 0) ∧
    (∃ (s : State) (p : Port) (a : CableAnswer), s.pdReady p = true ∧ (s.tc p).vconn = true ∧ (s.tc p).sent = none ∧ (s.tc p).lastIdP = some
      a.id) ∧
    (∃ (s : State) (p : Port) (a : CableAnswer), s.pdReady p = true ∧ (s.tc p).vconn = true ∧ (s.tc p).sent = none ∧ (s.tc p).lastIdP ≠ some
      a.id ∧ (s.tc p).cableKnown = false ∧ (s.tc p).cableTries ≠ 0 ∧ (s.tc p).explicit = false ∧ (s.tc p).await ≠ Await.cable) ∧
    (∃ (s : State) (p : Port) (h : PdHdr) (t : State) (rdo obj mv ma mw : Nat) (pps : Bool), s.fresh.Serves p h 2 [rdo] false ((s.tc
      p).await == Await.request) t ∧ (t.tc p).source = true ∧ t.shed p = false ∧ t.shedDue = false ∧ t.requestedObject p rdo = some obj ∧
      requestFits obj rdo = true ∧ obj / 2 ^ 30 ≠ 3 ∧ t.unitHeld FaultUnit.pmb = false ∧ requestOf obj rdo = (mv, ma, mw, pps)) ∧
    (∃ (s : State) (p : Port) (h : PdHdr) (t : State) (rdo : Nat), s.fresh.Serves p h 2 [rdo] false ((s.tc p).await == Await.request) t ∧
      (t.tc p).source = true ∧ t.shed p = false ∧ t.shedDue = true ∧ t.cmdShedDelayExpiry.shed p = true) ∧
    (∃ (s : State) (p : Port) (h : PdHdr) (t : State) (rdo : Nat), s.fresh.Serves p h 2 [rdo] false ((s.tc p).await == Await.request) t ∧
      (t.tc p).source = true ∧ t.shed p = false ∧ t.shedDue = false ∧ t.requestedObject p rdo = none) ∧
    (∃ (s : State) (p : Port) (x : TransRt), (s.tc p).trans = some x ∧ x.written = false ∧ x.pps = false ∧ (s.tc p).sent = none ∧ s.time.pll
      = true) ∧
    (∃ (s : State) (p : Port) (r : RegPoll), s.hasPort p = true ∧ s.domainOn 5 = true ∧ s.policy = true ∧ (s.tc p).recovery = false ∧ (s.tc
      p).trans = none ∧ inRegWindow (s.tc p).mv r.mv = false) ∧
    (∃ (s : State) (p : Port) (r : RegPoll), s.hasPort p = true ∧ s.domainOn 5 = true ∧ s.policy = true ∧ (s.tc p).recovery = false ∧ (s.tc
      p).trans = none ∧ inRegWindow (s.tc p).mv r.mv = true) ∧
    (∃ (s : State) (p : Port) (r : RegPoll) (x : TransRt), s.hasPort p = true ∧ s.domainOn 5 = true ∧ s.policy = true ∧ s.time.pll = true ∧
      (s.tc p).recovery = false ∧ (s.tc p).trans = some x ∧ x.written = true ∧ r.good = true ∧ inRegWindow (s.tc p).mv r.mv = true) ∧
    (∃ (s : State) (p : Port) (x : TransRt), (s.tc p).trans = some x ∧ x.written = true) ∧
    (∃ (s : State) (p : Port), (s.tc p).explicit = true ∧ (s.tc p).source = true ∧ (s.tc p).trans = none) ∧
    (∃ (s : State) (p : Port), (s.tc p).explicit = true ∧ (s.tc p).pps = true ∧ (s.tc p).trans = none ∧ s.policy = true) :=
  ⟨⟨PS.modTc 15 fun x => { x with vconn := true }, 15, by decide⟩,
    ⟨PS.modTc 15 fun x => { x with vconn := true, cable5A := true }, 15, by decide⟩,
    ⟨PS.set (.chan (chanOf 15) .brkState) 2, 15, by decide, by decide, by decide, by decide, by decide, by decide, by decide, by decide, by
      decide, by decide, by decide⟩,
    ⟨PS.modTc 15 fun x => { x with vconn := true }, 15, by decide, by decide, by decide, by decide, by decide, by decide, by decide, by
      decide, by decide, by decide⟩,
    ⟨PS.modTc 15 fun x => { x with vconn := true, lastIdP := some 2 }, 15, ⟨true, 2⟩, by decide⟩,
    ⟨PS.modTc 15 fun x => { x with vconn := true, cableTries := 1 }, 15, ⟨true, 2⟩, by decide⟩,
    ⟨PS.modTc 15 fun x => { x with offered := [0x0001912C] }, 15, H0, _, 0x10019064, 0x0001912C, 5000, 6000, 5000, false, fun _ => rfl, by
      decide, by decide, by decide, by decide, by decide, by decide, by decide, by decide⟩,
    ⟨{ PS.set (.tc 15 .pdAllocation) 15000 with path := { overFrom := some 0 }, time := { elapsed := 10 ^ 14 } }, 15, H0, _, 0x10019064,
      fun _ => rfl, by decide, by decide, by decide, by decide⟩,
    ⟨PS, 15, H0, _, 0x10019064, fun _ => rfl, by decide, by decide, by decide, by decide⟩,
    ⟨PS.modTc 15 fun x => { x with trans := some ⟨0,0,0,false,0,false⟩ }, 15, ⟨0,0,0,false,0,false⟩, by decide⟩,
    ⟨PS, 15, ⟨true, 0, 0, false⟩, by decide⟩,
    ⟨PS, 15, ⟨true, 5000, 0, false⟩, by decide⟩,
    ⟨PS.modTc 15 fun x => { x with trans := some ⟨0,0,0,false,0,true⟩ }, 15, ⟨true, 5000, 0, false⟩, ⟨0,0,0,false,0,true⟩, by decide⟩,
    ⟨PS.modTc 15 fun x => { x with trans := some ⟨0,0,0,false,0,true⟩ }, 15, ⟨0,0,0,false,0,true⟩, by decide, by decide⟩,
    ⟨PS.modTc 15 fun x => { x with explicit := true }, 15, by decide, by decide, by decide⟩,
    ⟨PS.modTc 15 fun x => { x with explicit := true, pps := true }, 15, by decide, by decide, by decide, by decide⟩⟩

theorem test_witness_PdAnswers :
    (∃ (s : State) (p : Port) (h : PdHdr) (t : State), s.fresh.Serves p h 7 [] false false t) ∧
    (∃ (s : State) (p : Port) (h : PdHdr) (t : State), s.fresh.Serves p h 8 [] false false t) ∧
    (∃ (s : State) (p : Port) (h : PdHdr) (t : State) (objects : List Nat), s.fresh.Serves p h 4 objects false ((s.tc p).await == .sinkCaps)
      t ∧ (t.tc p).await = .sinkCaps) ∧
    (∃ (s : State) (p : Port) (h : PdHdr) (t : State), s.fresh.Serves p h 13 [] false true t) ∧
    (∃ (s : State) (p : Port) (h : PdHdr) (t : State), s.fresh.Serves p h 3 [] false ((s.tc p).await == .softAccept || (s.tc p).await ==
      .accept) t ∧ (t.tc p).await = .accept) ∧
    (∃ (s : State) (p : Port) (h : PdHdr) (t : State) (objects : List Nat), s.fresh.Serves p h 1 objects false false t ∧ (t.tc p).source =
      false) ∧
    (∃ (s : State) (p : Port) (h : PdHdr) (t : State), s.fresh.Serves p h 18 [] false false t ∧ t.rev2 p = false) ∧
    (∃ (s : State) (p : Port) (h : PdHdr) (t : State), s.fresh.Serves p h 20 [] false false t ∧ (t.tc p).pps = false) ∧
    (∃ (s : State) (p : Port) (h : PdHdr) (t : State), s.fresh.Serves p h 20 [] false false t ∧ (t.tc p).explicit = true ∧ (t.tc p).pps =
      true ∧ t.rev2 p = false) ∧
    (∃ (s : State) (p : Port) (h : PdHdr) (t : State), s.fresh.Serves p h 24 [] false false t) ∧
    (∃ (s : State) (p : Port) (h : PdHdr) (t : State), s.fresh.Serves p h 22 [] false false t ∧ (t.tc p).source = true) ∧
    (∃ (s : State) (p : Port) (h : PdHdr) (t : State), s.fresh.Serves p h 31 [] false false t) ∧
    (∃ (s : State) (p : Port) (h : PdHdr) (t : State), s.fresh.Serves p h 1 [] true false t) ∧
    (∃ (s : State) (p : Port) (h : PdHdr) (t : State), s.fresh.Serves p h 3 [] false false t ∧ (t.tc p).mv = 5000) ∧
    (∃ (s : State) (p : Port) (h : PdHdr) (t : State), s.fresh.Serves p h 3 [] false false t ∧ (t.tc p).mv ≠ 5000) ∧
    (∃ (s : State) (p : Port) (h : PdHdr) (t : State), s.fresh.Serves p h 6 [] false true t) ∧
    (∃ (s : State) (p : Port) (h : PdHdr) (t : State), s.fresh.Serves p h 16 [] false true t ∧ (s.tc p).await = .sinkCaps) ∧
    (∃ (s : State) (p : Port), s.pdReady p = true) :=
  ⟨⟨PS, 15, H0, _, fun _ => rfl⟩,
    ⟨PS, 15, H0, _, fun _ => rfl⟩,
    ⟨PS.modTc 15 fun x => { x with await := .sinkCaps }, 15, H0, _, [], fun _ => rfl, by decide⟩,
    ⟨PS, 15, H0, _, fun _ => rfl⟩,
    ⟨PS.modTc 15 fun x => { x with await := .accept }, 15, H0, _, fun _ => rfl, by decide⟩,
    ⟨R.set (.tc 15 .tcState) 4, 15, H0, _, [], fun _ => rfl, by decide⟩,
    ⟨PS, 15, { rev := 2, id := 2 }, _, fun _ => rfl, by decide⟩,
    ⟨PS, 15, H0, _, fun _ => rfl, by decide⟩,
    ⟨PS.modTc 15 fun x => { x with explicit := true, pps := true }, 15, { rev := 2, id :=
      2 }, _, fun _ => rfl, by decide, by decide, by decide⟩,
    ⟨PS, 15, H0, _, fun _ => rfl⟩,
    ⟨PS, 15, H0, _, fun _ => rfl, by decide⟩,
    ⟨PS, 15, H0, _, fun _ => rfl⟩,
    ⟨PS, 15, { rev := 1, id := 2 }, _, fun _ => rfl⟩,
    ⟨PS, 15, H0, _, fun _ => rfl, by decide⟩,
    ⟨PS.modTc 15 fun x => { x with mv := 9000 }, 15, H0, _, fun _ => rfl, by decide⟩,
    ⟨PS, 15, H0, _, fun _ => rfl⟩,
    ⟨PS.modTc 15 fun x => { x with await := .sinkCaps }, 15, H0, _, fun _ => rfl, by decide⟩,
    ⟨PS, 15, by decide⟩⟩

theorem test_witness_PdSwapsAndResets :
    (∃ (s : State) (p : Port) (h : PdHdr) (t : State), s.fresh.Serves p h 9 [] false false t) ∧
    (∃ (s : State) (p : Port) (h : PdHdr) (t : State), s.fresh.Serves p h 19 [] false false t) ∧
    (∃ (s : State) (p : Port) (h : PdHdr) (t : State), s.fresh.Serves p h 10 [] false false t ∧ (t.tc p).source = true ∧ t.swapRefusal p =
      0) ∧
    (∃ (s : State) (p : Port) (h : PdHdr) (t : State), s.fresh.Serves p h 10 [] false false t ∧ (t.tc p).source = true ∧ t.swapRefusal p ≠
      0) ∧
    (∃ (s : State) (p : Port), (s.tc p).swap = 1 ∧ s.time.pll = true) ∧
    (∃ (s : State) (p : Port), (s.tc p).swap = 2 ∧ s.time.pll = true) ∧
    (∃ (s : State) (p : Port) (h : PdHdr) (t : State), s.fresh.Serves p h 6 [] false ((s.tc p).await == .psRdy) t ∧ (s.tc p).vswap = 0 ∧
      (s.tc p).swap = 3) ∧
    (∃ (s : State) (p : Port), s.time.pll = true ∧ (s.tc p).swap = 3) ∧
    (∃ (s : State) (p : Port), (s.tc p).detectOff = true ∧ (s.tc p).swap = 0) ∧
    (∃ (s : State) (p : Port) (h : PdHdr) (t : State), s.fresh.Serves p h 11 [] false false t ∧ ((t.pdSend p .accept).tc p).vconn = true) ∧
    (∃ (s : State) (p : Port) (h : PdHdr) (t : State), s.fresh.Serves p h 11 [] false false t ∧ ((t.pdSend p PdMsg.accept).tc p).vconn =
      false) ∧
    (∃ (s : State) (p : Port), (s.tc p).vswap = 1) ∧
    (∃ (s : State) (p : Port), s.pdReady p = true ∧ (s.tc p).hardStage ≠ 1) ∧
    (∃ (s : State) (p : Port), (s.tc p).hardStage = 1 ∧ s.time.pll = true) ∧
    (∃ (s : State) (p : Port), (s.tc p).hardStage = 2 ∧ s.time.pll = true) ∧
    (∃ (s : State) (p : Port) (m : PdMsg) (n : Nat), (s.tc p).sent = some (m, n) ∧ s.pdReady p = true ∧ n < (if s.rev2 p then 3 else 2) ∧
      s.lens.armed = false) ∧
    (∃ (s : State) (p : Port), (s.tc p).await = .softAccept) ∧
    (∃ (s : State) (p : Port), s.time.pll = true ∧ (s.tc p).await = .request ∧ (s.tc p).hardRow < 2) ∧
    (∃ (s : State) (p : Port), s.time.pll = true ∧ (s.tc p).await = .request ∧ 2 ≤ (s.tc p).hardRow) ∧
    (∃ (s : State) (p : Port), s.time.pll = true ∧ (s.tc p).await = .vdm 2) ∧
    (∃ (s : State), s.time.pll = false) ∧
    (∃ (s : State) (p : Port), (s.tc p).window = true ∧ (s.tc p).trans = none ∧ (s.tc p).await = Await.nothing ∧ (s.tc p).swap = 0 ∧ (s.tc
      p).vswap = 0 ∧ s.pdReady p = true ∧ s.policy = true) :=
  ⟨⟨PS, 15, H0, _, fun _ => rfl⟩,
    ⟨PS, 15, H0, _, fun _ => rfl⟩,
    ⟨((PS.set (.tc 15 .pdPrSwapAccept) 1).modTc 15 fun x => { x with sinkCaps := some [0x28000000], asSource := true }), 15, H0, _, fun _ =>
      rfl, by decide, by decide⟩,
    ⟨PS, 15, H0, _, fun _ => rfl, by decide, by decide⟩,
    ⟨PS.modTc 15 fun x => { x with swap := 1 }, 15, by decide⟩,
    ⟨PS.modTc 15 fun x => { x with swap := 2 }, 15, by decide⟩,
    ⟨PS.modTc 15 fun x => { x with swap := 3, await := .psRdy }, 15, H0, _, fun _ => rfl, by decide, by decide⟩,
    ⟨PS.modTc 15 fun x => { x with swap := 3 }, 15, by decide, by decide⟩,
    ⟨PS.modTc 15 fun x => { x with detectOff := true }, 15, by decide, by decide⟩,
    ⟨PS.modTc 15 fun x => { x with vconn := true }, 15, H0, _, fun _ => rfl, by decide⟩,
    ⟨PS, 15, H0, _, fun _ => rfl, by decide⟩,
    ⟨PS.modTc 15 fun x => { x with vswap := 1 }, 15, by decide⟩,
    ⟨PS, 15, by decide, by decide⟩,
    ⟨PS.modTc 15 fun x => { x with hardStage := 1 }, 15, by decide⟩,
    ⟨PS.modTc 15 fun x => { x with hardStage := 2 }, 15, by decide⟩,
    ⟨PS.modTc 15 fun x => { x with sent := some (.accept, 1) }, 15, (PdMsg.accept), 1, by decide, by decide, by decide, by decide⟩,
    ⟨PS.modTc 15 fun x => { x with await := .softAccept }, 15, by decide⟩,
    ⟨PS.modTc 15 fun x => { x with await := .request }, 15, by decide, by decide, by decide⟩,
    ⟨PS.modTc 15 fun x => { x with await := .request, hardRow := 2 }, 15, by decide, by decide, by decide⟩,
    ⟨PS.modTc 15 fun x => { x with await := .vdm 2 }, 15, by decide, by decide⟩,
    ⟨{ R with time := { pll := false } }, by decide⟩,
    ⟨PS.modTc 15 fun x => { x with window := true }, 15, by decide⟩⟩

theorem test_witness_PowerBudget :
    (∃ (s : State), s.policy = true) ∧
    (∃ (s : State), s.policy = true ∧ s.allocated + 2500 ≤ s.budget) ∧
    (∃ (s : State) (p : Port), s.policy = true ∧ ¬(s.get (.tc p .tcState) = 3 ∧ (s.tc p).source = true ∧ (!s.shed p) = true ∧ s.get (.tc p
      .pdOfferPower) < s.get (.tc p .pdPortMaxPower))) ∧
    (∃ (s : State) (p : Port) (more : Nat), s.policy = true ∧ s.get (.tc p .tcState) = 3 ∧ (s.tc p).source = true ∧ s.shed p = false ∧ s.get
      (.tc p .pdOfferPower) < s.get (.tc p .pdPortMaxPower) ∧ s.alloc p < if (s.tc p).explicit = true then s.offerBeside p more else rpPower
      (rpFor (s.offerBeside p more))) ∧
    (∃ (s : State), s.policy = true ∧ s.budget < s.allocated + 2500) :=
  ⟨⟨R, by decide⟩,
    ⟨BUD, by decide, by decide⟩,
    ⟨R, 15, by decide⟩,
    ⟨(BUD.set (.tc 15 .tcState) 3).modTc 15 fun x => { x with source := true }, 15, 0, by decide⟩,
    ⟨R, by decide, by decide⟩⟩

theorem test_witness_WyhelenEntry :
    (∃ (s : State) (p : Port) (h : PdHdr) (t : State), s.fresh.Serves p h 15 [vdmHeader 65280 0 0 1 h.svdm] false false t) ∧
    (∃ (s : State) (p : Port) (h : PdHdr) (t : State), s.fresh.Serves p h 15 [vdmHeader 65280 0 0 2 h.svdm] false false t ∧ t.modal p =
      true) ∧
    (∃ (s : State) (p : Port) (h : PdHdr) (t : State), s.fresh.Serves p h 15 [vdmHeader 65280 0 0 2 h.svdm] false false t ∧ t.modal p =
      false) ∧
    (∃ (s : State) (p : Port) (h : PdHdr) (k : Link) (t : State), s.fresh.Serves p h 15 [vdmHeader 14941 0 0 3 h.svdm] false false t ∧
      t.portLink p = some k ∧ t.modal p = true) ∧
    (∃ (s : State) (p : Port) (h : PdHdr) (t : State), s.fresh.Serves p h 15 [vdmHeader 14941 1 0 4 h.svdm] false false t ∧ t.modal p = true
      ∧ t.domainOn 6 = true) ∧
    (∃ (s : State) (p : Port) (h : PdHdr) (t : State) (svid position : Nat), s.fresh.Serves p h 15 [vdmHeader svid position 0 4 h.svdm]
      false false t ∧ svid ≠ 14941) ∧
    (∃ (s : State) (p : Port) (h : PdHdr) (t : State) (position : Nat), s.fresh.Serves p h 15 [vdmHeader 14941 position 0 4 h.svdm] false
      false t ∧ position ≠ 1) ∧
    (∃ (s : State) (p : Port) (h : PdHdr) (t : State), s.fresh.Serves p h 15 [vdmHeader 14941 1 0 4 h.svdm] false false t ∧ (t.modal p =
      false ∨ t.domainOn 6 = false)) ∧
    (∃ (s : State) (p : Port) (k : Link), s.portLink p = some k ∧ (s.tc p).entryStep = 6 ∧ (s.tc p).entered = false) ∧
    (∃ (s : State) (p : Port) (k : Link), s.portLink p = some k ∧ (s.tc p).entryStep = 6 ∧ (s.tc p).entered = false ∧ s.time.pll = true) ∧
    (∃ (s : State) (p : Port) (h : PdHdr) (t : State), s.fresh.Serves p h 15 [vdmHeader 14941 1 0 5 h.svdm] false false t ∧ (t.tc p).entered
      = true) ∧
    (∃ (s : State) (p : Port) (h : PdHdr) (t : State), s.fresh.Serves p h 15 [vdmHeader 14941 1 0 5 h.svdm] false false t ∧ (t.tc p).entered
      = false) ∧
    (∃ (s : State) (p : Port) (h : PdHdr) (t : State), s.fresh.Serves p h 15 [vdmHeader 14941 1 0 6 h.svdm] false true t) ∧
    (∃ (s : State) (p : Port) (k : Link), s.portLink p = some k ∧ s.ident.wyhelen = true ∧ (s.tc p).explicit = true ∧ (s.tc p).source = true
      ∧ (s.tc p).dfp = true ∧ (s.tc p).entryStep = 0 ∧ s.policy = true ∧ s.pdReady p = true ∧ (s.tc p).entered = false ∧ (s.modeOf k ≠ 0 ∨
      s.domainOn 6 = false)) ∧
    (∃ (s : State) (p : Port) (k : Link), s.portLink p = some k ∧ s.ident.wyhelen = true ∧ (s.tc p).explicit = true ∧ (s.tc p).source = true
      ∧ (s.tc p).dfp = true ∧ (s.tc p).entryStep = 0 ∧ s.policy = true ∧ s.pdReady p = true ∧ (s.tc p).entered = false ∧ s.modeOf k = 0 ∧
      s.domainOn 6 = true ∧ (s.tc p).cableKnown = false) ∧
    (∃ (s : State) (p : Port) (k : Link), s.portLink p = some k ∧ s.ident.wyhelen = true ∧ (s.tc p).explicit = true ∧ (s.tc p).source = true
      ∧ (s.tc p).dfp = true ∧ (s.tc p).entryStep = 0 ∧ s.policy = true ∧ s.pdReady p = true ∧ (s.tc p).entered = false ∧ s.modeOf k = 0 ∧
      s.domainOn 6 = true ∧ (s.tc p).cableKnown = true ∧ 2 ≤ bitField (s.get (.tc p .pdCableVdo)) 2 0) ∧
    (∃ (s : State) (p : Port) (h : PdHdr) (t : State) (v : Nat) (rest : List Nat), s.fresh.Serves p h 15 (vdmHeader 65280 0 1 1 h.svdm :: v
      :: rest) false ((s.tc p).await == Await.vdm 2) t ∧ (s.tc p).await = Await.vdm 2 ∧ v % 65536 = 14941 ∧ v.testBit 26 = true) ∧
    (∃ (s : State) (p : Port) (h : PdHdr) (t : State) (v : Nat) (rest : List Nat), s.fresh.Serves p h 15 (vdmHeader 65280 0 1 1 h.svdm :: v
      :: rest) false ((s.tc p).await == Await.vdm 2) t ∧ (s.tc p).await = Await.vdm 2 ∧ (v % 65536 ≠ 14941 ∨ v.testBit 26 = false)) ∧
    (∃ (s : State) (p : Port) (h : PdHdr) (t : State) (v : Nat) (rest : List Nat), s.fresh.Serves p h 15 (vdmHeader 14941 0 1 3 h.svdm :: v
      :: rest) false ((s.tc p).await == Await.vdm 4) t ∧ (s.tc p).await = Await.vdm 4 ∧ bitField v 31 24 = 17) ∧
    (∃ (s : State) (p : Port) (h : PdHdr) (t : State) (v : Nat) (rest : List Nat), s.fresh.Serves p h 15 (vdmHeader 14941 0 1 3 h.svdm :: v
      :: rest) false ((s.tc p).await == Await.vdm 4) t ∧ (s.tc p).await = Await.vdm 4 ∧ bitField v 31 24 ≠ 17) ∧
    (∃ (s : State) (p : Port) (h : PdHdr) (t : State) (vdos : List Nat), s.fresh.Serves p h 15 (vdmHeader 14941 1 2 4 h.svdm :: vdos) false
      ((s.tc p).await == Await.vdm 5) t ∧ (s.tc p).await = Await.vdm 5) :=
  ⟨⟨PS, 15, H0, _, fun _ => rfl⟩,
    ⟨PS, 15, H0, _, fun _ => rfl, by decide⟩,
    ⟨P0, 0, H0, _, fun _ => rfl, by decide⟩,
    ⟨PS, 15, H0, 3, _, fun _ => rfl, by decide, by decide⟩,
    ⟨PS, 15, H0, _, fun _ => rfl, by decide, by decide⟩,
    ⟨PS, 15, H0, _, 0xFF00, 1, fun _ => rfl, by decide⟩,
    ⟨PS, 15, H0, _, 2, fun _ => rfl, by decide⟩,
    ⟨P0, 0, H0, _, fun _ => rfl, by decide⟩,
    ⟨PS.modTc 15 fun x => { x with entryStep := 6 }, 15, 3, by decide, by decide, by decide⟩,
    ⟨PS.modTc 15 fun x => { x with entryStep := 6 }, 15, 3, by decide⟩,
    ⟨PS.modTc 15 fun x => { x with entered := true }, 15, H0, _, fun _ => rfl, by decide⟩,
    ⟨PS, 15, H0, _, fun _ => rfl, by decide⟩,
    ⟨PS, 15, H0, _, fun _ => rfl⟩,
    ⟨(PS.modTc 15 fun x => { x with explicit := true }).set (.link 3 .linkMode) 2, 15, 3, by decide, by decide, by decide, by decide, by
      decide, by decide, by decide, by decide, by decide, by decide⟩,
    ⟨PS.modTc 15 fun x => { x with explicit := true }, 15, 3, by decide, by decide, by decide, by decide, by decide, by decide, by decide,
      by decide, by decide, by decide, by decide, by decide⟩,
    ⟨(PS.modTc 15 fun x => { x with explicit := true, cableKnown := true }).set (.tc 15 .pdCableVdo) 2, 15, 3, by decide, by decide, by
      decide, by decide, by decide, by decide, by decide, by decide, by decide, by decide, by decide, by decide, by decide⟩,
    ⟨PS.modTc 15 fun x => { x with await := .vdm 2 }, 15, H0, _, 0x04003A5D, [], fun _ => rfl, by decide, by decide, by decide⟩,
    ⟨PS.modTc 15 fun x => { x with await := .vdm 2 }, 15, H0, _, 0x3A5D, [], fun _ => rfl, by decide, by decide⟩,
    ⟨PS.modTc 15 fun x => { x with await := .vdm 4 }, 15, H0, _, 0x11000000, [], fun _ => rfl, by decide, by decide⟩,
    ⟨PS.modTc 15 fun x => { x with await := .vdm 4 }, 15, H0, _, 0, [], fun _ => rfl, by decide, by decide⟩,
    ⟨PS.modTc 15 fun x => { x with await := .vdm 5 }, 15, H0, _, [], fun _ => rfl, by decide⟩⟩

theorem test_witness_SupplyAndClockEvents :
    (∃ (s : State), s.time.pll = true ∧ s.domains.wake = none) ∧
    (∃ (s : State), s.time.pll = false ∧ s.pllEnabled = true ∧ s.domains.xo = true ∧ s.domains.wake = none) ∧
    (∃ (s : State), s.isTrue (.pd .tcVbusAonEnable) = true) ∧
    (∃ (s : State), s.isTrue (.pd .tcVbusAonEnable) = false) ∧
    (∃ (s : State), setBit s.path.supplies 0 false = 0) ∧
    (∃ (s : State) (n : Fin 3), setBit s.path.supplies (n.val + 1) false = 0) ∧
    (∃ (s : State) (n : Fin 3), setBit s.path.supplies (n.val + 1) false ≠ 0) ∧
    (∃ (s : State), (s.get (.domain .coreRegState) = 1 ∨ s.get (.domain .coreRegState) = 2) ∧ s.domains.corePg = true) ∧
    (∃ (s : State), s.time.pll = false) ∧
    (∃ (s : State) (w : WakeRt), s.domains.wake = some w ∧ w.source = 0) ∧
    (∃ (s : State) (other : Int), s.domainOn 1 = true ∧ s.path.temp = some other) ∧
    (∃ (s : State), s.domainOn 1 = false) :=
  ⟨⟨R, by decide, by decide⟩,
    ⟨{ R with time := { pll := false } }, by decide, by decide, by decide, by decide⟩,
    ⟨R.set (.pd .tcVbusAonEnable) 1, by decide⟩,
    ⟨R.set (.pd .tcVbusAonEnable) 0, by decide⟩,
    ⟨R, by decide⟩,
    ⟨R, 2, by decide⟩,
    ⟨{ R with path := { supplies := 10 } }, 2, by decide⟩,
    ⟨R.set (.domain .coreRegState) 1, by decide, by decide⟩,
    ⟨{ R with time := { pll := false } }, by decide⟩,
    ⟨{ R with domains := { wake := some wk0 } }, wk0, by decide, by decide⟩,
    ⟨{ R with path := { temp := some 300 } }, 300, by decide, by decide⟩,
    ⟨OFF1, by decide⟩⟩

theorem test_witness_FeedEvents :
    (∃ (s : State), s.pwr = true) ∧
    (∃ (s : State) (x : Feed), s.pwr = true ∧ (s.feed x).en = false) ∧
    (∃ (s : State) (x : Feed) (mv : Nat) (t : State), s.pwr = true ∧ t = s.fresh.measure (chanOfFeed x) mv (s.getInt (.chan (chanOfFeed x)
      .chanCurrent)) ∧ (t.feed x).inside = true ∧ mv < t.get (.feed x .feedUvFall)) ∧
    (∃ (s : State) (x : Feed) (mv : Nat) (t : State), s.pwr = true ∧ t = s.fresh.measure (chanOfFeed x) mv (s.getInt (.chan (chanOfFeed x)
      .chanCurrent)) ∧ (t.feed x).inside = true ∧ t.get (.feed x .feedOvRise) < mv) ∧
    (∃ (s : State) (x : Feed) (mv : Nat) (t : State), s.pwr = true ∧ t = s.fresh.measure (chanOfFeed x) mv (s.getInt (.chan (chanOfFeed x)
      .chanCurrent)) ∧ (t.feed x).inside = false ∧ t.get (.feed x .feedUvRise) < mv ∧ mv < t.get (.feed x .feedOvFall)) ∧
    (∃ (s : State) (x : Feed) (w : CollWatch), (s.feed x).step = 1 ∧ (w.last * 10 < s.get (.chan (chanOfFeed x) .chanVoltage) ∨ (s.feed
      x.other).step = 5 ∨ w.most < 50 ∧ (w.last - w.first) * 100 ≤ 2 * s.get (.chan (chanOfFeed x) .chanVoltage))) ∧
    (∃ (s : State) (x : Feed) (w : CollWatch), (s.feed x).step = 1 ∧ (s.feed x.other).step ≠ 5 ∧ s.get (.chan (chanOfFeed x) .chanVoltage) ≤
      w.last * 10 ∧ (50 ≤ w.most ∨ 2 * s.get (.chan (chanOfFeed x) .chanVoltage) < (w.last - w.first) * 100)) ∧
    (∃ (s : State) (x : Feed), (s.feed x).step = 2) ∧
    (∃ (s : State) (x : Feed), (s.feed x).step = 3) ∧
    (∃ (s : State) (x : Feed), (s.feed x).step = 4) ∧
    (∃ (s : State) (x : Feed), (2 ≤ (s.feed x).step ∨ (s.chan ↑(chanOfFeed x)).tripAt = some s.time.elapsed)) ∧
    (∃ (s : State) (x : Feed), s.pwr = true ∧ (s.feed x).revHold = true ∧ (s.feed x).inside = true) :=
  ⟨⟨R, by decide⟩,
    ⟨R, Feed.B, by decide, by decide⟩,
    ⟨R.modFeed .B fun f => { f with inside := true }, Feed.B, 0, _, by decide, rfl, by decide, by decide⟩,
    ⟨R.modFeed .B fun f => { f with inside := true }, Feed.B, 70000, _, by decide, rfl, by decide, by decide⟩,
    ⟨R, Feed.B, 48000, _, by decide, rfl, by decide, by decide, by decide⟩,
    ⟨(R.modFeed .B fun f => { f with step := 1 }).set (.chan (chanOfFeed .B) .chanVoltage) 48000, Feed.B, ⟨4000, 4799, 60⟩, by decide⟩,
    ⟨(R.modFeed .B fun f => { f with step := 1 }).set (.chan (chanOfFeed .B) .chanVoltage) 48000, Feed.B, ⟨4800, 5000, 50⟩, by decide⟩,
    ⟨R.modFeed .B fun f => { f with step := 2 }, Feed.B, by decide⟩,
    ⟨R.modFeed .B fun f => { f with step := 3 }, Feed.B, by decide⟩,
    ⟨R.modFeed .B fun f => { f with step := 4 }, Feed.B, by decide⟩,
    ⟨R.modFeed .B fun f => { f with step := 2 }, Feed.B, by decide⟩,
    ⟨R.modFeed .B fun f => { f with revHold := true, inside := true }, Feed.B, by decide, by decide, by decide⟩⟩

theorem test_witness_BreakerEvents :
    (∃ (s : State) (c : Channel), s.hasChan c = true ∧ s.get (.chan c .brkState) = 1) ∧
    (∃ (s : State) (c : Channel), s.hasChan c = true ∧ s.get (.chan c .brkState) = 2 ∧ (s.chan ↑c).rampedAt = some s.time.elapsed) ∧
    (∃ (s : State) (p : Port), s.hasPort p = true ∧ s.get (.chan (chanOf p) .brkState) = 1) ∧
    (∃ (s : State) (x : Feed), (s.feed x).step = 2 ∨ (s.feed x).step = 4) ∧
    (∃ (s : State) (p : Port), s.pwr = true ∧ s.hasPort p = true ∧ (s.tc p).attach = none ∧ s.get (.tc p .tcState) = 1 ∧ s.get (.chan
      (chanOf p) .brkState) = 0 ∧ (s.tc p).discharging = false) ∧
    (∃ (s : State) (c : Channel) (mA : Nat), s.pwr = true ∧ s.hasChan c = true ∧ s.tripped c = false ∧ s.ramping c = false ∧ (s.curveTime c
      mA).isSome = true) ∧
    (∃ (s : State) (c : Channel) (mA : Nat), s.pwr = true ∧ s.hasChan c = true ∧ s.ramping c = false ∧ s.get (.chan c .brkInstLevel) < mA) ∧
    (∃ (s : State) (c : Channel) (mA : Nat), s.pwr = true ∧ s.hasChan c = true ∧ s.get (.chan c .brkState) = 2 ∧ s.curveTime c mA = none) ∧
    (∃ (s : State) (c : Channel) (mA : Nat), s.pwr = true ∧ s.hasChan c = true ∧ s.get (.chan c .brkState) = 2 ∧ mA ≤ s.get (.chan c
      .brkInstLevel)) ∧
    (∃ (s : State) (c : Channel) (d : Door), s.Takes d (entryWrite (15376 + ↑c) 10 [1]) ∧ s.tripped c = true ∧ (∀ (q : Port), portOfChan c =
      some q → s.unitHeld (FaultUnit.port q) = true) ∧ (portOfChan c).isSome = true) ∧
    (∃ (s : State) (c : Channel) (d : Door), s.Takes d (entryWrite (15376 + ↑c) 10 [1]) ∧ s.tripped c = true ∧ (∀ (q : Port), portOfChan c =
      some q → s.unitHeld (FaultUnit.port q) = false)) ∧
    (∃ (s : State) (c : Channel) (d : Door), s.Takes d (entryWrite (0x3C10 + c.val) 0x0A [1]) ∧ s.tripped c = false) ∧
    (∃ (s : State) (c : Channel) (mv mA : Nat), s.pwr = true ∧ s.hasChan c = true ∧ (s.fresh.measure c mv ↑mA).sound c = true ∧
      (s.fresh.measure c mv ↑mA).curveTime c mA = none) ∧
    (∃ (s : State) (p : Port), s.pwr = true ∧ s.get (.chan (chanOf p) .brkState) = 1) ∧
    (∃ (s : State), s.pwr = false) ∧
    (∃ (s : State) (p : Port), s.pwr = true ∧ (s.tc p).hardStage = 0 ∧ (s.tc p).swap = 0) ∧
    (∃ (s : State) (p : Port), s.pwr = true ∧ (s.tc p).discharging = true) ∧
    (∃ (s : State), s.faults.gaspRun = none ∧ s.boot.running = true) ∧
    (∃ (s : State), s.faults.gaspRun = none ∧ s.boot.running = false) :=
  ⟨⟨R.set (.chan 18 .brkState) 1, 18, by decide, by decide⟩,
    ⟨(R.set (.chan 18 .brkState) 2).setChan 18 { rampedAt := some 0 }, 18, by decide⟩,
    ⟨R.set (.chan (chanOf 15) .brkState) 1, 15, by decide, by decide⟩,
    ⟨R.modFeed .B fun f => { f with step := 4 }, Feed.B, by decide⟩,
    ⟨R.set (.tc 15 .tcState) 1, 15, by decide⟩,
    ⟨R, 18, 10000000, by decide, by decide, by decide, by decide, by decide⟩,
    ⟨R, 18, 1000000000, by decide, by decide, by decide, by decide⟩,
    ⟨R.set (.chan 18 .brkState) 2, 18, 0, by decide⟩,
    ⟨R.set (.chan 18 .brkState) 2, 18, 0, by decide⟩,
    ⟨{ R.set (.power .brkTripped) (2 ^ 18) with faults := { held := [(1, .port 15)] } }, 18, Door.loc, by decide, by decide, (fun q h => by
      cases h; decide), by decide⟩,
    ⟨R.set (.power .brkTripped) (2 ^ 18), 18, Door.loc, by decide, by decide, (fun q h => by cases h; decide)⟩,
    ⟨R, 18, Door.loc, by decide, by decide⟩,
    ⟨(R.set (.chan (chanOf 15) .brkState) 2), chanOf 15, 5000, 100, by decide⟩,
    ⟨R.set (.chan (chanOf 15) .brkState) 1, 15, by decide, by decide⟩,
    ⟨OFF5, by decide⟩,
    ⟨R, 15, by decide, by decide, by decide⟩,
    ⟨R.modTc 15 fun x => { x with discharging := true }, 15, by decide, by decide⟩,
    ⟨R, by decide, by decide⟩,
    ⟨{ R with boot := { resetBoot with running := false } }, by decide, by decide⟩⟩

theorem test_witness_DomainCommands :
    (∃ (s : State) (d : Door) (word : Nat), putBits word 9 8 0 < 2 ^ 32 ∧ s.Takes d (entryWrite 16384 2 (bytesBe 4 (putBits word 9 8 0))) ∧
      s.rivalDoor d = none ∧ bitField (putBits word 9 8 0) 9 8 = 0 ∧ bitField (putBits word 9 8 0) 12 10 = 0 ∧ (s.fresh.modDomains fun x =>
      { x with written := some (s.time.elapsed, d.num) }).domainRefusal (putBits word 9 8 0) true = none) ∧
    (∃ (s : State) (d : Door) (word : Nat), putBits word 9 8 0 < 2 ^ 32 ∧ s.Takes d (entryWrite 16384 2 (bytesBe 4 (putBits word 9 8 0))) ∧
      s.rivalDoor d = none ∧ bitField (putBits word 9 8 0) 9 8 = 0 ∧ bitField (putBits word 9 8 0) 12 10 ≠ 0 ∧ (s.fresh.modDomains fun x =>
      { x with written := some (s.time.elapsed, d.num) }).domainRefusal (putBits word 9 8 0) false = none) ∧
    (∃ (s : State) (d : Door) (word : Nat) (r : Nat × Nat), putBits word 9 8 0 < 2 ^ 32 ∧ s.Takes d (entryWrite 16384 2 (bytesBe 4 (putBits
      word 9 8 0))) ∧ s.rivalDoor d = none ∧ bitField (putBits word 9 8 0) 9 8 = 0 ∧ bitField (putBits word 9 8 0) 12 10 = 0 ∧
      (s.fresh.modDomains fun x => { x with written := some (s.time.elapsed, d.num) }).domainRefusal (putBits word 9 8 0) true = some r) ∧
    (∃ (s : State) (d : Door) (word : Nat), putBits word 9 8 1 < 2 ^ 32 ∧ s.Takes d (entryWrite 16384 2 (bytesBe 4 (putBits word 9 8 1))) ∧
      s.rivalDoor d = none ∧ bitField (putBits word 9 8 1) 9 8 = 1 ∧ bitField (putBits word 9 8 1) 12 10 = 0 ∧ (s.fresh.modDomains fun x =>
      { x with written := some (s.time.elapsed, d.num) }).domainRefusal (putBits word 9 8 1) true = none) ∧
    (∃ (s : State) (d : Door) (word : Nat), putBits word 9 8 2 < 2 ^ 32 ∧ s.Takes d (entryWrite 16384 2 (bytesBe 4 (putBits word 9 8 2))) ∧
      bitField (putBits word 9 8 2) 9 8 = 2 ∧ bitField (putBits word 9 8 2) 12 10 = 0 ∧ s.rivalDoor d = none ∧ (s.fresh.modDomains fun x =>
      { x with written := some (s.time.elapsed, d.num) }).domainRefusal (putBits word 9 8 2) true = none) ∧
    (∃ (s : State) (d : Door) (word e : Nat), putBits word 9 8 2 < 2 ^ 32 ∧ s.Takes d (entryWrite 16384 2 (bytesBe 4 (putBits word 9 8 2)))
      ∧ bitField (putBits word 9 8 2) 9 8 = 2 ∧ bitField (putBits word 9 8 2) 12 10 = 0 ∧ s.rivalDoor d = some e ∧ e < d.num) ∧
    (∃ (s : State) (d : Door) (word v : Nat), putBits word 9 8 2 < 2 ^ 32 ∧ s.Takes d (entryWrite 16384 2 (bytesBe 4 (putBits word 9 8 2)))
      ∧ bitField (putBits word 9 8 2) 9 8 = 2 ∧ bitField (putBits word 9 8 2) 12 10 = 0 ∧ s.rivalDoor d = some s.domains.armedDoor ∧ d.num <
      s.domains.armedDoor ∧ s.get (.domain .domainArmed) = 2 ^ 31 + v ∧ v < 2 ^ 31 ∧ (((s.fresh.set (.domain .domainArmed) 0).refuseDomain
      (5, firstDomain (2 ^ 31 + v))).modDomains fun x => { x with written := some (s.time.elapsed, d.num) }).domainRefusal (putBits word 9 8
      2) true = none) ∧
    (∃ (s : State) (d : Door) (word : Nat), putBits word 9 8 3 < 2 ^ 32 ∧ s.Takes d (entryWrite 16384 2 (bytesBe 4 (putBits word 9 8 3))) ∧
      s.rivalDoor d = none ∧ bitField (putBits word 9 8 3) 9 8 = 3 ∧ putBits word 9 8 3 / 2 ^ 15 = 0 ∧ bitField (putBits word 9 8 3) 12 10 <
      4) ∧
    (∃ (s : State) (d : Door) (w : Nat), w < 2 ^ 32 ∧ s.Takes d (entryWrite 0x4000 0x0A (bytesBe 4 w))) ∧
    (∃ (s : State) (w : Nat) (t : State), w < 2 ^ 32 ∧ s.get (.domain .domainArmed) = 2 ^ 31 + w ∧ w < 2 ^ 31 ∧ s.triggerHolds w = true ∧ t
      = s.fresh.set (.domain .domainArmed) 0 ∧ t.domainRefusal w true = none) ∧
    (∃ (s : State) (w : Nat) (t : State) (r : Nat × Nat), w < 2 ^ 32 ∧ s.get (.domain .domainArmed) = 2 ^ 31 + w ∧ w < 2 ^ 31 ∧
      s.triggerHolds w = true ∧ t = s.fresh.set (.domain .domainArmed) 0 ∧ t.domainRefusal w true = some r) ∧
    (∃ (s : State) (w : Nat), w < 2 ^ 32 ∧ s.get (.domain .coreRegState) = 3 ∧ s.domains.wake = none ∧ s.domains.sleeping ≠ 0) ∧
    (∃ (s : State) (w : Nat) (x : WakeRt), w < 2 ^ 32 ∧ s.get (.domain .coreRegState) = 3 ∧ s.domains.wake = some x ∧ x.shared = 1 ∧
      x.resting = false) :=
  ⟨⟨R, Door.loc, 8, by decide, by decide, by decide, by decide, by decide, by decide⟩,
    ⟨R, Door.loc, 0x408, by decide, by decide, by decide, by decide, by decide, by decide⟩,
    ⟨R, Door.loc, 1, (1, 0), by decide, by decide, by decide, by decide, by decide, by decide⟩,
    ⟨R, Door.loc, 8, by decide, by decide, by decide, by decide, by decide, by decide⟩,
    ⟨R, Door.loc, 8, by decide, by decide, by decide, by decide, by decide, by decide⟩,
    ⟨{ R with domains := { written := some (0, 0), armedDoor := 0 } }, Door.ring, 8, 0, by decide, by decide, by decide, by decide, by
      decide, by decide⟩,
    ⟨({ R with domains := { written := some (0, 3), armedDoor := 3 } }).set (.domain .domainArmed) (2 ^ 31 + 1), Door.can, 8, 1, by decide,
      by decide, by decide, by decide, by decide, by decide, by decide, by decide, by decide⟩,
    ⟨R, Door.loc, 0, by decide, by decide, by decide, by decide, by decide, by decide⟩,
    ⟨R, Door.loc, 5, by decide, by decide⟩,
    ⟨(R.set (.domain .domainArmed) (2 ^ 31 + 0x808)).set (.can .canState) 4, 0x808, _, by decide, by decide, by decide, by decide, rfl, by
      decide⟩,
    ⟨(R.set (.domain .domainArmed) (2 ^ 31 + 0x801)).set (.can .canState) 4, 0x801, _, (1, 0), by decide, by decide, by decide, by decide,
      rfl, by decide⟩,
    ⟨({ R with domains := { sleeping := 8 } }).set (.domain .coreRegState) 3, 0, by decide, by decide, by decide, by decide⟩,
    ⟨({ R with domains := { wake := some wk1 } }).set (.domain .coreRegState) 3, 0, wk1, by decide, by decide, by decide, by decide, by
      decide⟩⟩

theorem test_witness_WakeSources :
    (∃ (s : State) (p : Port), s.hasPort p = true ∧ s.domainState (s.portDomain p) = 1) ∧
    (∃ (s : State) (p : Port), s.hasPort p = true ∧ s.domainState (s.portDomain p) = 0 ∧ s.domainOn 5 = true) ∧
    (∃ (s : State) (p : Port), 2 ≤ s.domainState (s.portDomain p)) ∧
    (∃ (s : State), s.domainState 2 = 1) ∧
    (∃ (s : State), s.domainState 2 = 0) ∧
    (∃ (s : State), s.domainState 6 = 1) ∧
    (∃ (s : State), s.domainOn 1 = false ∧ s.isTrue (.domain .canStbyInSleep) = true) ∧
    (∃ (s : State), s.domainOn 1 = false ∧ s.straps.testBit 3 = true) ∧
    (∃ (s : State) (n : Nat), s.domains.timerEnd = some n) ∧
    (∃ (s : State), s.domainOn 5 = true) ∧
    (∃ (s : State) (source : Nat) (detail : Nat), s.domainOn 0 = true ∧ s.domains.sleeping = 0 ∧ s.sourceEnabled source detail = true) ∧
    (∃ (s : State) (source : Nat) (detail : Nat), s.sourceEnabled source detail = false) :=
  ⟨⟨R.setDomain 3 1, 0, by decide, by decide⟩,
    ⟨R.setDomain 3 0, 0, by decide, by decide, by decide⟩,
    ⟨R, 0, by decide⟩,
    ⟨R.setDomain 2 1, by decide⟩,
    ⟨R.setDomain 2 0, by decide⟩,
    ⟨R.setDomain 6 1, by decide⟩,
    ⟨(OFF 1).set (.domain .canStbyInSleep) 1, by decide, by decide⟩,
    ⟨OFF 1, by decide, by decide⟩,
    ⟨{ R with domains := { timerEnd := some 5 } }, 5, by decide⟩,
    ⟨R, by decide⟩,
    ⟨R.set (.domain .wakeSourceEnable) 0x7F, 5, 0, by decide, by decide, by decide⟩,
    ⟨R.set (.domain .wakeSourceEnable) 0, 1, 1, by decide⟩⟩

theorem test_witness_WakeSteps :
    (∃ (s : State) (w : WakeRt), s.domains.wake = some w ∧ w.shared = 1 ∧ w.resting = false) ∧
    (∃ (s : State) (w : WakeRt), s.domains.wake = some w ∧ w.shared = 2 ∧ w.resting = false ∧ s.domains.xo = true) ∧
    (∃ (s : State) (w : WakeRt) (d : Nat) (x : DomWake), s.domains.wake = some w ∧ d ≠ 255 ∧ w.doms.find? (fun y => y.d ==
      d && !y.resting) = some x ∧ x.step = 1 ∧ w.shared ≠ 1) ∧
    (∃ (s : State) (w : WakeRt) (d : Nat) (x : DomWake), s.domains.wake = some w ∧ d ≠ 255 ∧ w.doms.find? (fun y => y.d ==
      d && !y.resting) = some x ∧ x.step = 3 ∧ x.cold = false) ∧
    (∃ (s : State) (w : WakeRt) (d : Nat) (x : DomWake), s.domains.wake = some w ∧ d ≠ 255 ∧ w.doms.find? (fun y => y.d ==
      d && !y.resting) = some x ∧ x.step = 3 ∧ x.cold = true ∧ d = 1) ∧
    (∃ (s : State) (w : WakeRt) (d : Nat) (x : DomWake), s.domains.wake = some w ∧ d ≠ 255 ∧ w.doms.find? (fun y => y.d ==
      d && !y.resting) = some x ∧ x.step = 4 ∧ s.domainOn 1 = true) ∧
    (∃ (s : State) (w : WakeRt) (d : Nat) (x : DomWake) (reason : Nat), s.domains.wake = some w ∧ d ≠ 255 ∧ w.doms.find? (fun y => y.d ==
      d && !y.resting) = some x ∧ x.step ≠ 2 ∧ x.failed < 3 ∧ reason ≠ 1 ∧ reason ≠ 5) ∧
    (∃ (s : State) (w : WakeRt) (d : Nat) (x : DomWake) (reason : Nat), s.domains.wake = some w ∧ d ≠ 255 ∧ w.doms.find? (fun y => y.d ==
      d && !y.resting) = some x ∧ x.step ≠ 2 ∧ 3 ≤ x.failed ∧ reason ≠ 1 ∧ reason ≠ 5) ∧
    (∃ (s : State) (w : WakeRt) (reason : Nat), s.domains.wake = some w ∧ w.shared = 1 ∧ w.resting = false ∧ w.failed < 3 ∧ reason ≠ 1 ∧
      reason ≠ 5) ∧
    (∃ (s : State) (w : WakeRt), s.domains.wake = some w ∧ w.resting = true ∧ w.shared = 1) ∧
    (∃ (s : State) (w : WakeRt) (d : Nat), s.domains.wake = some w ∧ d ≠ 255) :=
  ⟨⟨{ R with domains := { wake := some (⟨1, 0, 0, 0, 1, 0, false, [], 0⟩) } }, ⟨1, 0, 0, 0, 1, 0, false, [], 0⟩, by decide, by decide,
    by decide⟩,
    ⟨{ R with domains := { wake := some (⟨1, 0, 0, 0, 2, 0, false, [], 0⟩) } }, ⟨1, 0, 0, 0, 2, 0, false, [], 0⟩, by decide, by decide,
      by decide, by decide⟩,
    ⟨{ R with domains := { wake := some (⟨1, 0, 0, 0, 0, 0, false, [⟨3, 1, 0, false, false⟩], 0⟩) } }, ⟨1, 0, 0, 0, 0, 0, false, [⟨3, 1, 0,
      false, false⟩], 0⟩, 3, ⟨3, 1, 0, false, false⟩, by decide, by decide, by decide, by decide, by decide⟩,
    ⟨{ R with domains := { wake := some (⟨1, 0, 0, 0, 0, 0, false, [⟨3, 3, 0, false, false⟩], 0⟩) } }, ⟨1, 0, 0, 0, 0, 0, false, [⟨3, 3, 0,
      false, false⟩], 0⟩, 3, ⟨3, 3, 0, false, false⟩, by decide, by decide, by decide, by decide, by decide⟩,
    ⟨{ R with domains := { wake := some (⟨1, 0, 0, 0, 0, 0, false, [⟨1, 3, 0, false, true⟩], 0⟩) } }, ⟨1, 0, 0, 0, 0, 0, false, [⟨1, 3, 0,
      false, true⟩], 0⟩, 1, ⟨1, 3, 0, false, true⟩, by decide, by decide, by decide, by decide, by decide, by decide⟩,
    ⟨{ R with domains := { wake := some (⟨1, 0, 0, 0, 0, 0, false, [⟨3, 4, 0, false, false⟩], 0⟩) } }, ⟨1, 0, 0, 0, 0, 0, false, [⟨3, 4, 0,
      false, false⟩], 0⟩, 3, ⟨3, 4, 0, false, false⟩, by decide, by decide, by decide, by decide, by decide⟩,
    ⟨{ R with domains := { wake := some (⟨1, 0, 0, 0, 0, 0, false, [⟨3, 1, 2, false, false⟩], 0⟩) } }, ⟨1, 0, 0, 0, 0, 0, false, [⟨3, 1, 2,
      false, false⟩], 0⟩, 3, ⟨3, 1, 2, false, false⟩, 2, by decide, by decide, by decide, by decide, by decide, by decide, by decide⟩,
    ⟨{ R with domains := { wake := some (⟨1, 0, 0, 0, 0, 0, false, [⟨3, 1, 3, false, false⟩], 0⟩) } }, ⟨1, 0, 0, 0, 0, 0, false, [⟨3, 1, 3,
      false, false⟩], 0⟩, 3, ⟨3, 1, 3, false, false⟩, 2, by decide, by decide, by decide, by decide, by decide, by decide, by decide⟩,
    ⟨{ R with domains := { wake := some (⟨1, 0, 0, 0, 1, 2, false, [], 0⟩) } }, ⟨1, 0, 0, 0, 1, 2, false, [], 0⟩, 2, by decide, by decide,
      by decide, by decide, by decide, by decide⟩,
    ⟨{ R with domains := { wake := some (⟨1, 0, 0, 0, 1, 2, true, [], 0⟩) } }, ⟨1, 0, 0, 0, 1, 2, true, [], 0⟩, by decide, by decide,
      by decide⟩,
    ⟨{ R with domains := { wake := some (⟨1, 0, 0, 0, 0, 0, false, [⟨3, 1, 0, true, false⟩], 0⟩) } }, ⟨1, 0, 0, 0, 0, 0, false, [⟨3, 1, 0,
      true, false⟩], 0⟩, 3, by decide, by decide⟩⟩

theorem test_witness_FaultCommands :
    (∃ (s : State) (r : Reaction), s.faults.safe = none ∧ s.faults.running = some r ∧ r.level = 2) ∧
    (∃ (s : State) (r : Reaction), s.faults.safe = none ∧ s.faults.running = some r ∧ r.level = 3 ∧ s.resetOver r.unit = true) ∧
    (∃ (s : State) (r : Reaction), s.faults.safe = some r) ∧
    (∃ (s : State) (w : Reaction) (rest : List Reaction), s.faults.windows = w :: rest) ∧
    (∃ (s : State), s.faults.pulse = true ∧ s.get (.fault .faultSafeState) = 0 ∧ s.get (.fault .faultNControl) = 0) ∧
    (∃ (s : State) (m : Emcy) (rest : List Emcy), s.canRuns = true ∧ (∀ t, s.doors.emcyTime = some t → t + s.get (.comm .inhibitEmcy) *
      240000 ≤ s.time.elapsed) ∧ s.faults.emcyLost = 0 ∧ s.faults.emcy = m :: rest) ∧
    (∃ (s : State) (d : Door) (n : Nat), n < 64 ∧ s.Takes d (entryWrite 0x4400 0x10 [byteOf n]) ∧ s.live n = false) ∧
    (∃ (s : State) (d : Door) (n : Nat), n < 64 ∧ s.Takes d (entryWrite 0x4400 0x10 [byteOf n]) ∧ s.live n = true) ∧
    (∃ (s : State) (d : Door), s.Takes d (entryWrite 0x4400 0x11 [0xA5]) ∧ s.get (.fault .faultSafeState) ≠ 0 ∧ (∀ n, n < 64 → s.live n =
      true → s.severity n ≠ 5)) ∧
    (∃ (s : State) (d : Door) (detail : Nat), detail < 2 ^ 32 ∧ s.Takes d (entryWrite 0x4400 0x12 (bytesBe 4 detail))) ∧
    (∃ (s : State) (d : Door), s.Takes d (entryWrite 0x4400 0x0E [1]) ∧ s.get (.fault .faultNControl) = 0 ∧ s.get (.fault .faultSafeState) =
      0 ∧ s.faults.pulse = false) ∧
    (∃ (s : State) (d : Door) (n : Nat), n < 256 ∧ s.Takes d (entryWrite 0x4400 5 (bytesBe 4 (n * 2 ^ 24 + 1))) ∧ n = eventSeq (s.get
      (.fault .faultStatus))) ∧
    (∃ (s : State) (d : Door) (n : Nat), n < 256 ∧ s.Takes d (entryWrite 0x4400 5 (bytesBe 4 (n * 2 ^ 24 + 1))) ∧ n ≠ eventSeq (s.get
      (.fault .faultStatus))) ∧
    (∃ (s : State), s.domainOn 1 = true ∧ s.boot.running = true) ∧
    (∃ (s : State), s.coreRuns = true ∧ s.doors.canOff = false ∧ s.doors.busOff = false) ∧
    (∃ (s : State), s.coreRuns = true ∧ s.doors.busOff = true) ∧
    (∃ (s : State) (b : List Byte), s.faults.gaspRun = some b) :=
  ⟨⟨{ R with faults := { running := some ⟨40, 2, 2, .link 0, 0, [], []⟩ } }, ⟨40, 2, 2, .link 0, 0, [], []⟩, by decide, by decide, by
      decide⟩,
    ⟨{ R with faults := { running := some ⟨40, 3, 3, .door 2, 0, [], []⟩ } }, ⟨40, 3, 3, .door 2, 0, [], []⟩, by decide, by decide, by
      decide, by decide⟩,
    ⟨{ R with faults := { safe := some ⟨40, 5, 5, .nothing, 0, [], []⟩ } }, ⟨40, 5, 5, .nothing, 0, [], []⟩, by decide⟩,
    ⟨{ R with faults := { windows := [⟨40, 2, 2, .link 0, 0, [], []⟩] } }, ⟨40, 2, 2, .link 0, 0, [], []⟩, [], by decide⟩,
    ⟨{ R with faults := { pulse := true } }, by decide, by decide, by decide⟩,
    ⟨{ R with faults := { emcy := [⟨0x1000, 1, 40, 2, true, 0⟩] } }, ⟨0x1000, 1, 40, 2, true, 0⟩, [], by decide, (fun t h => by cases (h :
      (none : Option Nat) = some t)), by decide, by decide⟩,
    ⟨R, Door.loc, 63, by decide, by decide, by decide⟩,
    ⟨R.setRegBit (.fault .faultLive) 63 true, Door.loc, 63, by decide, by decide, by decide⟩,
    ⟨R.set (.fault .faultSafeState) 1, Door.loc, by decide, by decide, by decide⟩,
    ⟨R, Door.loc, 7, by decide, by decide⟩,
    ⟨R, Door.loc, by decide, by decide, by decide, by decide⟩,
    ⟨R, Door.loc, 0, by decide, by decide, by decide⟩,
    ⟨R, Door.loc, 255, by decide, by decide, by decide⟩,
    ⟨R, by decide, by decide⟩,
    ⟨R, by decide⟩,
    ⟨{ R with doors := { busOff := true } }, by decide⟩,
    ⟨{ R with faults := { gaspRun := some [1] } }, [1], by decide⟩⟩

theorem test_witness_StartUpCommands :
    (∃ (s : State), s.domainState 0 = 0 ∧ s.boot.inReset = false) ∧
    (∃ (s : State), s.boot.inReset = true) ∧
    (∃ (s : State), s.coreRuns = true ∧ s.boot.running = false ∧ s.boot.inReset = false ∧ s.faults.safeRun = false ∧ s.bootSource = 2 ∧
      s.bankFits 0 = true ∧ s.boot.valid.getD 1 false = false ∧ s.get (.strap .resetCause) ≠ 1) ∧
    (∃ (s v t u : State) (ok : Bool) (base : Int), s.coreRuns = true ∧ s.boot.running = true ∧ s.boot.started = false ∧
      s.boot.recovery = false ∧ s.boot.restart = false ∧ s.cfg.copyB = none ∧
      v = ((s.fresh.loadCopy (if ok then s.cfg.copyA else none)).when
        ((if ok then s.cfg.copyA else none).isNone && !s.cfg.copyA.isNone) fun t => t.raise 57 0x020000).modBoot (fun x =>
          { x with started := true, waiting := true, restart := false, aonLoaded := true }) ∧
      t = (v.forEach (v.allPorts.filter fun p => v.wired p) fun w p => w.setPst p 8).drivePins ∧
      base = (if t.get (.time .servoState) = 0 then t.getInt (.time .timeFocalTrim) * 256 else t.storedFreq) ∧
      u = (({ t with time := { t.time with base := base } }).setFreq base).powerCommitted.resumeEnergy ∧
      u.faults.gasp = none) ∧
    (∃ (s : State) (u : Upstream), s.domainOn 2 = true ∧ ((s.up u).attached = false ∨ (s.up u).vbus = false)) ∧
    (∃ (s : State), s.coreRuns = true ∧ s.boot.started = true ∧ s.boot.waiting = true ∧ s.settled = true) ∧
    (∃ (s : State), s.coreRuns = true ∧ s.boot.running = true ∧ s.cfg.storing = true) ∧
    (∃ (s : State), s.boot.running = false) ∧
    (∃ (s : State), s.coreRuns = true ∧ s.boot.running = true ∧ s.cfg.prismStore = true) ∧
    (∃ (s : State), s.coreRuns = true ∧ s.boot.running = true ∧ s.cfg.prismStore = true ∧ s.get (.lock .prismCommitResult) = 3) :=
  ⟨⟨OFF 0, by decide, by decide⟩,
    ⟨{ R with boot := { resetBoot with inReset := true } }, by decide⟩,
    ⟨({ R with straps := 0x801F, boot := { resetBoot with running := false } }).set (.strap .resetCause) 0, by decide⟩,
    ⟨{ R with boot := { resetBoot with started :=
      false } }, _, _, _, true, _, by decide, by decide, by decide, by decide, by decide, by decide,
      rfl, rfl, rfl, rfl, by decide⟩,
    ⟨R, Upstream.UA, by decide⟩,
    ⟨R, by decide⟩,
    ⟨{ R with cfg := { storing := true } }, by decide⟩,
    ⟨{ R with boot := { resetBoot with running := false } }, by decide⟩,
    ⟨{ R with cfg := { prismStore := true } }, by decide⟩,
    ⟨({ R with cfg := { prismStore := true } }).set (.lock .prismCommitResult) 3, by decide⟩⟩

theorem test_witness_StepRunsFrontCommand :
    ∃ (s : State), s.pending = [] :=
  ⟨R, by decide⟩

theorem test_witness_VariantCodeLayout :
    ∃ (s : State), s.ident.ports < 256 :=
  ⟨R, by decide⟩

theorem test_witness_WyhelenModeVdo :
    ∃ (s : State), s.get (.ring .ringMemberState) < 256 :=
  ⟨R, by decide⟩

theorem test_witness_StreamCommandRefusals :
    (∃ (s : State) (d : Door) (n : Stream), s.configured n.val = false ∧ s.Takes d (entryWrite (0x2D00 + n.val) 16 [1])) ∧
    (∃ (s : State) (d : Door) (n : Stream), s.configured n.val = false ∧ s.Takes d (entryWrite (0x2D00 + n.val) 16 [2])) ∧
    (∃ (s : State) (d : Door) (n : Stream), s.configured n.val = false ∧ s.Takes d (entryWrite (0x2D00 + n.val) 16 [3])) ∧
    (∃ (s : State) (d : Door) (n : Stream), s.configured n.val = false ∧ s.Takes d (entryWrite (0x2D00 + n.val) 16 [4])) ∧
    (∃ (s : State) (d : Door) (n : Stream) (v : Byte), (v.toNat = 0 ∨ 4 < v.toNat) ∧ s.Takes d (entryWrite (0x2D00 + n.val) 16 [1])) ∧
    (∃ (s : State) (d : Door) (n : Stream) (w : Nat), w < 2 ^ 32 ∧ s.Takes d (entryWrite (0x2D00 + n.val) 19 (bytesBe 4 w))) :=
  ⟨⟨R, Door.loc, 255, by decide, by decide⟩,
    ⟨R, Door.loc, 255, by decide, by decide⟩,
    ⟨R, Door.loc, 255, by decide, by decide⟩,
    ⟨R, Door.loc, 255, by decide, by decide⟩,
    ⟨R, Door.loc, 255, 5, by decide, by decide⟩,
    ⟨R, Door.loc, 255, 0, by decide, by decide⟩⟩

theorem test_witness_CounterWrap :
    (∃ (s : State) (amount : Nat), 2 ^ 64 ≤ s.counter + amount) ∧
    (∃ (s : State) (amount : Nat), s.counter + amount < 2 ^ 64) :=
  ⟨⟨R, 18446744073709551616, by decide⟩,
    ⟨R, 18446744073709551615, by decide⟩⟩

theorem test_witness_WakeTimerCounts :
    (∃ (s : State) (d : Door) (n : Nat), n < 2 ^ 32 ∧ s.Takes d (entryWrite 0x4000 0x0A (bytesBe 4 n))) ∧
    (∃ (s : State) (d : Door), s.Takes d (entryWrite 16384 10 (bytesBe 4 0))) ∧
    (∃ (s : State) (n : Nat), n < 2 ^ 32 ∧ s.domains.timerEnd = none) ∧
    (∃ (s : State) (n : Nat), n < 2 ^ 32 ∧ s.domains.timerEnd ≠ none) :=
  ⟨⟨R, Door.loc, 4294967295, by decide, by decide⟩,
    ⟨R, Door.loc, by decide⟩,
    ⟨R, 4294967295, by decide, by decide⟩,
    ⟨{ R with domains := { timerEnd := some 5 } }, 4294967295, by decide, by decide⟩⟩

theorem test_witness_EventFlags :
    (∃ (r : Reg) (b : Nat), (r = .fault .faultStatus ∨ eventReg r = true) ∧ b < 24) ∧
    (∃ (r : Reg) (b : Nat) (k : Nat), (r = .fault .faultStatus ∨ eventReg r = true) ∧ b < 24 ∧ k < 24 ∧ k ≠ b) ∧
    (∃ (r : Reg) (b : Nat) (x : Reg), (r = .fault .faultStatus ∨ eventReg r = true) ∧ b < 24 ∧ x ≠ r) ∧
    (∃ (s : State) (d : Door) (idx sub v : Nat) (r : Reg) (e : Entry), v < 2 ^ 32 ∧ entryOf idx sub = some e ∧ e.access = Access.rs ∧ e.regs
      = [r] ∧ s.Takes d (entryWrite idx sub (bytesBe 4 v)) ∧ eventReg r = true ∧ s.seqBefore r = none ∧ bitField v 31 24 = eventSeq (s.get
      r)) ∧
    (∃ (s : State) (d : Door) (idx sub v : Nat) (r : Reg) (e : Entry) (b : Nat), v < 2 ^ 32 ∧ entryOf idx sub = some e ∧ e.access =
      Access.rs ∧ e.regs = [r] ∧ s.Takes d (entryWrite idx sub (bytesBe 4 v)) ∧ eventReg r = true ∧ s.seqBefore r = none ∧ bitField v 31 24
      = eventSeq (s.get r) ∧ b < 24) ∧
    (∃ (s : State) (d : Door) (idx sub v : Nat) (r : Reg) (e : Entry) (x : Reg), v < 2 ^ 32 ∧ entryOf idx sub = some e ∧ e.access =
      Access.rs ∧ e.regs = [r] ∧ s.Takes d (entryWrite idx sub (bytesBe 4 v)) ∧ eventReg r = true ∧ s.seqBefore r = none ∧ bitField v 31 24
      = eventSeq (s.get r) ∧ x ≠ r) ∧
    (∃ (s : State) (d : Door) (idx sub v : Nat) (r : Reg) (e : Entry) (flags : Nat), v < 2 ^ 32 ∧ entryOf idx sub = some e ∧ e.access =
      Access.rs ∧ e.regs = [r] ∧ s.Takes d (entryWrite idx sub (bytesBe 4 v)) ∧ eventReg r = true ∧ s.seqBefore r = some (bitField v 31 24,
      flags) ∧ flags < 2 ^ 24) ∧
    (∃ (s : State) (d : Door) (idx sub v : Nat) (r : Reg) (e : Entry) (flags b : Nat), v < 2 ^ 32 ∧ entryOf idx sub = some e ∧ e.access =
      Access.rs ∧ e.regs = [r] ∧ s.Takes d (entryWrite idx sub (bytesBe 4 v)) ∧ eventReg r = true ∧ s.seqBefore r = some (bitField v 31 24,
      flags) ∧ flags < 2 ^ 24 ∧ b < 24) ∧
    (∃ (s : State) (d : Door) (idx sub v : Nat) (r : Reg) (e : Entry) (flags : Nat) (x : Reg), v < 2 ^ 32 ∧ entryOf idx sub = some e ∧
      e.access = Access.rs ∧ e.regs = [r] ∧ s.Takes d (entryWrite idx sub (bytesBe 4 v)) ∧ eventReg r = true ∧ s.seqBefore r = some
      (bitField v 31 24, flags) ∧ flags < 2 ^ 24 ∧ x ≠ r) ∧
    (∃ (s : State) (d : Door) (idx sub v : Nat) (r : Reg) (e : Entry), v < 2 ^ 32 ∧ entryOf idx sub = some e ∧ e.access = Access.rs ∧ e.regs
      = [r] ∧ s.Takes d (entryWrite idx sub (bytesBe 4 v)) ∧ (eventReg r = true ∧ bitField v 31 24 ≠ (Option.map Prod.fst (s.seqBefore
      r)).getD (eventSeq (s.get r)) ∨ r = .fault .faultStatus ∧ bitField v 31 24 ≠ eventSeq (s.get r))) ∧
    (∃ (s : State) (d : Door) (idx sub v : Nat) (r : Reg) (e : Entry) (x : Reg), v < 2 ^ 32 ∧ entryOf idx sub = some e ∧ e.access =
      Access.rs ∧ e.regs = [r] ∧ s.Takes d (entryWrite idx sub (bytesBe 4 v)) ∧ (eventReg r = true ∧ bitField v 31 24 ≠ (Option.map Prod.fst
      (s.seqBefore r)).getD (eventSeq (s.get r)) ∨ r = .fault .faultStatus ∧ bitField v 31 24 ≠ eventSeq (s.get r)) ∧ x ≠ .doors
      .staleClearCount ∧ x ≠ .doors .doorEvents) ∧
    (∃ (s : State) (d : Door) (idx : Nat) (sub : Nat) (v : Nat) (r : Reg) (e : Entry), v < 2 ^ 32 ∧ entryOf idx sub = some e ∧ e.access =
      .rs ∧ e.regs = [r] ∧ s.Takes d (entryWrite idx sub (bytesBe 4 v)) ∧ r = .fault .faultStatus ∧ bitField v 31 24 = eventSeq (s.get r) ∧
      v.testBit 0 = true ∧ (s.get r).testBit 0 = true) ∧
    (∃ (s : State) (d : Door) (idx sub v : Nat) (e : Entry) (n : Nat), v < 2 ^ 32 ∧ entryOf idx sub = some e ∧ e.access = Access.rs ∧ e.regs
      = [.fault .faultStatus] ∧ s.Takes d (entryWrite idx sub (bytesBe 4 v)) ∧ bitField v 31 24 = eventSeq (s.get (.fault .faultStatus)) ∧
      v.testBit 0 = true ∧ (s.get (.fault .faultStatus)).testBit 0 = true ∧ n < 64) ∧
    (∃ (s : State) (d : Door) (idx sub v : Nat) (e : Entry) (b : Nat), v < 2 ^ 32 ∧ entryOf idx sub = some e ∧ e.access = Access.rs ∧ e.regs
      = [.fault .faultStatus] ∧ s.Takes d (entryWrite idx sub (bytesBe 4 v)) ∧ bitField v 31 24 = eventSeq (s.get (.fault .faultStatus)) ∧
      v.testBit 0 = true ∧ (s.get (.fault .faultStatus)).testBit 0 = true ∧ b < 5) ∧
    (∃ (s : State) (d : Door) (idx sub v : Nat) (e : Entry), v < 2 ^ 32 ∧ entryOf idx sub = some e ∧ e.access = Access.rs ∧ e.regs = [.fault
      .faultStatus] ∧ s.Takes d (entryWrite idx sub (bytesBe 4 v)) ∧ bitField v 31 24 = eventSeq (s.get (.fault .faultStatus)) ∧ v.testBit 0
      = true ∧ (s.get (.fault .faultStatus)).testBit 0 = true ∧ s.get (.fault .faultSafeState) = 1) ∧
    (∃ (s : State) (d : Door) (idx : Nat) (sub : Nat) (v : Nat) (r : Reg) (e : Entry) (n : Nat), v < 2 ^ 32 ∧ entryOf idx sub = some e ∧
      e.access = .rs ∧ e.regs = [r] ∧ s.Takes d (entryWrite idx sub (bytesBe 4 v)) ∧ s.live n = true) :=
  ⟨⟨(Reg.time .timeEvents), 23, by decide, by decide⟩,
    ⟨(Reg.time .timeEvents), 23, 0, by decide, by decide, by decide, by decide⟩,
    ⟨(Reg.time .timeEvents), 23, (Reg.pd .pdEvents), by decide, by decide, by decide⟩,
    ⟨R, Door.loc, 0x3400, 22, 0, (Reg.time .timeEvents), _, by decide, rfl, by decide, by decide, by decide, by decide, by decide, by
      decide⟩,
    ⟨R, Door.loc, 0x3400, 22, 0, (Reg.time .timeEvents), _, 23, by decide, rfl, by decide, by decide, by decide, by decide, by decide, by
      decide, by decide⟩,
    ⟨R, Door.loc, 0x3400, 22, 0, (Reg.time .timeEvents), _, (Reg.pd .pdEvents), by decide, rfl, by decide, by decide, by decide, by decide,
      by decide, by decide, by decide⟩,
    ⟨{ R with seqs := [(Reg.time .timeEvents |>.addr, 0, (5, 1))] }, Door.loc, 0x3400, 22, 0x05000000, (Reg.time .timeEvents), _, 1, by
      decide, rfl, by decide, by decide, by decide, by decide, by decide, by decide⟩,
    ⟨{ R with seqs := [(Reg.time .timeEvents |>.addr, 0, (5, 1))] }, Door.loc, 0x3400, 22, 0x05000000, (Reg.time .timeEvents), _, 1, 23, by
      decide, rfl, by decide, by decide, by decide, by decide, by decide, by decide, by decide⟩,
    ⟨{ R with seqs := [(Reg.time .timeEvents |>.addr, 0, (5, 1))] }, Door.loc, 0x3400, 22, 0x05000000, (Reg.time .timeEvents), _, 1, (Reg.pd
      .pdEvents), by decide, rfl, by decide, by decide, by decide, by decide, by decide, by decide, by decide⟩,
    ⟨R, Door.loc, 0x3400, 22, 0x01000000, (Reg.time .timeEvents), _, by decide, rfl, by decide, by decide, by decide, by decide⟩,
    ⟨R, Door.loc, 0x3400, 22, 0x01000000, (Reg.time .timeEvents), _, (Reg.pd .pdEvents), by decide, rfl, by decide, by decide, by decide, by
      decide, by decide, by decide⟩,
    ⟨R.set (.fault .faultStatus) 1, Door.loc, 0x4400, 5, 1, (Reg.fault .faultStatus), _, by decide, rfl, by decide, by decide, by decide, by
      decide, by decide, by decide, by decide⟩,
    ⟨R.set (.fault .faultStatus) 1, Door.loc, 0x4400, 5, 1, _, 63, by decide, rfl, by decide, by decide, by decide, by decide, by decide, by
      decide, by decide⟩,
    ⟨R.set (.fault .faultStatus) 1, Door.loc, 0x4400, 5, 1, _, 4, by decide, rfl, by decide, by decide, by decide, by decide, by decide, by
      decide, by decide⟩,
    ⟨(R.set (.fault .faultStatus) 1).set (.fault .faultSafeState) 1, Door.loc, 0x4400, 5, 1, _, by decide, rfl, by decide, by decide, by
      decide, by decide, by decide, by decide, by decide⟩,
    ⟨R.setRegBit (.fault .faultLive) 40 true, Door.loc, 0x3400, 22, 0, (Reg.time .timeEvents), _, 40, by decide, rfl, by decide, by decide,
      by decide, by decide⟩⟩

theorem test_witness_WriteChecksInOrder :
    (∃ (s : State) (c : Caller), s.doorOpen c.via = false) ∧
    (∃ (s : State) (c : Caller) (w : RegWrite), s.doorOpen c.via = true ∧ s.faults.safeRun = true ∧ (w.index ≠ 0x4400 ∨ w.sub ≠ 17)) ∧
    (∃ (s : State) (c : Caller), s.doorOpen c.via = true ∧ s.faults.safeRun = false ∧ s.boot.recovery = true ∧ c.via ≠ .loc) ∧
    (∃ (s : State) (c : Caller) (w : RegWrite), s.doorOpen c.via = true ∧ s.faults.safeRun = false ∧ s.boot.recovery = false ∧
      indexExists w.index = false) ∧
    (∃ (s : State) (c : Caller) (w : RegWrite), s.doorOpen c.via = true ∧ s.faults.safeRun = false ∧ s.boot.recovery = false ∧
      indexExists w.index = true ∧ entryOf w.index w.sub = none) ∧
    (∃ (s : State) (c : Caller) (w : RegWrite) (e : Entry) (b : Nat), s.doorOpen c.via = true ∧ s.faults.safeRun = false ∧
      s.boot.recovery = false ∧ indexExists w.index = true ∧ entryOf w.index w.sub = some e ∧ writeRight w.index w.sub e = some b ∧
      (s.rights c.via).testBit b = false) ∧
    (∃ (s : State) (c : Caller) (w : RegWrite) (e : Entry), s.doorOpen c.via = true ∧ s.faults.safeRun = false ∧ s.boot.recovery = false ∧
      indexExists w.index = true ∧ entryOf w.index w.sub = some e ∧ writeRight w.index w.sub e = none ∧ locOnly w = false ∧ e.access =
      .ro) :=
  ⟨⟨{ R with straps := 0 }, (callerAt .can), by decide⟩,
    ⟨{ R with faults := { safeRun := true } }, (callerAt .can), ⟨0x2000,1,0,[1]⟩, by decide, by decide, by decide⟩,
    ⟨{ R with boot := { resetBoot with recovery := true } }, (callerAt .can), by decide, by decide, by decide, by decide⟩,
    ⟨R, (callerAt .can), ⟨0x5000,1,0,[1]⟩, by decide, by decide, by decide, by decide⟩,
    ⟨R, (callerAt .can), ⟨0x2000,31,0,[1]⟩, by decide, by decide, by decide, by decide, by decide⟩,
    ⟨R.set (.doors (.doorRights 0)) 1, (callerAt .can), ⟨0x2000,1,0,[1]⟩, _, 2, by decide, by decide, by decide, by decide, rfl, by decide,
      by decide⟩,
    ⟨R, (callerAt .can), ⟨0x2000,0,0,[1]⟩, _, by decide, by decide, by decide, by decide, rfl, by decide, by decide, by decide⟩⟩

theorem test_witness_RefusedWrites :
    (∃ (s : State) (c : Instr) (d : Door) (w : RegWrite), asWrite c = some (d, w) ∧ s.doorReach d = false) ∧
    (∃ (s : State) (c : Instr) (d : Door) (w : RegWrite), asWrite c = some (d, w) ∧ s.doorReach d = true ∧
      s.writeChecks (callerAt d) w ≠ 0) ∧
    (∃ (s : State) (c : Instr) (d : Door) (w : RegWrite), asWrite c = some (d, w) ∧ s.doorReach d = true ∧ s.doorOpen d = false) ∧
    (∃ (s : State) (c : Instr) (d : Door) (w : RegWrite), asWrite c = some (d, w) ∧ s.doorReach d = true ∧ s.doorOpen d = true ∧
      s.faults.safeRun = true ∧ (w.index ≠ 0x4400 ∨ w.sub ≠ 17)) :=
  ⟨⟨OFF 1, (Instr.lensRestart .can), Door.can, (entryWrite 0x4800 11 [1]), by decide, by decide⟩,
    ⟨R.set (.doors (.doorRights 0)) 1, (Instr.lensRestart .can), Door.can, (entryWrite 0x4800 11 [1]), by decide, by decide, by decide⟩,
    ⟨{ R with straps := 0 }, (Instr.lensRestart .can), Door.can, (entryWrite 0x4800 11 [1]), by decide, by decide, by decide⟩,
    ⟨{ R with faults := { safeRun := true } }, (Instr.lensRestart .can), Door.can, (entryWrite 0x4800 11 [1]), by decide, by decide,
      by decide, by decide, by decide⟩⟩

theorem test_witness_StoppedLogic :
    ∃ (s : State) (c : Instr), coreRow c = true ∧ s.coreRuns = false :=
  ⟨OFF 1, (Instr.hostSof .UA 0 0), by decide, by decide⟩

theorem test_witness_CalmFinish :
    ∃ (s : State) (t : State), s.Calm t :=
  ⟨R, R, rfl, by decide, by decide, by decide, by decide, by decide, fun _ _ => rfl⟩

theorem test_witness_StepKeepsBetween :
    ∃ (s : State) (t : State), s.Between ∧ step s = .next t :=
  ⟨R, _, ⟨rfl, Or.inl rfl, fun _ h => nomatch h⟩, rfl⟩

theorem test_witness_ClockEdges :
    (∃ (s : State), s.counter < 2 ^ 64 ∧ s.get (.time .timeWrapCount) < 2 ^ 32 ∧ s.time.pll = true ∧ s.increment < 2 ^ 64) ∧
    (∃ (s : State), s.counter < 2 ^ 64 ∧ s.get (.time .timeWrapCount) < 2 ^ 32 ∧ s.time.pll = false ∧ s.domains.xo = true ∧
      s.increment * 192 / 10 < 2 ^ 64) ∧
    (∃ (s : State), s.counter < 2 ^ 64 ∧ s.get (.time .timeWrapCount) < 2 ^ 32 ∧ s.time.pll = false ∧ s.domains.xo = false) :=
  ⟨⟨R, by decide, by decide, by decide, by decide⟩,
    ⟨{ R with time := { pll := false } }, by decide, by decide, by decide, by decide, by decide⟩,
    ⟨{ R with time := { pll := false }, domains := { xo := false } }, by decide, by decide, by decide, by decide⟩⟩

theorem test_witness_IdleFacetKeepsTime :
    (∃ (s : State) (n : Nat), s.Idle ∧ s.counter + n * s.increment < 2 ^ 64) ∧
    (∃ (s : State) (n : Nat), s.Idle ∧ s.counter + n * s.increment < 2 ^ 64 ∧ 0 < n) :=
  ⟨⟨R, 1000, test_reset_idle, by decide⟩,
    ⟨R, 1000000000, test_reset_idle, by decide, by decide⟩⟩

theorem test_witness_RegisterFile :
    (∃ (r : Reg) (x : Reg), x ≠ r) ∧
    (∃ (s : State), Table.Canonical Reg.addr (fun x => x.default s.ident) s.regs) :=
  ⟨⟨(Reg.time .timeEvents), (Reg.pd .pdEvents), by decide⟩,
    ⟨R, ⟨by decide, by decide⟩⟩⟩

/-! ### Single steps -/

/-- The state a command leaves. -/
def made (c : Instr) (s : State) : State :=
  match exec c s with
  | .next t => t
  | _ => s

/-- R2: 16 ports in bits 15 to 8, Wyhelen in bit 1, DRAM in bit 0. -/
theorem test_variant_code : State.reset.ident.variantCode = 0x1003 := by decide

/-- The order of commands (first in, first out). -/
theorem test_queue : (made .pllUnlock { R with pending := [.pllRelock] }).pending = [.pllRelock] := by decide

/-- R17, R210: the PLL loses lock and finds it again. -/
theorem test_pll_unlock : (made .pllUnlock R).time.pll = false := by decide
theorem test_pll_relock : (made .pllRelock (made .pllUnlock R)).time.pll = true := by decide

/-- R32: the wStatus of an image's hub function, self-powered with remote wake-up off. -/
theorem test_get_status : (made (.getStatus (.hub 0) .device 0) U).out = [.controlData [1, 0]] := by decide

/-- R36, R42: a powered port reads PORT_POWER at bit 8. -/
theorem test_port_power : ((made (.setPortFeaturePortPower 0 16) U).port 15).status.testBit 8 = true := by decide

/-- R46: a host SOF gives the image its frame number. -/
theorem test_host_sof : ((made (.hostSof .UA 0x7FF 7) U).hub 0).frame = 0x7FF := by decide

/-- R375: a stale clear leaves the flags and is counted. -/
theorem test_stale_clear :
  (made (.eventFlagClear .loc 0x3400 22 0x01000001) (R.flag (.time .timeEvents) 0 |>.flag (.time .timeEvents) 0)).get
    (.doors .staleClearCount) = 1 := by decide
theorem test_event_clear : ((made (.eventFlagClear .loc 0x3400 22 0x01000001) { R.flag (.time .timeEvents) 0 with seqs := [] }).get
    (.time .timeEvents)).testBit 0 = false := by decide

/-- R363: a write to a read-only entry is refused with 0x06010002. -/
theorem test_read_only : (made (.registerWrite .loc ⟨0x4C00, 1, 0, [0, 0]⟩) R).out = [.verdict .loc 0x06010002 []] := by decide

/-- R363: an index that does not exist is refused with 0x06020000. -/
theorem test_no_index : (made (.registerWrite .loc ⟨0x5000, 1, 0, [0]⟩) R).out = [.verdict .loc 0x06020000 []] := by decide

/-- R379: a staged value is not live before its commit. -/
theorem test_stage : (made (.configStagingWrite .loc ⟨0x4C04, 1, 0, [9]⟩) R).get (.can .canNodeId) = R.get (.can .canNodeId) := by decide

/-- R371, R393: NMT Start takes a node to Operational (5). -/
theorem test_nmt_start : (made (.nmtStart 0) R).get (.can .canState) = 5 := by decide

/-- R296, R300: an instantaneous trip latches its channel. -/
theorem test_trip : (made (.instantaneousTrip 18 1000000000) (R.set (.chan 18 .brkState) 2)).tripped 18 = true := by decide

/-- R254: a message is answered with GoodCRC before anything else. -/
theorem test_good_crc : (made (.getSourceCap 15 { rev := 2, id := 1 }) PS).out.head? = some (.pd 15 .goodCrc false) := by decide

/-- R325: `WakeTimer` counts from what is written. -/
theorem test_wake_timer : (made (.wakeTimerWrite .loc 5000) R).wakeTimer = 5000 := by decide

end Sys2Proof.Tests
end

section
/-! SUPPORT. The identity a part shows (R1, R2, R394): the fields of `VariantCode`, and the entry that reads it. -/

namespace Sys2Proof

/-! ### The fields of `VariantCode` -/

/-- The two option bits leave the rest of the low byte free, so N stands alone above it. -/
theorem Ident.variantCode_div_256 (v : Ident) : v.variantCode / 256 = v.ports := by
  unfold Ident.variantCode
  split <;> split <;> omega

/-- The low byte holds the two option bits and nothing else. -/
theorem Ident.variantCode_mod_256 (v : Ident) : v.variantCode % 256 = 2 * boolNat v.wyhelen + boolNat v.dram := by
  unfold Ident.variantCode boolNat
  split <;> split <;> omega

/-- Bits [15:8] hold N, as far as eight bits can. -/
theorem Ident.variantCode_ports (v : Ident) : bitField v.variantCode 15 8 = v.ports % 256 :=
  congrArg (· % 256) v.variantCode_div_256

/-- Bits [7:2] read 0. -/
theorem Ident.variantCode_reserved (v : Ident) : bitField v.variantCode 7 2 = 0 := by
  have low : v.variantCode % 256 < 4 := by
    rw [v.variantCode_mod_256]
    cases v.wyhelen <;> cases v.dram <;> decide
  show v.variantCode / 4 % 64 = 0
  omega

/-- A bit of the low byte is that bit of the option bits. -/
theorem Ident.variantCode_testBit_low (v : Ident) {i : Nat} (hi : i < 8) :
    v.variantCode.testBit i = (2 * boolNat v.wyhelen + boolNat v.dram).testBit i := by
  have low : (v.variantCode % 2 ^ 8).testBit i = v.variantCode.testBit i := by
    rw [Nat.testBit_mod_two_pow, decide_eq_true hi, Bool.true_and]
  rw [← low]
  exact congrArg (Nat.testBit · i) v.variantCode_mod_256

@[simp] theorem Ident.variantCode_testBit_one (v : Ident) : v.variantCode.testBit 1 = v.wyhelen := by
  rw [v.variantCode_testBit_low (by decide)]
  cases v.wyhelen <;> cases v.dram <;> rfl

@[simp] theorem Ident.variantCode_testBit_zero (v : Ident) : v.variantCode.testBit 0 = v.dram := by
  rw [v.variantCode_testBit_low (by decide)]
  cases v.wyhelen <;> cases v.dram <;> rfl

namespace Machine

/-! ### Entries without a register -/

/-- An entry that holds no register and that the variant has reads what is computed for it, live and staged alike (R394). -/
theorem entryBytes_of_no_register (s : State) (c : Caller) {idx sub : Nat} (staged : Bool) {e : Entry} (hsub : sub ≠ 0)
    (he : entryAt idx sub = some e) (hr : e.regs = []) (hl : lacking s.ident idx sub = false) :
    s.entryBytes c idx sub staged = s.derived c idx sub := by
  simp [State.entryBytes, hsub, he, hr, hl]

/-- Every variant has the identity entries (R390). -/
theorem lacking_identity (v : Ident) (sub : Nat) : lacking v 0x4C00 sub = false := by
  simp [lacking, wyhelenIndex, dramEntry]

/-- Entry 4C00.01 reads `VariantCode`, 16 bits wide. -/
theorem entryBytes_variantCode (s : State) (c : Caller) (staged : Bool) :
    s.entryBytes c 0x4C00 1 staged = bytesBe 2 s.ident.variantCode :=
  entryBytes_of_no_register s c staged (by decide) rfl rfl (lacking_identity s.ident 1)

/-- Settles O45: each field of the code by its own lemma, and the entry by what an entry without a register reads. -/
theorem variantCodeLayout : Obligations.VariantCodeLayout := by
  intro s c staged
  refine ⟨entryBytes_variantCode s c staged, fun hN => ?_, s.ident.variantCode_testBit_one, s.ident.variantCode_testBit_zero,
    s.ident.variantCode_reserved⟩
  rw [s.ident.variantCode_ports, Nat.mod_eq_of_lt hN]

end Machine

end Sys2Proof
end

section
/-! SUPPORT. The Wyhelen Mode VDO (R71): the link number below, the member state above it, and the fixed fields on top. -/

namespace Sys2Proof.Machine

/-! ### The fields of the Wyhelen Mode VDO -/

/-- A link's number is below 4, so the low byte holds it alone. -/
theorem State.modeVdo_mod_256 (s : State) (k : Link) : s.modeVdo k % 256 = k.val := by
  unfold State.modeVdo
  omega

/-- The member state stands right above the link's number, with the fixed halfword above both. -/
theorem State.modeVdo_div_256 (s : State) (k : Link) :
    s.modeVdo k / 256 = 0x1100 * 256 + s.get (.ring .ringMemberState) := by
  unfold State.modeVdo
  omega

/-- A member state of one byte carries nothing into the upper halfword, which is Version, Rate and the 0 below them. -/
theorem State.modeVdo_div_65536 (s : State) (k : Link) (hm : s.get (.ring .ringMemberState) < 256) :
    s.modeVdo k / 65536 = 0x1100 := by
  have above := s.modeVdo_div_256 k
  omega

/-- A field that lies in the upper halfword is that field of the fixed halfword. -/
theorem State.bitField_modeVdo_high (s : State) (k : Link) (hm : s.get (.ring .ringMemberState) < 256) (hi lo : Nat) :
    bitField (s.modeVdo k) (hi + 16) (lo + 16) = bitField 0x1100 hi lo := by
  have width : hi + 16 + 1 - (lo + 16) = hi + 1 - lo := by omega
  have shift : s.modeVdo k / 2 ^ (lo + 16) = 0x1100 / 2 ^ lo := by
    rw [Nat.add_comm, Nat.pow_add, ← Nat.div_div_eq_div_mul]
    exact congrArg (· / 2 ^ lo) (s.modeVdo_div_65536 k hm)
  rw [bitField, bitField, width, shift]

/-- Bits [15:8] hold the member state, as far as eight bits can. -/
theorem State.bitField_modeVdo_memberState (s : State) (k : Link) :
    bitField (s.modeVdo k) 15 8 = s.get (.ring .ringMemberState) % 256 := by
  show s.modeVdo k / 256 % 256 = _
  rw [s.modeVdo_div_256 k, Nat.mul_add_mod_self_right]

/-- Bits [7:0] hold k. -/
theorem State.bitField_modeVdo_linkNumber (s : State) (k : Link) : bitField (s.modeVdo k) 7 0 = k.val := by
  show s.modeVdo k / 1 % 256 = _
  rw [Nat.div_one, s.modeVdo_mod_256 k]

/-- Settles O46: Version, Rate and the 0 are read from the fixed upper halfword, the other two fields by their own lemmas. -/
theorem wyhelenModeVdo : Obligations.WyhelenModeVdo := by
  intro s k hm
  have high := s.bitField_modeVdo_high k hm
  refine ⟨high 15 12, high 11 8, high 7 0, ?_, s.bitField_modeVdo_linkNumber k⟩
  rw [s.bitField_modeVdo_memberState k, Nat.mod_eq_of_lt hm]

end Sys2Proof.Machine
end

section
/-! SUPPORT. What the checks of a write rest on (R363): which registers they do not read, and what a value outside its range meets. -/

namespace Sys2Proof.Machine

/-! ### Checks that a register does not reach -/

/-- The elements that a write leaves in place are read from the entry's own registers alone. -/
theorem splice_congr {f g : Reg → Nat} (e : Entry) (offset : Nat) (data : List Byte) (h : ∀ r ∈ e.regs, f r = g r) :
    e.splice f offset data = e.splice g offset data := by
  unfold Entry.splice
  refine List.map_congr_left fun x hx => ?_
  have own : x.1 ∈ e.regs := List.mem_of_mem_drop (List.of_mem_zip hx).1
  rw [h x.1 own]

theorem stagedValue_set_ne (s : State) {r r' : Reg} (v : Nat) (h : r' ≠ r) : (s.set r v).stagedValue r' = s.stagedValue r' := by
  have live : (s.set r v).committed r' = s.committed r' := congrArg (Option.getD _) (get_set_ne s v h)
  exact congrArg (Option.getD _) live

/-- A register of another entry is no part of what a write lays out. -/
theorem spliced_set_ne (s : State) {r : Reg} (v : Nat) {e : Entry} (w : RegWrite) (h : r ∉ e.regs) :
    (s.set r v).spliced e w = s.spliced e w := by
  have other : ∀ r' ∈ e.regs, r' ≠ r := fun r' hr' => ne_of_mem_of_not_mem hr' h
  refine splice_congr e w.offset w.data fun r' hr' => ?_
  split
  · exact stagedValue_set_ne s v (other r' hr')
  · exact get_set_ne s v (other r' hr')

theorem rights_set_ne (s : State) {r : Reg} (v : Nat) (d : Door) (h : r ≠ .doors (.doorRights (doorElem d))) :
    (s.set r v).rights d = s.rights d := by
  unfold State.rights
  rw [set_boot, get_set_ne s v h.symm]

theorem domainOn_set_ne (s : State) {r : Reg} (v d : Nat) (h : r ≠ .domain .domainState) :
    (s.set r v).domainOn d = s.domainOn d := by
  unfold State.domainOn State.domainState
  rw [get_set_ne s v h.symm]

theorem domainCheck_set_ne (s : State) {r : Reg} (v idx sub : Nat) (staged write : Bool) (h : r ≠ .domain .domainState) :
    (s.set r v).domainCheck idx sub staged write = s.domainCheck idx sub staged write := by
  simp only [State.domainCheck, domainOn_set_ne s v _ h]
  rfl

/-- Of the registers, the checks of a write read the door's rights, the states of the domains and the entry's own (R363). -/
theorem writeChecks_set_ne (s : State) {r : Reg} (v : Nat) (c : Caller) (w : RegWrite)
    (hrights : r ≠ .doors (.doorRights (doorElem c.via))) (hdomain : r ≠ .domain .domainState)
    (hentry : ∀ e, entryOf w.index w.sub = some e → r ∉ e.regs) :
    (s.set r v).writeChecks c w = s.writeChecks c w := by
  unfold State.writeChecks
  cases he : entryOf w.index w.sub with
  | none => rfl
  | some e =>
    simp only [rights_set_ne s v c.via hrights, domainCheck_set_ne s v _ _ _ _ hdomain, spliced_set_ne s v w (hentry e he)]
    rfl

/-! ### A value outside its range -/

@[simp] theorem entryWrite_index (idx sub : Nat) (data : List Byte) : (entryWrite idx sub data).index = idx := rfl
@[simp] theorem entryWrite_sub (idx sub : Nat) (data : List Byte) : (entryWrite idx sub data).sub = sub := rfl
@[simp] theorem entryWrite_offset (idx sub : Nat) (data : List Byte) : (entryWrite idx sub data).offset = 0 := rfl
@[simp] theorem entryWrite_data (idx sub : Nat) (data : List Byte) : (entryWrite idx sub data).data = data := rfl

/-- A check that found nothing against one write lets another that it judges alike go on to the next. -/
theorem past_check {p : Prop} [Decidable p] {code rest rest' r : Nat} (hcode : p → code ≠ 0) (h : (if p then code else rest) = 0)
    (next : rest = 0 → rest' = r) : (if p then code else rest') = r := by
  have hp : ¬ p := fun hp => hcode hp ((if_pos hp).symm.trans h)
  rw [if_neg hp] at h ⊢
  exact next h

/-- Before check 8 only what the LOC door keeps for itself depends on the values: where one write passes every check, another of the same
entry and length, with values outside the range, is refused for them (R363). -/
theorem writeChecks_out_of_range (s : State) (c : Caller) {idx sub : Nat} {data data' : List Byte} {e : Entry}
    (h : s.writeChecks c (entryWrite idx sub data) = 0) (he : entryOf idx sub = some e) (hlen : data'.length = data.length)
    (hloc : locOnly (entryWrite idx sub data') = locOnly (entryWrite idx sub data))
    (hrange : e.rangeCheck (s.spliced e (entryWrite idx sub data')) ≠ 0) :
    s.writeChecks c (entryWrite idx sub data') = abortRange := by
  unfold State.writeChecks at h ⊢
  rw [hloc]
  simp only [entryWrite_index, entryWrite_sub, entryWrite_offset, entryWrite_data, he, hlen] at h ⊢
  refine past_check (fun _ => by decide) h fun h => ?_ -- the door is open
  refine past_check (fun _ => by decide) h fun h => ?_ -- no fail-safe
  refine past_check (fun _ => by decide) h fun h => ?_ -- no recovery loader
  refine past_check id h fun h => ?_ -- check 4: the entry exists
  refine past_check (fun _ => by decide) h fun h => ?_ -- check 5: rights
  refine past_check (fun _ => by decide) h fun h => ?_ -- check 6: access
  refine past_check id h fun _ => ?_ -- check 7: size
  exact if_pos (Or.inl hrange)

/-- What the checks refuse changes nothing but the answer's own counts: the door is told the code (R363). -/
theorem directWrite_refused (s : State) (d : Door) {idx sub code : Nat} {data : List Byte} (hreach : s.doorReach d = true)
    (hcheck : s.writeChecks (callerAt d) (entryWrite idx sub data) = code) (hcode : code ≠ 0) (hwaits : code ≠ abWaits) :
    s.fresh.directWrite d idx sub 0 data = s.fresh.verdict d code := by
  have write : s.fresh.doorWrite (callerAt d) (entryWrite idx sub data) true = (code, s.fresh.answered d code) := by
    simp only [State.doorWrite, fresh_writeChecks, hcheck]
    exact if_pos hcode
  rw [← writeVerdict_of_ne s.fresh d hwaits, State.directWrite, fresh_doorReach, hreach]
  exact congrArg (fun x => x.2.writeVerdict d x.1) write

end Sys2Proof.Machine
end

section
/-! SUPPORT. The entries of a stream (R204), and what writes of `StreamCommand` and of `StreamEvents` do (R189, R190). -/

namespace Sys2Proof.Machine

/-! ### The entries of a stream -/

theorem entryAt_stream (n : Stream) (sub : Nat) : entryAt (0x2D00 + n.val) sub = entryStream n sub := by
  have last : n.val < 256 := n.isLt
  unfold entryAt
  simp (disch := omega) only [if_neg, if_pos, dif_pos, Nat.add_sub_cancel_left]

theorem entryOf_stream (n : Stream) {sub : Nat} (h : sub ≠ 0) : entryOf (0x2D00 + n.val) sub = entryStream n sub := by
  simp [entryOf, h, entryAt_stream]

/-- `StreamCommand`, as the list of R204 gives it. -/
def streamCommandEntry (n : Stream) : Entry := ⟨.u8, .wo, [.stream n .streamCommand], 1, .between 1 4, false⟩

/-- `StreamEvents`, as the list of R204 gives it. -/
def streamEventsEntry (n : Stream) : Entry := ⟨.u32, .rs, [.stream n .streamEvents], 4, .any, false⟩

theorem entryOf_streamCommand (n : Stream) : entryOf (0x2D00 + n.val) 16 = some (streamCommandEntry n) :=
  entryOf_stream n (by decide)

theorem entryOf_streamEvents (n : Stream) : entryOf (0x2D00 + n.val) 19 = some (streamEventsEntry n) :=
  entryOf_stream n (by decide)

/-! ### `StreamCommand` -/

theorem doorEffect_streamCommand (s : State) (c : Caller) (n : Stream) (data : List Byte) :
    s.doorEffect c (entryWrite (0x2D00 + n.val) 16 data) (streamCommandEntry n) =
      s.writeStreamCommand c.door n.val (ofBytesBe data) := by
  have last : n.val < 256 := n.isLt
  simp only [State.doorEffect, streamCommandEntry, entryWrite, State.effectLow]
  simp (disch := omega) only [if_neg, if_pos, Nat.add_sub_cancel_left]

theorem writeStreamCommand_of_not_configured (s : State) (d : Door) {n v : Nat} (hn : s.configured n = false) (hv : 1 ≤ v ∧ v ≤ 4) :
    s.writeStreamCommand d n v = (abortState, s) := by
  have inRange : ¬ (v = 0 ∨ 4 < v) := by omega
  simp [State.writeStreamCommand, inRange, hn]

/-- Check 11 of a write of `StreamCommand`: the stream is configured (R190). -/
theorem directWrite_streamCommand_of_not_configured (s : State) (d : Door) (n : Stream) (v : Byte) (hn : s.configured n.val = false)
    (hv : 1 ≤ v.toNat ∧ v.toNat ≤ 4) (h : s.Takes d (entryWrite (0x2D00 + n.val) 16 [v])) :
    s.fresh.directWrite d (0x2D00 + n.val) 16 0 [v] = s.fresh.verdict d abortState := by
  have effect : s.fresh.doorEffect (callerAt d) (entryWrite (0x2D00 + n.val) 16 [v]) (streamCommandEntry n) = (abortState, s.fresh) := by
    rw [doorEffect_streamCommand, ofBytesBe_singleton, writeStreamCommand_of_not_configured s.fresh _ hn hv]
  have write := directWrite_entryWrite s d (0x2D00 + n.val) 16 [v] (streamCommandEntry n) h (entryOf_streamCommand n)
  rw [effect] at write
  exact write (show abortState ≠ abWaits by decide)

/-- A write of `StreamCommand` carries one value. -/
theorem spliced_streamCommand (s : State) (n : Stream) (v : Byte) :
    s.spliced (streamCommandEntry n) (entryWrite (0x2D00 + n.val) 16 [v]) = [(.stream n .streamCommand, v.toNat)] := by
  simp [State.spliced, Entry.splice, streamCommandEntry, Entry.ofElem, ofBytesBe_singleton]

theorem rangeCheck_streamCommand (s : State) (n : Stream) {v : Byte} (hv : v.toNat = 0 ∨ 4 < v.toNat) :
    (streamCommandEntry n).rangeCheck (s.spliced (streamCommandEntry n) (entryWrite (0x2D00 + n.val) 16 [v])) ≠ 0 := by
  have outside : ¬ (1 ≤ v.toNat ∧ v.toNat ≤ 4) := by omega
  rw [spliced_streamCommand]
  simpa [Entry.rangeCheck, streamCommandEntry, Range.ok] using outside

/-- No write of a stream's entries is the LOC door's alone (R359, R378). -/
theorem locOnly_stream (n : Stream) (sub : Nat) (data : List Byte) : locOnly (entryWrite (0x2D00 + n.val) sub data) = false := by
  have last : n.val < 256 := n.isLt
  have rightsEntry : (0x2D00 + n.val == 0x4C02) = false := beq_eq_false_iff_ne.2 (by omega)
  have commitEntry : (0x2D00 + n.val == 0x4C01) = false := beq_eq_false_iff_ne.2 (by omega)
  simp only [locOnly, entryWrite_index, rightsEntry, commitEntry, Bool.false_and, Bool.or_self]

/-- Check 8 of a write of `StreamCommand`: a value outside 1 to 4 is refused, configured or not (R190). -/
theorem directWrite_streamCommand_out_of_range (s : State) (d : Door) (n : Stream) {v v' : Byte} (hv : v'.toNat = 0 ∨ 4 < v'.toNat)
    (h : s.Takes d (entryWrite (0x2D00 + n.val) 16 [v])) :
    s.fresh.directWrite d (0x2D00 + n.val) 16 0 [v'] = s.fresh.verdict d abortRange := by
  obtain ⟨reach, passes⟩ := h
  have alike : locOnly (entryWrite (0x2D00 + n.val) 16 [v']) = locOnly (entryWrite (0x2D00 + n.val) 16 [v]) := by
    rw [locOnly_stream, locOnly_stream]
  have check := writeChecks_out_of_range (data' := [v']) s (callerAt d) passes (entryOf_streamCommand n) rfl alike
    (rangeCheck_streamCommand s n hv)
  exact directWrite_refused s d reach check (by decide) (by decide)

/-! ### `StreamEvents` -/

/-- A write to an event-status entry is a clear of it (R375). -/
theorem doorEffect_eventStatus (s : State) (c : Caller) (w : RegWrite) {e : Entry} {r : Reg} (ha : e.access = .rs) (hr : e.regs = [r]) :
    s.doorEffect c w e = (0, s.clearEvents r (ofBytesBe w.data)) := by
  simp only [State.doorEffect, ha, hr]

theorem directWrite_streamEvents (s : State) (d : Door) (n : Stream) {w : Nat} (hw : w < 2 ^ 32)
    (h : s.Takes d (entryWrite (0x2D00 + n.val) 19 (bytesBe 4 w))) :
    s.fresh.directWrite d (0x2D00 + n.val) 19 0 (bytesBe 4 w) = (s.fresh.clearEvents (.stream n .streamEvents) w).verdict d 0 := by
  have spelled : ofBytesBe (bytesBe 4 w) = w := (ofBytesBe_bytesBe 4 w).trans (Nat.mod_eq_of_lt hw)
  have effect : s.fresh.doorEffect (callerAt d) (entryWrite (0x2D00 + n.val) 19 (bytesBe 4 w)) (streamEventsEntry n) =
      (0, s.fresh.clearEvents (.stream n .streamEvents) w) := by
    rw [doorEffect_eventStatus (e := streamEventsEntry n) s.fresh _ _ rfl rfl, entryWrite_data, spelled]
  have write := directWrite_entryWrite s d (0x2D00 + n.val) 19 (bytesBe 4 w) (streamEventsEntry n) h (entryOf_streamEvents n)
  rw [effect] at write
  exact write (show 0 ≠ abWaits by decide)

/-- Whether a stream is enabled, and so whether it is configured, is no part of the checks of a clear of its events (R190). -/
theorem writeChecks_streamEvents_set_enable (s : State) (c : Caller) (n : Stream) (v : Nat) (data : List Byte) :
    (s.set (.stream n .streamEnable) v).writeChecks c (entryWrite (0x2D00 + n.val) 19 data) =
      s.writeChecks c (entryWrite (0x2D00 + n.val) 19 data) := by
  refine writeChecks_set_ne s v c _ (by simp) (by simp) fun e he => ?_
  obtain rfl : streamEventsEntry n = e := Option.some.inj ((entryOf_streamEvents n).symm.trans he)
  simp [streamEventsEntry]

/-- Settles O47: the four commands by check 11, the other values by check 8, and the clears by what an event-status entry does with a
write and by what its checks read. -/
theorem streamCommandRefusals : Obligations.StreamCommandRefusals := by
  intro s d n
  have refused (hn : s.configured n.val = false) (v : Byte) (hv : 1 ≤ v.toNat ∧ v.toNat ≤ 4)
      (h : s.Takes d (entryWrite (0x2D00 + n.val) 16 [v])) :=
    after_of (f := fun t => t.directWrite d (0x2D00 + n.val) 16 0 [v]) (directWrite_streamCommand_of_not_configured s d n v hn hv h)
  refine ⟨fun hn => ⟨fun h => ?_, fun h => ?_, fun h => ?_, fun h => ?_⟩, fun v hv h => ?_, fun w hw h => ?_, fun w => ?_⟩
  · exact congrArg Host.Outcome.next (refused hn 1 (by decide) h)
  · exact congrArg Host.Outcome.next (refused hn 2 (by decide) h)
  · exact congrArg Host.Outcome.next (refused hn 3 (by decide) h)
  · exact congrArg Host.Outcome.next (refused hn 4 (by decide) h)
  · exact congrArg Host.Outcome.next (after_of (directWrite_streamCommand_out_of_range s d n hv h))
  · exact congrArg Host.Outcome.next (after_of (directWrite_streamEvents s d n hw h))
  · exact (writeChecks_streamEvents_set_enable s (callerAt d) n 0 (bytesBe 4 w)).symm

end Sys2Proof.Machine
end

section
/-! SUPPORT. The time counter (R208) and its wrap (R212): what a wrap leaves, the counter after an advance, and the entry that reads
`TimeExtended`. -/

namespace Sys2Proof.Machine

/-! ### What a wrap leaves -/

@[simp] theorem raise_time (s : State) (n d : Nat) : (s.raise n d).time = s.time := rfl

@[simp] theorem wrapTime_get_timeWrapCount (s : State) :
    s.wrapTime.get (.time .timeWrapCount) = (s.get (.time .timeWrapCount) + 1) % 2 ^ 32 := by
  rw [State.wrapTime, raise_get, get_flag_ne _ _ (by decide), get_bump_self]
  rfl

@[simp] theorem wrapTime_get_timeEvents (s : State) :
    s.wrapTime.get (.time .timeEvents) = eventSet (s.get (.time .timeEvents)) timeWrap % 2 ^ 32 := by
  rw [State.wrapTime, raise_get, get_flag_self, get_bump_ne _ (by decide)]
  rfl

/-- TIME_WRAP carries the count that the wrap itself has reached. -/
@[simp] theorem wrapTime_due (s : State) : s.wrapTime.due = s.due ++ [.raised 62 (s.wrapTime.get (.time .timeWrapCount))] := by
  rw [State.wrapTime, raise_due, raise_get, flag_due, bump_due]

@[simp] theorem wrapTime_time (s : State) : s.wrapTime.time = s.time := by
  rw [State.wrapTime, raise_time, flag_time, bump_time]

/-- The wrap's own record leaves the counter where the advance has put it. -/
@[simp] theorem wrapTime_counter (s : State) : s.wrapTime.counter = s.counter := by
  rw [State.counter, State.counter, wrapTime_time]

/-! ### The counter set and advanced -/

/-- The state with the 64-bit counter at `n`, modulo its width. -/
def State.withCounter (s : State) (n : Nat) : State :=
  { s with time := { s.time with ns := n / 2 ^ 32 % 2 ^ 32, frac := n % 2 ^ 32 } }

@[simp] theorem withCounter_regs (s : State) (n : Nat) : (s.withCounter n).regs = s.regs := rfl
@[simp] theorem withCounter_get (s : State) (n : Nat) (r : Reg) : (s.withCounter n).get r = s.get r := rfl
@[simp] theorem withCounter_due (s : State) (n : Nat) : (s.withCounter n).due = s.due := rfl

/-- Nanoseconds and fraction together hold the low 64 bits. -/
@[simp] theorem withCounter_counter (s : State) (n : Nat) : (s.withCounter n).counter = n % 2 ^ 64 := by
  show n / 2 ^ 32 % 2 ^ 32 * 2 ^ 32 + n % 2 ^ 32 = n % 2 ^ 64
  omega

theorem advanceTime_of_wrap (s : State) {amount : Nat} (h : 2 ^ 64 ≤ s.counter + amount) :
    s.advanceTime amount = (s.withCounter (s.counter + amount)).wrapTime :=
  if_pos h

theorem advanceTime_of_no_wrap (s : State) {amount : Nat} (h : s.counter + amount < 2 ^ 64) :
    s.advanceTime amount = s.withCounter (s.counter + amount) :=
  if_neg (Nat.not_le.2 h)

/-! ### `TimeExtended` -/

/-- Every variant has the counter's entries (R390). -/
theorem lacking_time (v : Ident) (sub : Nat) : lacking v 0x3400 sub = false := by
  simp [lacking, wyhelenIndex, dramEntry]

/-- Entry 3400.03 reads `TimeExtended`, 64 bits wide. -/
theorem entryBytes_timeExtended (s : State) (c : Caller) (staged : Bool) :
    s.entryBytes c 0x3400 3 staged = bytesBe 8 s.extended :=
  entryBytes_of_no_register s c staged (by decide) rfl rfl (lacking_time s.ident 3)

/-- Settles O48: an advance is the counter set and, from 2⁶⁴ on, the wrap's record on top, so each clause is what one of the two leaves. -/
theorem counterWrap : Obligations.CounterWrap := by
  intro s amount
  refine ⟨fun wraps => ⟨_, advanceTime_of_wrap s wraps, ?count, ?events, ?due, ?counter⟩,
    fun fits => ⟨_, advanceTime_of_no_wrap s fits, withCounter_regs s _, withCounter_due s _, ?noWrap⟩, rfl, entryBytes_timeExtended s⟩
  case count => rw [wrapTime_get_timeWrapCount, withCounter_get]
  case events => rw [wrapTime_get_timeEvents, withCounter_get]
  case due => rw [wrapTime_due, withCounter_due]
  case counter => rw [wrapTime_counter, withCounter_counter]
  case noWrap => rw [withCounter_counter, Nat.mod_eq_of_lt fits]

end Sys2Proof.Machine
end

section
/-! SUPPORT. The wake timer (R325): what it reads while it runs and while it is stopped, what a write of `WakeTimer` and the expiry leave,
and the entry that reads it. -/

namespace Sys2Proof.Machine

/-! ### What the timer reads -/

theorem wakeTimer_of_stopped {s : State} (h : s.domains.timerEnd = none) : s.wakeTimer = 0 := by
  rw [State.wakeTimer, h]
  rfl

theorem wakeTimer_of_running {s : State} {t : Nat} (h : s.domains.timerEnd = some t) : s.wakeTimer = t - s.elapsedMs := by
  rw [State.wakeTimer, h]
  rfl

/-! ### The timer set -/

@[simp] theorem writeWakeTimer_regs (s : State) (n : Nat) : (s.writeWakeTimer n).regs = s.regs := rfl
@[simp] theorem writeWakeTimer_elapsedMs (s : State) (n : Nat) : (s.writeWakeTimer n).elapsedMs = s.elapsedMs := rfl

theorem writeWakeTimer_zero_timerEnd (s : State) : (s.writeWakeTimer 0).domains.timerEnd = none := rfl

theorem writeWakeTimer_timerEnd (s : State) {n : Nat} (hn : n ≠ 0) :
    (s.writeWakeTimer n).domains.timerEnd = some (s.elapsedMs + n) :=
  if_neg hn

/-- While the end that a write has set stands, the timer reads what was written less the time since, and 0 once that has passed. -/
theorem wakeTimer_of_written {s u : State} {n : Nat} (same : u.domains.timerEnd = (s.writeWakeTimer n).domains.timerEnd)
    (later : s.elapsedMs ≤ u.elapsedMs) : u.wakeTimer = n - (u.elapsedMs - s.elapsedMs) := by
  by_cases hn : n = 0
  · subst hn
    rw [wakeTimer_of_stopped (same.trans (writeWakeTimer_zero_timerEnd s)), Nat.zero_sub]
  · rw [wakeTimer_of_running (same.trans (writeWakeTimer_timerEnd s hn))]
    omega

theorem wakeTimer_writeWakeTimer (s : State) (n : Nat) : (s.writeWakeTimer n).wakeTimer = n := by
  rw [wakeTimer_of_written (s := s) rfl (Nat.le_refl _), writeWakeTimer_elapsedMs, Nat.sub_self, Nat.sub_zero]

/-! ### `WakeTimer` -/

/-- `WakeTimer`, as the map of R330 gives it: writable, and without a register of its own. -/
def wakeTimerEntry : Entry := ⟨.u32, .rw, [], 4, .any, false⟩

theorem entryAt_wakeTimer : entryAt 0x4000 10 = some wakeTimerEntry := rfl

theorem entryOf_wakeTimer : entryOf 0x4000 10 = some wakeTimerEntry := rfl

/-- Every variant has the entries of the domains (R390). -/
theorem lacking_domain (v : Ident) (sub : Nat) : lacking v 0x4000 sub = false := by
  simp [lacking, wyhelenIndex, dramEntry]

/-- Entry 4000.0A reads the time that remains, 32 bits wide. -/
theorem entryBytes_wakeTimer (s : State) (c : Caller) (staged : Bool) : s.entryBytes c 0x4000 10 staged = bytesBe 4 s.wakeTimer :=
  entryBytes_of_no_register s c staged (by decide) entryAt_wakeTimer rfl (lacking_domain s.ident 10)

theorem doorEffect_wakeTimer (s : State) (c : Caller) (data : List Byte) :
    s.doorEffect c (entryWrite 0x4000 10 data) wakeTimerEntry = (0, s.writeWakeTimer (ofBytesBe data)) := by
  simp [State.doorEffect, wakeTimerEntry, State.effectMid]

theorem directWrite_wakeTimer (s : State) (d : Door) {n : Nat} (hn : n < 2 ^ 32) (h : s.Takes d (entryWrite 0x4000 10 (bytesBe 4 n))) :
    s.fresh.directWrite d 0x4000 10 0 (bytesBe 4 n) = (s.fresh.writeWakeTimer n).verdict d 0 := by
  have spelled : ofBytesBe (bytesBe 4 n) = n := (ofBytesBe_bytesBe 4 n).trans (Nat.mod_eq_of_lt hn)
  have effect : s.fresh.doorEffect (callerAt d) (entryWrite 0x4000 10 (bytesBe 4 n)) wakeTimerEntry = (0, s.fresh.writeWakeTimer n) := by
    rw [doorEffect_wakeTimer, spelled]
  have write := directWrite_entryWrite s d 0x4000 10 (bytesBe 4 n) wakeTimerEntry h entryOf_wakeTimer
  rw [effect] at write
  exact write (show 0 ≠ abWaits by decide)

/-! ### The expiry -/

theorem cmdWakeTimerExpiry_of_stopped {s : State} (also : List WakeSeen) (h : s.domains.timerEnd = none) :
    s.cmdWakeTimerExpiry also = s := by
  rw [State.cmdWakeTimerExpiry, h]
  rfl

/-- An expiry stops the timer as a write of 0 does, and is then heard as wake source 6. -/
theorem cmdWakeTimerExpiry_of_running {s : State} (also : List WakeSeen) (h : s.domains.timerEnd ≠ none) :
    s.cmdWakeTimerExpiry also = (s.writeWakeTimer 0).heard 6 0 also :=
  if_pos (Option.isSome_iff_ne_none.2 h)

/-- Settles O49: the write sets the end that every later read counts from, and the expiry is judged by whether an end is set. -/
theorem wakeTimerCounts : Obligations.WakeTimerCounts := by
  intro s u d n also hn
  refine ⟨fun takes => ⟨s.fresh.writeWakeTimer n, ?write, wakeTimer_writeWakeTimer s.fresh n, ?stop, wakeTimer_of_written⟩,
    entryBytes_wakeTimer s, fun stopped => ?idle,
    fun runs => ⟨s.fresh.writeWakeTimer 0, wakeTimer_writeWakeTimer s.fresh 0, writeWakeTimer_regs s.fresh 0, ?fires⟩⟩
  case write =>
    exact congrArg Host.Outcome.next
      (after_of (f := fun t => t.directWrite d 0x4000 10 0 (bytesBe 4 n)) (directWrite_wakeTimer s d hn takes))
  case stop =>
    rintro rfl
    exact writeWakeTimer_zero_timerEnd s.fresh
  case idle =>
    exact congrArg Host.Outcome.next
      (after_of (f := fun t => t.cmdWakeTimerExpiry also) (cmdWakeTimerExpiry_of_stopped (s := s.fresh) also stopped))
  case fires =>
    exact congrArg Host.Outcome.next
      (after_of (f := fun t => t.cmdWakeTimerExpiry also) (cmdWakeTimerExpiry_of_running (s := s.fresh) also runs))

end Sys2Proof.Machine
end

section
/-! SUPPORT. Every command runs as one step: what that says of the queue, the identity and the order of the commands (R363). -/

namespace Sys2Proof.Machine

/-! ### Every command has a next state -/

/-- Every row's meaning is an operation of its family run as one step: none is refused, none faults. -/
theorem exec_eq_after (c : Instr) : ∃ f : State → State, ∀ s, exec c s = .next (s.after f) := by
  cases c <;> exact ⟨_, fun _ => rfl⟩

/-- The state that a command leaves. -/
theorem exec_next (c : Instr) (s : State) : ∃ t : State, exec c s = .next t ∧ t.pending = s.pending ∧ t.ident = s.ident ∧ t.due = [] := by
  obtain ⟨f, hf⟩ := exec_eq_after c
  exact ⟨s.after f, hf s, after_pending s f, after_ident s f, after_due s f⟩

theorem step_of_empty {s : State} (h : s.pending = []) : step s = .next s.tick := by
  unfold step
  split
  · rfl
  · next c rest hq => cases h.symm.trans hq

theorem step_of_front {s : State} {c : Instr} {rest : List Instr} (h : s.pending = c :: rest) :
    step s = exec c { s with pending := rest } := by
  unfold step
  split
  · next hq => cases h.symm.trans hq
  · next hq => cases h.symm.trans hq; rfl

/-- A step takes the front of the queue, keeps the identity and leaves nothing due. -/
theorem step_next (s : State) : ∃ t : State, step s = .next t ∧ t.pending = s.pending.tail ∧ t.ident = s.ident ∧ t.due = [] := by
  cases hq : s.pending with
  | nil => exact ⟨s.tick, step_of_empty hq, (after_pending s _).trans hq, after_ident s _, after_due s _⟩
  | cons c rest =>
    obtain ⟨t, ht, hp, hi, hd⟩ := exec_next c { s with pending := rest }
    exact ⟨t, (step_of_front hq).trans ht, hp, hi, hd⟩

/-- Settles O55: what a step leaves of the queue is a part of what waited, so every command in it is still well-formed. -/
theorem stepKeepsBetween : Obligations.StepKeepsBetween := by
  rintro s t ⟨-, variant, formed⟩ hstep
  obtain ⟨u, hu, hp, hi, hd⟩ := step_next s
  obtain rfl : u = t := Host.Outcome.next.inj (hu.symm.trans hstep)
  refine ⟨⟨hd, hi ▸ variant, fun c hc => formed c ?_⟩, hi, hp⟩
  exact List.mem_of_mem_tail (hp ▸ hc)

/-! ### The queue -/

/-- As many steps as commands wait are the commands run in their order. -/
theorem steps_length_eq_runAll (l : List Instr) (s : State) (h : s.pending = l) : steps l.length s = runAll l s := by
  induction l generalizing s with
  | nil => rfl
  | cons c rest ih =>
    obtain ⟨t, ht, hp, -, -⟩ := exec_next c { s with pending := rest }
    show (match step s with | .next t => steps rest.length t | o => o) = (match exec c { s with pending := rest } with
      | .next t => runAll rest t | o => o)
    rw [step_of_front h, ht]
    exact ih t hp

/-- Run in their order, the commands of the queue leave it empty. -/
theorem runAll_next (l : List Instr) (s : State) (h : s.pending = l) : ∃ t : State, runAll l s = .next t ∧ t.pending = [] := by
  induction l generalizing s with
  | nil => exact ⟨s, rfl, h⟩
  | cons c rest ih =>
    obtain ⟨t, ht, hp, -, -⟩ := exec_next c { s with pending := rest }
    obtain ⟨u, hu, he⟩ := ih t hp
    refine ⟨u, ?_, he⟩
    rw [runAll, ht]
    exact hu

/-- Settles O56: the steps are the commands run in order, and each of those has a next state. -/
theorem queueInOrder : Obligations.QueueInOrder := by
  intro l s
  obtain ⟨t, ht, he⟩ := runAll_next l { s with pending := l } rfl
  exact ⟨t, (steps_length_eq_runAll l { s with pending := l } rfl).trans ht, ht, he⟩

/-- Settles O43: the step by its cases, the queue put in front of the state for the second. -/
theorem stepRunsFrontCommand : Obligations.StepRunsFrontCommand := by
  refine ⟨fun c rest s => step_of_front rfl, fun c s h => ?_, fun s => step_of_empty⟩
  have same : ({ s with pending := [] } : State) = s := by rw [← h]
  exact (step_of_front rfl).trans (congrArg (exec c) same)

end Sys2Proof.Machine
end

section
/-! SUPPORT. The end of a step where nothing follows from the command (`State.Calm`): each of its parts leaves the state. -/

namespace Sys2Proof.Machine

/-! ### Each part of the end of a step, where it finds nothing to do -/

theorem tellPorts_of_alone {s : State} (before : State) (h : s.alone = true) : s.tellPorts before = s := if_pos h

theorem tellMembers_of_alone {s : State} (before : State) (h : s.alone = true)
    (hold : ∀ i : Image, (s.hold i).tell = false ∧ (s.hold i).tellPorts = []) : s.tellMembers before = s := by
  refine forEach_id s _ _ fun i _ => ?_
  obtain ⟨tell, ports⟩ := hold i
  simp [tell, ports, h]

theorem tellHosts_of_same {s before : State} (h : ∀ i : Image, s.get (.hold4 i .holdoverState) = before.get (.hold4 i .holdoverState) ∧
    s.get (.hold4 i .adoptResult) = before.get (.hold4 i .adoptResult) ∧
    s.get (.hold4 i .holdoverHeldPorts) = before.get (.hold4 i .holdoverHeldPorts)) : s.tellHosts before = s := by
  refine forEach_id s _ _ fun i _ => ?_
  obtain ⟨state, result, held⟩ := h i
  simp [state, result, held]

theorem dropGood_of_sound {s : State} (h : s.pwr = true → ∀ c : Channel, s.good c = true → s.sound c = true) : s.dropGood = s := by
  unfold State.dropGood
  split
  · next on =>
    refine forEach_id s _ _ fun c hc => ?_
    obtain ⟨good, unsound⟩ := Bool.and_eq_true_iff.1 (List.mem_filter.1 hc).2
    simp [h on c good] at unsound
  · rfl

/-- The time of the manager's shedding stands as it is while it runs just when A is above B (R263). -/
theorem overFrom_kept {from' : Option Nat} {above : Prop} [Decidable above] (now : Nat) (h : from'.isSome = decide above) :
    (if above then some (from'.getD now) else none) = from' := by
  cases from' with
  | none => exact if_neg (of_decide_eq_false h.symm)
  | some t => exact if_pos (of_decide_eq_true h.symm)

theorem tellSupply_of_same {s before : State} (good : s.pwr = true → ∀ c : Channel, s.good c = true → s.sound c = true)
    (shedding : s.path.overFrom.isSome = decide (s.budget < s.allocated)) (limit : s.get (.pd .pdBudgetFeedLimit) = s.feedLimit)
    (board : s.get (.pd .pdBudgetBoard) = before.get (.pd .pdBudgetBoard)) (feeds : s.feedsOn = before.feedsOn) :
    s.tellSupply before = s := by
  have shed := overFrom_kept s.time.elapsed shedding
  have noGasp : ¬ (s.domainOn 1 && before.feedsOn != 0 && before.feedsOn == 0 && before.domainOn 1) = true := by
    cases hf : before.feedsOn <;> simp
  have feeds' : State.feedsOn { s with path := { s.path with overFrom := s.path.overFrom } } = before.feedsOn := feeds
  simp only [State.tellSupply, dropGood_of_sound good, limit, board, bne_self_eq_false, Bool.or_self, Bool.and_false,
    Bool.false_eq_true, if_false, shed, feeds']
  exact if_neg noGasp

theorem dropLaunches_of_none {s : State} (h : s.time.launches = []) : s.dropLaunches = s := by
  simp [State.dropLaunches, h, forEach_nil]

theorem dropFarOwner_of_here {s : State} (h : s.cfg.owner.bind Prod.snd = none) : s.dropFarOwner = s := by
  unfold State.dropFarOwner
  split
  · next howner => simp [howner] at h
  · rfl

theorem retryForwards_of_none {s : State} (h : s.doors.forwarded = []) : s.retryForwards = s := by
  simp [State.retryForwards, h, forEach_nil]

theorem endHandOver_of_no_s4 {s : State} (h : (s.faults.running.any fun r => r.level == 4) = false) : s.endHandOver = s := by
  unfold State.endHandOver
  split
  · next r hr =>
    rw [hr] at h
    have other : r.level ≠ 4 := by simpa using h
    simp [other]
  · rfl

theorem pool_of_shown {s : State} (h : s.poolLow = decide (s.cellsFree < 16)) : s.pool = s := by
  by_cases low : s.cellsFree < 16
  · have shown : s.poolLow = true := h.trans (decide_eq_true low)
    exact (if_pos low).trans (if_pos shown)
  · have shown : s.poolLow = false := h.trans (decide_eq_false low)
    refine (if_neg low).trans ?_
    rw [← shown]

theorem tellPins_of_same {s before : State} (h : ∀ p : Pin, p = .canStby ∨ p = .ddrResetN ∨ p = .ddrCke ∨ p = .pgColl →
    s.level p = before.level p) : s.tellPins before = s := by
  refine forEach_id s _ _ fun p hp => ?_
  obtain ⟨mem, changed⟩ := List.mem_filter.1 hp
  have watched : p = .canStby ∨ p = .ddrResetN ∨ p = .ddrCke ∨ p = .pgColl := by simpa using mem
  simp [h p watched] at changed

/-! ### All of them -/

/-- Where nothing follows from a command, what it made is what the step ends with. -/
theorem concluded_of_calm {s t : State} (h : s.Calm t) : s.concluded t = t := by
  obtain ⟨due, ⟨alone, hold, launches, owner, forwarded, running, cells, good, shedding⟩, entries, limit, board, feeds, pins⟩ := h
  simp only [State.concluded, settle_nil _ due, tellPorts_of_alone _ alone, tellMembers_of_alone _ alone hold,
    tellHosts_of_same entries, tellSupply_of_same good shedding limit board feeds, dropLaunches_of_none launches,
    dropFarOwner_of_here owner, retryForwards_of_none forwarded, endHandOver_of_no_s4 running, pool_of_shown cells,
    tellPins_of_same pins]

/-- Settles O54: each part of the end of a step finds nothing to do, and the queue and the identity stay the starting state's. -/
theorem calmFinish : Obligations.CalmFinish := by
  intro s t h
  rw [State.finish, concluded_of_calm h]
  rfl

end Sys2Proof.Machine
end

section
/-! SUPPORT. Edges of the clock (R208, R210): what one edge adds, what n add up to, and the facet at rest, which keeps time and sends
nothing. -/

namespace Sys2Proof.Machine

/-! ### An advance of the counter -/

@[simp] theorem raise_domains (s : State) (n d : Nat) : (s.raise n d).domains = s.domains := rfl

@[simp] theorem wrapTime_domains (s : State) : s.wrapTime.domains = s.domains := by
  rw [State.wrapTime, raise_domains, flag_domains, bump_domains]

@[simp] theorem withCounter_elapsed (s : State) (n : Nat) : (s.withCounter n).time.elapsed = s.time.elapsed := rfl
@[simp] theorem withCounter_pll (s : State) (n : Nat) : (s.withCounter n).time.pll = s.time.pll := rfl
@[simp] theorem withCounter_freq (s : State) (n : Nat) : (s.withCounter n).time.freq = s.time.freq := rfl
@[simp] theorem withCounter_domains (s : State) (n : Nat) : (s.withCounter n).domains = s.domains := rfl

/-- An advance moves the counter and leaves the rest of the time unit. -/
theorem advanceTime_time (s : State) (amount : Nat) : (s.advanceTime amount).time = (s.withCounter (s.counter + amount)).time := by
  rcases Nat.lt_or_ge (s.counter + amount) (2 ^ 64) with fits | wraps
  · rw [advanceTime_of_no_wrap s fits]
  · rw [advanceTime_of_wrap s wraps, wrapTime_time]

theorem advanceTime_counter (s : State) (amount : Nat) : (s.advanceTime amount).counter = (s.counter + amount) % 2 ^ 64 := by
  rw [State.counter, advanceTime_time]
  exact withCounter_counter s _

@[simp] theorem advanceTime_elapsed (s : State) (amount : Nat) : (s.advanceTime amount).time.elapsed = s.time.elapsed := by
  rw [advanceTime_time, withCounter_elapsed]
@[simp] theorem advanceTime_pll (s : State) (amount : Nat) : (s.advanceTime amount).time.pll = s.time.pll := by
  rw [advanceTime_time, withCounter_pll]
@[simp] theorem advanceTime_increment (s : State) (amount : Nat) : (s.advanceTime amount).increment = s.increment := by
  rw [State.increment, advanceTime_time, withCounter_freq, State.increment]

@[simp] theorem advanceTime_domains (s : State) (amount : Nat) : (s.advanceTime amount).domains = s.domains := by
  rcases Nat.lt_or_ge (s.counter + amount) (2 ^ 64) with fits | wraps
  · rw [advanceTime_of_no_wrap s fits, withCounter_domains]
  · rw [advanceTime_of_wrap s wraps, wrapTime_domains, withCounter_domains]

/-- An advance wraps the counter once at most, and each wrap is counted. -/
theorem advanceTime_get_timeWrapCount {s : State} {amount : Nat} (hc : s.counter < 2 ^ 64) (ha : amount < 2 ^ 64)
    (hw : s.get (.time .timeWrapCount) < 2 ^ 32) : (s.advanceTime amount).get (.time .timeWrapCount) =
      (s.get (.time .timeWrapCount) + (s.counter + amount) / 2 ^ 64) % 2 ^ 32 := by
  rcases Nat.lt_or_ge (s.counter + amount) (2 ^ 64) with fits | wraps
  · rw [advanceTime_of_no_wrap s fits, withCounter_get, Nat.div_eq_of_lt fits, Nat.add_zero, Nat.mod_eq_of_lt hw]
  · have once : (s.counter + amount) / 2 ^ 64 = 1 := by omega
    rw [advanceTime_of_wrap s wraps, wrapTime_get_timeWrapCount, withCounter_get, once]

/-! ### An edge -/

/-- An edge of a clock whose period is `units` of the model's own time, at which the counter advances by `amount`. -/
def State.edge (s : State) (units amount : Nat) : State :=
  ({ s with time := { s.time with elapsed := s.time.elapsed + units } }).advanceTime amount

theorem clockEdge_of_pll {s : State} (h : s.time.pll = true) : s.clockEdge = s.edge 5 s.increment := if_pos h

theorem clockEdge_of_xo {s : State} (h : s.time.pll = false) (hx : s.domains.xo = true) :
    s.clockEdge = s.edge 96 (s.increment * 192 / 10) := by
  simp [State.clockEdge, State.edge, h, hx]

theorem clockEdge_of_neither {s : State} (h : s.time.pll = false) (hx : s.domains.xo = false) :
    s.clockEdge = { s with time := { s.time with elapsed := s.time.elapsed + 96 } } := by
  simp [State.clockEdge, h, hx]

@[simp] theorem edge_elapsed (s : State) (units amount : Nat) : (s.edge units amount).time.elapsed = s.time.elapsed + units :=
  advanceTime_elapsed _ amount
@[simp] theorem edge_pll (s : State) (units amount : Nat) : (s.edge units amount).time.pll = s.time.pll := advanceTime_pll _ amount
@[simp] theorem edge_increment (s : State) (units amount : Nat) : (s.edge units amount).increment = s.increment :=
  advanceTime_increment _ amount
@[simp] theorem edge_domains (s : State) (units amount : Nat) : (s.edge units amount).domains = s.domains := advanceTime_domains _ amount
theorem edge_counter (s : State) (units amount : Nat) : (s.edge units amount).counter = (s.counter + amount) % 2 ^ 64 :=
  advanceTime_counter _ amount
theorem edge_get_timeWrapCount {s : State} {amount : Nat} (units : Nat) (hc : s.counter < 2 ^ 64) (ha : amount < 2 ^ 64)
    (hw : s.get (.time .timeWrapCount) < 2 ^ 32) : (s.edge units amount).get (.time .timeWrapCount) =
      (s.get (.time .timeWrapCount) + (s.counter + amount) / 2 ^ 64) % 2 ^ 32 :=
  advanceTime_get_timeWrapCount (s := { s with time := { s.time with elapsed := s.time.elapsed + units } }) hc ha hw

/-! ### Edges one after another -/

/-- What `n` edges of one clock have made of `s`: the clock and the increment stand, and time has passed. -/
def State.Edges (s : State) (units amount n : Nat) (t : State) : Prop :=
  t.time.pll = s.time.pll ∧ t.domains = s.domains ∧ t.increment = s.increment ∧ t.time.elapsed = s.time.elapsed + units * n ∧
    t.counter = (s.counter + n * amount) % 2 ^ 64 ∧
    t.get (.time .timeWrapCount) = (s.get (.time .timeWrapCount) + (s.counter + n * amount) / 2 ^ 64) % 2 ^ 32

theorem Edges.zero {s : State} (units amount : Nat) (hc : s.counter < 2 ^ 64) (hw : s.get (.time .timeWrapCount) < 2 ^ 32) :
    s.Edges units amount 0 s := by
  refine ⟨rfl, rfl, rfl, rfl, ?_, ?_⟩ <;> omega

theorem Edges.succ {s t : State} {units amount n : Nat} (ha : amount < 2 ^ 64) (h : s.Edges units amount n t) :
    s.Edges units amount (n + 1) (t.edge units amount) := by
  obtain ⟨pll, domains, increment, elapsed, counter, wraps⟩ := h
  refine ⟨(edge_pll t _ _).trans pll, (edge_domains t _ _).trans domains, (edge_increment t _ _).trans increment, ?_, ?_, ?_⟩
  · rw [edge_elapsed, elapsed, Nat.mul_succ, Nat.add_assoc]
  · rw [edge_counter, counter, Nat.mod_add_mod, Nat.succ_mul, Nat.add_assoc]
  · rw [edge_get_timeWrapCount units (by omega) ha (by omega), counter, wraps, Nat.succ_mul]
    omega

/-- Edges that all advance the counter by one amount add up. -/
theorem Edges.iterate {s : State} {units amount : Nat} (ha : amount < 2 ^ 64) (hc : s.counter < 2 ^ 64)
    (hw : s.get (.time .timeWrapCount) < 2 ^ 32)
    (edge : ∀ n t, s.Edges units amount n t → t.clockEdge = t.edge units amount) (n : Nat) :
    s.Edges units amount n (State.clockEdge^[n] s) := by
  induction n with
  | zero => exact Edges.zero units amount hc hw
  | succ n ih =>
    rw [Function.iterate_succ_apply', edge n _ ih]
    exact Edges.succ ha ih

theorem clockEdge_iterate_of_neither {s : State} (h : s.time.pll = false) (hx : s.domains.xo = false) (n : Nat) :
    State.clockEdge^[n] s = { s with time := { s.time with elapsed := s.time.elapsed + 96 * n } } := by
  induction n with
  | zero => rfl
  | succ n ih =>
    rw [Function.iterate_succ_apply', ih]
    exact clockEdge_of_neither (s := { s with time := { s.time with elapsed := s.time.elapsed + 96 * n } }) h hx

/-- Settles O57: the edges of TIME and of XO by what edges of one clock add up to, those of neither by themselves. -/
theorem clockEdges : Obligations.ClockEdges := by
  intro s n hc hw
  refine ⟨fun pll ha => ?time, fun pll xo ha => ?xo, fun pll xo => clockEdge_iterate_of_neither pll xo n⟩
  case time =>
    have edge : ∀ n t, s.Edges 5 s.increment n t → t.clockEdge = t.edge 5 s.increment := by
      rintro n t ⟨locked, -, same, -⟩
      rw [clockEdge_of_pll (locked.trans pll), same]
    obtain ⟨-, -, -, elapsed, counter, wraps⟩ := Edges.iterate ha hc hw edge n
    exact ⟨_, rfl, elapsed, counter, wraps⟩
  case xo =>
    have edge : ∀ n t, s.Edges 96 (s.increment * 192 / 10) n t → t.clockEdge = t.edge 96 (s.increment * 192 / 10) := by
      rintro n t ⟨locked, domains, same, -⟩
      rw [clockEdge_of_xo (locked.trans pll) (by rw [domains, xo]), same]
    obtain ⟨-, -, -, elapsed, counter, -⟩ := Edges.iterate ha hc hw edge n
    exact ⟨_, rfl, elapsed, counter⟩

end Sys2Proof.Machine
end

section
/-! SUPPORT. The facet at rest (R208, R296, R303): clock edges and samples of the channels change the counter and the measurements alone. -/

namespace Sys2Proof.Machine

/-! ### What edges and samples can change -/

/-- The registers that a sample of a channel writes (R296, R302). -/
def sampleReg : Reg → Bool
  | .chan _ .chanEnergy | .chan _ .brkHeat => true
  | _ => false

/-- `t` differs from `s` in what clock edges and samples without a trip change: the counter, the model's own time, and the channels'
energy and heat. -/
def State.Measured (s t : State) : Prop :=
  (∃ ns frac elapsed chans regs, t = { s with
    time := { s.time with ns := ns, frac := frac, elapsed := elapsed }, chans := chans, regs := regs }) ∧
    ∀ r, sampleReg r = false → t.get r = s.get r

theorem State.Measured.refl (s : State) : s.Measured s := ⟨⟨s.time.ns, s.time.frac, s.time.elapsed, s.chans, s.regs, rfl⟩, fun _ _ => rfl⟩

theorem State.Measured.trans {s t u : State} (h : s.Measured t) (h' : t.Measured u) : s.Measured u := by
  obtain ⟨⟨_, _, _, _, _, rfl⟩, get⟩ := h
  obtain ⟨⟨ns, frac, elapsed, chans, regs, rfl⟩, get'⟩ := h'
  exact ⟨⟨ns, frac, elapsed, chans, regs, rfl⟩, fun r hr => (get' r hr).trans (get r hr)⟩

/-- What every change of a run of changes keeps, the run keeps. -/
theorem forEach_keeps {α : Type} {P : State → Prop} {s : State} (l : List α) {f : State → α → State}
    (step : ∀ t a, P t → P (f t a)) (h : P s) : P (s.forEach l f) := by
  induction l generalizing s with
  | nil => exact h
  | cons a rest ih => exact ih (step s a h)

/-- A write of a measurement. -/
theorem State.Measured.set (s : State) {r : Reg} (v : Nat) (h : sampleReg r = true) : s.Measured (s.set r v) :=
  ⟨⟨s.time.ns, s.time.frac, s.time.elapsed, s.chans, (s.set r v).regs, rfl⟩, fun x hx => get_set_ne s v fun e => by simp [e, h] at hx⟩

theorem State.Measured.setChan (s : State) (c : Nat) (x : ChanRt) : s.Measured (s.setChan c x) :=
  ⟨⟨s.time.ns, s.time.frac, s.time.elapsed, _, s.regs, rfl⟩, fun _ _ => rfl⟩

theorem State.Measured.setHeat (s : State) (c : Channel) (h : Nat) : s.Measured (s.setHeat c h) :=
  (State.Measured.setChan s _ _).trans (State.Measured.set _ _ rfl)

/-! ### What they leave -/

section
variable {s t : State}

theorem State.Measured.tripped (h : s.Measured t) (c : Channel) : t.tripped c = s.tripped c := by
  rw [State.tripped, h.2 _ rfl]; rfl

theorem State.Measured.domainOn (h : s.Measured t) (d : Nat) : t.domainOn d = s.domainOn d := by
  rw [State.domainOn, State.domainState, h.2 _ rfl]; rfl

theorem State.Measured.alone (h : s.Measured t) : t.alone = s.alone := by
  rw [State.alone, h.2 _ rfl]; rfl

theorem State.Measured.good (h : s.Measured t) (c : Channel) : t.good c = s.good c := by
  rw [State.good, h.2 _ rfl]; rfl

theorem State.Measured.feed (h : s.Measured t) (x : Feed) : t.feed x = s.feed x := by
  obtain ⟨⟨_, _, _, _, _, rfl⟩, -⟩ := h; rfl

theorem State.Measured.tc (h : s.Measured t) (p : Port) : t.tc p = s.tc p := by
  obtain ⟨⟨_, _, _, _, _, rfl⟩, -⟩ := h; rfl

theorem State.Measured.feedsOn (h : s.Measured t) : t.feedsOn = s.feedsOn := by
  simp only [State.feedsOn, h.feed]

theorem State.Measured.collectorNear (h : s.Measured t) (mv : Nat) : t.collectorNear mv = s.collectorNear mv := by
  simp only [State.collectorNear, h.feed, h.2 (.chan _ .chanVoltage) rfl]

theorem State.Measured.sound (h : s.Measured t) (c : Channel) : t.sound c = s.sound c := by
  simp only [State.sound, h.feed, h.tc, h.collectorNear, h.2 (.chan c .brkState) rfl, h.2 (.chan c .chanVoltage) rfl]

theorem State.Measured.budget (h : s.Measured t) : t.budget = s.budget := by
  simp only [State.budget, h.2 (.pd .pdBudgetBoard) rfl, h.2 (.pd .pdBudgetFeedLimit) rfl]

theorem State.Measured.allPorts (h : s.Measured t) : t.allPorts = s.allPorts := by
  obtain ⟨⟨_, _, _, _, _, rfl⟩, -⟩ := h; rfl

theorem State.Measured.allocated (h : s.Measured t) : t.allocated = s.allocated := by
  have alloc : t.alloc = s.alloc := funext fun p => h.2 (.tc p .pdAllocation) rfl
  rw [State.allocated, State.allocated, h.allPorts, alloc]

theorem State.Measured.feedLimit (h : s.Measured t) : t.feedLimit = s.feedLimit := by
  simp only [State.feedLimit, h.feed, h.tripped, h.2 (.feed _ .feedPowerLimit) rfl, h.2 (.power .collectorPowerLimit) rfl,
    h.2 (.power .boardReservePower) rfl, h.2 (.power .portRegEfficiency) rfl]

theorem State.Measured.floats (h : s.Measured t) : t.floats = s.floats := by
  obtain ⟨⟨_, _, _, _, _, rfl⟩, -⟩ := h; rfl

theorem State.Measured.level (h : s.Measured t) {p : Pin} (hp : p = .canStby ∨ p = .ddrResetN ∨ p = .ddrCke ∨ p = .pgColl) :
    t.level p = s.level p := by
  rcases hp with rfl | rfl | rfl | rfl <;>
    simp only [State.level, State.isTrue, h.floats, h.domainOn, h.2 (.res .reservoirDramState) rfl,
      h.2 (.domain .canStbyInSleep) rfl, h.2 (.power .powerGood) rfl]

theorem State.Measured.curveTime (h : s.Measured t) (c : Channel) (mA : Nat) : t.curveTime c mA = s.curveTime c mA := by
  simp only [State.curveTime, State.curvePoints, h.2 (.chan c (.brkCurve _)) rfl]

theorem State.Measured.getInt (h : s.Measured t) {r : Reg} (hr : sampleReg r = false) : t.getInt r = s.getInt r := by
  rw [State.getInt, h.2 r hr, State.getInt]

/-- No channel's current starts a fault timer. -/
abbrev State.Cool (s : State) : Prop := ∀ c : Channel, s.curveTime c (s.getInt (.chan c .chanCurrent)).toNat = none

theorem State.Measured.cool (h : s.Measured t) (hs : s.Cool) : t.Cool := fun c => by
  rw [h.curveTime, h.getInt rfl, hs c]

theorem State.Measured.quiet (h : s.Measured t) (hs : s.Quiet) : t.Quiet := by
  obtain ⟨alone, hold, launches, owner, forwarded, running, cells, good, shedding⟩ := hs
  have sheds : t.path.overFrom.isSome = decide (t.budget < t.allocated) := by
    rw [h.budget, h.allocated, ← shedding]
    obtain ⟨⟨_, _, _, _, _, rfl⟩, -⟩ := h; rfl
  have sound : t.pwr = true → ∀ c : Channel, t.good c = true → t.sound c = true := by
    simpa only [State.pwr, h.domainOn, h.good, h.sound] using good
  refine ⟨h.alone.trans alone, ?_, ?_, ?_, ?_, ?_, ?_, sound, sheds⟩ <;> obtain ⟨⟨_, _, _, _, _, rfl⟩, -⟩ := h <;> assumption

/-- Nothing follows from an edge and its samples. -/
theorem State.Measured.calm (h : s.Measured t) (hs : s.Quiet) (due : s.due = []) (limit : s.get (.pd .pdBudgetFeedLimit) = s.feedLimit) :
    s.Calm t := by
  have kept (i : Image) (r : HoldImageReg) : t.get (.hold4 i r) = s.get (.hold4 i r) := h.2 _ rfl
  refine ⟨?_, h.quiet hs, fun i => ⟨kept i _, kept i _, kept i _⟩, ?_, h.2 _ rfl, h.feedsOn, fun _ => h.level⟩
  · obtain ⟨⟨_, _, _, _, _, rfl⟩, -⟩ := h
    exact due
  · rw [h.2 _ rfl, h.feedLimit, limit]

end

/-! ### Edges and samples of the facet at rest -/

/-- A sample of a current that starts no fault timer trips nothing. -/
theorem sampleChannel_of_cool {s : State} (hs : s.Cool) (c : Channel) :
    s.Measured (s.sampleChannel c) ∧ (s.sampleChannel c).time = s.time := by
  have counted : s.Measured ((s.setChan c.val { s.chan c.val with
      frac := ((s.chan c.val).frac + (s.getInt (.chan c .chanPower)).toNat) % 100 }).count (.chan c .chanEnergy)
        (((s.chan c.val).frac + (s.getInt (.chan c .chanPower)).toNat) / 100)) :=
    (State.Measured.setChan s _ _).trans (State.Measured.set _ _ rfl)
  have timer := (counted.curveTime c _).trans (hs c)
  simp only [State.sampleChannel, timer]
  split
  · exact ⟨counted, rfl⟩
  · exact ⟨counted.trans (State.Measured.setHeat _ _ _), rfl⟩

theorem sampleAll_of_cool {s : State} (hs : s.Cool) : s.Measured s.sampleAll ∧ s.sampleAll.time = s.time := by
  unfold State.sampleAll
  split
  · refine forEach_keeps (P := fun t => s.Measured t ∧ t.time = s.time) _ (fun t c ht => ?_) ⟨State.Measured.refl s, rfl⟩
    obtain ⟨measured, time⟩ := ht
    obtain ⟨next, same⟩ := sampleChannel_of_cool (measured.cool hs) c
    exact ⟨measured.trans next, same.trans time⟩
  · exact ⟨State.Measured.refl s, rfl⟩

theorem lapseWaited_of_none {s : State} (h : s.ring.lapseAt = none) : s.lapseWaited = s := by
  simp [State.lapseWaited, h]

/-- The model's own time, `units` later. -/
def State.later (s : State) (units : Nat) : State := { s with time := { s.time with elapsed := s.time.elapsed + units } }

theorem later_counter (s : State) (units : Nat) : (s.later units).counter = s.counter := rfl

/-- An edge that does not wrap the counter. -/
theorem edge_of_no_wrap {s : State} {units amount : Nat} (fits : s.counter + amount < 2 ^ 64) :
    s.edge units amount = (s.later units).withCounter (s.counter + amount) := by
  have advance := advanceTime_of_no_wrap (s.later units) (amount := amount) (by rw [later_counter]; exact fits)
  rw [later_counter] at advance
  exact advance

theorem later_measured (s : State) (units n : Nat) : s.Measured ((s.later units).withCounter n) :=
  ⟨⟨n / 2 ^ 32 % 2 ^ 32, n % 2 ^ 32, s.time.elapsed + units, s.chans, s.regs, rfl⟩, fun _ _ => rfl⟩

@[simp] theorem fresh_counter (s : State) : s.fresh.counter = s.counter := rfl

/-- What one clock edge has made of the facet at rest: an edge of TIME, with or without the samples of its period. -/
theorem tick_of_idle {s : State} (h : s.Idle) (fits : s.counter + s.increment < 2 ^ 64) :
    ∃ t : State, s.tick = s.finish t ∧ s.fresh.Measured t ∧ t.time = ((s.later 5).withCounter (s.counter + s.increment)).time := by
  obtain ⟨-, pll, -, lapse, -, -, cool⟩ := h
  have edge : s.fresh.clockEdge = (s.fresh.later 5).withCounter (s.counter + s.increment) := by
    rw [clockEdge_of_pll (s := s.fresh) pll, edge_of_no_wrap (s := s.fresh) (by rw [fresh_counter, fresh_increment]; exact fits),
      fresh_counter, fresh_increment]
  have edgeTime : s.fresh.clockEdge.time = ((s.later 5).withCounter (s.counter + s.increment)).time := by rw [edge]; rfl
  have measured : s.fresh.Measured s.fresh.clockEdge := by
    rw [edge]
    exact later_measured s.fresh 5 _
  have waited : s.fresh.clockEdge.lapseWaited = s.fresh.clockEdge := lapseWaited_of_none (by rw [edge]; exact lapse)
  obtain ⟨sampled, time⟩ := sampleAll_of_cool (measured.cool cool)
  simp only [State.tick, State.after, waited]
  split
  · exact ⟨_, rfl, measured, edgeTime⟩
  · exact ⟨_, rfl, measured.trans sampled, time.trans edgeTime⟩

/-- One clock edge leaves the facet at rest at rest. -/
theorem step_of_idle {s : State} (h : s.Idle) (fits : s.counter + s.increment < 2 ^ 64) :
    ∃ t : State, step s = .next t ∧ s.fresh.Measured t ∧ t.Idle ∧
      t.time = ((s.later 5).withCounter (s.counter + s.increment)).time := by
  obtain ⟨t, tick, measured, time⟩ := tick_of_idle h fits
  obtain ⟨empty, pll, quiet, lapse, feeds, limit, cool⟩ := h
  have calm : s.Calm t := measured.calm (s := s.fresh) quiet rfl limit
  have same : s.finish t = t := by
    rw [calmFinish s t calm]
    obtain ⟨⟨_, _, _, _, _, rfl⟩, -⟩ := measured
    rfl
  have locked : t.time.pll = true := by
    obtain ⟨⟨_, _, _, _, _, rfl⟩, -⟩ := measured
    exact pll
  have none_lapses : t.ring.lapseAt = none := by
    obtain ⟨⟨_, _, _, _, _, rfl⟩, -⟩ := measured
    exact lapse
  have waits : t.pending = [] := by
    obtain ⟨⟨_, _, _, _, _, rfl⟩, -⟩ := measured
    exact empty
  have stands : t.get (.pd .pdBudgetFeedLimit) = t.feedLimit := by rw [measured.2 _ rfl, measured.feedLimit]; exact limit
  exact ⟨t, (step_of_empty empty).trans (congrArg _ (tick.trans same)), measured,
    ⟨waits, locked, measured.quiet quiet, none_lapses, measured.feedsOn.trans feeds, stands, measured.cool cool⟩, time⟩

/-- The facet at rest after `n` clock edges without a wrap. -/
def State.Rested (s : State) (n : Nat) (t : State) : Prop :=
  t.Idle ∧ t.counter = s.counter + n * s.increment ∧ t.time.elapsed = s.time.elapsed + 5 * n ∧ t.increment = s.increment ∧
    t.ident = s.ident ∧ t.out = (if n = 0 then s.out else []) ∧ t.get (.time .timeWrapCount) = s.get (.time .timeWrapCount) ∧
    t.get (.fault .faultStatus) = s.get (.fault .faultStatus)

theorem State.Rested.zero {s : State} (h : s.Idle) : s.Rested 0 s :=
  ⟨h, by rw [Nat.zero_mul, Nat.add_zero], rfl, rfl, rfl, rfl, rfl, rfl⟩

/-- One edge of the facet at rest, and those after it. -/
theorem State.Rested.trans {s t u : State} {n : Nat} (h : s.Rested 1 t) (h' : t.Rested n u) : s.Rested (n + 1) u := by
  obtain ⟨-, counter, elapsed, increment, ident, out, wraps, status⟩ := h
  obtain ⟨idle, counter', elapsed', increment', ident', out', wraps', status'⟩ := h'
  have silent : t.out = [] := out
  refine ⟨idle, ?_, by omega, increment'.trans increment, ident'.trans ident, ?_, wraps'.trans wraps, status'.trans status⟩
  · rw [counter', counter, increment, Nat.add_assoc, ← Nat.add_mul, Nat.add_comm 1]
  · rw [out', silent, if_neg (Nat.succ_ne_zero n), ite_self]

theorem step_of_idle_rested {s : State} (h : s.Idle) (fits : s.counter + s.increment < 2 ^ 64) :
    ∃ t : State, step s = .next t ∧ s.Rested 1 t := by
  obtain ⟨t, ht, measured, idle, time⟩ := step_of_idle h fits
  have counter : t.counter = s.counter + 1 * s.increment := by
    rw [Nat.one_mul, State.counter, time]
    exact (withCounter_counter _ _).trans (Nat.mod_eq_of_lt fits)
  have increment : t.increment = s.increment := by rw [State.increment, time, withCounter_freq]; rfl
  have elapsed : t.time.elapsed = s.time.elapsed + 5 * 1 := by rw [time, withCounter_elapsed]; rfl
  have same : t.ident = s.ident ∧ t.out = [] := by
    obtain ⟨⟨_, _, _, _, _, rfl⟩, -⟩ := measured
    exact ⟨rfl, rfl⟩
  exact ⟨t, ht, idle, counter, elapsed, increment, same.1, same.2, measured.2 _ rfl, measured.2 _ rfl⟩

theorem steps_of_idle (n : Nat) {s : State} (h : s.Idle) (fits : s.counter + n * s.increment < 2 ^ 64) :
    ∃ t : State, steps n s = .next t ∧ s.Rested n t := by
  induction n generalizing s with
  | zero => exact ⟨s, rfl, State.Rested.zero h⟩
  | succ n ih =>
    rw [Nat.succ_mul] at fits
    obtain ⟨t, ht, one⟩ := step_of_idle_rested h (by omega)
    have ⟨idle, counter, _, increment, _⟩ := one
    obtain ⟨u, hu, rest⟩ := ih idle (by rw [counter, increment]; omega)
    refine ⟨u, ?_, one.trans rest⟩
    rw [steps, ht]
    exact hu

/-- Settles O58: every edge leaves the facet at rest, so the edges add up. -/
theorem idleFacetKeepsTime : Obligations.IdleFacetKeepsTime := by
  intro s n h fits
  obtain ⟨t, ht, idle, counter, elapsed, increment, ident, out, wraps, status⟩ := steps_of_idle n h fits
  exact ⟨t, ht, idle, counter, elapsed, increment, ident, fun some => out.trans (if_neg (Nat.ne_of_gt some)), wraps, status⟩

end Sys2Proof.Machine
end

section
/-! SUPPORT. The commands that happen in logic without a running clock (R16, R17), and the commands that are a door's write (R363). -/

namespace Sys2Proof.Machine

/-! ### Logic that HUB and the PLL drive -/

/-- A row of the core's logic asks first whether that logic runs. -/
theorem coreRow_off {c : Instr} (h : coreRow c = true) :
    ∃ f : State → State, (∀ s, exec c s = .next (s.after f)) ∧ ∀ s, s.coreRuns = false → f s = s := by
  cases c <;> refine ⟨_, fun _ => rfl, fun s off => ?_⟩ <;> cases h <;>
    simp only [State.whenCore, State.whenRing, off, Bool.false_and, Bool.false_eq_true, if_false]

/-- Settles O53: a row of the core's logic that finds it stopped leaves the state it starts from. -/
theorem stoppedLogic : Obligations.StoppedLogic := by
  intro s c row off
  obtain ⟨f, hf, stands⟩ := coreRow_off row
  rw [hf s, State.after, stands s.fresh off]

/-! ### The code that the checks of a write end with -/

/-- The checks of a write end with an abort code or with 0, never with the mark of an answer that waits. -/
abbrev IsCode (n : Nat) : Prop := n < abWaits

/-- One check: its code, or what the rest of the checks come to. -/
theorem IsCode.ite {p : Prop} [Decidable p] {code rest : Nat} (hc : IsCode code) (hr : IsCode rest) : IsCode (if p then code else rest) := by
  split <;> assumption

theorem existsCheck_isCode (idx sub : Nat) : IsCode (existsCheck idx sub) :=
  .ite (by decide) (.ite (by decide) (by decide))

theorem sizeCheck_isCode (e : Entry) (offset len : Nat) : IsCode (e.sizeCheck offset len) := by
  have fixed (size : Nat) : IsCode (if offset ≠ 0 then abSize else if size < len then abLong else if len < size then abShort else 0) :=
    .ite (by decide) (.ite (by decide) (.ite (by decide) (by decide)))
  unfold Entry.sizeCheck
  split
  · exact .ite (by decide) (.ite (.ite (by decide) (by decide)) (by decide))
  · exact .ite (by decide) (by decide)
  · exact fixed _

theorem domainCheck_isCode (s : State) (idx sub : Nat) (staged write : Bool) : IsCode (s.domainCheck idx sub staged write) :=
  .ite (.ite (by decide) (by decide)) (.ite (by decide) (.ite (by decide) (.ite (by decide) (by decide))))

theorem writeChecks_isCode (s : State) (c : Caller) (w : RegWrite) : IsCode (s.writeChecks c w) := by
  have exist := existsCheck_isCode w.index w.sub
  have domain := fun staged => domainCheck_isCode s w.index w.sub staged true
  unfold State.writeChecks
  refine .ite (by decide) <| .ite (by decide) <| .ite (by decide) <| .ite exist ?_
  cases entryOf w.index w.sub with
  | none => exact (by decide : abNoSub < abWaits)
  | some e =>
    have size := sizeCheck_isCode e w.offset w.data.length
    refine .ite (by decide) <| .ite (by decide) <| .ite (.ite (by decide) size) <| .ite (by decide) <| .ite (by decide) <|
      .ite (by decide) (domain _)

/-- A row that stands for a door's write is that write, made and answered in one step. -/
theorem exec_asWrite {c : Instr} {d : Door} {w : RegWrite} (h : asWrite c = some (d, w)) (s : State) :
    exec c s = .next (s.after fun s => s.directWrite d w.index w.sub w.offset w.data) := by
  cases c <;> cases h <;> rfl

/-- A write that its door takes has its entry's effect, and the door is told what that comes to (R363). -/
theorem exec_of_takes {s : State} {c : Instr} {d : Door} {w : RegWrite} {e : Entry} {code : Nat} {t : State}
    (row : asWrite c = some (d, w)) (takes : s.Takes d w) (he : entryOf w.index w.sub = some e)
    (effect : s.fresh.doorEffect (callerAt d) w e = (code, t)) (answered : code ≠ abWaits) :
    exec c s = .next (s.finish (t.verdict d code)) := by
  have write := directWrite_of_takes s d w e takes he
  rw [effect] at write
  exact (exec_asWrite row s).trans
    (congrArg _ (after_of (f := fun t => t.directWrite d w.index w.sub w.offset w.data) (write answered)))

theorem directWrite_unreached {s : State} {d : Door} (h : s.doorReach d = false) (idx sub offset : Nat) (data : List Byte) :
    s.directWrite d idx sub offset data = s := by
  simp [State.directWrite, h]

/-- What the checks refuse is answered with their code, and changes nothing but the answer's own counts (R363). -/
theorem directWrite_of_checks {s : State} {d : Door} {w : RegWrite} {code : Nat} (reach : s.doorReach d = true)
    (check : s.writeChecks (callerAt d) w = code) (refused : code ≠ 0) :
    s.directWrite d w.index w.sub w.offset w.data = s.verdict d code := by
  have waits : code ≠ abWaits := check ▸ Nat.ne_of_lt (writeChecks_isCode s (callerAt d) w)
  have write : s.doorWrite (callerAt d) w true = (code, s.answered d code) := by
    rw [State.doorWrite, check]
    exact if_pos refused
  rw [← writeVerdict_of_ne s d waits, State.directWrite, reach]
  exact congrArg (fun x => x.2.writeVerdict d x.1) write

theorem writeChecks_of_closed {s : State} {c : Caller} (w : RegWrite) (h : s.doorOpen c.via = false) : s.writeChecks c w = abLocal := by
  simp [State.writeChecks, h]

/-- In fail-safe only `FaultSafeRelease` is accepted (R337). -/
theorem writeChecks_of_failSafe {s : State} {c : Caller} {w : RegWrite} (h : s.doorOpen c.via = true) (safe : s.faults.safeRun = true)
    (other : w.index ≠ 0x4400 ∨ w.sub ≠ 17) : s.writeChecks c w = abortState := by
  have notRelease : ¬ (w.index = 0x4400 ∧ w.sub = 17) := by omega
  simp [State.writeChecks, h, safe, notRelease]

/-- Settles O52: each such row is one `directWrite`, and what the checks refuse is only answered. -/
theorem refusedWrites : Obligations.RefusedWrites := by
  intro s c d w row
  have refused {code : Nat} (reach : s.doorReach d = true) (check : s.writeChecks (callerAt d) w = code) (hcode : code ≠ 0) :
      exec c s = .next (s.finish (s.fresh.verdict d code)) :=
    (exec_asWrite row s).trans (congrArg _ (after_of (directWrite_of_checks (s := s.fresh) reach check hcode)))
  refine ⟨fun unreached => ?_, fun reach hcode => refused reach rfl hcode, fun reach closed => ?_, fun reach opened safe other => ?_⟩
  · exact (exec_asWrite row s).trans (congrArg _ (after_of (directWrite_unreached (s := s.fresh) unreached _ _ _ _)))
  · exact refused reach (writeChecks_of_closed w closed) (by decide)
  · exact refused reach (writeChecks_of_failSafe opened safe other) (by decide)

/-! ### The order of the checks -/

section
variable {s : State} {c : Caller} {w : RegWrite}

theorem writeChecks_of_recovery (h : s.doorOpen c.via = true) (safe : s.faults.safeRun = false) (loader : s.boot.recovery = true)
    (door : c.via ≠ .loc) : s.writeChecks c w = abBusy := by
  simp [State.writeChecks, h, safe, loader, door]

/-- Past the door, fail-safe and the recovery loader, the entry is looked up. -/
theorem writeChecks_of_existsCheck (h : s.doorOpen c.via = true) (safe : s.faults.safeRun = false) (loader : s.boot.recovery = false)
    (entry : existsCheck w.index w.sub ≠ 0) : s.writeChecks c w = existsCheck w.index w.sub := by
  simp [State.writeChecks, h, safe, loader, entry]

theorem existsCheck_of_entry {e : Entry} (exist : indexExists w.index = true) (he : entryOf w.index w.sub = some e) :
    existsCheck w.index w.sub = 0 := by
  simp [existsCheck, exist, he]

theorem writeChecks_of_right {e : Entry} {b : Nat} (h : s.doorOpen c.via = true) (safe : s.faults.safeRun = false)
    (loader : s.boot.recovery = false) (exist : indexExists w.index = true) (he : entryOf w.index w.sub = some e)
    (need : writeRight w.index w.sub e = some b) (missing : (s.rights c.via).testBit b = false) : s.writeChecks c w = abRights := by
  simp [State.writeChecks, h, safe, loader, existsCheck_of_entry exist he, he, need, missing]

theorem writeChecks_of_readOnly {e : Entry} (h : s.doorOpen c.via = true) (safe : s.faults.safeRun = false)
    (loader : s.boot.recovery = false) (exist : indexExists w.index = true) (he : entryOf w.index w.sub = some e)
    (need : writeRight w.index w.sub e = none) (anyDoor : locOnly w = false) (ro : e.access = .ro) : s.writeChecks c w = abReadOnly := by
  simp [State.writeChecks, h, safe, loader, existsCheck_of_entry exist he, he, need, anyDoor, ro]

end

/-- Settles O51: each reason by its own lemma, under what the earlier checks have passed. -/
theorem writeChecksInOrder : Obligations.WriteChecksInOrder := by
  intro s c w
  refine ⟨writeChecks_of_closed w, writeChecks_of_failSafe, fun opened safe => ⟨writeChecks_of_recovery opened safe, fun loader =>
    ⟨fun noIndex => ?_, fun exist noSub => ?_, fun e exist he =>
      ⟨fun b => writeChecks_of_right opened safe loader exist he, writeChecks_of_readOnly opened safe loader exist he⟩⟩⟩⟩
  · have code : existsCheck w.index w.sub = abNoIndex := by simp [existsCheck, noIndex]
    rw [← code]
    exact writeChecks_of_existsCheck opened safe loader (code ▸ by decide)
  · have code : existsCheck w.index w.sub = abNoSub := by simp [existsCheck, exist, noSub]
    rw [← code]
    exact writeChecks_of_existsCheck opened safe loader (code ▸ by decide)

end Sys2Proof.Machine
end

section
/-! SUPPORT. The check codes of R456 and R457 as divisions bit by bit: a byte's shifts are its bits' steps, and the reflected register is
the mirrored one. -/

namespace Sys2Proof.Machine

/-! ### Steps of a fold, bit by bit -/

/-- A fold over bytes whose step is a fold over each byte's bits is the fold over all bits. -/
theorem foldl_flatMap_bits {α : Type} (bits : Byte → List Bool) (byteStep : α → Byte → α) (bitStep : α → Bool → α)
    (h : ∀ c b, byteStep c b = (bits b).foldl bitStep c) (bytes : List Byte) (c : α) :
    bytes.foldl byteStep c = (bytes.flatMap bits).foldl bitStep c := by
  induction bytes generalizing c with
  | nil => rfl
  | cons b rest ih => rw [List.foldl_cons, List.flatMap_cons, List.foldl_append, ih, h]

/-! ### CRC-16 (R457) -/

/-- The first `n` bits below place `n`, most significant first. -/
def bitsFrom (n x : Nat) : List Bool := (List.range n).map fun k => x.testBit (n - 1 - k)

theorem bitsFrom_succ (n x : Nat) : bitsFrom (n + 1) x = x.testBit n :: bitsFrom n x := by
  simp only [bitsFrom, List.range_succ_eq_map, List.map_cons, List.map_map]
  congr 1
  refine List.map_congr_left fun k _ => ?_
  show x.testBit (n + 1 - 1 - (k + 1)) = x.testBit (n - 1 - k)
  congr 1
  omega

/-- The bits that enter at the top of the register, one shift on. -/
theorem topBits_shift {n : Nat} (hn : n < 16) (x : Nat) :
    x % 2 ^ (n + 1) * 2 ^ (16 - (n + 1)) * 2 % 65536 = x % 2 ^ n * 2 ^ (16 - n) := by
  have width : 2 ^ (16 - n) = 2 ^ (16 - (n + 1)) * 2 := by rw [← Nat.pow_succ]; congr 1; omega
  have all : (65536 : Nat) = 2 ^ n * 2 ^ (16 - n) := by rw [← Nat.pow_add, Nat.add_sub_cancel' (Nat.le_of_lt hn)]
  rw [Nat.mul_assoc, ← width, all, Nat.mul_mod_mul_right, Nat.mod_mod_of_dvd x (Nat.pow_dvd_pow 2 (Nat.le_succ n))]

theorem topBits_testBit {n : Nat} (hn : n < 16) (x : Nat) : (x % 2 ^ (n + 1) * 2 ^ (16 - (n + 1))).testBit 15 = x.testBit n := by
  have above : 16 - (n + 1) ≤ 15 := by omega
  have place : 15 - (16 - (n + 1)) = n := by omega
  rw [Nat.testBit_mul_two_pow, Nat.testBit_mod_two_pow, place, decide_eq_true above, decide_eq_true (Nat.lt_succ_self n),
    Bool.true_and, Bool.true_and]

theorem xor_shift (a b : Nat) : (a ^^^ b) * 2 % 65536 = (a * 2 % 65536) ^^^ (b * 2 % 65536) := by
  have shift := Nat.shiftLeft_xor_distrib (a := a) (b := b) (i := 1)
  simp only [Nat.shiftLeft_eq, Nat.pow_one] at shift
  rw [shift]
  exact Nat.xor_mod_two_pow (n := 16)

/-- Shifts of the CRC-16 register with `n` bits laid on its top are the steps of those bits. -/
theorem crc16Shift_eq_foldl {n : Nat} (hn : n ≤ 16) (c x : Nat) :
    crc16Shift n (c ^^^ x % 2 ^ n * 2 ^ (16 - n)) = (bitsFrom n x).foldl (crcBit 16 0x1021) c := by
  induction n generalizing c with
  | zero => simp [crc16Shift, bitsFrom, Nat.mod_one]
  | succ n ih =>
    have step : (if (c ^^^ x % 2 ^ (n + 1) * 2 ^ (16 - (n + 1))).testBit 15
        then ((c ^^^ x % 2 ^ (n + 1) * 2 ^ (16 - (n + 1))) * 2 % 65536) ^^^ 0x1021
        else (c ^^^ x % 2 ^ (n + 1) * 2 ^ (16 - (n + 1))) * 2 % 65536) = crcBit 16 0x1021 c (x.testBit n) ^^^ x % 2 ^ n * 2 ^ (16 - n) := by
      rw [Nat.testBit_xor, topBits_testBit hn, xor_shift, topBits_shift hn]
      unfold crcBit
      split
      · exact Nat.xor_right_comm _ _ _
      · rfl
    rw [crc16Shift, step, ih (Nat.le_of_lt hn), bitsFrom_succ, List.foldl_cons]

theorem crc16_eq_division (bytes : List Byte) : crc16 bytes = (bytes.flatMap bitsDown).foldl (crcBit 16 0x1021) 0xFFFF := by
  refine foldl_flatMap_bits bitsDown _ _ (fun c b => ?_) bytes _
  have whole : b.toNat % 2 ^ 8 = b.toNat := Nat.mod_eq_of_lt b.isLt
  have bits := crc16Shift_eq_foldl (n := 8) (by decide) c b.toNat
  rw [whole] at bits
  exact bits

/-! ### The reflected CRC-32 (R456) -/

/-- One step of the reflected CRC-32 register. -/
def reflectedBit (c : Nat) (b : Bool) : Nat := if c.testBit 0 != b then (c / 2) ^^^ 0xEDB88320 else c / 2

/-- The low `n` bits, least significant first. -/
def lowBits (n x : Nat) : List Bool := (List.range n).map fun k => x.testBit k

theorem lowBits_succ (n x : Nat) : lowBits (n + 1) x = x.testBit 0 :: lowBits n (x / 2) := by
  simp only [lowBits, List.range_succ_eq_map, List.map_cons, List.map_map]
  congr 1
  exact List.map_congr_left fun k _ => Nat.testBit_succ x k

/-- Shifts of the reflected register with `n` bits laid over it are the steps of those bits. -/
theorem crc32Shift_eq_foldl (n c x : Nat) : crc32Shift n (c ^^^ x % 2 ^ n) = (lowBits n x).foldl reflectedBit c := by
  induction n generalizing c x with
  | zero => simp [crc32Shift, lowBits, Nat.mod_one]
  | succ n ih =>
    have rest : x % 2 ^ (n + 1) / 2 = x / 2 % 2 ^ n := by rw [Nat.pow_succ', Nat.mod_mul_right_div_self]
    have low : (x % 2 ^ (n + 1)).testBit 0 = x.testBit 0 := by
      rw [Nat.testBit_mod_two_pow, decide_eq_true (Nat.succ_pos n), Bool.true_and]
    have step : (if (c ^^^ x % 2 ^ (n + 1)) % 2 = 1 then ((c ^^^ x % 2 ^ (n + 1)) / 2) ^^^ 0xEDB88320
        else (c ^^^ x % 2 ^ (n + 1)) / 2) = reflectedBit c (x.testBit 0) ^^^ x / 2 % 2 ^ n := by
      have odd : (c ^^^ x % 2 ^ (n + 1)) % 2 = 1 ↔ (c.testBit 0 != x.testBit 0) = true := by
        rw [← low, Bool.bne_eq_xor, ← Nat.testBit_xor, Nat.testBit_zero, decide_eq_true_iff]
      rw [Nat.xor_div_two, rest]
      unfold reflectedBit
      simp only [odd]
      split
      · exact Nat.xor_right_comm _ _ _
      · rfl
    rw [crc32Shift, step, ih, lowBits_succ, List.foldl_cons]

/-! ### Mirrors -/

/-- The bits of a mirrored number. -/
theorem mirrored_testBit (w v k : Nat) : (mirrored w v).testBit k = (decide (k < w) && v.testBit (w - 1 - k)) := by
  induction w generalizing k with
  | zero => simp [mirrored]
  | succ w ih =>
    have last : mirrored (w + 1) v = mirrored w v * 2 + boolNat (v.testBit w) := by
      rw [mirrored, List.range_succ, List.foldl_append]; rfl
    have bit : boolNat (v.testBit w) < 2 := by cases v.testBit w <;> decide
    rw [last]
    cases k with
    | zero =>
      rw [Nat.testBit_zero, Nat.mul_add_mod_self_right, Nat.mod_eq_of_lt bit]
      show decide (boolNat (v.testBit w) = 1) = (true && v.testBit w)
      cases v.testBit w <;> rfl
    | succ k =>
      have half : (mirrored w v * 2 + boolNat (v.testBit w)) / 2 = mirrored w v := by omega
      rw [Nat.testBit_succ, half, ih]
      have place : w + 1 - 1 - (k + 1) = w - 1 - k := by omega
      rw [place]
      simp

theorem mirrored_xor (w a b : Nat) : mirrored w (a ^^^ b) = mirrored w a ^^^ mirrored w b := by
  refine Nat.eq_of_testBit_eq fun k => ?_
  simp only [Nat.testBit_xor, mirrored_testBit]
  cases decide (k < w) <;> simp

/-- A shift to the left is a shift to the right in the mirror. -/
theorem mirrored_shift (v : Nat) : mirrored 32 (v * 2 % 2 ^ 32) = mirrored 32 v / 2 := by
  refine Nat.eq_of_testBit_eq fun k => ?_
  rw [← Nat.testBit_succ, mirrored_testBit, mirrored_testBit, Nat.testBit_mod_two_pow]
  have doubled : v * 2 = v * 2 ^ 1 := rfl
  rw [doubled, Nat.testBit_mul_two_pow]
  by_cases h : k + 1 < 32
  · have place : 32 - 1 - k - 1 = 32 - 1 - (k + 1) := by omega
    rw [place]
    simp [h, show k < 32 by omega, show 31 - k < 32 by omega, show 1 ≤ 31 - k by omega]
  · by_cases h' : k < 32
    · simp [show k = 31 by omega]
    · simp [h, h']

theorem mirrored_poly : mirrored 32 0x04C11DB7 = 0xEDB88320 := by decide

/-- A step of the division is a step of the reflected register in the mirror. -/
theorem mirrored_crcBit (c : Nat) (b : Bool) : mirrored 32 (crcBit 32 0x04C11DB7 c b) = reflectedBit (mirrored 32 c) b := by
  have top : (mirrored 32 c).testBit 0 = c.testBit 31 := by rw [mirrored_testBit]; rfl
  rw [reflectedBit, top, crcBit]
  split
  · rw [mirrored_xor, mirrored_shift, mirrored_poly]
  · exact mirrored_shift c

theorem mirrored_division (bits : List Bool) (c : Nat) :
    mirrored 32 (bits.foldl (crcBit 32 0x04C11DB7) c) = bits.foldl reflectedBit (mirrored 32 c) := by
  induction bits generalizing c with
  | nil => rfl
  | cons b rest ih => rw [List.foldl_cons, List.foldl_cons, ih, mirrored_crcBit]

theorem crc32_eq_division (bytes : List Byte) :
    crc32 bytes = mirrored 32 ((bytes.flatMap bitsUp).foldl (crcBit 32 0x04C11DB7) 0xFFFFFFFF) ^^^ 0xFFFFFFFF := by
  have start : mirrored 32 0xFFFFFFFF = 0xFFFFFFFF := by decide
  rw [mirrored_division, start, crc32]
  congr 1
  refine foldl_flatMap_bits bitsUp _ _ (fun c b => ?_) bytes _
  have whole : b.toNat % 2 ^ 8 = b.toNat := Nat.mod_eq_of_lt b.isLt
  have bits := crc32Shift_eq_foldl 8 c b.toNat
  rw [whole] at bits
  exact bits

/-- Settles O59: both codes as divisions, and the manual's check values computed. -/
theorem checkCodes : Obligations.CheckCodes :=
  ⟨crc32_eq_division, crc16_eq_division, by decide +kernel, by decide +kernel⟩

end Sys2Proof.Machine
end

section
/-! SUPPORT. The register file in its one form, the facet after reset, and the frames that the link layer delivers. -/

namespace Sys2Proof.Machine

/-! ### Tables in their one form -/

section
variable {κ α : Type} [DecidableEq κ] {ord : κ → Nat} {d : κ → α} {t : Table κ α}

/-- A table in its one form stays so without a key. -/
theorem Table.Canonical.drop (h : Table.Canonical ord d t) (k : κ) : Table.Canonical ord d (t.drop k) :=
  ⟨h.1.filter _, fun e he => h.2 e (List.mem_of_mem_filter he)⟩

omit [DecidableEq κ] in
theorem Table.mem_place {k : κ} {v : α} {e : κ × α} : e ∈ Table.place ord k v t ↔ e = (k, v) ∨ e ∈ t := by
  induction t with
  | nil => simp [Table.place]
  | cons a rest ih =>
    obtain ⟨k', v'⟩ := a
    simp only [Table.place]
    split
    · simp
    · rw [List.mem_cons, ih, List.mem_cons, or_left_comm]

omit [DecidableEq κ] in
/-- A key that is not listed goes to its place with a value that is not its default. -/
theorem Table.Canonical.place (h : Table.Canonical ord d t) {k : κ} {v : α} (new : ∀ e ∈ t, e.1 ≠ k) (hv : v ≠ d k) :
    Table.Canonical ord d (Table.place ord k v t) := by
  obtain ⟨sorted, listed⟩ := h
  refine ⟨?_, fun e he => ?_⟩
  · induction t with
    | nil => exact List.pairwise_singleton _ _
    | cons a rest ih =>
      obtain ⟨k', v'⟩ := a
      obtain ⟨first, later⟩ := List.pairwise_cons.1 sorted
      have fresh : k' ≠ k := new (k', v') List.mem_cons_self
      simp only [Table.place]
      split
      · next before =>
        refine List.pairwise_cons.2 ⟨fun e he => ⟨?_, (new e he).symm⟩, sorted⟩
        rcases List.mem_cons.1 he with rfl | he
        · exact Nat.le_of_lt before
        · exact Nat.le_trans (Nat.le_of_lt before) (first e he).1
      · next behind =>
        refine List.pairwise_cons.2 ⟨fun e he => ?_, ih (fun e he => new e (List.mem_cons_of_mem _ he)) later
          fun e he => listed e (List.mem_cons_of_mem _ he)⟩
        rcases Table.mem_place.1 he with rfl | he
        · exact ⟨Nat.le_of_not_lt behind, fresh⟩
        · exact first e he
  · rcases Table.mem_place.1 he with rfl | he
    · exact hv
    · exact listed e he

theorem Table.not_mem_drop {k : κ} : ∀ e ∈ t.drop k, e.1 ≠ k := fun _ he => of_decide_eq_true (List.mem_filter.1 he).2

/-- A key put leaves the table in its one form. -/
theorem Table.Canonical.put [DecidableEq α] (h : Table.Canonical ord d t) (k : κ) (v : α) :
    Table.Canonical ord d (Table.put ord (d k) t k v) := by
  unfold Table.put
  split
  · exact h.drop k
  · next hv => exact (h.drop k).place Table.not_mem_drop hv

end

/-- Settles O60: a register by what a write leaves, the table by what a key put leaves, and the reset table by its six entries. -/
theorem registerFile : Obligations.RegisterFile := by
  intro s r v
  refine ⟨get_set_self s r v, fun x hx => get_set_ne s v hx, fun h => h.put r _, ?_⟩
  refine ⟨?_, ?_⟩ <;> decide

/-- Settles O44: every part is a value of the reset state, evaluated. -/
theorem resetState : Obligations.ResetState := by
  refine ⟨⟨rfl, Or.inl rfl, fun c hc => ?_⟩, rfl, by decide, rfl, rfl, ?_, ?_, ?_, rfl⟩
  · cases hc
  · decide
  · decide
  · decide

/-! ### Received frames -/

@[simp] theorem lensCount_seqGap (s : State) (g pl n : Nat) (k : Link) (h : FrameHdr) : (s.lensCount g pl n).seqGap k h = s.seqGap k h :=
  rfl

theorem ite_not_delivered {p : Prop} [Decidable p] (s t : State) : (if p then (false, s) else (false, t)).1 = false := by
  split <;> rfl

/-- What `receive` delivers has passed the link's state, the frame's own checks and the order of its link (R84 to R86). -/
theorem receive_delivers {s : State} {k : Link} {h : FrameHdr} {typ : Nat} {body : RingBody} (delivered : (s.receive k h typ body).1 = true) :
    (s.get (.link k .linkState) = 3 ∨ (s.get (.link k .linkState) = 6 ∧ ¬ replayed typ = true)) ∧ h.fault = .good ∧
      (replayed typ = true → (s.acknowledge k h.ackSeq).seqGap k h = 1) := by
  by_cases up : s.get (.link k .linkState) = 3 ∨ (s.get (.link k .linkState) = 6 ∧ ¬ replayed typ = true)
  · refine ⟨up, ?_⟩
    rw [State.receive, if_neg (not_not_intro up)] at delivered
    cases fault : h.fault <;> simp only [fault, Bool.false_eq_true] at delivered
    case good =>
      refine ⟨rfl, fun replays => ?_⟩
      by_contra gap
      have late : replayed typ = true ∧ (((s.acknowledge k h.ackSeq).lensCount 0 (placeLink k) 1).lensCount 7 (placeLink k)
          h.length).seqGap k h ≠ 1 := ⟨replays, by rw [lensCount_seqGap, lensCount_seqGap]; exact gap⟩
      rw [if_pos late, ite_not_delivered] at delivered
      exact Bool.false_ne_true delivered
  · rw [State.receive, if_pos up] at delivered
    exact absurd delivered Bool.false_ne_true

/-- Settles O10: the three conditions of a delivery, the last read as the gap that R86 counts. -/
theorem undeliveredFrames : Obligations.UndeliveredFrames := by
  intro s k h typ body delivered
  obtain ⟨up, good, next⟩ := receive_delivers delivered
  simp only [Bool.not_eq_true] at up
  exact ⟨up, good, next⟩

end Sys2Proof.Machine
end

section
/-! SUPPORT. Event-status entries (R375, R376): the bits of a value after a flag is set and after a clear, and what a clear of an entry and
of the fault latch (R340) does. -/

namespace Sys2Proof.Machine

/-! ### Bits of event-status values -/

/-- What a number has of a mask is taken off it without a borrow. -/
theorem xor_and_add_and (x m : Nat) : (x ^^^ (x &&& m)) + (x &&& m) = x := by
  induction x using Nat.strongRecOn generalizing m with
  | ind x ih =>
    rcases Nat.eq_zero_or_pos x with rfl | pos
    · simp
    · have half : (x ^^^ (x &&& m)) / 2 + (x &&& m) / 2 = x / 2 := by
        rw [Nat.xor_div_two, Nat.and_div_two]
        exact ih (x / 2) (Nat.div_lt_self pos (by decide)) (m / 2)
      have low : (x ^^^ (x &&& m)) % 2 + (x &&& m) % 2 = x % 2 := by
        have bit (z : Nat) : z % 2 = (z.testBit 0).toNat := by rw [Nat.toNat_testBit, Nat.pow_zero, Nat.div_one]
        rw [bit, bit (x &&& m), bit x, Nat.testBit_xor, Nat.testBit_and]
        cases x.testBit 0 <;> cases m.testBit 0 <;> rfl
      omega

/-- The bits of a number without those of a mask. -/
theorem testBit_sub_and (x m b : Nat) : (x - (x &&& m)).testBit b = (x.testBit b && !m.testBit b) := by
  have off : x - (x &&& m) = x ^^^ (x &&& m) := by have := xor_and_add_and x m; omega
  rw [off, Nat.testBit_xor, Nat.testBit_and]
  cases x.testBit b <;> cases m.testBit b <;> rfl

theorem testBit_setBit_true (x i b : Nat) : (setBit x i true).testBit b = (x.testBit b || decide (i = b)) := by
  simp [setBit, Nat.testBit_or, Nat.testBit_two_pow]

theorem testBit_setBit_false (x i b : Nat) : (setBit x i false).testBit b = (x.testBit b && !decide (i = b)) := by
  have masked : setBit x i false = x - (x &&& 2 ^ i) := by
    rw [Nat.and_two_pow]
    cases h : x.testBit i <;> simp [setBit, h]
  rw [masked, testBit_sub_and, Nat.testBit_two_pow]

/-- Flags lie below the sequence number. -/
theorem testBit_of_low {x y b : Nat} (hb : b < 24) (h : x % 2 ^ 24 = y % 2 ^ 24) : x.testBit b = y.testBit b := by
  have low (z : Nat) : (z % 2 ^ 24).testBit b = z.testBit b := by rw [Nat.testBit_mod_two_pow, decide_eq_true hb, Bool.true_and]
  rw [← low x, h, low]

theorem putBits_seq (x n : Nat) : putBits x 31 24 n = x / 2 ^ 32 * 2 ^ 32 + n % 2 ^ 8 * 2 ^ 24 + x % 2 ^ 24 := by
  simp only [putBits, bitField]
  omega

theorem eventSeq_mod (x : Nat) : eventSeq (x % 2 ^ 32) = eventSeq x := by
  simp only [eventSeq, bitField]
  omega

/-- The sequence number, bit by bit. -/
theorem testBit_eventSeq (x k : Nat) : (eventSeq x).testBit k = (decide (k < 8) && x.testBit (k + 24)) := by
  show (x / 2 ^ 24 % 2 ^ 8).testBit k = _
  rw [Nat.testBit_mod_two_pow, Nat.testBit_div_two_pow]

theorem testBit_eventSet (x : Nat) {b k : Nat} (hk : k < 24) : (eventSet x b % 2 ^ 32).testBit k = (x.testBit k || decide (b = k)) := by
  rw [← testBit_setBit_true]
  refine testBit_of_low hk ?_
  rw [eventSet, putBits_seq]
  omega

theorem eventSeq_eventSet (x b : Nat) : eventSeq (eventSet x b % 2 ^ 32) = (eventSeq x + 1) % 256 := by
  rw [eventSeq_mod, eventSet, putBits_seq, eventSeq, bitField]
  omega

theorem testBit_bitField_flags (v : Nat) (b : Nat) : (bitField v 23 0).testBit b = (decide (b < 24) && v.testBit b) := by
  show (v / 2 ^ 0 % 2 ^ 24).testBit b = _
  rw [Nat.pow_zero, Nat.div_one, Nat.testBit_mod_two_pow]

theorem testBit_eventClear (x v b : Nat) : (eventClear x v).testBit b = (x.testBit b && !(decide (b < 24) && v.testBit b)) := by
  rw [eventClear, testBit_sub_and, testBit_bitField_flags]

/-- The value that a clear of an entry leaves, with the flags that stand against it (R376). -/
def clearedValue (x v flags : Nat) : Nat := (eventClear x v ||| (x &&& flags)) % 2 ^ 32

theorem testBit_clearedValue (x v flags : Nat) {b : Nat} (hb : b < 24) :
    (clearedValue x v flags).testBit b = (x.testBit b && (!v.testBit b || flags.testBit b)) := by
  rw [clearedValue, Nat.testBit_mod_two_pow, Nat.testBit_or, testBit_eventClear, Nat.testBit_and, decide_eq_true hb,
    decide_eq_true (Nat.lt_trans hb (by decide : 24 < 32))]
  cases x.testBit b <;> cases v.testBit b <;> cases flags.testBit b <;> rfl

theorem eventSeq_clearedValue (x v : Nat) {flags : Nat} (hf : flags < 2 ^ 24) : eventSeq (clearedValue x v flags) = eventSeq x := by
  refine Nat.eq_of_testBit_eq fun k => ?_
  have above : flags.testBit (k + 24) = false := Nat.testBit_lt_two_pow (Nat.lt_of_lt_of_le hf (Nat.pow_le_pow_right (by decide) (by omega)))
  rw [clearedValue, eventSeq_mod, testBit_eventSeq, testBit_eventSeq, Nat.testBit_or, testBit_eventClear, Nat.testBit_and, above]
  have notFlag : ¬ k + 24 < 24 := by omega
  simp [notFlag]

/-! ### Event-status registers -/

/-- Every event-status entry, and `FaultStatus`, is 32 bits wide (R375). -/
theorem bits_of_eventReg {r : Reg} (h : r = .fault .faultStatus ∨ eventReg r = true) : r.bits = 32 := by
  rcases h with rfl | h
  · rfl
  · cases r with
    | hub x | ring x | relay x | hold x | res x | stream _ x | time x | pd x | power x | domain x | lens x | doors x =>
      cases x <;> trivial
    | _ => cases h

theorem ne_faultStatus_of_eventReg {r : Reg} (h : eventReg r = true) : r ≠ .fault .faultStatus := by
  rintro rfl
  exact absurd h (by decide)

/-- A flag set reads 1, the other flags stand, and the sequence number advances (R375). -/
theorem flag_of_eventReg (s : State) {r : Reg} {b : Nat} (h : r = .fault .faultStatus ∨ eventReg r = true) (hb : b < 24) :
    ((s.flag r b).get r).testBit b = true ∧ (∀ k, k < 24 → k ≠ b → ((s.flag r b).get r).testBit k = (s.get r).testBit k) ∧
      eventSeq ((s.flag r b).get r) = (eventSeq (s.get r) + 1) % 256 ∧ ∀ x, x ≠ r → (s.flag r b).get x = s.get x := by
  rw [get_flag_self, bits_of_eventReg h]
  refine ⟨?_, fun k hk other => ?_, eventSeq_eventSet _ b, fun x hx => get_flag_ne s b hx⟩
  · rw [testBit_eventSet _ hb, decide_eq_true rfl, Bool.or_true]
  · rw [testBit_eventSet _ hk, decide_eq_false other.symm, Bool.or_false]

/-! ### A clear of an entry -/

/-- A write to an event-status entry that a door takes clears it as `clearEvents` says, and the door is told 0 (R375). -/
theorem exec_eventFlagClear (s : State) (d : Door) (idx sub : Nat) {v : Nat} {r : Reg} {e : Entry} (hv : v < 2 ^ 32)
    (he : entryOf idx sub = some e) (access : e.access = .rs) (regs : e.regs = [r])
    (takes : s.Takes d (entryWrite idx sub (bytesBe 4 v))) :
    exec (.eventFlagClear d idx sub v) s = .next (s.finish ((s.fresh.clearEvents r v).verdict d 0)) := by
  have spelled : ofBytesBe (bytesBe 4 v) = v := (ofBytesBe_bytesBe 4 v).trans (Nat.mod_eq_of_lt hv)
  refine exec_of_takes rfl takes he ?_ (by decide)
  rw [doorEffect_eventStatus s.fresh _ _ access regs, entryWrite_data, spelled]

theorem clearEvents_stale (s : State) {r : Reg} {v : Nat} (h : bitField v 31 24 ≠ s.clearSeq r) :
    s.clearEvents r v = (s.bump (.doors .staleClearCount)).flag (.doors .doorEvents) doorStaleClear := by
  rw [State.clearEvents, if_pos h]

/-- A current clear of an entry, with the flags of its cycle against it (R376). -/
theorem clearEvents_current (s : State) {r : Reg} {v : Nat} (h : bitField v 31 24 = s.clearSeq r) (hr : r ≠ .fault .faultStatus) :
    s.clearEvents r v = s.set r (eventClear (s.get r) v ||| (s.get r &&& ((s.seqBefore r).map Prod.snd).getD 0)) := by
  rw [State.clearEvents, if_neg (not_not_intro h), if_neg hr]

theorem clearEvents_faultStatus (s : State) {v : Nat} (h : bitField v 31 24 = s.clearSeq (.fault .faultStatus)) :
    s.clearEvents (.fault .faultStatus) v = s.clearFaultStatus v := by
  rw [State.clearEvents, if_neg (not_not_intro h), if_pos rfl]

theorem clearSeq_of_eventReg (s : State) {r : Reg} (h : eventReg r = true) :
    s.clearSeq r = ((s.seqBefore r).map Prod.fst).getD (eventSeq (s.get r)) := if_neg (ne_faultStatus_of_eventReg h)

theorem clearSeq_faultStatus (s : State) : s.clearSeq (.fault .faultStatus) = eventSeq (s.get (.fault .faultStatus)) := if_pos rfl

/-- What a current clear of an entry leaves: the entry's flags but for those named and not set in the cycle, and all else. -/
theorem clearEvents_leaves (s : State) {r : Reg} {v flags : Nat} (h : eventReg r = true) (current : bitField v 31 24 = s.clearSeq r)
    (set : ((s.seqBefore r).map Prod.snd).getD 0 = flags) (hf : flags < 2 ^ 24) :
    (∀ b, b < 24 → ((s.clearEvents r v).get r).testBit b = ((s.get r).testBit b && (!v.testBit b || flags.testBit b))) ∧
      eventSeq ((s.clearEvents r v).get r) = eventSeq (s.get r) ∧ ∀ x, x ≠ r → (s.clearEvents r v).get x = s.get x := by
  rw [clearEvents_current s current (ne_faultStatus_of_eventReg h), set, get_set_self, bits_of_eventReg (.inr h)]
  exact ⟨fun b => testBit_clearedValue _ v flags, eventSeq_clearedValue _ v hf, fun x hx => get_set_ne s _ hx⟩

/-- What a stale clear leaves: it is counted and flagged. -/
theorem clearEvents_stale_leaves (s : State) {r : Reg} {v : Nat} (stale : bitField v 31 24 ≠ s.clearSeq r) :
    (s.clearEvents r v).get (.doors .staleClearCount) = (s.get (.doors .staleClearCount) + 1) % 2 ^ 32 ∧
      (s.clearEvents r v).get (.doors .doorEvents) = eventSet (s.get (.doors .doorEvents)) doorStaleClear % 2 ^ 32 ∧
      ∀ x, x ≠ .doors .staleClearCount → x ≠ .doors .doorEvents → (s.clearEvents r v).get x = s.get x := by
  rw [clearEvents_stale s stale]
  refine ⟨?_, ?_, fun x count events => ?_⟩
  · rw [get_flag_ne _ _ (by decide), get_bump_self]; rfl
  · rw [get_flag_self, get_bump_ne _ (by decide)]; rfl
  · rw [get_flag_ne _ _ events, get_bump_ne _ count]

/-! ### A clear of the fault latch -/

/-- The flags that a clear of `FaultStatus` may name: not that of fail-safe while it lasts (R340). -/
def State.clearable (s : State) (v : Nat) : Nat := (if s.get (.fault .faultSafeState) = 1 then setBit v faultSafe false else v) % 64

theorem testBit_clearable (s : State) (v : Nat) {b : Nat} (hb : b < 5) : (s.clearable v).testBit b = v.testBit b := by
  have other : ¬ faultSafe = b := fun e => absurd hb (by rw [← e]; decide)
  rw [State.clearable, show (64 : Nat) = 2 ^ 6 from rfl, Nat.testBit_mod_two_pow, decide_eq_true (by omega), Bool.true_and]
  split
  · rw [testBit_setBit_false, decide_eq_false other]
    exact Bool.and_true _
  · rfl

theorem testBit_clearable_safe (s : State) (v : Nat) (h : s.get (.fault .faultSafeState) = 1) :
    (s.clearable v).testBit faultSafe = false := by
  rw [State.clearable, if_pos h, show (64 : Nat) = 2 ^ 6 from rfl, Nat.testBit_mod_two_pow, testBit_setBit_false, decide_eq_true rfl]
  simp

@[simp] theorem modFaults_get (s : State) (f : FaultRt → FaultRt) (r : Reg) : (s.modFaults f).get r = s.get r := rfl

/-- A current clear that names FIRST while it stands (R340). -/
theorem clearFaultStatus_first (s : State) {v : Nat} (names : v.testBit 0 = true) (first : (s.get (.fault .faultStatus)).testBit 0 = true) :
    ∃ f, s.clearFaultStatus v = (((((s.modFaults f).set (.fault .faultStatus) (eventClear (s.get (.fault .faultStatus))
      (s.clearable v))).set (.fault .faultFirstSource) 0xFF).set (.fault .faultMerged) 0).set (.fault .faultLatched)
        (s.get (.fault .faultLatched) &&& s.get (.fault .faultLive))).modFaults fun f => { f with pulsed := false } := by
  have both : (v.testBit faultFirst && (s.get (.fault .faultStatus)).testBit faultFirst) = true := by rw [names, first]; rfl
  have other {x : Reg} (hx : x ≠ .fault .faultStatus) (f : FaultRt → FaultRt) (w : Nat) :
      ((s.modFaults f).set (.fault .faultStatus) w).get x = s.get x := get_set_ne _ w hx
  simp only [State.clearFaultStatus, both, if_true, other (x := .fault .faultLatched) (by decide),
    other (x := .fault .faultLive) (by decide), modFaults_get]
  exact ⟨_, rfl⟩

/-- What it leaves: the latch is empty, the bits of live sources stand, and the flags named have gone. -/
theorem clearFaultStatus_first_leaves (s : State) {v : Nat} (names : v.testBit 0 = true)
    (first : (s.get (.fault .faultStatus)).testBit 0 = true) :
    (s.clearFaultStatus v).get (.fault .faultFirstSource) = 0xFF ∧ (s.clearFaultStatus v).get (.fault .faultMerged) = 0 ∧
      (s.clearFaultStatus v).get (.fault .faultLatched) = (s.get (.fault .faultLatched) &&& s.get (.fault .faultLive)) % 2 ^ 64 ∧
      (s.clearFaultStatus v).get (.fault .faultStatus) = eventClear (s.get (.fault .faultStatus)) (s.clearable v) % 2 ^ 32 := by
  obtain ⟨f, made⟩ := clearFaultStatus_first s names first
  rw [made]
  refine ⟨?_, ?_, ?_, ?_⟩ <;> rw [modFaults_get]
  · rw [get_set_ne _ _ (by decide), get_set_ne _ _ (by decide), get_set_self]; rfl
  · rw [get_set_ne _ _ (by decide), get_set_self]; rfl
  · rw [get_set_self]; rfl
  · rw [get_set_ne _ _ (by decide), get_set_ne _ _ (by decide), get_set_ne _ _ (by decide), get_set_self]; rfl

theorem testBit_eventClear_mod (x v : Nat) {b : Nat} (hb : b < 24) : (eventClear x v % 2 ^ 32).testBit b = (x.testBit b && !v.testBit b) := by
  rw [Nat.testBit_mod_two_pow, testBit_eventClear, decide_eq_true hb, decide_eq_true (Nat.lt_trans hb (by decide : 24 < 32)),
    Bool.true_and, Bool.true_and]

theorem clearFaultStatus_first_flags (s : State) {v : Nat} (names : v.testBit 0 = true)
    (first : (s.get (.fault .faultStatus)).testBit 0 = true) :
    (∀ n, n < 64 → ((s.clearFaultStatus v).get (.fault .faultLatched)).testBit n =
        ((s.get (.fault .faultLatched)).testBit n && s.live n)) ∧
      (∀ b, b < 5 → ((s.clearFaultStatus v).get (.fault .faultStatus)).testBit b =
        ((s.get (.fault .faultStatus)).testBit b && !v.testBit b)) ∧
      (s.get (.fault .faultSafeState) = 1 →
        ((s.clearFaultStatus v).get (.fault .faultStatus)).testBit 5 = (s.get (.fault .faultStatus)).testBit 5) := by
  obtain ⟨-, -, latched, status⟩ := clearFaultStatus_first_leaves s names first
  rw [latched, status]
  refine ⟨fun n hn => ?_, fun b hb => ?_, fun safe => ?_⟩
  · rw [Nat.testBit_mod_two_pow, decide_eq_true hn, Nat.testBit_and, Bool.true_and]
    rfl
  · rw [testBit_eventClear_mod _ _ (by omega), testBit_clearable s v hb]
  · rw [testBit_eventClear_mod _ _ (by decide), testBit_clearable_safe s v safe, Bool.not_false, Bool.and_true]

/-- Settles O50: a flag set by its bits; each clear by what `clearEvents` makes of the state the command starts from. -/
theorem eventFlags : Obligations.EventFlags := by
  refine ⟨fun s r b => flag_of_eventReg s, fun s d idx sub v r e hv he access regs takes => ?_⟩
  have clear := exec_eventFlagClear s d idx sub hv he access regs takes
  refine ⟨fun event seq current => ⟨s.fresh.clearEvents r v, clear, ?_⟩, fun seq flags event noted hf current =>
    ⟨s.fresh.clearEvents r v, clear, ?_⟩, fun stale => ⟨s.fresh.clearEvents r v, clear, clearEvents_stale_leaves s.fresh ?_⟩,
    fun fault current names first => ⟨s.fresh.clearEvents r v, clear, ?_⟩, fun n detail live => if_pos live⟩
  · have now : bitField v 31 24 = s.fresh.clearSeq r := by rw [clearSeq_of_eventReg s.fresh event, fresh_seqBefore, seq]; exact current
    obtain ⟨flags, number, others⟩ := clearEvents_leaves s.fresh event now (by rw [fresh_seqBefore, seq]; rfl) (by decide : 0 < 2 ^ 24)
    exact ⟨fun b hb => by rw [flags b hb, Nat.zero_testBit, Bool.or_false, fresh_get], number, others⟩
  · have now : bitField v 31 24 = s.fresh.clearSeq r := by rw [clearSeq_of_eventReg s.fresh event, fresh_seqBefore, noted]; exact current
    exact clearEvents_leaves s.fresh event now (by rw [fresh_seqBefore, noted]; rfl) hf
  · rcases stale with ⟨event, old⟩ | ⟨rfl, old⟩
    · rwa [clearSeq_of_eventReg s.fresh event]
    · rwa [clearSeq_faultStatus]
  · subst fault
    rw [clearEvents_faultStatus s.fresh (by rw [clearSeq_faultStatus]; exact current)]
    obtain ⟨source, merged, -, -⟩ := clearFaultStatus_first_leaves s.fresh names first
    exact ⟨source, merged, clearFaultStatus_first_flags s.fresh names first⟩

end Sys2Proof.Machine
end

section
/-! SUPPORT. How a PD message is delivered (R254, R274, R275, R281): a trace record leaves everything but Lens and registers, and each case
of `pdIn` by itself. -/

namespace Sys2Proof.Machine

/-! ### What a trace record leaves -/

/-- `t` differs from `s` in Lens, in registers and in what is noted of this cycle's flags alone. -/
def State.Traced (s t : State) : Prop := ∃ regs lens seqs, t = { s with regs := regs, lens := lens, seqs := seqs }

theorem State.Traced.refl (s : State) : s.Traced s := ⟨s.regs, s.lens, s.seqs, rfl⟩

theorem State.Traced.trans {s t u : State} (h : s.Traced t) (h' : t.Traced u) : s.Traced u := by
  obtain ⟨_, _, _, rfl⟩ := h
  obtain ⟨regs, lens, seqs, rfl⟩ := h'
  exact ⟨regs, lens, seqs, rfl⟩

theorem State.Traced.set (s : State) (r : Reg) (v : Nat) : s.Traced (s.set r v) := ⟨(s.set r v).regs, s.lens, s.seqs, rfl⟩
theorem State.Traced.putSeqs (s : State) (l : List (Nat × Nat × Nat × Nat)) : s.Traced (s.putSeqs l) := ⟨s.regs, s.lens, l, rfl⟩
theorem State.Traced.flag (s : State) (r : Reg) (b : Nat) : s.Traced (s.flag r b) := (set s r _).trans (putSeqs _ _)
theorem State.Traced.lens (s : State) (x : LensRt) : s.Traced { s with lens := x } := ⟨s.regs, x, s.seqs, rfl⟩

theorem State.Traced.ite {s t u : State} {p : Prop} [Decidable p] (h : s.Traced t) (h' : s.Traced u) :
    s.Traced (if p then t else u) := by
  split <;> assumption

theorem traced_lensCount (s : State) (g pl n : Nat) : s.Traced (s.lensCount g pl n) := .lens s _

/-- A record or a drop counts at its place, if it has one. -/
theorem traced_lensCount_at (s : State) (g pl : Nat) : s.Traced (s.when (pl != 0) fun t => t.lensCount g pl 1) :=
  .ite (traced_lensCount s g pl 1) (.refl s)

theorem traced_lensWrite (s : State) (bytes : List Byte) (pl : Nat) : s.Traced (s.lensWrite bytes pl) := by
  have stopped (t : State) (x : LensRt) : t.Traced ((({ t with lens := x } : State)).flag (.lens .lensEvents) lensStopped) :=
    (State.Traced.lens t x).trans (.flag _ _ _)
  unfold State.lensWrite
  refine .ite ?dropped (.trans ?written (.ite (.ite ?wrapped (.refl _)) (.ite (stopped _ _) (.refl _))))
  case dropped => exact (State.Traced.ite (.refl s) (stopped s _)).trans ((State.Traced.set _ _ _).trans (traced_lensCount_at _ 15 pl))
  case written => exact (State.Traced.lens s _).trans ((State.Traced.set _ _ _).trans (traced_lensCount_at _ 13 pl))
  case wrapped => exact (State.Traced.set _ _ _).trans (.flag _ _ _)

theorem traced_lensNote (s : State) (src pl : Nat) (sent : Bool) (detail ext : List Byte) :
    s.Traced (s.lensNote src pl sent detail ext) := by
  unfold State.lensNote
  refine .ite (.trans (.lens s _) (.ite (.ite (.lens _ _) ?dropped) (traced_lensWrite _ _ _))) (.refl s)
  exact (State.Traced.set _ _ _).trans (traced_lensCount_at _ 15 pl)

theorem traced_lensPd (s : State) (p : Port) (sent : Bool) (header sop retries : Nat) (objs : List Nat) :
    s.Traced (s.lensPd p sent header sop retries objs) := traced_lensNote s _ _ _ _ _

theorem State.Traced.policy {s t : State} (h : s.Traced t) : t.policy = s.policy := by
  obtain ⟨_, _, _, rfl⟩ := h
  rfl

/-! ### Delivery -/

theorem provoke_of_disarmed {s : State} (h : s.lens.armed = false) (k pl : Nat) : s.provoke k pl = (false, s) := by
  unfold State.provoke
  split
  · rw [h]; rfl
  · rfl

/-- What is served once a message is taken from its partner: by the state `w` that its GoodCRC met (R254, R273 to R275, R281). -/
def State.servedAs (u w : State) (p : Port) (typ : Nat) (crossed fits : Bool) (f : State → State) : State :=
  if !u.policy ∨ (w.tc p).fallback ∨ (w.tc p).hardStage ≠ 0 then u
  else if (w.tc p).trans.isSome then u.hardReset p true
  else if (w.tc p).window ∨ crossed then ((f ((u.collision p).modTc p fun x => { x with window := false })).kick p)
  else if (w.tc p).await ≠ .nothing ∧ !fits ∧ typ ≠ 13 then u.unexpected p
  else f u

/-- A message with a good CRC on a port that is ready is a repetition, or is taken and served. -/
theorem pdIn_of_ready {s : State} {p : Port} {h : PdHdr} {typ : Nat} {objs : List Nat} {ext fits crossed : Bool} {w v u : State}
    (ready : s.pdReady p = true) (armed : s.lens.armed = false)
    (hc : crossed = (h.crossed && (s.tc p).sent.isSome && (s.rev2 p || decide (h.rev < 2))))
    (hw : w = (if crossed then s.withdrawTx p else s.ackTx p))
    (hv : v = ((((w.lensPd p false (pdHeader typ objs.length h.id ext (!(w.tc p).source) (!(w.tc p).dfp) h.rev) 0 0 objs).lensCount 10
      (placePort p) 1).set (.canTime (.pdRxStamp p)) w.now).emit (.pd p .goodCrc false)))
    (hu : u = (v.modTc p fun x => { x with
      lastId := some h.id, partnerRev := if h.rev < 2 ∨ x.partnerRev = 1 then 1 else 2, hardRow := 0,
      rp := if x.source then x.rp else h.rp })) (f : State → State) :
    s.pdIn p h typ objs ext fits f =
      if (w.tc p).lastId = some h.id ∧ typ ≠ 13 then v.pdBreach p else u.servedAs w p typ crossed fits f := by
  have now : (w.lensPd p false (pdHeader typ objs.length h.id ext (!(w.tc p).source) (!(w.tc p).dfp) h.rev) 0 0 objs).now = w.now := by
    obtain ⟨_, _, _, traced⟩ := traced_lensPd w p false (pdHeader typ objs.length h.id ext (!(w.tc p).source) (!(w.tc p).dfp) h.rev) 0 0 objs
    rw [traced]; rfl
  simp only [State.pdIn, ready, provoke_of_disarmed armed, Bool.not_true, Bool.false_eq_true, if_false]
  rw [← hc, ← hw, now, ← hv, ← hu]
  rfl

@[simp] theorem modTc_policy (s : State) (p : Port) (f : TcRt → TcRt) : (s.modTc p f).policy = s.policy := rfl
@[simp] theorem emit_policy (s : State) (o : Out) : (s.emit o).policy = s.policy := rfl

/-- The GoodCRC and the record of it leave policy as it was. -/
theorem policy_of_delivery {w v u : State} {p : Port} {header x now : Nat} {objs : List Nat} {f : TcRt → TcRt}
    (hv : v = ((((w.lensPd p false header 0 0 objs).lensCount 10 x 1).set (.canTime (.pdRxStamp p)) now).emit (.pd p .goodCrc false)))
    (hu : u = v.modTc p f) : u.policy = w.policy := by
  have traced := (traced_lensPd w p false header 0 0 objs).trans ((traced_lensCount _ 10 x 1).trans (.set _ (.canTime (.pdRxStamp p)) now))
  rw [hu, hv, modTc_policy, emit_policy, traced.policy]

/-- Settles O28: the cases of a delivery, each with what the ones before it leave out. -/
theorem pdDelivery : Obligations.PdDelivery := by
  intro s p h typ objs ext fits crossed w v u ready armed hc hw hv hu
  have delivery := pdIn_of_ready (fits := fits) ready armed hc hw hv hu
  refine ⟨fun again notSoft f => (delivery f).trans (if_pos ⟨again, notSoft⟩), fun new policy fallback stage => ?_⟩
  have taken (f : State → State) : s.pdIn p h typ objs ext fits f = u.servedAs w p typ crossed fits f :=
    (delivery f).trans (if_neg fun again => new again.1)
  have runs : ¬ ((!u.policy) = true ∨ (w.tc p).fallback = true ∨ (w.tc p).hardStage ≠ 0) := by
    simp [policy_of_delivery hv hu, policy, fallback, stage]
  simp only [State.servedAs, if_neg runs] at taken
  refine ⟨fun trans f => ?_, fun trans collides f => ?_, fun trans window alone await fit notSoft f => ?_,
    fun trans window alone expected f => ?_⟩
  · exact (taken f).trans (if_pos (Option.isSome_iff_ne_none.2 trans))
  · simp only [trans, Option.isSome_none, Bool.false_eq_true, if_false, if_pos collides] at taken
    exact taken f
  · simp only [trans, window, alone, Option.isSome_none, Bool.false_eq_true, or_self, if_false] at taken
    exact (taken f).trans (if_pos ⟨await, by rw [fit]; rfl, notSoft⟩)
  · simp only [trans, window, alone, Option.isSome_none, Bool.false_eq_true, or_self, if_false] at taken
    refine (taken f).trans (if_neg ?_)
    rintro ⟨await, unfit, notSoft⟩
    rcases expected with idle | fit | soft
    · exact await idle
    · rw [fit] at unfit
      cases unfit
    · exact notSoft soft

end Sys2Proof.Machine
end

section
/-! SUPPORT. A command's next state from what its operation makes of the state it starts from, by where the command happens (R14, R16,
R17). -/

namespace Sys2Proof.Machine

/-! ### From an operation to the command's next state -/

/-- A command of logic that runs on no clock of the PLL's. -/
theorem next_of {s : State} {f : State → State} {e : State} (h : f s.fresh = e) :
    (.next (s.after f) : Host.Outcome State Fault Refusal) = .next (s.finish e) := congrArg _ (after_of h)

/-- A command of the core's logic, which runs. -/
theorem next_of_core {s : State} {f : State → State} {e : State} (on : s.coreRuns = true) (h : f s.fresh = e) :
    (.next (s.after fun s => s.whenCore f) : Host.Outcome State Fault Refusal) = .next (s.finish e) :=
  next_of ((whenCore_on (s := s.fresh) on f).trans h)

/-- A command of the ring layer, which runs. -/
theorem next_of_ring {s : State} {f : State → State} {e : State} (on : s.coreRuns = true) (ring : s.domainOn 6 = true)
    (h : f s.fresh = e) : (.next (s.after fun s => s.whenRing f) : Host.Outcome State Fault Refusal) = .next (s.finish e) :=
  next_of ((whenRing_on (s := s.fresh) on ring f).trans h)

end Sys2Proof.Machine
end

section
/-! SUPPORT. Requests to the hub function (R32, R34, R36, R43): each runs and is served where the function answers its host. -/

namespace Sys2Proof.Machine

/-! ### A request to a function that answers -/

theorem atFn_of_here {s : State} {f : Fn} (h : s.fnHere f = true) (g : State → State) : s.atFn f g = (g s).served f := if_pos h

/-- The hub and the embedded function of an image answer while the hub serves (R147, R172). -/
theorem atFn_hub {s : State} {i : Image} (h : s.hubServes i = true) (g : State → State) : s.atFn (.hub i) g = (g s).served (.hub i) :=
  atFn_of_here (f := .hub i) h g

theorem atFn_emb {s : State} {i : Image} (h : s.hubServes i = true) (g : State → State) : s.atFn (.emb i) g = (g s).served (.emb i) :=
  atFn_of_here (f := .emb i) h g

/-- A core command that is one request to the hub function of an image: what the request makes of the state is served. -/
theorem next_of_hubRequest {s : State} {i : Image} {g : State → State} {e : State} (on : s.coreRuns = true)
    (serves : s.hubServes i = true) (h : g s.fresh = e) :
    (.next (s.after fun s => s.whenCore fun s => s.atFn (.hub i) g) : Host.Outcome State Fault Refusal) =
      .next (s.finish (e.served (.hub i))) :=
  next_of_core on ((atFn_hub (s := s.fresh) serves g).trans (congrArg (fun t : State => t.served (.hub i)) h))

/-- Settles O1: each request's answer, by the case of its operation. -/
theorem hubFunctionAnswers : Obligations.HubFunctionAnswers := by
  intro s i on serves
  refine ⟨next_of_hubRequest on serves rfl, next_of_hubRequest on serves rfl, next_of_hubRequest on serves rfl,
    fun kind index answer b known => next_of_hubRequest on serves ?known, fun kind index answer unknown => next_of_hubRequest on serves ?unknown,
    next_of_hubRequest on serves rfl, next_of_core on (atFn_emb (s := s.fresh) serves _), next_of_hubRequest on serves rfl,
    next_of_hubRequest on serves rfl, fun m lo hi => next_of_hubRequest on serves (if_pos ⟨lo, hi⟩),
    fun m out => next_of_hubRequest on serves (if_neg ?out), next_of_hubRequest on serves rfl⟩
  case known => simp only [fresh_descriptor, known]; rfl
  case unknown => simp only [fresh_descriptor, unknown]; rfl
  case out => rw [fresh_portCount]; omega

/-- Settles O2: each request that the hub function takes, by the case of its operation. -/
theorem hubFunctionSettings : Obligations.HubFunctionSettings := by
  intro s i on serves
  refine ⟨next_of_hubRequest on serves rfl, next_of_hubRequest on serves rfl, next_of_hubRequest on serves rfl,
    next_of_hubRequest on serves rfl, fun u sel up lo hi => next_of_core on ?test, fun addr small => next_of_hubRequest on serves ?address,
    fun addr cut short => next_of_hubRequest on serves (if_pos short), next_of_hubRequest on serves rfl,
    next_of_hubRequest on serves rfl, fun full => next_of_hubRequest on serves (if_pos ?alternate),
    fun f known => next_of_hubRequest on serves (if_pos known)⟩
  case test =>
    simp only [State.cmdSetFeatureTestMode, fresh_hubUp, up, atFn_hub (s := s.fresh) serves, if_pos (And.intro lo hi)]
    rfl
  case address =>
    have inRange : ¬ 127 < addr := Nat.not_lt.2 small
    simp only [ne_eq, not_true_eq_false, if_false, inRange]
    rfl
  case alternate => exact ⟨rfl, .inr ⟨rfl, by rw [fresh_fullSpeed, full]; rfl⟩⟩

end Sys2Proof.Machine
end

section
/-! SUPPORT. Port requests to a logical port on this facet (R32, R37, R42, R57, R58, R60): each is `portRequest` there, acknowledged and
served. -/

namespace Sys2Proof.Machine

/-! ### A request to a port of this facet -/

section
variable {s : State} {i : Image} {m : Nat} {p : Port}

/-- What a port request makes of the state is acknowledged, and served. -/
theorem portRequestAt_own {q : PortReq} {e : State} (serves : s.hubServes i = true) (lo : 1 ≤ m) (hi : m ≤ s.portCount i)
    (place : s.place i m = .own p) (h : s.portRequest p q = e) : s.portRequestAt i m q = (e.emit .controlAck).served (.hub i) := by
  have inRange : ¬ (m = 0 ∨ s.portCount i < m) := by omega
  rw [State.portRequestAt, atFn_hub serves, if_neg inRange, place, ← h]
  rfl

/-! ### What the requests do there -/

/-- A port that no adoption holds is reset where a reset may be driven (R37). -/
theorem resetPort_of_resettable (logical : s.logicalOf p = some (i, m)) (free : s.heldPort i m = false)
    (st : s.pst p = 2 ∨ s.pst p = 4 ∨ s.pst p = 5 ∨ s.pst p = 6) (powered : s.portOn p = true) (limit : Nat) :
    s.resetPort p limit = s.startReset p := by
  have resettable : s.resettable p = true := by simpa [State.resettable, powered] using st
  simp [State.resetPort, logical, free, resettable]

theorem setPortFeaturePortTest_own (serves : s.hubServes i = true) (place : s.place i m = .own p) (sel : Nat) :
    s.cmdSetPortFeaturePortTest i m sel =
      (if 1 ≤ sel ∧ sel ≤ 5 ∧ s.testAllowed p = true then (s.portRequest p (.test sel)).ack else s.stall).served (.hub i) := by
  rw [State.cmdSetPortFeaturePortTest, atFn_hub serves, place]

/-! ### Requests to the translator -/

/-- A request to the translator of a port for which the entry facet carries no split that it would drop (R57). -/
theorem ttRequest_of_kept (serves : s.hubServes i = true) (multi : s.fullSpeed i = false) {keep : EntrySplit → Bool}
    (kept : ∀ x ∈ s.splits, x.image == i.val && x.port == m → keep x = true) (q : PortReq) :
    s.ttRequest i m q keep = s.portRequestAt i m q := by
  have all : (s.splits.filter fun (x : EntrySplit) => !(x.image == i.val && x.port == m) || keep x) = s.splits := by
    refine List.filter_eq_self.2 fun x hx => ?_
    cases own : (x.image == i.val && x.port == m)
    · rfl
    · exact kept x hx own
  simp only [State.ttRequest, serves, multi, Bool.and_false, Bool.false_eq_true, if_false, if_true, all]

theorem ttClear_own {addr ep : Nat} (logical : s.logicalOf p = some (i, m)) (tt : s.ttPorts i m = [p]) :
    s.portRequest p (.ttClear addr ep) = s.freeTtBuffer p addr ep := by
  simp [State.portRequest, logical, tt, State.forEach]

/-- Where a port has its translator for itself, no other port's buffers go with it (R56). -/
theorem ttReset_own (logical : s.logicalOf p = some (i, m)) (tt : s.ttPorts i m = [p]) : s.portRequest p .ttReset = s.resetTt p := by
  simp [State.portRequest, State.resetTtOf, logical, tt, State.forEach]

end

/-- Settles O3: each request by what it does at the port. -/
theorem portRequests : Obligations.PortRequests := by
  intro s i m p on serves lo hi place
  have request {q : PortReq} {e : State} (h : s.fresh.portRequest p q = e) :
      s.fresh.portRequestAt i m q = (e.emit .controlAck).served (.hub i) := portRequestAt_own (s := s.fresh) serves lo hi place h
  have tt {q : PortReq} {keep : EntrySplit → Bool} {e : State} (multi : s.fullSpeed i = false)
      (kept : ∀ x ∈ s.splits, x.image == i.val && x.port == m → keep x = true) (h : s.fresh.portRequest p q = e) :
      s.fresh.ttRequest i m q keep = (e.emit .controlAck).served (.hub i) :=
    (ttRequest_of_kept (s := s.fresh) serves multi kept q).trans (request h)
  have test (sel : Nat) := setPortFeaturePortTest_own (s := s.fresh) serves place sel
  have change {bit : Nat} (known : bit ≤ 4) (s : State) : s.cmdClearPortFeatureCPort i m bit = s.portRequestAt i m (.clearChange bit) :=
    if_pos known
  refine ⟨next_of_core on (request rfl), fun st => next_of_core on (request (if_neg (Nat.not_le.2 st))),
    fun logical free st powered => next_of_core on (request (resetPort_of_resettable (s := s.fresh) logical free st powered _)),
    fun st => next_of_core on (request (if_pos st)), fun st powered => next_of_core on (request (if_pos ⟨st, powered⟩)),
    fun st => next_of_core on (request (if_pos st)), fun sel one five allowed => next_of_core on ?test,
    fun sel denied => next_of_core on ?denied, fun bit known old => next_of_core on ((change known _).trans (request ?clears)),
    fun bit known new => next_of_core on ((change known _).trans (request (if_pos new))), fun multi logical alone =>
      ⟨fun addr ep none => next_of_core on (tt multi ?kept (ttClear_own (s := s.fresh) logical alone)),
        fun none => next_of_core on (tt multi ?dropped (ttReset_own (s := s.fresh) logical alone)),
        next_of_core on (tt multi (fun _ _ _ => rfl) rfl)⟩⟩
  case test =>
    have allow : s.fresh.portRequest p (.test sel) = _ := if_pos allowed
    rw [test sel, if_pos ⟨one, five, allowed⟩, allow]
    rfl
  case denied =>
    rw [test sel, if_neg fun h => Bool.false_ne_true (denied.symm.trans h.2.2)]
    rfl
  case clears => exact if_neg (by rw [fresh_setNow, old]; exact Bool.false_ne_true)
  case kept =>
    intro x hx own
    have other := List.any_eq_false.1 none x hx
    simp only [Bool.and_eq_true] at own
    simp only [own, Bool.true_and] at other
    simp only [Bool.not_eq_true] at other
    rw [other, Bool.not_false]
  case dropped =>
    intro x hx own
    exact absurd own (List.any_eq_false.1 none x hx)

end Sys2Proof.Machine
end

section
/-! SUPPORT. Events on a port (R37 to R39, R60 to R62, R65): which image maps a port is no part of what a port's own event changes. -/

namespace Sys2Proof.Machine

/-! ### The images and their maps -/

/-- The registers of the prism's membership, of the images and of their hold-over. -/
def imageReg : Reg → Bool
  | .ring _ | .image _ _ | .hold4 _ _ => true
  | _ => false

/-- `t` has the images of `s`: membership, maps, hub functions, upstreams and hold-over stand. -/
def State.SameImages (s t : State) : Prop :=
  t.ident = s.ident ∧ t.holds = s.holds ∧ t.hubs = s.hubs ∧ t.ups = s.ups ∧ ∀ r, imageReg r = true → t.get r = s.get r

namespace State.SameImages
variable {s t u : State}

theorem refl (s : State) : s.SameImages s := ⟨rfl, rfl, rfl, rfl, fun _ _ => rfl⟩

theorem trans (h : s.SameImages t) (h' : t.SameImages u) : s.SameImages u := by
  obtain ⟨ident, holds, hubs, ups, get⟩ := h
  obtain ⟨ident', holds', hubs', ups', get'⟩ := h'
  exact ⟨ident'.trans ident, holds'.trans holds, hubs'.trans hubs, ups'.trans ups, fun r hr => (get' r hr).trans (get r hr)⟩

theorem set (s : State) {r : Reg} (v : Nat) (h : imageReg r = false) : s.SameImages (s.set r v) :=
  ⟨rfl, rfl, rfl, rfl, fun x hx => get_set_ne s v fun e => by rw [e, h] at hx; cases hx⟩

theorem putSeqs (s : State) (l : List (Nat × Nat × Nat × Nat)) : s.SameImages (s.putSeqs l) := ⟨rfl, rfl, rfl, rfl, fun _ _ => rfl⟩

theorem flag (s : State) {r : Reg} (b : Nat) (h : imageReg r = false) : s.SameImages (s.flag r b) :=
  (set s (eventSet (s.get r) b) h).trans (putSeqs _ _)

theorem emit (s : State) (o : Out) : s.SameImages (s.emit o) := refl s
theorem modPort (s : State) (p : Port) (f : PortRt → PortRt) : s.SameImages (s.modPort p f) := refl s
theorem setPs (s : State) (p : Port) (b : Nat) (v : Bool) : s.SameImages (s.setPs p b v) := refl s
theorem setPc (s : State) (p : Port) (b : Nat) : s.SameImages (s.setPc p b) := refl s
theorem setPst (s : State) (p : Port) (v : Nat) : s.SameImages (s.setPst p v) := set s _ rfl

theorem ite {p : Prop} [Decidable p] (h : s.SameImages t) (h' : s.SameImages u) : s.SameImages (if p then t else u) := by
  split <;> assumption

theorem memberAt (h : s.SameImages t) (n : Nat) : t.memberAt n = s.memberAt n := by
  simp only [State.memberAt, h.2.2.2.2 (.ring _) rfl]

theorem members (h : s.SameImages t) : t.members = s.members := by
  simp only [State.members, h.memberAt]

theorem ownSlot (h : s.SameImages t) : t.ownSlot = s.ownSlot := by
  simp only [State.ownSlot, State.slotOf, h.members, h.1]

theorem enabled (h : s.SameImages t) (i : Image) : t.enabled i = s.enabled i := by
  simp only [State.enabled, State.isTrue, h.2.2.2.2 (.image _ _) rfl]

theorem mapEntry (h : s.SameImages t) (i : Image) (m : Nat) : t.mapEntry i m = s.mapEntry i m := by
  simp only [State.mapEntry, State.portCount, h.2.2.2.2 (.image _ _) rfl]
  rfl

theorem place (h : s.SameImages t) (i : Image) (m : Nat) : t.place i m = s.place i m := by
  rw [State.place, State.place, h.mapEntry, State.placeOf, State.placeOf, h.ownSlot, h.1]

theorem logicalOf (h : s.SameImages t) (p : Port) : t.logicalOf p = s.logicalOf p := by
  simp only [State.logicalOf, h.enabled, h.place]

theorem holdState (h : s.SameImages t) (i : Image) : t.holdState i = s.holdState i := h.2.2.2.2 _ rfl

theorem imageSuspended (h : s.SameImages t) (i : Image) : t.imageSuspended i = s.imageSuspended i := by
  have hold : t.hold i = s.hold i := by rw [State.hold, State.hold, h.2.1]
  have hub : t.hub i = s.hub i := by rw [State.hub, State.hub, h.2.2.1]
  simp only [State.imageSuspended, h.holdState, hold, hub]

end State.SameImages

/-! ### The events -/

section
variable {s : State} {p : Port}

/-- The end of a reset enables the port at the speed found (R37, R39). -/
theorem portResetComplete_of_reset (st : s.pst p = 3) (conn : s.ps p psConn = true) (powered : s.portOn p = true) {chirp : Chirp}
    {full : Bool} {speed : Nat} {a b r : State} (hfull : ((s.logicalOf p).any fun e => s.fullSpeed e.1) = full)
    (hspeed : foundSpeed full (s.port p).lowPull chirp = speed)
    (ha : (if chirp = .malformed then (s.bump (.port p .portChirpFailCount)).flag (.hub .hubEvents) hubChirpFail else s) = a)
    (hb : (if (s.port p).change.testBit psReset then a else a.modPort p fun x => { x with resetAt := some s.time.elapsed }) = b)
    (hr : ((((((b.setPs p psReset false).setPs p psEnable true).setPc p psReset).setPst p 4).setPs p psLow (speed == 1)).setPs p psHigh
      (speed == 3)).set (.port p .portSpeed) speed = r) :
    s.cmdPortResetComplete p chirp = (match s.logicalOf p with
      | some (i, m) => r.setRecord i m { resetOrder := r.nextReset i }
      | none => r).emit (.line p .idle) := by
  have runs : ¬ (s.pst p ≠ 3 ∨ (!s.ps p psConn) = true ∨ (!s.portOn p) = true) := by simp [st, conn, powered]
  have port : a.port p = s.port p := by
    rw [← ha]
    split
    · rw [State.port, flag_ports, bump_ports, State.port]
    · rfl
  have time : a.time = s.time := by
    rw [← ha]
    split
    · rw [flag_time, bump_time]
    · rfl
  have images : s.SameImages r := by
    have chirped : s.SameImages a := by
      rw [← ha]
      exact .ite ((State.SameImages.set s _ rfl).trans (.flag _ _ rfl)) (.refl s)
    have stamped : a.SameImages b := by
      rw [← hb]
      exact .ite (.refl a) (.modPort a p _)
    rw [← hr]
    have enabled := (((State.SameImages.setPs b p psReset false).trans (.setPs _ p psEnable true)).trans (.setPc _ p psReset)).trans
      (.setPst _ p 4)
    have found := ((enabled.trans (.setPs _ p psLow (speed == 1))).trans (.setPs _ p psHigh (speed == 3))).trans
      (.set _ (r := .port p .portSpeed) speed rfl)
    exact (chirped.trans stamped).trans found
  rw [State.cmdPortResetComplete, if_neg runs]
  simp only [hfull, hspeed, ha, port, time, hb, hr, images.logicalOf] <;> rfl

/-- The end of a resume enables the port again, unless it stays in its image's suspend (R37, R60, R62). -/
theorem portResumeComplete_of_resuming (st : s.pst p = 6) (powered : s.portOn p = true) {r : State}
    (hr : ((((if (s.port p).wakeGlobal then s else (s.setPs p psSuspend false).setPc p psSuspend).setPst p 4).emit
      (.line p .keepAlive)).emit (.line p .idle)) = r) :
    s.cmdPortResumeComplete p = match s.logicalOf p with
      | none => r.modPort p fun x => { x with wakeGlobal := false, devWake := false }
      | some (i, _) => (r.modPort p fun x =>
        { x with wakeGlobal := false, devWake := false, globalSusp := s.imageSuspended i,
                 suspendedAt := if s.imageSuspended i then s.time.elapsed else x.suspendedAt }).checkWake i := by
  have runs : ¬ (s.pst p ≠ 6 ∨ (!s.portOn p) = true) := by simp [st, powered]
  have images : s.SameImages r := by
    rw [← hr]
    have awake := (State.SameImages.setPs s p psSuspend false).trans (.setPc _ p psSuspend)
    exact (((State.SameImages.ite (.refl s) awake).trans (.setPst _ p 4)).trans (.emit _ _)).trans (.emit _ _)
  have time : r.time = s.time := by
    rw [← hr]
    show (if (s.port p).wakeGlobal then s else (s.setPs p psSuspend false).setPc p psSuspend).time = s.time
    split <;> rfl
  rw [State.cmdPortResumeComplete, if_neg runs]
  simp only [hr, images.logicalOf, images.imageSuspended, time] <;> rfl

/-- A device's K on a port that hears it and has been suspended long enough (R61, R62, R147). -/
theorem deviceRemoteWake_of_heard {i : Image} {m : Nat} (logical : s.logicalOf p = some (i, m))
    (st : s.pst p = 5 ∨ s.pst p = 6 ∨ (s.pst p = 4 ∧ (s.port p).globalSusp = true)) (powered : s.portOn p = true)
    (late : (s.port p).suspendedAt + 5 * msUnits ≤ s.time.elapsed) :
    s.cmdDeviceRemoteWake p =
      if s.pst p = 6 ∨ (s.hub i).resuming = true then s.wakeMerged
      else if s.heldPort i m = true ∧ s.holdState i = 5 then s.callWake i m
      else if s.imageSuspended i = true ∨ (s.pst p = 4 ∧ (s.port p).globalSusp = true) then
        if s.entryHere i then s.wakeUpstream i else s.broadcast 4 i.val (.sync (.wakeK i m))
      else s.startResume p false true := by
  have hears : ¬ (¬ (s.pst p = 5 ∨ s.pst p = 6 ∨ (s.pst p = 4 ∧ (s.port p).globalSusp = true)) ∨ (!s.portOn p) = true) := by
    simp [st, powered]
  simp only [State.cmdDeviceRemoteWake, logical, if_neg hears, if_neg (Nat.not_lt.2 late)]

theorem deviceRemoteWake_of_early {i : Image} {m : Nat} (logical : s.logicalOf p = some (i, m))
    (st : s.pst p = 5 ∨ s.pst p = 6 ∨ (s.pst p = 4 ∧ (s.port p).globalSusp = true)) (powered : s.portOn p = true)
    (early : s.time.elapsed < (s.port p).suspendedAt + 5 * msUnits) :
    s.cmdDeviceRemoteWake p = (s.bump (.hub .earlyWakeCount)).flag (.hub .hubEvents) hubEarlyWake := by
  have hears : ¬ (¬ (s.pst p = 5 ∨ s.pst p = 6 ∨ (s.pst p = 4 ∧ (s.port p).globalSusp = true)) ∨ (!s.portOn p) = true) := by
    simp [st, powered]
  simp only [State.cmdDeviceRemoteWake, logical, if_neg hears, if_pos early]

end

theorem deviceDisconnect_of_connected {s : State} {p : Port} (one : 1 < s.pst p) (eight : s.pst p < 8) (detect : (s.tc p).detectOff = false) :
    s.cmdDeviceDisconnect p = match (s.logicalOf p).map Prod.fst with
      | some i => (s.usbDisconnect p).checkWake i
      | none => s.usbDisconnect p := if_pos ⟨one, eight, by rw [detect]; rfl⟩

theorem foundSpeed_malformed (low : Bool) :
    foundSpeed false low .malformed = 2 ∧ foundSpeed true low .malformed = foundSpeed true low .completed := by
  cases low <;> decide

/-- Settles O4: each event under the conditions of its case, the image read before the port changes. -/
theorem portEvents : Obligations.PortEvents := by
  intro s p on
  refine ⟨fun low st powered good power detect => next_of_core on (if_pos ⟨st, powered, good, power, by rw [fresh_tc, detect]; rfl⟩),
    fun one eight detect => ⟨fun unmapped => next_of_core on ?unmapped, fun i m mapped => next_of_core on ?mapped⟩,
    fun st conn powered chirp full speed a b r hfull hspeed ha hb hr => ⟨fun unmapped => next_of_core on ?reset,
      fun i m mapped => next_of_core on ?resetMapped⟩,
    fun full low => ⟨rfl, rfl, (foundSpeed_malformed low).1, (foundSpeed_malformed low).2⟩,
    fun st => next_of_core on (if_pos st),
    fun st powered r hr => ⟨fun unmapped => next_of_core on ?resume, fun i m mapped => next_of_core on ?resumeMapped⟩,
    fun i m logical st powered => ⟨fun early => next_of_core on (deviceRemoteWake_of_early (s := s.fresh) logical st powered early),
      fun late => ?wake⟩⟩
  case unmapped => exact (deviceDisconnect_of_connected (s := s.fresh) one eight detect).trans (by rw [fresh_logicalOf, unmapped]; rfl)
  case mapped => exact (deviceDisconnect_of_connected (s := s.fresh) one eight detect).trans (by rw [fresh_logicalOf, mapped]; rfl)
  case reset =>
    refine (portResetComplete_of_reset (s := s.fresh) st conn powered hfull hspeed ha hb hr).trans ?_
    rw [fresh_logicalOf, unmapped]
  case resetMapped =>
    refine (portResetComplete_of_reset (s := s.fresh) st conn powered hfull hspeed ha hb hr).trans ?_
    rw [fresh_logicalOf, mapped]
  case resume =>
    refine (portResumeComplete_of_resuming (s := s.fresh) st powered hr).trans ?_
    rw [fresh_logicalOf, unmapped]
  case resumeMapped =>
    refine (portResumeComplete_of_resuming (s := s.fresh) st powered hr).trans ?_
    rw [fresh_logicalOf, mapped]
    rfl
  case wake =>
    have heard := deviceRemoteWake_of_heard (s := s.fresh) logical st powered late
    simp only [fresh_pst, fresh_hub, fresh_heldPort, fresh_holdState, fresh_imageSuspended, fresh_port, fresh_entryHere] at heard
    have notMerged (apart : s.pst p ≠ 6) (alone : (s.hub i).resuming = false) : ¬ (s.pst p = 6 ∨ (s.hub i).resuming = true) := by
      simp [apart, alone]
    have notHeld (free : s.heldPort i m = false ∨ s.holdState i ≠ 5) : ¬ (s.heldPort i m = true ∧ s.holdState i = 5) := by
      rintro ⟨held, dormant⟩
      rcases free with free | awake
      · exact Bool.false_ne_true (free.symm.trans held)
      · exact awake dormant
    have asleep (global : s.imageSuspended i = true ∨ s.pst p = 4) :
        s.imageSuspended i = true ∨ (s.pst p = 4 ∧ (s.port p).globalSusp = true) := by
      rcases global with image | four
      · exact .inl image
      · exact .inr (by simpa [four] using st)
    refine ⟨fun merges => next_of_core on (heard.trans (if_pos merges)), fun apart alone held dormant => next_of_core on ?called,
      fun five alone free active => next_of_core on ?resumed, fun apart alone free global =>
        ⟨fun here => next_of_core on ?upstream, fun away => next_of_core on ?told⟩⟩
    case called => exact heard.trans ((if_neg (notMerged apart alone)).trans (if_pos ⟨held, dormant⟩))
    case resumed =>
      refine heard.trans ((if_neg (notMerged (by omega) alone)).trans ((if_neg (notHeld free)).trans (if_neg ?_)))
      simp [active, five]
    case upstream =>
      refine heard.trans ((if_neg (notMerged apart alone)).trans ((if_neg (notHeld free)).trans ((if_pos (asleep global)).trans ?_)))
      exact if_pos here
    case told =>
      refine heard.trans ((if_neg (notMerged apart alone)).trans ((if_neg (notHeld free)).trans ((if_pos (asleep global)).trans ?_)))
      exact if_neg (by rw [away]; exact Bool.false_ne_true)

end Sys2Proof.Machine
end

section
/-! SUPPORT. The link layer's events (R78 to R80, R86, R99) and delivered ring frames (R83, R86, R94, R97, R102). -/

namespace Sys2Proof.Machine

/-! ### Events of a link -/

theorem linkIsUp_of {s : State} {k : Link} (h : s.get (.link k .linkState) = 3 ∨ s.get (.link k .linkState) = 6) :
    s.linkIsUp k = true := by
  rcases h with h | h <;> simp [State.linkIsUp, h]

theorem cmdLinkTrainingStart_of_off {s : State} {k : Link} {p : Port} (mode : s.linkMode k = true) (port : s.linkPort k = some p)
    (off : s.get (.link k .linkState) = 0 ∨ s.get (.link k .linkState) = 1) :
    s.cmdLinkTrainingStart k = ((s.setPst p 8).startTraining k).modLink k fun x => { x with fails := 0 } := by
  rw [State.cmdLinkTrainingStart, if_pos ⟨mode, off⟩, port]

/-- A failed attempt is counted; the third in a row shows the link failed (R79). -/
theorem cmdLinkTrainTimeout_of_training {s : State} {k : Link} (h : s.get (.link k .linkState) = 2) :
    s.cmdLinkTrainTimeout k =
      if 3 ≤ (s.link k).fails + 1 then
        ((((s.bump (.link k .linkTrainFailCount)).modLink k fun x => { x with fails := x.fails + 1 }).showLinkState k 5).raiseLive
          (40 + k.val) 5)
      else ((s.bump (.link k .linkTrainFailCount)).modLink k fun x => { x with fails := x.fails + 1 }).showLinkState k 0 :=
  if_pos h

/-- Training completes with the partner that the link had before, or with any partner where it had none (R78, R80). -/
theorem cmdLinkUp_of_partner {s : State} {k : Link} {g : Ts2} {laneMap : Nat}
    (h : s.get (.link k .linkState) = 2 ∨ (s.get (.link k .linkState) = 4 ∧ g.uid = s.get (.link k .linkPartnerId))) :
    s.cmdLinkUp k g laneMap = (s.linkComesUp k g laneMap (s.foreignPartner k g)).linkJoins k g (s.foreignPartner k g)
      (s.get (.link k .linkState) == 4) s.inRouting s.candidates := by
  have trains : ¬ ¬ (s.get (.link k .linkState) = 2 ∨ s.get (.link k .linkState) = 4) := by omega
  have same : ¬ (s.get (.link k .linkState) = 4 ∧ g.uid ≠ s.get (.link k .linkPartnerId)) := by omega
  rw [State.cmdLinkUp, if_neg trains, if_neg same]

/-- A retrain that ends at another partner takes the link down and trains it anew (R80). -/
theorem cmdLinkUp_of_other {s : State} {k : Link} {g : Ts2} {laneMap : Nat} (st : s.get (.link k .linkState) = 4)
    (other : g.uid ≠ s.get (.link k .linkPartnerId)) :
    s.cmdLinkUp k g laneMap = ((s.linkDown k 0).startTraining k).afterRoutes := by
  rw [State.cmdLinkUp, if_neg (not_not.2 (.inr st)), if_pos ⟨st, other⟩]

/-- Settles O8: each event of a link, by what its state is. -/
theorem linkTraining : Obligations.LinkTraining := by
  intro s k on ring
  refine ⟨fun p mode port off => next_of_ring on ring (cmdLinkTrainingStart_of_off (s := s.fresh) mode port off),
    fun mode off => next_of_ring on ring (if_pos ⟨mode, off⟩),
    fun st few => next_of_ring on ring ((cmdLinkTrainTimeout_of_training (s := s.fresh) st).trans (if_neg ?few)),
    fun st many => next_of_ring on ring ((cmdLinkTrainTimeout_of_training (s := s.fresh) st).trans (if_pos ?many)),
    fun g laneMap partner => next_of_ring on ring (cmdLinkUp_of_partner (s := s.fresh) partner),
    fun g laneMap st other => next_of_ring on ring (cmdLinkUp_of_other (s := s.fresh) st other),
    fun up => ⟨next_of_ring on ring (if_pos (linkIsUp_of (s := s.fresh) up)), next_of_ring on ring (if_pos (linkIsUp_of (s := s.fresh) up))⟩,
    fun st => next_of_ring on ring (if_pos st), fun up => next_of_ring on ring (if_pos ?up), fun st => next_of_ring on ring (if_pos st),
    fun due st => next_of_ring on ring (if_pos ⟨due, st⟩), fun lo st => next_of_ring on ring (if_pos ⟨lo, st⟩)⟩
  case few => exact Nat.not_le.2 (Nat.succ_lt_succ few)
  case many => exact Nat.succ_le_succ many
  case up => exact up

/-! ### Delivered ring frames -/

/-- A LINK frame brings credits; with a NAK, what follows its number is replayed (R86). -/
theorem cmdLinkFrame_of_credits {s r : State} {k : Link} {h : FrameHdr} {credits : List Nat} (whole : credits.length = 7)
    (took : s.receive k h 1 (.link h.ackSeq none credits) = (true, r)) :
    s.cmdLinkFrame k h none credits = (r.modLink k fun x => { x with credits := credits }).drain k := by
  simp only [State.cmdLinkFrame, took, Bool.not_true, Bool.false_eq_true, if_false, whole, if_true]

theorem cmdLinkFrame_of_nak {s r : State} {k : Link} {h : FrameHdr} {n : Nat} {credits : List Nat} (whole : credits.length = 7)
    (took : s.receive k h 1 (.link h.ackSeq (some n) credits) = (true, r)) :
    s.cmdLinkFrame k h (some n) credits = (((((r.modLink k fun x => { x with credits := credits }).acknowledge k n).replayAfter k
      n).lensCount 4 (placeLink k) 1).drain k) := by
  simp only [State.cmdLinkFrame, took, Bool.not_true, Bool.false_eq_true, if_false, whole, if_true]

theorem cmdLsf_of_newer {s r : State} {k : Link} {h : FrameHdr} {b : LsfBody} (took : s.receive k h 2 (.lsf b) = (true, r))
    (foreign : b.uid ≠ r.ident.uniqueId)
    (newer : (r.ring.lsdb.find? fun e => e.uid == b.uid).all (fun e => newerSeq b.seq e.seq) = true) :
    s.cmdLsf k h b = r.takeLsf h.src h.epoch b := by
  rw [State.cmdLsf, took]
  exact if_pos ⟨rfl, foreign, newer⟩

theorem cmdSyncFrame_of_delivered {s r : State} {k : Link} {h : FrameHdr} {b : SyncBody} (took : s.receive k h 4 (.sync b) = (true, r)) :
    s.cmdSyncFrame k h b = r.takeSync h.src b := by
  rw [State.cmdSyncFrame, took]; rfl

theorem cmdWithdraw_of_member {s r : State} {k : Link} {h : FrameHdr} {u : Nat} (took : s.receive k h 11 .withdraw = (true, r))
    (member : r.memberOfIndex h.src = some u) (other : u ≠ r.ident.uniqueId) (new : u ∉ r.ring.withdrawn) :
    s.cmdWithdraw k h = (({ r with ring := { r.ring with withdrawn := u :: r.ring.withdrawn } }).retopo r.inRouting).afterRoutes := by
  have fresh : ¬ (u = r.ident.uniqueId ∨ r.ring.withdrawn.contains u = true) := by simp [other, new]
  simp only [State.cmdWithdraw, took, if_true, member, if_neg fresh]

/-- Settles O9: each frame that the link layer delivers, by what it carries. -/
theorem ringFrames : Obligations.RingFrames := by
  intro s k h r on ring
  exact ⟨fun _ whole took => next_of_ring on ring (cmdLinkFrame_of_credits whole took),
    fun _ _ whole took => next_of_ring on ring (cmdLinkFrame_of_nak whole took),
    fun b foreign none took => next_of_ring on ring (cmdLsf_of_newer took foreign (by rw [none]; rfl)),
    fun b old foreign known newer took => next_of_ring on ring (cmdLsf_of_newer took foreign (by rw [known]; exact newer)),
    next_of_ring on ring rfl, fun b took => next_of_ring on ring (cmdSyncFrame_of_delivered took),
    fun u took member other new => next_of_ring on ring (cmdWithdraw_of_member took member other new)⟩

end Sys2Proof.Machine
end

section
/-! SUPPORT. The prism's timers (R91 to R94, R102, R104 to R109, R121), by what the ring's records hold. -/

namespace Sys2Proof.Machine

/-! ### The lease -/

theorem leaseOver_of_none {s : State} (h : s.ahead s.ring.lockExpiry = 0) : s.leaseOver = true := by simp [State.leaseOver, h]

/-- A lapse that nothing holds back (R106): the keeper alone tells it. -/
theorem lapse_of_held {s : State} (held : s.lockHeld = true) (noApply : s.ring.applyAt = none) :
    s.lapse = (((s.bump (.lock .prismLeaseLapseCount)).flag (.ring .ringEvents) ringLockLapse).raise 45 s.lockFacet).freeLock :=
  if_pos ⟨held, by rw [noApply]; rfl⟩

theorem lapseHere_of_member {s : State} (other : s.keeper ≠ some s.ownIndex) : s.lapseHere = s.lapse := by
  have quiet : (s.keeper == some s.ownIndex) = false := by simpa using other
  simp only [State.lapseHere, quiet, Bool.and_false, State.when, Bool.false_eq_true, if_false]

theorem lapseHere_of_keeper {s : State} (held : s.lockHeld = true) (noApply : s.ring.applyAt = none) (keeps : s.keeper = some s.ownIndex) :
    s.lapseHere = s.lapse.broadcast 5 0 (.lock (.tell .lapse)) := by
  simp only [State.lapseHere, held, noApply, keeps, Option.isNone_none, beq_self_eq_true, Bool.and_self, State.when, if_true]

/-- The expiry of a lease that no member waits past (R106). -/
theorem cmdLeaseLapse_of_unprepared {s : State} (past : s.ahead s.ring.lockExpiry = 0) (unprepared : s.ring.prepared = false) :
    s.cmdLeaseLapse = s.lapseHere := by
  rw [State.cmdLeaseLapse, if_pos (leaseOver_of_none past), State.lapseOrWait, if_neg]
  rintro ⟨prepared, -⟩
  simp [unprepared] at prepared

/-- A member that waits for APPLY leaves the lapse to the end of the cycle (R109). -/
theorem cmdLeaseLapse_of_prepared {s : State} (past : s.ahead s.ring.lockExpiry = 0) (prepared : s.ring.prepared = true)
    (away : s.lockHere = false) (noApply : s.ring.applyAt = none) :
    s.cmdLeaseLapse = s.modRing fun r => { r with lapseAt := some s.time.elapsed } := by
  rw [State.cmdLeaseLapse, if_pos (leaseOver_of_none past), State.lapseOrWait, if_pos]
  simp [prepared, away, noApply]

/-! ### Formation, sync and the ends of a commit -/

/-- The lowest facet of an automatic prism commits the set that has settled (R91). -/
theorem cmdFormationSettle_of_lowest {s : State} {ids : List Nat} (idle : s.ring.commitRunning = false) (free : s.lockHeld = false)
    (member : s.get (.ring .ringMemberState) ≠ 1) (auto : s.get (.ring .prismOrigin) = 0) (quorum : s.isTrue (.ring .quorumState) = true)
    (set : s.provisionalSet = ids) (lowest : ids.head? = some s.ident.uniqueId) (new : ids ≠ rising (s.members.map Prod.snd)) :
    s.cmdFormationSettle = (s.modRing fun r => { r with formation := ids }).commitMembership ids
      (ids.filter fun u => decide (u ≠ s.ident.uniqueId)) true := by
  subst set
  have open_ : ¬ (s.ring.commitRunning = true ∨ s.lockHeld = true ∨ s.get (.ring .ringMemberState) = 1) := by simp [idle, free, member]
  simp only [State.cmdFormationSettle, if_neg open_, if_pos auto]
  rw [if_pos ⟨lowest, new, quorum⟩]
  rfl

/-- The fetched values are staged before they are applied (R94); one that no prism-wide entry takes stages nothing. -/
def State.stageWrites (s : State) (values : List RegWrite) : State :=
  s.forEach values fun s w => match s.prismWrite w with
    | some l => s.stagePrism l
    | none => s

/-- Staging touches no record of the ring. -/
theorem stagePrism_ring (s : State) (l : List (Reg × Nat)) : (s.stagePrism l).ring = s.ring :=
  forEach_keeps (P := fun t => t.ring = s.ring) l (fun _ _ h => h) rfl

theorem stageWrites_ring (s : State) (values : List RegWrite) : (s.stageWrites values).ring = s.ring := by
  refine forEach_keeps (P := fun t => t.ring = s.ring) values (fun t w h => ?_) rfl
  cases t.prismWrite w with
  | none => exact h
  | some l => exact (stagePrism_ring t l).trans h

/-- What a Syncing facet applies once the values are staged, and where it goes from there (R94, R102). -/
def State.syncApplied (t : State) (epoch : Nat) : State :=
  t.applyPrism epoch (t.get (.ring .prismId))
    (if t.ring.origins.contains (t.ring.seenFrom, 0) then t.get (.ring .prismOrigin) else 1) false false

theorem cmdSyncingComplete_of_syncing {s : State} {epoch : Nat} {values : List RegWrite} (st : s.get (.ring .ringMemberState) = 3) :
    s.cmdSyncingComplete epoch values =
      if ((s.stageWrites values).syncApplied epoch).ring.returning then ((s.stageWrites values).syncApplied epoch).comeBack
      else ((s.stageWrites values).syncApplied epoch).fetchRecords := by
  have go : ∀ t, t = s.stageWrites values →
      (if (t.syncApplied epoch).ring.returning then (t.syncApplied epoch).comeBack else (t.syncApplied epoch).fetchRecords) =
      if ((s.stageWrites values).syncApplied epoch).ring.returning then ((s.stageWrites values).syncApplied epoch).comeBack
      else ((s.stageWrites values).syncApplied epoch).fetchRecords := fun t h => by rw [h]
  exact (if_pos st).trans (go _ rfl)

/-- A facet that met a member of a committed prism has that prism's origin (R94). -/
theorem syncApplied_of_committed {s : State} {epoch : Nat} {values : List RegWrite}
    (met : s.ring.origins.contains (s.ring.seenFrom, 0) = false) :
    (s.stageWrites values).syncApplied epoch =
      (s.stageWrites values).applyPrism epoch ((s.stageWrites values).get (.ring .prismId)) 1 false false := by
  simp only [State.syncApplied, stageWrites_ring, met, Bool.false_eq_true, if_false]

/-- No member that can be reached is left to answer (R94, R107). -/
theorem cmdCommitAnswerTimeout_of_gone {s : State} (waits : s.ring.commitWaiting ≠ [])
    (gone : ∀ u ∈ s.ring.commitWaiting, s.reachable u = false) (runs : s.ring.commitRunning = true) (noApply : s.ring.applyAt = none) :
    s.cmdCommitAnswerTimeout = (s.modRing fun r => { r with commitWaiting := [] }).startApply := by
  have left : (s.ring.commitWaiting.filter fun u => s.reachable u) = [] := List.filter_eq_nil_iff.2 fun u hu => by simp [gone u hu]
  have open_ : s.ring.commitRunning = true ∧ s.ring.applyAt.isNone = true ∧ (!s.ring.commitWaiting.isEmpty) = true := by
    simp [runs, noApply, waits]
  rw [State.cmdCommitAnswerTimeout, if_pos open_, left]

/-- The first of the members that can be reached and have not answered ends the commit (R107). -/
theorem cmdCommitAnswerTimeout_of_silent {s : State} {u : Nat} {rest : List Nat}
    (silent : (s.ring.commitWaiting.filter fun x => s.reachable x) = u :: rest) (runs : s.ring.commitRunning = true)
    (noApply : s.ring.applyAt = none) : s.cmdCommitAnswerTimeout = s.abortCommit 8 (s.indexFor 6 u) 0 := by
  have waits : s.ring.commitWaiting ≠ [] := fun h => by simp [h] at silent
  have open_ : s.ring.commitRunning = true ∧ s.ring.applyAt.isNone = true ∧ (!s.ring.commitWaiting.isEmpty) = true := by
    simp [runs, noApply, waits]
  rw [State.cmdCommitAnswerTimeout, if_pos open_, silent]

/-- T comes at a facet whose commit another facet runs (R107, R121). -/
theorem cmdPrismApplyTime_of_same {s : State} {t : Nat} (at_ : s.ring.applyAt = some t) (same : s.ring.commitSame = true)
    (other : s.ring.commitRunning = false) :
    s.cmdPrismApplyTime =
      s.applyPrism s.ring.commitEpoch s.ring.commitPrism s.ring.commitOrigin (s.ring.commitOrigin == 0) false := by
  simp only [State.cmdPrismApplyTime, at_, same, other, Option.isNone_some, Bool.not_true, Bool.false_and, Bool.false_eq_true, if_false]

/-- T comes at a facet that is taken in with another configuration (R92, R94). -/
theorem cmdPrismApplyTime_of_behind {s : State} {t : Nat} (at_ : s.ring.applyAt = some t) (same : s.ring.commitSame = false) :
    s.cmdPrismApplyTime = (s.applyPrism (s.get (.ring .prismEpoch)) s.ring.commitPrism s.ring.commitOrigin (s.ring.commitOrigin == 0)
      true).enterSync s.ring.commitFrom := by
  simp only [State.cmdPrismApplyTime, at_, same, Option.isNone_some, Bool.not_false, Bool.false_eq_true, if_false, if_true]

/-- A lock held here goes with the facet (R102). -/
theorem cmdWithdrawForwardEnd_of_withdrawing {s : State} (runs : s.ring.withdrawing = true) :
    s.cmdWithdrawForwardEnd = ((if s.lockHere then s.freeLock.broadcast 5 0 (.lock (.tell .release)) else s).modRing fun r =>
      { r with withdrawing := false }).set (.ring .ringMemberState) 4 := if_pos runs

@[simp] theorem hold_modHold_self (s : State) (i : Image) (f : HoldRt → HoldRt) : (s.modHold i f).hold i = f (s.hold i) :=
  hold_setHold_self s i _

/-- An image's active upstream follows its roles alone (R149). -/
theorem activeUp_modHold {s : State} {i : Image} {f : HoldRt → HoldRt} (same : (f (s.hold i)).exchanged = (s.hold i).exchanged) :
    (s.modHold i f).activeUp i = s.activeUp i := by
  have roles : (s.modHold i f).swappedRoles i = s.swappedRoles i := by
    rw [State.swappedRoles, hold_modHold_self, same]; rfl
  rw [State.activeUp, State.activeByte, roles]
  rfl

theorem cmdSoftDetachEnd_of_attached {s : State} {i : Image} {u : Upstream} (soft : (s.hold i).softDetach = true)
    (active : s.activeUp i = some u) (attached : (s.up u).attached = true) (usable : (s.up u).disabled = false) :
    s.cmdSoftDetachEnd i = (s.modHold i fun h => { h with softDetach := false }).present u .hub := by
  have usable' : ((s.up u).attached && !(s.up u).disabled) = true := by simp [attached, usable]
  have active' : (s.modHold i fun h => { h with softDetach := false }).activeUp i = some u :=
    (activeUp_modHold (f := fun h : HoldRt => { h with softDetach := false }) rfl).trans active
  rw [State.cmdSoftDetachEnd, if_pos soft]
  simp only [active']
  exact if_pos usable'

/-- Settles O11: each timer, by what the ring's records hold. -/
theorem prismTimers : Obligations.PrismTimers := by
  intro s on
  refine ⟨fun ids idle free member auto quorum set lowest new =>
      next_of_core on (cmdFormationSettle_of_lowest (s := s.fresh) idle free member auto quorum set lowest new),
    fun epoch values r st met staged => ?sync, fun runs away => next_of_core on ?away, fun runs here => next_of_core on ?here,
    fun runs lost => next_of_core on (if_pos ⟨runs, lost⟩), fun stops => next_of_core on (if_neg ?stops),
    fun here renews runs quorum => next_of_core on (if_pos ⟨here, renews, runs, quorum⟩),
    fun past held noApply unprepared => ⟨fun other => next_of_core on ?other, fun keeps => next_of_core on ?keeps⟩,
    fun past prepared away noApply => next_of_core on (cmdLeaseLapse_of_prepared (s := s.fresh) past prepared away noApply),
    fun here idle => next_of_core on (if_pos ⟨here, idle⟩),
    fun u rest silent runs noApply => next_of_core on (cmdCommitAnswerTimeout_of_silent (s := s.fresh) silent runs noApply),
    fun waits gone runs noApply => next_of_core on (cmdCommitAnswerTimeout_of_gone (s := s.fresh) waits gone runs noApply),
    fun t at_ same other => next_of_core on (cmdPrismApplyTime_of_same (s := s.fresh) at_ same other),
    fun t at_ same => next_of_core on (cmdPrismApplyTime_of_behind (s := s.fresh) at_ same),
    fun i u soft active attached usable =>
      next_of_core on (cmdSoftDetachEnd_of_attached (s := s.fresh) soft active attached usable)⟩
  case sync =>
    have staged : s.fresh.stageWrites values = r := staged
    have done := cmdSyncingComplete_of_syncing (s := s.fresh) (epoch := epoch) (values := values) st
    rw [syncApplied_of_committed (s := s.fresh) met, staged] at done
    exact ⟨fun back => next_of_core on (done.trans (if_pos back)),
      fun stays => next_of_core on (done.trans (if_neg (Bool.eq_false_iff.1 stays)))⟩
  case away => exact (cmdWithdrawForwardEnd_of_withdrawing (s := s.fresh) runs).trans (by rw [fresh_lockHere, away]; rfl)
  case here => exact (cmdWithdrawForwardEnd_of_withdrawing (s := s.fresh) runs).trans (by rw [fresh_lockHere, here]; rfl)
  case stops =>
    rintro ⟨-, -, runs, quorum⟩
    exact stops.elim (Bool.eq_false_iff.1 · runs) (Bool.eq_false_iff.1 · quorum)
  case other =>
    exact (cmdLeaseLapse_of_unprepared (s := s.fresh) past unprepared).trans
      ((lapseHere_of_member (s := s.fresh) other).trans (lapse_of_held (s := s.fresh) held noApply))
  case keeps =>
    exact (cmdLeaseLapse_of_unprepared (s := s.fresh) past unprepared).trans
      ((lapseHere_of_keeper (s := s.fresh) held noApply keeps).trans (by rw [lapse_of_held (s := s.fresh) held noApply]; rfl))

end Sys2Proof.Machine
end

section
/-! SUPPORT. Delivered LOCK and COMMIT frames (R104, R105, R107, R109, R110): each is handed on with the state that the link layer left. -/

namespace Sys2Proof.Machine

section
variable {s r : State} {k : Link} {h : FrameHdr}

/-! ### LOCK frames -/

/-- What a delivered LOCK frame tells. -/
theorem cmdLockGrant_of_grant {q : LockReq} {e : Nat} (took : s.receive k h 5 (.lock (.tell (.grant q e))) = (true, r)) :
    s.cmdLockGrant k h (.grant q e) = r.takeGrant q e := by
  simp only [State.cmdLockGrant, took, Bool.not_true, Bool.false_eq_true, if_false]

theorem cmdLockGrant_of_renew {e : Nat} (took : s.receive k h 5 (.lock (.tell (.renew e))) = (true, r)) (held : r.lockHeld = true)
    (holder : r.lockFacet = h.src) : s.cmdLockGrant k h (.renew e) = r.modRing fun x => { x with lockExpiry := e } := by
  simp only [State.cmdLockGrant, took, held, holder, Bool.not_true, Bool.false_eq_true, if_false, and_self, if_true]

/-- A release counts from the lock's holder alone (R105, R110). -/
theorem cmdLockGrant_of_release (took : s.receive k h 5 (.lock (.tell .release)) = (true, r)) :
    s.cmdLockGrant k h .release = if r.lockHeld = true ∧ r.lockFacet = h.src then r.freeLock else r.peerViolation k := by
  simp only [State.cmdLockGrant, took, Bool.not_true, Bool.false_eq_true, if_false]

/-! ### COMMIT frames -/

/-- Staging is taken from the lock's facet, which is another one (R104). -/
theorem takeStage_of_holder {w : RegWrite} {l : List (Reg × Nat)} (took : s.receive k h 6 (.commit (.stage w)) = (true, r))
    (held : r.lockHeld = true) (holder : r.lockFacet = h.src) (away : r.ownIndex ≠ h.src) (fits : r.prismWrite w = some l) :
    s.takeStage k h w = (r.stagePrism l).unreference := by
  have other : r.lockHere = false := by simp [State.lockHere, holder, away.symm]
  simp only [State.takeStage, took, held, holder, other, fits, Bool.not_true, Bool.not_false, Bool.false_eq_true, if_false, and_self,
    true_or, if_true]

/-- A PREPARE from another facet than the lock's is a violation (R110). -/
theorem cmdPrepare_of_stranger {digest epoch prism origin : Nat} 
    (took : s.receive k h 6 (.commit (.prepare digest epoch prism origin)) = (true, r)) (held : r.lockHeld = true) (other : r.lockFacet ≠ h.src) : s.cmdPrepare k h digest epoch prism origin = r.peerViolation k := by
  simp only [State.cmdPrepare, took, Bool.not_true, Bool.false_eq_true, if_false]
  exact if_pos (.inl ⟨held, other⟩)

theorem modRing_lockHeld (s : State) (f : RingRt → RingRt) : (s.modRing f).lockHeld = s.lockHeld := rfl
theorem modRing_isMember (s : State) (f : RingRt → RingRt) : (s.modRing f).isMember = s.isMember := rfl

theorem modRing_digestOf (s : State) (f : RingRt → RingRt) (formed : Bool) : (s.modRing f).digestOf formed = s.digestOf formed := rfl
theorem modRing_ring (s : State) (f : RingRt → RingRt) : (s.modRing f).ring = f s.ring := rfl

theorem digestOf_committed (s : State) : s.digestOf false = s.stagedDigest := by
  rw [State.digestOf, if_neg Bool.false_ne_true]

/-- Noting a PREPARE changes the ring's records alone, and compares the digest with that of the set staged here (R107). -/
theorem notePrepare_eq (s : State) (index digest epoch prism origin : Nat) :
    ∃ f g, s.notePrepare index digest epoch prism origin = (s.modRing f).modRing g ∧
      ∀ x, (g x).commitSame = (digest == s.digestOf (origin == 0)) := by
  unfold State.notePrepare
  simp only [modRing_digestOf]
  exact ⟨_, _, rfl, fun _ => rfl⟩

theorem notePrepare_lockHeld (s : State) (index digest epoch prism origin : Nat) :
    (s.notePrepare index digest epoch prism origin).lockHeld = s.lockHeld := by
  obtain ⟨f, g, noted, -⟩ := notePrepare_eq s index digest epoch prism origin
  rw [noted, modRing_lockHeld, modRing_lockHeld]

theorem notePrepare_isMember (s : State) (index digest epoch prism origin : Nat) :
    (s.notePrepare index digest epoch prism origin).isMember = s.isMember := by
  obtain ⟨f, g, noted, -⟩ := notePrepare_eq s index digest epoch prism origin
  rw [noted, modRing_isMember, modRing_isMember]

theorem notePrepare_commitSame (s : State) (index digest epoch prism : Nat) :
    (s.notePrepare index digest epoch prism 1).ring.commitSame = (digest == s.stagedDigest) := by
  obtain ⟨f, g, noted, same⟩ := notePrepare_eq s index digest epoch prism 1
  rw [noted, modRing_ring, same]
  exact congrArg (digest == ·) (digestOf_committed s)

theorem commitCheck_committed (s : State) : s.commitCheck false = s.stagedRefusal := by
  rw [State.commitCheck, if_neg Bool.false_ne_true]

/-- READY, or REFUSE with its reason (R107). -/
def State.answerPrepare (s : State) (h : FrameHdr) : Option (Nat × Nat) → State
  | some (reason, detail) =>
    (s.sendIndex h.src 6 0 h.tag (.commit (.refuse reason detail))).modRing fun r => { r with formation := [] }
  | none => ((s.modRing fun r => { r with prepared := true }).set (.lock .prismCommitResult) 3).sendIndex h.src 6 0 h.tag (.commit .ready)

/-- A member's answer to the PREPARE of a committed prism, whose lock the sender holds (R107, R108). -/
theorem cmdPrepare_of_member {digest epoch prism : Nat} (took : s.receive k h 6 (.commit (.prepare digest epoch prism 1)) = (true, r))
    (held : r.lockHeld = true) (holder : r.lockFacet = h.src) (member : r.isMember = true) :
    s.cmdPrepare k h digest epoch prism 1 = (r.notePrepare h.src digest epoch prism 1).answerPrepare h
      (if (!(digest == r.stagedDigest)) = true then some (7, 0) else (r.notePrepare h.src digest epoch prism 1).stagedRefusal) := by
  have committed : ((1 : Nat) == 0) = false := rfl
  have calm : ¬ ((r.lockHeld = true ∧ r.lockFacet ≠ h.src) ∨ (false = true ∧ h.src ≠ 0)) := by simp [holder]
  have part : (!r.takesPart false) = false := by simp [State.takesPart, member]
  simp only [State.cmdPrepare, took, committed, Bool.not_true, Bool.false_eq_true, if_false]
  rw [if_neg (by simpa using calm), part]
  simp only [Bool.false_eq_true, if_false, notePrepare_lockHeld, notePrepare_isMember, notePrepare_commitSame, held, member, Bool.not_true,
    Bool.not_false, Bool.true_and, and_false, false_and, commitCheck_committed]
  rfl
/-- The last member's READY starts the apply (R107). -/
theorem cmdReady_of_last {u : Nat} (took : s.receive k h 6 (.commit .ready) = (true, r)) (runs : r.ring.commitRunning = true)
    (noApply : r.ring.applyAt = none) (peer : r.peerOf 6 h.src = some u)
    (left : (r.ring.commitWaiting.filter fun x => decide (x ≠ u)) = []) :
    s.cmdReady k h = (r.modRing fun x => { x with commitWaiting := [] }).startApply := by
  have open_ : ¬ ((!true) = true ∨ (!r.ring.commitRunning) = true ∨ r.ring.applyAt.isSome = true) := by simp [runs, noApply]
  simp only [State.cmdReady, took]
  rw [if_neg open_, peer]
  simp only [left, List.isEmpty_nil, if_true]

/-- A REFUSE ends a commit that runs here (R107). -/
theorem cmdRefuse_of_running {reason detail : Nat} (took : s.receive k h 6 (.commit (.refuse reason detail)) = (true, r))
    (runs : r.ring.commitRunning = true) (noApply : r.ring.applyAt = none) :
    s.cmdRefuse k h reason detail = r.abortCommit reason h.src detail := by
  simp only [State.cmdRefuse, took]
  exact if_pos ⟨trivial, runs, by rw [noApply]; rfl⟩

end

/-- Settles O12: each frame that the link layer delivers, by what the lock and the commit are at this facet. -/
theorem prismFrames : Obligations.PrismFrames := by
  intro s k h r on ring
  refine ⟨fun requests keeps => next_of_ring on ring (if_pos keeps),
    fun q e took => next_of_ring on ring (cmdLockGrant_of_grant took),
    fun e took held holder => next_of_ring on ring (cmdLockGrant_of_renew took held holder),
    fun took held holder => next_of_ring on ring ((cmdLockGrant_of_release took).trans (if_pos ⟨held, holder⟩)),
    fun took free => next_of_ring on ring ((cmdLockGrant_of_release took).trans (if_neg fun h => Bool.eq_false_iff.1 free h.1)),
    fun w l took held holder away fits => next_of_ring on ring (takeStage_of_holder took held holder away fits),
    fun digest epoch prism took held holder member same fine => next_of_ring on ring ?ready,
    fun digest epoch prism took held holder member other => next_of_ring on ring ?refuse,
    fun _ _ _ took held other => next_of_ring on ring (cmdPrepare_of_stranger took held other),
    fun u took runs noApply peer left => next_of_ring on ring ?last,
    fun reason detail took runs noApply => next_of_ring on ring ?refused,
    fun took prepared => next_of_ring on ring ?abort, fun time took prepared => next_of_ring on ring ?apply⟩
  case ready =>
    subst same
    rw [cmdPrepare_of_member took held holder member, beq_self_eq_true, if_neg (by decide), fine, State.answerPrepare]
  case refuse =>
    have differs : (!(digest == r.stagedDigest)) = true := by simpa using other
    rw [cmdPrepare_of_member took held holder member, if_pos differs, State.answerPrepare]
  case last => exact cmdReady_of_last took runs noApply peer left
  case refused => exact cmdRefuse_of_running took runs noApply
  case abort =>
    simp only [State.cmdAbort, took, prepared, and_self, if_true]
  case apply =>
    simp only [State.cmdApply, took, prepared, Bool.not_true, Bool.false_eq_true, if_false, if_true]

end Sys2Proof.Machine
end

section
/-! SUPPORT. A door's writes to entries whose value acts at once (R363, R375): each comes to its entry's operation. -/

namespace Sys2Proof.Machine

/-! ### Entries whose writes act at once -/

/-- An entry of the dictionary that is neither an event status nor commit-class: a write to it acts at once. -/
def actsAtOnce (idx sub : Nat) : Bool := (entryOf idx sub).any fun e => e.access != .rs && e.access != .rwc

section
variable {s : State} {c : Caller} {w : RegWrite} {e : Entry}

theorem doorEffect_low (rs : e.access ≠ .rs) (rwc : e.access ≠ .rwc) (lo : w.index < 0x3400) :
    s.doorEffect c w e = s.effectLow c w (s.spliced e w) (ofBytesBe w.data) := by
  simp only [State.doorEffect]
  exact if_pos lo

theorem doorEffect_mid (rs : e.access ≠ .rs) (rwc : e.access ≠ .rwc) (lo : 0x3400 ≤ w.index) (hi : w.index < 0x4800) :
    s.doorEffect c w e = s.effectMid c w (s.spliced e w) (ofBytesBe w.data) := by
  simp only [State.doorEffect]
  exact (if_neg (Nat.not_lt.2 lo)).trans (if_pos hi)

theorem doorEffect_high (rs : e.access ≠ .rs) (rwc : e.access ≠ .rwc) (lo : 0x4800 ≤ w.index) :
    s.doorEffect c w e = s.effectHigh c w (s.spliced e w) (ofBytesBe w.data) := by
  have past : ¬ w.index < 0x3400 := by omega
  simp only [State.doorEffect]
  exact (if_neg past).trans (if_neg (Nat.not_lt.2 lo))

end

theorem ofBytesBe_bytesBe_of_lt {n v : Nat} (h : v < 256 ^ n) : ofBytesBe (bytesBe n v) = v :=
  (ofBytesBe_bytesBe n v).trans (Nat.mod_eq_of_lt h)

/-- A 32-bit value as its four bytes. -/
theorem ofBytesBe_word {v : Nat} (h : v < 2 ^ 32) : ofBytesBe (bytesBe 4 v) = v := ofBytesBe_bytesBe_of_lt h

theorem domainOn_of_coreRuns {s : State} (on : s.coreRuns = true) : s.domainOn 1 = true := (Bool.and_eq_true_iff.1 on).1

/-- The entry of a write that acts at once. -/
theorem entry_of_actsAtOnce {idx sub : Nat} (h : actsAtOnce idx sub = true) :
    ∃ e, entryOf idx sub = some e ∧ e.access ≠ .rs ∧ e.access ≠ .rwc := by
  rw [actsAtOnce, Option.any_eq_true] at h
  obtain ⟨e, he, acc⟩ := h
  exact ⟨e, he, by simpa using acc⟩

section
variable {s t : State} {c : Instr} {d : Door} {w : RegWrite} {code : Nat}

/-- A write below 0x3400 whose effect does not depend on the values it splices. -/
theorem exec_of_low (row : asWrite c = some (d, w)) (takes : s.Takes d w) (acts : actsAtOnce w.index w.sub = true) (lo : w.index < 0x3400)
    (effect : ∀ l, s.fresh.effectLow (callerAt d) w l (ofBytesBe w.data) = (code, t)) (answered : code ≠ abWaits) :
    exec c s = .next (s.finish (t.verdict d code)) := by
  obtain ⟨e, he, rs, rwc⟩ := entry_of_actsAtOnce acts
  exact exec_of_takes row takes he ((doorEffect_low rs rwc lo).trans (effect _)) answered

/-- One from 0x3400 to below 0x4800. -/
theorem exec_of_mid (row : asWrite c = some (d, w)) (takes : s.Takes d w) (acts : actsAtOnce w.index w.sub = true) (lo : 0x3400 ≤ w.index)
    (hi : w.index < 0x4800) (effect : ∀ l, s.fresh.effectMid (callerAt d) w l (ofBytesBe w.data) = (code, t)) (answered : code ≠ abWaits) :
    exec c s = .next (s.finish (t.verdict d code)) := by
  obtain ⟨e, he, rs, rwc⟩ := entry_of_actsAtOnce acts
  exact exec_of_takes row takes he ((doorEffect_mid rs rwc lo hi).trans (effect _)) answered

/-- One from 0x4800 upward. -/
theorem exec_of_high (row : asWrite c = some (d, w)) (takes : s.Takes d w) (acts : actsAtOnce w.index w.sub = true)
    (lo : 0x4800 ≤ w.index) (effect : ∀ l, s.fresh.effectHigh (callerAt d) w l (ofBytesBe w.data) = (code, t))
    (answered : code ≠ abWaits) : exec c s = .next (s.finish (t.verdict d code)) := by
  obtain ⟨e, he, rs, rwc⟩ := entry_of_actsAtOnce acts
  exact exec_of_takes row takes he ((doorEffect_high rs rwc lo).trans (effect _)) answered

end

end Sys2Proof.Machine
end

section
/-! SUPPORT. The writes that concern the prism (R102, R104, R105, R107, R109, R120). -/

namespace Sys2Proof.Machine

section
variable (s : State) (c : Caller) (data : List Byte) (l : List (Reg × Nat)) (v : Nat)

theorem effectLow_lockRequest : s.effectLow c (entryWrite 0x2400 1 data) l v = s.writeLockRequest c v := by
  simp (disch := omega) only [State.effectLow, entryWrite, if_neg, if_true]

theorem effectLow_prismCommit : s.effectLow c (entryWrite 0x2400 7 data) l v = s.writePrismCommit c v := by
  simp (disch := omega) only [State.effectLow, entryWrite, if_neg, if_true]

theorem effectLow_withdraw : s.effectLow c (entryWrite 0x3000 12 data) l v = s.writeWithdraw v := by
  simp (disch := omega) only [State.effectLow, entryWrite, if_neg, if_true]

theorem effectLow_defaultMap (i : Image) : s.effectLow c (entryWrite (0x2410 + i.val) 7 data) l v = s.writeDefaultMap c i := by
  have named : imageOf ((0x2410 + i.val) % 16) = i := (by decide : ∀ i : Image, imageOf ((0x2410 + i.val) % 16) = i) i
  have last : i.val < 4 := i.isLt
  simp (disch := omega) only [State.effectLow, entryWrite, if_pos, if_neg, if_true, named]

end

/-! ### The operations of the prism's entries -/

/-- Where a facet stands is shown by its member state and its index alone (R89 to R92). -/
theorem placeMember_eq (s : State) : ∃ v n, s.placeMember = (s.set (.ring .ringMemberState) v).set (.ring .facetIndex) n := by
  simp only [State.placeMember]
  repeat' split
  all_goals exact ⟨_, _, rfl⟩

theorem placeMember_ring (s : State) : s.placeMember.ring = s.ring := by
  obtain ⟨v, n, placed⟩ := placeMember_eq s
  rw [placed]; rfl

theorem placeMember_epoch (s : State) : s.placeMember.get (.ring .prismEpoch) = s.get (.ring .prismEpoch) := by
  obtain ⟨v, n, placed⟩ := placeMember_eq s
  rw [placed, get_set_ne _ _ (by decide), get_set_ne _ _ (by decide)]

/-- A facet that an S4 fault has not withdrawn and that no newer epoch has passed is back at once (R102). -/
theorem writeWithdraw_return {s : State} (withdrawn : s.get (.ring .ringMemberState) = 4) (noFault : s.ring.faultWithdrawn = none)
    (current : s.ring.seenEpoch ≤ s.get (.ring .prismEpoch)) :
    s.writeWithdraw 2 = (0, ((((s.modRing fun r => { r with withdrawing := false, faultWithdrawn := none }).set
      (.ring .ringMemberState) 0).placeMember).comeBack)) := by
  have free : (s.ring.faultWithdrawn.any fun n => s.live n) = false := by rw [noFault]; rfl
  have calm (t : State) (epoch : t.get (.ring .prismEpoch) = s.get (.ring .prismEpoch)) (seen : t.ring.seenEpoch = s.ring.seenEpoch) :
      ¬ (t.placeMember.get (.ring .ringMemberState) = 2 ∧ t.placeMember.get (.ring .prismEpoch) < t.placeMember.ring.seenEpoch) := by
    rw [placeMember_epoch, placeMember_ring, epoch, seen]
    exact fun h => Nat.not_lt.2 current h.2
  simp only [State.writeWithdraw, free, withdrawn, Bool.false_eq_true, if_false, if_true, true_or, OfNat.ofNat_ne_one]
  exact if_neg (calm _ (get_set_ne (s.modRing fun r => { r with withdrawing := false, faultWithdrawn := none }) 0 (by decide)) rfl)

/-- A request that nothing stands in the way of goes to the keeper (R105). -/
theorem writeLockRequest_of_free {s : State} {c : Caller} {tag : Nat} (some_ : tag ≠ 0) (small : tag < 65536)
    (other : s.lockState c ≠ 2) (idle : s.ring.lockPending = none) :
    s.writeLockRequest c tag = (0, (s.modRing fun r =>
      { r with lockPending := some (c.door, tag), lockLosses := 0, lockGaveUp := none, lockFrom := c.src }).sendRequest) := by
  have mine : (s.lockState c == 2) = false := by simpa using other
  simp only [State.writeLockRequest, if_neg some_, mine, idle, Option.isSome_none, Option.any_none, Bool.false_eq_true, false_and, if_false,
    Nat.mod_eq_of_lt small]

theorem writeLockRequest_release {s : State} {c : Caller} (mine : s.lockState c = 2) :
    s.writeLockRequest c 0 = (0, s.freeLock.broadcast 5 0 (.lock (.tell .release))) := by
  simp only [State.writeLockRequest, mine, if_true, beq_self_eq_true]

theorem writePrism_of_holder {s : State} {c : Caller} (w : RegWrite) (l : List (Reg × Nat)) (mine : s.lockState c = 2)
    (idle : s.commitBusy = false) : s.writePrism c w l = (0, s.stageOut w l) := by
  rw [State.writePrism, if_neg (by simp [mine, idle])]

theorem writePrismCommit_commit {s : State} {c : Caller} (idle : s.commitBusy = false) (mine : s.lockState c = 2)
    (quorum : s.isTrue (.ring .quorumState) = true) :
    s.writePrismCommit c 1 =
      (0, s.startCommit ((s.members.map Prod.snd).filter fun u => decide (u ≠ s.ident.uniqueId) && s.reachable u) false) := by
  simp only [State.writePrismCommit, idle, mine, quorum, if_true, Bool.false_eq_true, if_false, ne_eq, not_true_eq_false, Bool.not_true]

theorem writePrismCommit_discard {s : State} {c : Caller} (idle : s.commitBusy = false) (mine : s.lockState c = 2) :
    s.writePrismCommit c 2 = (0, s.discardStage) := by
  simp [State.writePrismCommit, idle, mine]

theorem writeDefaultMap_of_holder {s : State} {c : Caller} (i : Image) (idle : s.commitBusy = false) (mine : s.lockState c = 2) :
    (s.writeDefaultMap c i).1 = 0 := by
  rw [State.writeDefaultMap, if_neg (by simp [mine, idle])]

theorem commitBusy_fresh (s : State) : s.fresh.commitBusy = s.commitBusy := rfl

/-- A commit-class entry of the prism is staged with its prism. -/
theorem doorEffect_prism {s : State} {c : Caller} {w : RegWrite} {e : Entry} (index : prismIndex w.index = true) (acc : e.access = .rwc) :
    s.doorEffect c w e = s.writePrism c w (s.spliced e w) := by
  have high : ¬ w.index < 0x2000 := by
    intro lo
    simp [prismIndex] at index
    omega
  simp only [State.doorEffect, acc, if_neg high, index, if_true]

/-- Settles O13: each write by the operation of its entry. -/
theorem prismWrites : Obligations.PrismWrites := by
  intro s d
  refine ⟨fun takes => exec_of_low rfl takes rfl (by decide) (fun l => effectLow_withdraw s.fresh _ _ l 1) (by decide),
    fun takes _ withdrawn noFault current => exec_of_low rfl takes rfl (by decide)
      (fun l => (effectLow_withdraw s.fresh _ _ l 2).trans (writeWithdraw_return (s := s.fresh) withdrawn noFault current)) (by decide),
    fun tag pos small takes other idle => exec_of_low rfl takes rfl (show 0x2400 < 0x3400 by decide) (fun l => ?request) (by decide),
    fun takes mine => exec_of_low rfl takes rfl (by decide)
      (fun l => (effectLow_lockRequest s.fresh _ _ l 0).trans (writeLockRequest_release (s := s.fresh) mine)) (by decide),
    fun w e takes index he acc mine idle => next_of ?stage,
    fun takes idle mine quorum => exec_of_low rfl takes rfl (by decide)
      (fun l => (effectLow_prismCommit s.fresh _ _ l 1).trans (writePrismCommit_commit (s := s.fresh) idle mine quorum)) (by decide),
    fun takes idle mine => exec_of_low rfl takes rfl (by decide)
      (fun l => (effectLow_prismCommit s.fresh _ _ l 2).trans (writePrismCommit_discard (s := s.fresh) idle mine)) (by decide),
    fun i takes idle mine => ?map⟩
  case request =>
    rw [entryWrite_data, ofBytesBe_bytesBe_of_lt small, effectLow_lockRequest]
    exact writeLockRequest_of_free (s := s.fresh) (Nat.pos_iff_ne_zero.1 pos) small other idle
  case stage =>
    have write := directWrite_of_takes s d w e takes he
    rw [doorEffect_prism index acc, writePrism_of_holder (s := s.fresh) _ _ mine idle] at write
    exact write (show 0 ≠ abWaits by decide)
  case map =>
    have done : (s.fresh.writeDefaultMap (callerAt d) i).1 = 0 := writeDefaultMap_of_holder (s := s.fresh) i idle mine
    have acts : actsAtOnce (0x2410 + i.val) 7 = true :=
      (by decide : ∀ i : Image, actsAtOnce (0x2410 + i.val) 7 = true) i
    refine ⟨exec_of_low rfl takes acts ?_ (fun l => (effectLow_defaultMap s.fresh _ _ l 1 i).trans ?_) (by decide), done⟩
    · show 0x2410 + i.val < 0x3400
      have last : i.val < 4 := i.isLt
      omega
    · exact Prod.ext done rfl

end Sys2Proof.Machine
end

section
/-! SUPPORT. The dictionary's own writes and passes (R372, R375, R377 to R379, R383, R384). -/

namespace Sys2Proof.Machine

/-! ### Registers without behaviour of their own -/

section
variable {s : State} {d : Door} {l : List (Reg × Nat)}

/-- Nothing that a higher door wrote in this cycle stands in the way (R376). -/
theorem plainFor_of_last (last : ∀ x, s.doors.wrote = some x → x.1 = s.time.elapsed → x.2.1 ≤ d.num ∨ x.2.2.map Prod.fst ≠ l.map Prod.fst) :
    s.plainFor d l = (0, { s.setAll l with doors := { s.doors with wrote := some (s.time.elapsed, d.num, l) } }) := by
  have none_ : (s.doors.wrote.filter fun e => e.1 == s.time.elapsed && decide (d.num < e.2.1) && e.2.2.map Prod.fst == l.map Prod.fst) =
      none := by
    refine Option.filter_eq_none_iff.2 fun x wrote => ?_
    have := last x wrote
    simp only [Bool.and_eq_true, beq_iff_eq, decide_eq_true_eq, not_and]
    intro ⟨now, higher⟩ same
    exact (this now).elim (Nat.not_le.2 higher) (· same)
  rw [State.plainFor, none_]

/-- A higher door wrote the same entry in this cycle: its value stands (R376). -/
theorem plainFor_of_higher {k : Nat} {m : List (Reg × Nat)} (wrote : s.doors.wrote = some (s.time.elapsed, k, m)) (higher : d.num < k)
    (same : m.map Prod.fst = l.map Prod.fst) : s.plainFor d l = (0, (s.setAll l).setAll m) := by
  have kept : (s.doors.wrote.filter fun e => e.1 == s.time.elapsed && decide (d.num < e.2.1) && e.2.2.map Prod.fst == l.map Prod.fst) =
      some (s.time.elapsed, k, m) := by
    rw [wrote]
    exact Option.filter_some_pos (by simp [higher, same])
  rw [State.plainFor, kept]

end

section
variable {s : State} {c : Caller} {w : RegWrite} {l : List (Reg × Nat)} {v : Nat}

theorem effectLow_hold (index : w.index = 0x2800) (sub : w.sub ≠ 4) (idle : s.swapping = false) :
    s.effectLow c w l v = s.plainFor c.door l := by
  simp (disch := omega) only [State.effectLow, index, if_neg, if_true, sub, idle, Bool.false_eq_true, if_false]

theorem doorOf_num (d : Door) : doorOf d.num = some d := by cases d <;> rfl

/-- The registers of a session that is not open (R184). -/
theorem effectLow_session {d : Door} (index : w.index = 0x2C08 + d.num) (sub : w.sub < 3) (closed : (s.session d).opened = false)
    (idle : (s.session d).opening = none) : s.effectLow c w l v = s.plainFor c.door l := by
  have five : d.num < 5 := by cases d <;> decide
  simp (disch := omega) only [State.effectLow, index, if_neg, if_pos, Nat.add_sub_cancel_left, doorOf_num, closed, idle, Option.isSome_none,
    Bool.or_self, Bool.false_eq_true, if_false]

theorem effectHigh_provoke (index : w.index = 0x4808) (sub : w.sub ≠ 1) (disarmed : s.lens.armed = false) :
    s.effectHigh c w l v = s.plainFor c.door l := by
  simp (disch := omega) only [State.effectHigh, index, if_neg, if_true, sub, disarmed, Bool.false_eq_true, if_false]

theorem effectLow_pairs {i : Image} (index : w.index = 0x2040 + i.val) : s.effectLow c w l v = s.writePairs i l := by
  have last : i.val < 4 := i.isLt
  simp (disch := omega) only [State.effectLow, index, if_neg, dif_pos, Nat.add_sub_cancel_left, Fin.eta]

theorem effectHigh_commit (data : List Byte) : s.effectHigh c (entryWrite 0x4C01 1 data) l v = s.writeConfigCommit c v := by
  simp (disch := omega) only [State.effectHigh, entryWrite, if_neg, if_true]

theorem effectHigh_crcReference (data : List Byte) :
    s.effectHigh c (entryWrite 0x4C01 7 data) l v = (0, s.writeCrcReference v) := by
  simp (disch := omega) only [State.effectHigh, entryWrite, if_neg, if_true]
  exact if_neg (by decide)

end

/-- Entries of the dictionary that are read and written keep what is written to them: none of them is a command (R378, R398, R164). -/
theorem sub_of_readWrite {idx sub : Nat} {e : Entry} (he : entryOf idx sub = some e) (rw_ : e.access = .rw)
    (command : (entryOf idx sub).any (fun e => e.access == .rw) = false) : False := by
  simp [he, rw_] at command

/-- What a register of the hold-over table, of a closed session or of a provocation that is not armed takes (R376). -/
theorem doorEffect_register {s : State} {d : Door} {w : RegWrite} {e : Entry} (he : entryOf w.index w.sub = some e) (acc : e.access = .rw)
    (place : w.index = 0x2800 ∧ s.swapping = false ∨ (∃ c : Door, w.index = 0x2C08 + c.num ∧ w.sub < 3 ∧ (s.session c).opened = false ∧
      (s.session c).opening = none) ∨ w.index = 0x4808 ∧ s.lens.armed = false) :
    s.doorEffect (callerAt d) w e = s.plainFor d (s.spliced e w) := by
  have rs : e.access ≠ .rs := by rw [acc]; decide
  have rwc : e.access ≠ .rwc := by rw [acc]; decide
  rcases place with ⟨index, idle⟩ | ⟨c, index, sub, closed, idle⟩ | ⟨index, disarmed⟩
  · have sub : w.sub ≠ 4 := fun h => sub_of_readWrite he acc (by rw [index, h]; rfl)
    exact (doorEffect_low rs rwc (by omega)).trans (effectLow_hold index sub idle)
  · have five : c.num < 5 := by cases c <;> decide
    exact (doorEffect_low rs rwc (by omega)).trans (effectLow_session index sub closed idle)
  · have sub : w.sub ≠ 1 := fun h => sub_of_readWrite he acc (by rw [index, h]; rfl)
    exact (doorEffect_high rs rwc (by omega)).trans (effectHigh_provoke index sub disarmed)

/-! ### Commit-class entries and communication objects -/

theorem doorEffect_comm {s : State} {c : Caller} {w : RegWrite} {e : Entry} (lo : w.index < 0x2000) (acc : e.access = .rwc)
    (fits : s.pdoCheck w.index (s.spliced e w) = 0) :
    s.doorEffect c w e = (0, (s.setAll (s.spliced e w)).unreference) := by
  simp only [State.doorEffect, acc, if_pos lo, State.writeComm, fits, ne_eq, not_true_eq_false, if_false]

/-- The facet's own entries are staged by the owner of the staged set (R377). -/
theorem doorEffect_staged {s : State} {c : Caller} {w : RegWrite} {e : Entry} (hi : 0x3014 ≤ w.index) (acc : e.access = .rwc)
    (mine : s.mayStage c = true) : s.doorEffect c w e = (0, s.stageLocal c (s.spliced e w)) := by
  have own : prismIndex w.index = false := by
    simp [prismIndex]
    omega
  simp (disch := omega) only [State.doorEffect, acc, own, if_neg, Bool.false_eq_true, if_false, State.writeStaged, mine, if_true]

/-! ### `ConfigCommit` (R378) -/

section
variable {s : State} {c : Caller}

theorem writeConfigCommit_commit (store : s.cfg.storing = false) (prism : s.cfg.prismStore = false) (mine : s.mayStage c = true) :
    s.writeConfigCommit c 1 = (s.unlapse c.owner).runCommit := by
  simp [State.writeConfigCommit, store, prism, mine]

theorem writeConfigCommit_discard (mine : s.mayStage c = true) : s.writeConfigCommit c 2 = (0, s.endStage) := by
  simp [State.writeConfigCommit, mine]

theorem writeConfigCommit_reload (mine : s.mayStage c = true) : s.writeConfigCommit c 3 = (0, s.configReload c) := by
  simp [State.writeConfigCommit, mine]

theorem writeConfigCommit_defaults : s.writeConfigCommit c 4 = (0, s.configDefaults c) := by
  simp [State.writeConfigCommit]

end

/-- The answer of a commit is given in the step itself. -/
theorem runCommit_answers (s : State) : s.runCommit.1 ≠ abWaits := by
  rw [State.runCommit]
  split
  · exact show abortState ≠ abWaits by decide
  · exact show 0 ≠ abWaits by decide

/-! ### The configuration check (R383) -/

section
variable {s : State}

theorem cmdConfigCrcPass_of_match (on : s.domainOn 1 = true) (same : s.configCrc = s.get (.commit .configCrcReference))
    (armed : s.cfg.refArmed = true) :
    s.cmdConfigCrcPass = (((s.set (.commit .configCrcLive) s.configCrc).set (.commit .configCrcState) 1).endLive 55) := by
  have kept : (s.set (.commit .configCrcLive) s.configCrc).get (.commit .configCrcReference) = s.get (.commit .configCrcReference) :=
    get_set_ne s _ (by decide)
  have decides : ¬ (s.get (.commit .configCrcState) = 0 ∧ (!(s.set (.commit .configCrcLive) s.configCrc).cfg.refArmed) = true) := by
    rintro ⟨-, unarmed⟩
    rw [set_cfg, armed] at unarmed
    cases unarmed
  simp only [State.cmdConfigCrcPass, on, Bool.not_true, Bool.false_eq_true, if_false]
  rw [if_neg decides, kept, if_pos same]

theorem cmdConfigCrcPass_of_mismatch (on : s.domainOn 1 = true) (other : s.configCrc ≠ s.get (.commit .configCrcReference))
    (st : s.get (.commit .configCrcState) = 1) :
    s.cmdConfigCrcPass = ((((s.set (.commit .configCrcLive) s.configCrc).set (.commit .configCrcState) 2).flag (.doors .doorEvents)
      doorCrcMismatch).raiseLive 55 s.configCrc) := by
  have kept : (s.set (.commit .configCrcLive) s.configCrc).get (.commit .configCrcReference) = s.get (.commit .configCrcReference) :=
    get_set_ne s _ (by decide)
  simp only [State.cmdConfigCrcPass, on, st, Bool.not_true, Bool.false_eq_true, if_false, OfNat.one_ne_ofNat, one_ne_zero, false_and]
  rw [kept, if_neg other]

theorem cmdPostedWriteApply_of_on {dom : Nat} {x : Posted} {e : Entry} (first : (s.doors.posted.find? fun x => x.domain == dom) = some x)
    (entry : entryAt x.write.index x.write.sub = some e) (on : s.domainOn dom = true) :
    s.cmdPostedWriteApply dom =
      ((({ s with doors := { s.doors with posted := s.doors.posted.erase x } }).doorEffect (callerAt x.door) x.write e).2) := by
  rw [State.cmdPostedWriteApply, first]
  simp only [entry]
  exact if_pos on

end

/-- Settles O14: each write by the entry it is for, each pass by what it finds. -/
theorem configurationCommands : Obligations.ConfigurationCommands := by
  intro s d
  refine ⟨fun w e takes place he acc => ?register, fun i w e takes index he acc => ?pairs,
    fun idx sub data e lo takes he acc fits => exec_of_takes rfl takes he (doorEffect_comm (s := s.fresh) lo acc fits) (by decide),
    fun idx sub v e r rest hv takes he acc regs => ?clear,
    fun w e takes hi he acc mine => exec_of_takes rfl takes he (doorEffect_staged (s := s.fresh) hi acc mine) (by decide),
    fun takes store prism mine => exec_of_high rfl takes rfl (by decide)
      (fun l => (effectHigh_commit _).trans (writeConfigCommit_commit (s := s.fresh) store prism mine)) (runCommit_answers _),
    fun takes mine => exec_of_high rfl takes rfl (by decide)
      (fun l => (effectHigh_commit _).trans (writeConfigCommit_discard (s := s.fresh) mine)) (by decide),
    fun takes mine => exec_of_high rfl takes rfl (by decide)
      (fun l => (effectHigh_commit _).trans (writeConfigCommit_reload (s := s.fresh) mine)) (by decide),
    fun takes => exec_of_high rfl takes rfl (by decide) (fun l => (effectHigh_commit _).trans writeConfigCommit_defaults) (by decide),
    fun v hv takes => exec_of_high rfl takes rfl (show 0x4800 ≤ 0x4C01 by decide) (fun l => ?reference) (by decide),
    fun on same armed => next_of_core on (cmdConfigCrcPass_of_match (s := s.fresh) (domainOn_of_coreRuns on) same armed),
    fun on other st => next_of_core on (cmdConfigCrcPass_of_mismatch (s := s.fresh) (domainOn_of_coreRuns on) other st),
    fun on owned idle => next_of_core on (if_pos ⟨Option.isSome_iff_ne_none.2 owned, idle⟩),
    fun dom x e first entry on => next_of (cmdPostedWriteApply_of_on (s := s.fresh) first entry on)⟩
  case register =>
    have effect := doorEffect_register (s := s.fresh) (d := d) he acc place
    exact ⟨fun last => exec_of_takes rfl takes he (effect.trans (plainFor_of_last (s := s.fresh) last)) (by decide),
      fun k l wrote higher same =>
        exec_of_takes rfl takes he (effect.trans (plainFor_of_higher (s := s.fresh) wrote higher same)) (by decide)⟩
  case pairs =>
    have last : i.val < 4 := i.isLt
    have rs : e.access ≠ .rs := by rw [acc]; decide
    have rwc : e.access ≠ .rwc := by rw [acc]; decide
    exact exec_of_takes rfl takes he ((doorEffect_low rs rwc (by omega)).trans (effectLow_pairs index)) (by decide)
  case clear =>
    refine exec_of_takes rfl takes he ?_ (by decide)
    simp only [State.doorEffect, acc, regs, entryWrite_data, ofBytesBe_word hv] <;> rfl
  case reference =>
    rw [entryWrite_data, ofBytesBe_word hv]
    exact effectHigh_crcReference _

end Sys2Proof.Machine
end

section
/-! SUPPORT. Writes and reads of Lens and provocation (R397, R398, R429, R430, R433). -/

namespace Sys2Proof.Machine

section
variable {s : State} {c : Caller} {l : List (Reg × Nat)} {v : Nat} (data : List Byte)

theorem effectHigh_lensCommand : s.effectHigh c (entryWrite 0x4800 11 data) l v = s.writeLensCommand v := by
  simp (disch := omega) only [State.effectHigh, entryWrite, if_true]

theorem effectHigh_lensReadPtr : s.effectHigh c (entryWrite 0x4800 10 data) l v = s.writeLensReadPtr v := by
  simp (disch := omega) only [State.effectHigh, entryWrite, if_true]
  exact if_neg (by decide)

theorem effectHigh_lensSnapshot : s.effectHigh c (entryWrite 0x4801 2 data) l v = (0, s.lensSnapshot) := by
  simp (disch := omega) only [State.effectHigh, entryWrite, if_neg, if_true]

theorem effectHigh_lensClear : s.effectHigh c (entryWrite 0x4801 3 data) l v = (0, s.lensClear) := by
  simp (disch := omega) only [State.effectHigh, entryWrite, if_neg, if_true]
  exact congrArg (Prod.mk 0) (if_neg (by decide))

theorem effectHigh_provokeArm : s.effectHigh c (entryWrite 0x4808 1 data) l v = s.writeProvokeArm c.door v := by
  simp (disch := omega) only [State.effectHigh, entryWrite, if_neg, if_true]

end

section
variable {s : State} {d : Door}

theorem writeLensCommand_restart (room : s.lensFill < s.lensCapacity) :
    s.writeLensCommand 1 = (0, s.modLens fun x => { x with stopped := false }) := by
  have notFull : ¬ (s.get (.lens .lensMode) ≠ 0 ∧ s.lensCapacity ≤ s.lensFill) := fun h => Nat.not_le.2 room h.2
  rw [State.writeLensCommand, if_pos rfl, State.lensRestart, if_neg notFull]

/-- A read from a door that its checks let through (R363, R430). -/
theorem directRead_lensData {len : Nat} (reach : s.doorReach d = true)
    (checks : s.readChecks (callerAt d) 0x4800 9 false 0 len = 0) :
    s.directRead d 0x4800 9 len [] =
      ((((s.readLens (if len = 0 then (if d = .loc then 239 else 1024) else min len (if d = .loc then 239 else 1024))).2.answered
        d 0).readDone d).emit (.verdict d 0 (s.readLens (if len = 0 then (if d = .loc then 239 else 1024) else min len
          (if d = .loc then 239 else 1024))).1)) := by
  simp only [State.directRead, reach, Bool.not_true, Bool.false_eq_true, if_false, State.doorRead, checks]
  rfl

/-- A provocation that runs is over (R433). -/
theorem disarm_of_armed (armed : s.lens.armed = true) :
    s.disarm = (((s.modLens fun x => { x with armed := false }).set (.provoke .provokeState) 0).flag (.lens .lensEvents)
      lensProvokeDisarmed).endLive 61 := if_pos armed

/-- INJ_EN was high at the last reset and is high, and some rate is set (R432). -/
theorem writeProvokeArm_of_enabled (idle : s.lens.armed = false) (strap : s.straps.testBit 6 = true) (pin : s.pins.testBit 6 = true)
    (rate : ∃ k, s.get (.provoke (.provokeRates k)) ≠ 0) :
    s.writeProvokeArm d 1 = (0, ((((((s.modLens fun x => { x with
        armed := true, armedAt := s.elapsedMs,
        seqs := (List.range 7).map s.provokeStart }).forEach (List.finRange 7) fun s k => s.set (.provoke (.provokeCount k)) 0).set
          (.provoke .provokeState) 1).flag (.lens .lensEvents) lensProvokeArmed).raiseLive 61 d.num))) := by
  obtain ⟨k, rate⟩ := rate
  have some_ : ((List.finRange 7).all fun k => s.get (.provoke (.provokeRates k)) == 0) = false :=
    List.all_eq_false.2 ⟨k, List.mem_finRange k, by simpa using rate⟩
  have enabled : s.injEnabled = true := by rw [State.injEnabled, strap, pin]; rfl
  simp only [State.writeProvokeArm, idle, enabled, some_, one_ne_zero, ne_eq, not_true_eq_false, Bool.not_true, Bool.or_self,
    Bool.false_eq_true, if_false]

theorem writeProvokeArm_of_disabled (idle : s.lens.armed = false) (off : s.straps.testBit 6 = false ∨ s.pins.testBit 6 = false) :
    s.writeProvokeArm d 1 = (abLocal, (s.set (.provoke .provokeState) 2).flag (.lens .lensEvents) lensProvokeRefused) := by
  have disabled : s.injEnabled = false := by rcases off with h | h <;> simp [State.injEnabled, h]
  simp only [State.writeProvokeArm, idle, disabled, one_ne_zero, ne_eq, not_true_eq_false, Bool.not_false, Bool.true_or,
    Bool.false_eq_true, if_false, if_true]

end

/-- Settles O15: each write and read by the entry it is for. -/
theorem lensCommands : Obligations.LensCommands := by
  intro s d
  refine ⟨fun takes room => exec_of_high rfl takes rfl (by decide)
      (fun l => (effectHigh_lensCommand _).trans (writeLensCommand_restart (s := s.fresh) room)) (by decide),
    fun takes => exec_of_high rfl takes rfl (by decide) (fun l => effectHigh_lensCommand _) (by decide),
    fun v hv takes room => exec_of_high rfl takes rfl (show 0x4800 ≤ 0x4800 by decide) (fun l => ?inside) (by decide),
    fun v hv takes past => exec_of_high rfl takes rfl (show 0x4800 ≤ 0x4800 by decide) (fun l => ?outside) (by decide),
    fun len reach checks => next_of (directRead_lensData (s := s.fresh) reach checks),
    fun takes => exec_of_high rfl takes rfl (by decide) (fun l => effectHigh_lensSnapshot _) (by decide),
    fun takes => exec_of_high rfl takes rfl (by decide) (fun l => effectHigh_lensClear _) (by decide),
    fun takes idle strap pin rate => exec_of_high rfl takes rfl (by decide)
      (fun l => (effectHigh_provokeArm _).trans (writeProvokeArm_of_enabled (s := s.fresh) idle strap pin rate)) (by decide),
    fun takes idle off => exec_of_high rfl takes rfl (by decide)
      (fun l => (effectHigh_provokeArm _).trans (writeProvokeArm_of_disabled (s := s.fresh) idle off)) (by decide),
    fun takes => exec_of_high rfl takes rfl (by decide) (fun l => effectHigh_provokeArm _) (by decide),
    fun on armed => next_of_core on (disarm_of_armed (s := s.fresh) armed), fun stays on => next_of_core on rfl⟩
  case inside =>
    rw [entryWrite_data, ofBytesBe_word hv]
    exact (effectHigh_lensReadPtr _).trans (if_neg (Nat.not_lt.2 room))
  case outside =>
    rw [entryWrite_data, ofBytesBe_word hv]
    exact (effectHigh_lensReadPtr _).trans (if_pos past)

end Sys2Proof.Machine
end

section
/-! SUPPORT. A firmware update from the door that owns it (R419 to R424). -/

namespace Sys2Proof.Machine

section
variable {s : State} {c : Caller} {l : List (Reg × Nat)} {v : Nat}

theorem effectHigh_fwCommand (data : List Byte) : s.effectHigh c (entryWrite 0x4C03 5 data) l v = s.writeFwCommand c.door v := by
  simp (disch := omega) only [State.effectHigh, entryWrite, if_neg, if_true]

theorem effectHigh_fwData (offset : Nat) (data : List Byte) :
    s.effectHigh c ⟨0x4C03, 4, offset, data⟩ l v = s.writeFwData c.door offset data := by
  simp (disch := omega) only [State.effectHigh, if_neg, if_true]

end

section
variable {s : State} {d : Door}

/-- No other door owns the update (R422). -/
theorem fwOwner_of (mine : s.boot.owner = none ∨ s.boot.owner = some d) : (s.boot.owner.any fun o => o != d) = false := by
  rcases mine with h | h <;> simp [h]

/-- An erase starts on the bank that does not run (R422). -/
theorem writeFwCommand_erase (loaded : s.boot.recovery = false) (mine : s.boot.owner = none ∨ s.boot.owner = some d)
    (st : s.get (.fw .fwUpdateState) = 0 ∨ s.get (.fw .fwUpdateState) = 5) :
    s.writeFwCommand d 1 = (0, (((s.modBoot fun x => { x with
        owner := some d,
        target := some (1 - s.get (.fw .fwRunningBank)), pages := [], eraseCut := false,
        valid := x.valid.set (1 - s.get (.fw .fwRunningBank)) false }).set (.fw .fwUpdateState) 1).showBanks).emit
          (.flash 0x20 (0x100000 * (1 - s.get (.fw .fwRunningBank) + 1)) 0x100000)) := by
  have known : ¬ ((1 : Nat) = 0 ∨ 4 < 1) := by decide
  simp only [State.writeFwCommand, if_neg known, fwOwner_of mine, loaded, if_pos st, Bool.false_eq_true, if_false, if_true]

/-- The commands of an update that has a target (R422). -/
theorem writeFwCommand_of_target {t v : Nat} (mine : s.boot.owner = none ∨ s.boot.owner = some d) (target : s.boot.target = some t)
    (lo : 2 ≤ v) (hi : v ≤ 4) :
    s.writeFwCommand d v =
      if v = 2 ∧ s.get (.fw .fwUpdateState) = 2 then
        (if s.imageGood then
          (0, ((s.modBoot fun x => { x with
            valid := x.valid.set t true, versions := x.versions.set t (fieldAt (s.bankBytes 64) 4 4) }).set (.fw .fwUpdateState)
              3).showBanks)
        else (0, (s.set (.fw .fwUpdateState) 5).raise 56 t))
      else if v = 3 ∧ s.get (.fw .fwUpdateState) = 3 then
        (0, (s.modBoot fun x => { x with bank := t, trial := true, fails := x.fails.set t 0 }).set (.fw .fwUpdateState) 4)
      else if v = 4 ∧ (s.get (.fw .fwUpdateState) = 1 ∨ s.get (.fw .fwUpdateState) = 2 ∨ s.get (.fw .fwUpdateState) = 3 ∨
          s.get (.fw .fwUpdateState) = 5) then
        (0, ((s.modBoot fun x => { x with valid := x.valid.set t false, owner := none, target := none, pages := [] }).set
          (.fw .fwUpdateState) 0).showBanks)
      else (fwState, s) := by
  have known : ¬ (v = 0 ∨ 4 < v) := by omega
  have later : ¬ v = 1 := by omega
  simp only [State.writeFwCommand, if_neg known, fwOwner_of mine, if_neg later, target, Bool.false_eq_true, if_false]

/-- Data onto empty pages (R422). -/
theorem writeFwData_of_empty {offset : Nat} {data : List Byte} (loaded : s.boot.recovery = false)
    (mine : s.boot.owner = none ∨ s.boot.owner = some d) (aligned : offset % 256 = 0) (fits : offset + data.length ≤ 0x100000)
    (st : s.get (.fw .fwUpdateState) = 2) (store : s.cfg.storing = false) (prism : s.cfg.prismStore = false)
    (empty : ∀ k, Table.get [] s.boot.pages k = []) :
    s.writeFwData d offset data =
      (0, s.modBoot fun x => { x with pages := layPages ((data.length + 255) / 256) (offset / 256) data x.pages }) := by
  have small : offset < 2 ^ 31 := by omega
  have bank : offset / 2 ^ 31 % 2 = 0 := by rw [Nat.div_eq_of_lt small]
  have inside : ¬ (offset % 256 ≠ 0 ∨ 0x100000 < offset + data.length) := by omega
  have clear : ((List.range ((data.length + 255) / 256)).any fun k => (Table.get [] s.boot.pages (offset / 256 + k)) != []) = false := by
    simp [empty]
  simp only [State.writeFwData, fwOwner_of mine, loaded, bank, st, store, prism, Nat.mod_eq_of_lt small, if_neg inside, clear,
    Bool.false_eq_true, false_and, and_false, if_false, ne_eq, not_true_eq_false, or_self, zero_ne_one]

end

/-- The steward restarts into the bank that was selected (R423). -/
theorem cmdFwSelectRestart_of_selected {s : State} (loaded : s.boot.recovery = false) (runs : s.boot.running = true)
    (store : s.cfg.storing = false) (prism : s.cfg.prismStore = false) (st : s.get (.fw .fwUpdateState) = 4) :
    s.cmdFwSelectRestart = (s.stewardStops).modBoot fun x => { x with counted := true } := by
  have due : s.get (.fw .fwUpdateState) = 4 ∧ s.boot.running = true ∧ (!s.cfg.storing) = true ∧ (!s.cfg.prismStore) = true := by
    simp [st, runs, store, prism]
  rw [State.cmdFwSelectRestart, if_pos due, loaded]
  rfl

/-- Settles O16: each command by the state of the update. -/
theorem firmwareCommands : Obligations.FirmwareCommands := by
  intro s d loaded mine
  have command {t v : Nat} (target : s.boot.target = some t) (lo : 2 ≤ v) (hi : v ≤ 4) :=
    writeFwCommand_of_target (s := s.fresh) (d := d) mine target lo hi
  refine ⟨fun takes st => exec_of_high rfl takes rfl (by decide)
      (fun l => (effectHigh_fwCommand _).trans (writeFwCommand_erase (s := s.fresh) loaded mine st)) (by decide),
    fun on runs st uncut => next_of_core on (if_pos ⟨st, runs, ?uncut⟩),
    fun offset data aligned fits st store prism empty takes => exec_of_high rfl takes rfl (show 0x4800 ≤ 0x4C03 by decide)
      (fun l => (effectHigh_fwData _ _).trans
        (writeFwData_of_empty (s := s.fresh) loaded mine aligned fits st store prism empty)) (by decide),
    fun t target st good takes => exec_of_high rfl takes rfl (by decide)
      (fun l => (effectHigh_fwCommand _).trans ((command target (by decide) (by decide)).trans ((if_pos ⟨rfl, st⟩).trans (if_pos good))))
      (by decide),
    fun t target st bad takes => exec_of_high rfl takes rfl (by decide)
      (fun l => (effectHigh_fwCommand _).trans ((command target (by decide) (by decide)).trans ((if_pos ⟨rfl, st⟩).trans
        (if_neg (Bool.eq_false_iff.1 bad))))) (by decide),
    fun t target st takes => exec_of_high rfl takes rfl (by decide)
      (fun l => (effectHigh_fwCommand _).trans ((command target (by decide) (by decide)).trans ((if_neg fun h => absurd h.1 (by decide)).trans
        (if_pos ⟨rfl, st⟩)))) (by decide),
    fun t target st takes => exec_of_high rfl takes rfl (by decide)
      (fun l => (effectHigh_fwCommand _).trans ((command target (by decide) (by decide)).trans ((if_neg fun h => absurd h.1 (by decide)).trans
        ((if_neg fun h => absurd h.1 (by decide)).trans (if_pos ⟨rfl, ?cancel⟩))))) (by decide),
    fun on runs store prism st => next_of_core on ?restart,
    fun on runs started => next_of_core on (if_pos ⟨runs, started, ?loaded⟩)⟩
  case uncut => rw [show s.fresh.boot.eraseCut = false from uncut]; rfl
  case cancel =>
    have shown : s.get (.fw .fwUpdateState) = 1 ∨ s.get (.fw .fwUpdateState) = 2 ∨ s.get (.fw .fwUpdateState) = 3 ∨
        s.get (.fw .fwUpdateState) = 5 := by omega
    exact shown
  case restart => exact cmdFwSelectRestart_of_selected (s := s.fresh) loaded runs store prism st
  case loaded => rw [show s.fresh.boot.recovery = false from loaded]; rfl

end Sys2Proof.Machine
end

section
/-! SUPPORT. Writes that arm, direct and end hold-over (R143 to R145, R147, R151, R160). -/

namespace Sys2Proof.Machine

section
variable {s : State} {c : Caller} {l : List (Reg × Nat)} {v : Nat} (data : List Byte)

theorem imageOf_hold (i : Image) : imageOf ((0x2810 + i.val) % 16) = i := (by decide : ∀ i : Image, imageOf ((0x2810 + i.val) % 16) = i) i

theorem effectLow_arm (i : Image) : s.effectLow c (entryWrite (0x2810 + i.val) 1 data) l v = s.writeArm i v := by
  have last : i.val < 4 := i.isLt
  simp (disch := omega) only [State.effectLow, entryWrite, if_pos, if_neg, if_true, imageOf_hold]

theorem effectLow_intent (i : Image) : s.effectLow c (entryWrite (0x2810 + i.val) 2 data) l v = s.writeIntent i v := by
  have last : i.val < 4 := i.isLt
  simp (disch := omega) only [State.effectLow, entryWrite, if_pos, if_neg, if_true, imageOf_hold]

theorem effectLow_command (i : Image) : s.effectLow c (entryWrite (0x2810 + i.val) 3 data) l v = s.writeCommand i v := by
  have last : i.val < 4 := i.isLt
  simp (disch := omega) only [State.effectLow, entryWrite, if_pos, if_neg, if_true, imageOf_hold]

theorem effectLow_swap : s.effectLow c (entryWrite 0x2800 4 data) l v = s.writeSwap v := by
  simp (disch := omega) only [State.effectLow, entryWrite, if_neg, if_true]

end

theorem holdEntry_acts (i : Image) :
    actsAtOnce (0x2810 + i.val) 1 = true ∧ actsAtOnce (0x2810 + i.val) 2 = true ∧ actsAtOnce (0x2810 + i.val) 3 = true :=
  (by decide : ∀ i : Image,
    actsAtOnce (0x2810 + i.val) 1 = true ∧ actsAtOnce (0x2810 + i.val) 2 = true ∧ actsAtOnce (0x2810 + i.val) 3 = true) i

section
variable {s t : State} {d : Door} {i : Image} {c : Instr} {code : Nat} {data : List Byte}

/-- A write to the three entries of an image's hold-over. -/
theorem exec_of_armWrite (row : asWrite c = some (d, entryWrite (0x2810 + i.val) 1 data)) (takes : s.Takes d (entryWrite (0x2810 + i.val) 1 data))
    (effect : s.fresh.writeArm i (ofBytesBe data) = (code, t)) (answered : code ≠ abWaits) :
    exec c s = .next (s.finish (t.verdict d code)) :=
  exec_of_low row takes (holdEntry_acts i).1 (show 0x2810 + i.val < 0x3400 by omega) (fun l => (effectLow_arm data i).trans effect) answered

theorem exec_of_intentWrite (row : asWrite c = some (d, entryWrite (0x2810 + i.val) 2 data))
    (takes : s.Takes d (entryWrite (0x2810 + i.val) 2 data)) (effect : s.fresh.writeIntent i (ofBytesBe data) = (code, t))
    (answered : code ≠ abWaits) : exec c s = .next (s.finish (t.verdict d code)) :=
  exec_of_low row takes (holdEntry_acts i).2.1 (show 0x2810 + i.val < 0x3400 by omega) (fun l => (effectLow_intent data i).trans effect)
    answered

theorem exec_of_commandWrite (row : asWrite c = some (d, entryWrite (0x2810 + i.val) 3 data))
    (takes : s.Takes d (entryWrite (0x2810 + i.val) 3 data)) (effect : s.fresh.writeCommand i (ofBytesBe data) = (code, t))
    (answered : code ≠ abWaits) : exec c s = .next (s.finish (t.verdict d code)) :=
  exec_of_low row takes (holdEntry_acts i).2.2 (show 0x2810 + i.val < 0x3400 by omega) (fun l => (effectLow_command data i).trans effect)
    answered

end

/-! ### A facet that stands alone -/

theorem alone_set {s : State} {r : Reg} (v : Nat) (h : r ≠ .ring .ringMemberState) : (s.set r v).alone = s.alone := by
  rw [State.alone, get_set_ne s v h.symm]
  rfl

theorem setHoldState_of_alone {s : State} (alone : s.alone = true) (i : Image) (v : Nat) :
    s.setHoldState i v = (s.set (.hold4 i .holdoverState) v).modHold i fun h => { h with tell := true } := by
  have alone' : ((s.set (.hold4 i .holdoverState) v).modHold i fun h => { h with tell := true }).alone = true :=
    (alone_set (r := .hold4 i .holdoverState) v nofun).trans alone
  simp only [State.setHoldState, State.tellHold, alone', Bool.not_true, Bool.false_eq_true, if_false]

theorem alone_setHoldState {s : State} (alone : s.alone = true) (i : Image) (v : Nat) : (s.setHoldState i v).alone = true := by
  rw [setHoldState_of_alone alone]
  exact (alone_set (r := .hold4 i .holdoverState) v nofun).trans alone

/-! ### The operations -/

section
variable {s : State} {i : Image}

theorem enabled_set_hold4 (s : State) (r : HoldImageReg) (v : Nat) {j : Image} : (s.set (.hold4 j r) v).enabled i = s.enabled i := by
  rw [State.enabled, State.isTrue, get_set_ne s (r := .hold4 j r) (r' := .image i .imageEnable) v nofun]
  rfl

theorem writeArm_on (alone : s.alone = true) (st : s.holdState i = 0) (enabled : s.enabled i = true) :
    s.writeArm i 1 = (0, (s.set (.hold4 i .holdoverArm) 1).setHoldState i 1) := by
  have armed : s.applyArm i true = (s.set (.hold4 i .holdoverArm) 1).setHoldState i 1 := by
    have same : (s.set (.hold4 i .holdoverArm) (boolNat true)).enabled i = true := (enabled_set_hold4 s _ _).trans enabled
    rw [State.applyArm, if_pos rfl, if_pos ⟨st, same⟩]
    rfl
  have after : ((s.set (.hold4 i .holdoverArm) 1).setHoldState i 1).alone = true :=
    alone_setHoldState ((alone_set (r := .hold4 i .holdoverArm) 1 nofun).trans alone) i 1
  simp only [State.writeArm, lt_irrefl, one_ne_zero, alone, Bool.or_true, false_and, if_false, if_true, decide_true, armed, after]

theorem writeArm_off_held (st : s.holdState i = 4 ∨ s.holdState i = 5 ∨ s.holdState i = 6) : s.writeArm i 0 = (abortState, s) := by
  rw [State.writeArm, if_neg (by decide), if_pos ⟨rfl, st⟩]

theorem writeIntent_on (alone : s.alone = true) (st : s.holdState i = 1) :
    s.writeIntent i 1 = (0, ((s.set (.hold4 i .holdoverSuspendIntent) 1).modHold i fun h =>
        { h with windowOpen := true, intentAt := some s.time.elapsed }).setHoldState i 2) := by
  have here : (s.entryHere i || s.alone) = true := by rw [alone, Bool.or_true]
  have opened : s.openIntent i = (s.set (.hold4 i .holdoverSuspendIntent) 1).modHold i fun h =>
      { h with windowOpen := true, intentAt := some s.time.elapsed } := by
    rw [State.openIntent]
    simp only [here, if_true]
  rw [State.writeIntent, if_neg (by decide), if_pos rfl, if_pos st, opened]

theorem writeIntent_off (st : s.holdState i = 2) : s.writeIntent i 0 = (0, (s.endIntent i).setHoldState i 1) := by
  rw [State.writeIntent, if_neg (by decide), if_neg (by decide), if_pos st]

/-- A write of `HoldoverCommand`, by its value (R147). -/
theorem writeCommand_enter : s.writeCommand i 1 =
    if s.holdState i = 1 ∨ s.holdState i = 2 ∨ s.holdState i = 3 then (0, s.hostLoss i 4) else (abortState, s) := by
  rw [State.writeCommand, if_pos rfl]

theorem writeCommand_adopt (fine : s.adoptRefusal i = 0) : s.writeCommand i 2 =
    (0, (if s.holdState i = 1 ∨ s.holdState i = 2 ∨ s.holdState i = 3 then s.hostLoss i 4 else s).startAdoption i true) := by
  rw [State.writeCommand, if_neg (by decide), if_pos rfl, fine]
  rfl

theorem writeCommand_adopt_refused (refused : s.adoptRefusal i ≠ 0) : s.writeCommand i 2 =
    (abortState, (s.set (.hold4 i .adoptRefusal) (s.adoptRefusal i)).modHold i fun h => { h with tell := true }) := by
  rw [State.writeCommand, if_neg (by decide), if_pos rfl]
  exact if_pos refused

theorem writeCommand_abandon (st : s.holdState i = 4 ∨ s.holdState i = 5) : s.writeCommand i 3 = (0, s.abandonHold i) := by
  rw [State.writeCommand, if_neg (by decide), if_neg (by decide), if_pos rfl, if_pos st]

theorem writeCommand_wake (st : s.holdState i = 5) : s.writeCommand i 4 = (0, s.callWake i 0) := by
  rw [State.writeCommand, if_neg (by decide), if_neg (by decide), if_neg (by decide), if_pos rfl, if_pos st]

end

section
variable {s : State}

/-- Two changes run alike over a list when they agree on every state that the run passes. -/
theorem forEach_congr_of {α : Type} {P : State → Prop} {f g : State → α → State} (l : List α)
    (step : ∀ t a, P t → f t a = g t a ∧ P (g t a)) {s : State} (h : P s) : s.forEach l f = s.forEach l g := by
  induction l generalizing s with
  | nil => rfl
  | cons a rest ih =>
    obtain ⟨same, next⟩ := step s a h
    show (f s a).forEach rest f = (g s a).forEach rest g
    rw [same]
    exact ih next

/-- No image switches at the write itself when each sees its host's frames (R151). -/
theorem swapSteps_of_locked (locked : ∀ i, (s.hub i).locked = true) :
    (s.forEach (List.finRange 4) fun s i =>
      if (s.hub i).locked || (s.hold i).started then s.modHold i fun h => { h with swapAt := some s.time.elapsed } else s.switchImage i) =
    s.forEach (List.finRange 4) fun s i => s.modHold i fun h => { h with swapAt := some s.time.elapsed } := by
  apply forEach_congr_of (P := fun t => ∀ i, (t.hub i).locked = true)
  · exact fun t i h => ⟨if_pos (by rw [h i]; rfl), h⟩
  · exact locked

theorem writeSwap_refused {j : Nat} (idle : s.swapping = false)
    (bad : ((List.range 256).find? fun j => s.slotCheck (s.shadowWord j) ≠ 0) = some j) :
    s.writeSwap 1 = (0, (s.set (.hold .holdoverTableStatus) (3 + 256 * j + 65536 * s.slotCheck (s.shadowWord j))).flag
      (.hold .holdoverEvents) holdTableRefused) := by
  rw [State.writeSwap, if_neg (by decide), idle, if_neg (by decide), bad]

/-- The swap waits for every image's boundary when each sees its host's frames (R151). -/
theorem writeSwap_accepted (idle : s.swapping = false) (good : ∀ j, s.slotCheck (s.shadowWord j) = 0)
    (locked : ∀ i, (s.hub i).locked = true) :
    s.writeSwap 1 = (0, (({ s.set (.hold .holdoverTableStatus) 1 with swapping := true, switched := 0 }).setRegBit
      (.hold .holdoverTableActive) 7 true).forEach (List.finRange 4) fun s i =>
        s.modHold i fun h => { h with swapAt := some s.time.elapsed }) := by
  have none_ : ((List.range 256).find? fun j => s.slotCheck (s.shadowWord j) ≠ 0) = none := by simp [good]
  rw [State.writeSwap, if_neg (by decide), idle, if_neg (by decide), none_]
  exact congrArg (Prod.mk 0) (swapSteps_of_locked locked)

end

/-- Settles O19: each write by its value and the image's state. -/
theorem holdoverWrites : Obligations.HoldoverWrites := by
  intro s d i alone
  refine ⟨fun takes st enabled => exec_of_armWrite rfl takes (writeArm_on (s := s.fresh) alone st enabled) (by decide),
    fun takes st => exec_of_armWrite rfl takes (writeArm_off_held (s := s.fresh) st) (by decide),
    fun takes st => exec_of_intentWrite rfl takes (writeIntent_on (s := s.fresh) alone st) (by decide),
    fun takes st => exec_of_intentWrite rfl takes (writeIntent_off (s := s.fresh) st) (by decide),
    fun takes st => exec_of_commandWrite rfl takes ((writeCommand_enter (s := s.fresh)).trans (if_pos st)) (by decide),
    fun takes st => exec_of_commandWrite rfl takes ((writeCommand_enter (s := s.fresh)).trans (if_neg st)) (by decide),
    fun takes fine st => exec_of_commandWrite rfl takes ((writeCommand_adopt (s := s.fresh) fine).trans (congrArg
      (fun t : State => (0, t.startAdoption i true)) (if_neg ?held))) (by decide),
    fun takes fine st => exec_of_commandWrite rfl takes ((writeCommand_adopt (s := s.fresh) fine).trans (congrArg
      (fun t : State => (0, t.startAdoption i true)) (if_pos st))) (by decide),
    fun takes refused => exec_of_commandWrite rfl takes (writeCommand_adopt_refused (s := s.fresh) refused) (by decide),
    fun takes st => exec_of_commandWrite rfl takes (writeCommand_abandon (s := s.fresh) st) (by decide),
    fun takes st => exec_of_commandWrite rfl takes (writeCommand_wake (s := s.fresh) st) (by decide),
    fun j takes idle bad => exec_of_low rfl takes rfl (by decide)
      (fun l => (effectLow_swap _).trans (writeSwap_refused (s := s.fresh) idle bad)) (by decide),
    fun takes idle good locked => exec_of_low rfl takes rfl (by decide)
      (fun l => (effectLow_swap _).trans (writeSwap_accepted (s := s.fresh) idle good locked)) (by decide)⟩
  case held =>
    rw [fresh_holdState]
    omega

end Sys2Proof.Machine
end

section
/-! SUPPORT. Sessions, stream commands and the freeze from a door (R184, R187, R189 to R192, R199). -/

namespace Sys2Proof.Machine

section
variable {s : State} {c : Caller} {l : List (Reg × Nat)} {v : Nat} (data : List Byte)

theorem effectLow_sessionOpen (d : Door) : s.effectLow c (entryWrite (0x2C08 + d.num) 3 data) l v = s.writeSessionOpen c d v := by
  have five : d.num < 5 := by cases d <;> decide
  simp (disch := omega) only [State.effectLow, entryWrite, if_pos, if_neg, if_true, Nat.add_sub_cancel_left, doorOf_num]

theorem effectLow_freeze : s.effectLow c (entryWrite 0x2C01 1 data) l v = s.writeFreeze v := by
  simp (disch := omega) only [State.effectLow, entryWrite, if_neg, if_true]

end

/-! ### Sessions (R184, R187) -/

section
variable {s : State} {d : Door}

theorem writeSessionOpen_here (closed : (s.session d).opened = false) (idle : (s.session d).opening = none) (here : s.sessionHere d = true) :
    s.writeSessionOpen (callerAt d) d 1 =
      if (allDoors.any fun e => e != d && (s.session e).opened && s.sessionHere e &&
          s.get (.session e .sessionStreams) &&& s.get (.session d .sessionStreams) != 0) = true
      then (abortState, s.set (.session d .sessionState) 3) else (0, s.openSession d none) := by
  have own : ¬ (d = .ring ∧ (callerAt d).src.isSome = true ∧ (s.session d).owner.isSome = true ∧
      (s.session d).owner ≠ (callerAt d).src) := fun h => by cases h.2.1
  simp only [State.writeSessionOpen, if_neg own, closed, idle, here, lt_irrefl, one_ne_zero, Option.isSome_none, Bool.false_eq_true,
    if_false, if_true]
  rfl

theorem writeSessionOpen_close (here : s.sessionHere d = true) :
    s.writeSessionOpen (callerAt d) d 0 = (0, (s.closeSession d).set (.session d .sessionOpen) 0) := by
  have own : ¬ (d = .ring ∧ (callerAt d).src.isSome = true ∧ (s.session d).owner.isSome = true ∧
      (s.session d).owner ≠ (callerAt d).src) := fun h => by cases h.2.1
  simp only [State.writeSessionOpen, if_neg own, here, Nat.not_lt_zero, Bool.not_true, Bool.and_false, Bool.false_eq_true, if_false,
    if_true]

/-- No other session is open (R184). -/
theorem noOverlap_of_closed (closed : ∀ e, e ≠ d → (s.session e).opened = false) :
    (allDoors.any fun e => e != d && (s.session e).opened && s.sessionHere e &&
      s.get (.session e .sessionStreams) &&& s.get (.session d .sessionStreams) != 0) ≠ true := by
  rw [ne_eq, List.any_eq_true]
  rintro ⟨e, -, h⟩
  simp only [Bool.and_eq_true, bne_iff_ne] at h
  obtain ⟨⟨⟨other, opened⟩, -⟩, -⟩ := h
  rw [closed e other] at opened
  cases opened

theorem mem_allDoors (d : Door) : d ∈ allDoors := by cases d <;> decide

theorem overlap_of_open {e : Door} (other : e ≠ d) (opened : (s.session e).opened = true) (here : s.sessionHere e = true)
    (shared : s.get (.session e .sessionStreams) &&& s.get (.session d .sessionStreams) ≠ 0) :
    (allDoors.any fun e => e != d && (s.session e).opened && s.sessionHere e &&
      s.get (.session e .sessionStreams) &&& s.get (.session d .sessionStreams) != 0) = true := by
  rw [List.any_eq_true]
  exact ⟨e, mem_allDoors e, by simp [other, opened, here, shared]⟩

/-- A read of a session's data is no longer than its door takes at once. -/
theorem directRead_session {len : Nat} {remote : List Byte} (reach : s.doorReach d = true)
    (checks : s.readChecks (callerAt d) (0x2C08 + d.num) 5 false 0 len = 0) (some_ : 0 < len) (fits : len ≤ 239) :
    s.directRead d (0x2C08 + d.num) 5 len remote =
      ((((s.readSessionData d d len remote).2.answered d 0).readDone d).emit (.verdict d 0 (s.readSessionData d d len remote).1)) := by
  have five : d.num < 5 := by cases d <;> decide
  have most : min len (if d = .loc then 239 else 1024) = len := Nat.min_eq_left (by split <;> omega)
  have place : (0x2C08 : Nat) ≤ 0x2C08 + d.num ∧ 0x2C08 + d.num ≤ 0x2C0C ∧ True := ⟨by omega, by omega, trivial⟩
  have lens : ¬ (0x2C08 + d.num = 0x4800 ∧ 5 = 9) := by omega
  have time : ¬ (0x2C08 + d.num = 0x3400 ∧ 5 = 1) := by omega
  simp only [State.directRead, reach, Bool.not_true, Bool.false_eq_true, if_false, State.doorRead, checks, ne_eq, not_true_eq_false,
    if_neg (Nat.pos_iff_ne_zero.1 some_), most, if_neg lens, if_pos place, if_neg time, Nat.add_sub_cancel_left, doorOf_num] <;> rfl

theorem readSessionData_here {via : Door} {limit : Nat} {remote : List Byte} (upa : d ≠ .upa) (upb : d ≠ .upb)
    (opened : (s.session d).opened = true) (here : s.sessionHere d = true) (idle : (s.session d).readBy = none) :
    s.readSessionData via d limit remote =
      ((s.readSession d 80 limit []).1, (s.readSession d 80 limit []).2.modSession d fun x => { x with readBy := some via }) := by
  have serves : (!(s.session d).opened || d == .upa || d == .upb) = false := by simp [opened, upa, upb]
  simp only [State.readSessionData, serves, here, idle, Option.isSome_none, Bool.false_eq_true, if_false, if_true]

theorem readSessionData_there {via : Door} {limit u : Nat} {remote : List Byte} (upa : d ≠ .upa) (upb : d ≠ .upb)
    (opened : (s.session d).opened = true) (away : s.sessionHere d = false) (peer : s.sessionPeer d = some u) :
    s.readSessionData via d limit remote =
      (remote.take limit, (s.doorTo d u 1 0x2C0C 5 limit []).2.countRemote d (remote.take limit)) := by
  have serves : (!(s.session d).opened || d == .upa || d == .upb) = false := by simp [opened, upa, upb]
  simp only [State.readSessionData, serves, away, peer, Bool.false_eq_true, if_false]

end

/-! ### Stream commands (R189, R192) -/

section
variable {s : State} {d : Door} {n v : Nat}

/-- No release and no rewind of a higher door stand in this cycle. -/
theorem streamCommand_of_first (move : v ≠ 1 ∧ v ≠ 4)
    (first : ∀ w, (s.stream n).saved = some w → w.time ≠ s.time.elapsed ∨ w.value = v) :
    s.streamCommand d n v = (s.modStream n fun x => { x with saved := some (s.saveStream d n v) }).moveStream n v := by
  have none_ : ((s.stream n).saved.filter fun w => w.time == s.time.elapsed && w.value != v && decide (d.num < w.door)) = none := by
    refine Option.filter_eq_none_iff.2 fun w saved => ?_
    have := first w saved
    simp only [Bool.and_eq_true, beq_iff_eq, bne_iff_ne, decide_eq_true_eq, not_and]
    intro ⟨now, other⟩
    exact absurd other (this.resolve_left (not_not.2 now) |> fun h => not_not.2 h)
  rw [State.streamCommand, if_neg move.1, if_neg move.2, none_]

/-- The lower door's command goes first (R192). -/
theorem streamCommand_of_overtaken {w : StreamSave} (move : v ≠ 1 ∧ v ≠ 4) (saved : (s.stream n).saved = some w)
    (now : w.time = s.time.elapsed) (other : w.value ≠ v) (lower : d.num < w.door) :
    s.streamCommand d n v = ((s.restoreStream n w).moveStream n v).moveStream n w.value := by
  have kept : ((s.stream n).saved.filter fun w => w.time == s.time.elapsed && w.value != v && decide (d.num < w.door)) = some w := by
    rw [saved]
    exact Option.filter_some_pos (by simp [now, other, lower])
  rw [State.streamCommand, if_neg move.1, if_neg move.2, kept]

/-- A command to a configured stream (R190). -/
theorem writeStreamCommand_of_configured (on : s.configured n = true) (lo : 1 ≤ v) (hi : v ≤ 4) :
    s.writeStreamCommand d n v = (0, s.streamCommand d n v) := by
  have known : ¬ (v = 0 ∨ 4 < v) := by omega
  simp only [State.writeStreamCommand, if_neg known, on, Bool.not_true, Bool.false_eq_true, if_false]

theorem exec_of_streamWrite {s t : State} {c : Instr} {n : Stream} {b : Byte} {code : Nat}
    (row : asWrite c = some (d, entryWrite (0x2D00 + n.val) 16 [b])) (takes : s.Takes d (entryWrite (0x2D00 + n.val) 16 [b]))
    (effect : s.fresh.writeStreamCommand d n.val b.toNat = (code, t)) (answered : code ≠ abWaits) :
    exec c s = .next (s.finish (t.verdict d code)) :=
  exec_of_takes row takes (entryOf_streamCommand n)
    ((doorEffect_streamCommand s.fresh (callerAt d) n [b]).trans (by rw [ofBytesBe_singleton]; exact effect)) answered

end

/-! ### The freeze (R199) -/

section
variable {s : State}

theorem sramOnly_set_freeze (v : Nat) : (s.set (.arb .arbFreeze) v).sramOnly = s.sramOnly := by
  rw [State.sramOnly, get_set_ne s (r := .arb .arbFreeze) (r' := .res .reservoirDramState) v nofun]
  rfl

theorem writeFreeze_on (dram : s.sramOnly = false) (st : s.get (.arb .arbFreezeState) = 0) :
    s.writeFreeze 1 = (0, (s.set (.arb .arbFreeze) 1).undoGrant.holdHeads.set (.arb .arbFreezeState) 1) := by
  have idle : (s.set (.arb .arbFreeze) 1).get (.arb .arbFreezeState) = 0 := (get_set_ne s 1 (by decide)).trans st
  simp only [State.writeFreeze, lt_irrefl, if_false, sramOnly_set_freeze, dram, Bool.false_eq_true, if_true, idle]

theorem writeFreeze_off (dram : s.sramOnly = false) : s.writeFreeze 0 = (0, (s.set (.arb .arbFreeze) 0).resumeArb) := by
  simp only [State.writeFreeze, Nat.not_lt_zero, if_false, sramOnly_set_freeze, dram, Bool.false_eq_true, zero_ne_one]

end

/-- Settles O21: each write and read by what the session, the stream and the arbiter are. -/
theorem reservoirWrites : Obligations.ReservoirWrites := by
  intro s d
  have session : actsAtOnce (0x2C08 + d.num) 3 = true := by cases d <;> rfl
  have low : 0x2C08 + d.num < 0x3400 := by cases d <;> decide
  have opens {t : State} {code : Nat} {c : Instr} {b : Byte} (row : asWrite c = some (d, entryWrite (0x2C08 + d.num) 3 [b]))
      (takes : s.Takes d (entryWrite (0x2C08 + d.num) 3 [b]))
      (effect : s.fresh.writeSessionOpen (callerAt d) d (ofBytesBe [b]) = (code, t)) (answered : code ≠ abWaits) :
      exec c s = .next (s.finish (t.verdict d code)) :=
    exec_of_low row takes session low (fun l => (effectLow_sessionOpen _ d).trans effect) answered
  refine ⟨fun takes closed idle here others => opens rfl takes
      ((writeSessionOpen_here (s := s.fresh) closed idle here).trans (if_neg (noOverlap_of_closed (s := s.fresh) others))) (by decide),
    fun e takes closed idle here other opened there shared => opens rfl takes ((writeSessionOpen_here (s := s.fresh) closed idle here).trans
      (if_pos (overlap_of_open (s := s.fresh) other opened there shared))) (by decide),
    fun takes here => opens rfl takes (writeSessionOpen_close (s := s.fresh) here) (by decide),
    fun len remote upa upb some_ fits reach checks opened => ⟨fun here idle => next_of ?here, fun u away peer => next_of ?there⟩,
    fun n on => ⟨fun takes => exec_of_streamWrite rfl takes
        (writeStreamCommand_of_configured (s := s.fresh) on (by decide) (by decide)) (by decide),
      fun takes first => exec_of_streamWrite rfl takes ((writeStreamCommand_of_configured (s := s.fresh) on (by decide) (by decide)).trans
        (congrArg (Prod.mk 0) (streamCommand_of_first (s := s.fresh) (by decide) first))) (by decide),
      fun takes first => exec_of_streamWrite rfl takes ((writeStreamCommand_of_configured (s := s.fresh) on (by decide) (by decide)).trans
        (congrArg (Prod.mk 0) (streamCommand_of_first (s := s.fresh) (by decide) first))) (by decide),
      fun w takes saved now value lower => exec_of_streamWrite rfl takes
        ((writeStreamCommand_of_configured (s := s.fresh) on (by decide) (by decide)).trans (congrArg (Prod.mk 0) ?overtaken)) (by decide),
      fun takes => exec_of_streamWrite rfl takes
        (writeStreamCommand_of_configured (s := s.fresh) on (by decide) (by decide)) (by decide)⟩,
    fun n off takes => exec_of_streamWrite rfl takes
      (writeStreamCommand_of_not_configured s.fresh d (v := 4) off (by decide)) (by decide),
    fun dram takes st => exec_of_low rfl takes rfl (by decide)
      (fun l => (effectLow_freeze _).trans (writeFreeze_on (s := s.fresh) dram st)) (by decide),
    fun dram takes => exec_of_low rfl takes rfl (by decide)
      (fun l => (effectLow_freeze _).trans (writeFreeze_off (s := s.fresh) dram)) (by decide)⟩
  case here =>
    refine (directRead_session (s := s.fresh) reach checks some_ fits).trans ?_
    rw [readSessionData_here (s := s.fresh) upa upb opened here idle]
  case there =>
    refine (directRead_session (s := s.fresh) reach checks some_ fits).trans ?_
    rw [readSessionData_there (s := s.fresh) upa upb opened away peer]
  case overtaken =>
    refine (streamCommand_of_overtaken (s := s.fresh) (by decide) saved now ?_ lower).trans ?_
    · rw [value]; decide
    · rw [value]; rfl

end Sys2Proof.Machine
end

section
/-! SUPPORT. Writes and reads of prism time from a door (R212, R226, R230, R231, R233). -/

namespace Sys2Proof.Machine

/-! ### Whole data over an entry of one element -/

theorem map_range_getElem (data : List Byte) (old : Nat → Byte) :
    ((List.range data.length).map fun j => if 0 ≤ j ∧ j < data.length then (data[j]?).getD 0 else old j) = data := by
  refine List.ext_getElem (by simp) fun j hj hd => ?_
  simp [hd]

/-- Data as long as an entry of one element replaces its value. -/
theorem splice_whole (e : Entry) {r : Reg} (cur : Reg → Nat) {data : List Byte} (regs : e.regs = [r]) (whole : data.length = e.width)
    (some_ : 0 < data.length) (bytes : e.bitmap = false) : e.splice cur 0 data = [(r, ofBytesBe data)] := by
  have one : (data.length + e.width - 1) / e.width = 1 := by
    have twice : data.length + data.length - 1 = data.length + (data.length - 1) := by omega
    rw [← whole, twice, Nat.add_div_left _ some_, Nat.div_eq_of_lt (by omega)]
  have spelled := map_range_getElem data fun j => ((e.elemBytes (cur r))[j]?).getD 0
  simp only [Entry.splice, regs, Nat.zero_add, Nat.sub_zero, one, Nat.zero_div, List.drop_zero, List.range_one, List.zip_cons_cons, List.zip_nil_right, List.map_cons,
    List.map_nil, Nat.zero_mul, Entry.ofElem, bytes, Bool.false_eq_true, if_false]
  rw [← whole, spelled]

section
variable {s : State} {c : Caller} {l : List (Reg × Nat)} {v : Nat} (data : List Byte)

theorem effectMid_ppsOutNext : s.effectMid c (entryWrite 0x3401 10 data) l v = s.writeCompare (.pps .ppsOutNext) v :=
  (if_neg (show ¬ 0x3401 = 0x3400 by decide)).trans (if_pos rfl)

theorem effectMid_canSyncPhase : s.effectMid c (entryWrite 0x3402 4 data) l v = s.writeCompare (.canTime .canSyncPhase) v :=
  (if_neg (show ¬ 0x3402 = 0x3400 by decide)).trans ((if_neg (show ¬ 0x3402 = 0x3401 by decide)).trans (if_pos rfl))

/-- The two entries of the launch queue (R233). -/
theorem effectMid_launch (sub : Nat) : s.effectMid c (entryWrite 0x3430 sub data) l v =
    if sub = 1 then s.writeLaunchSubmit data else s.writeLaunchCancel v :=
  (if_neg (show ¬ 0x3430 = 0x3400 by decide)).trans ((if_neg (show ¬ 0x3430 = 0x3401 by decide)).trans
    ((if_neg (show ¬ 0x3430 = 0x3402 by decide)).trans (if_pos rfl)))

theorem effectMid_launchSubmit : s.effectMid c (entryWrite 0x3430 1 data) l v = s.writeLaunchSubmit data :=
  (effectMid_launch data 1).trans (if_pos rfl)

theorem effectMid_launchCancel : s.effectMid c (entryWrite 0x3430 2 data) l v = s.writeLaunchCancel v :=
  (effectMid_launch data 2).trans (if_neg (by decide))

theorem effectMid_civilAnchor : s.effectMid c (entryWrite 0x3400 23 data) l v = (0, s.setAnchor ((l.head?.map Prod.snd).getD 0)) :=
  if_pos rfl

end

section
variable {s : State} {d : Door}

/-- The civil anchor is one value of 14 bytes (R230). -/
theorem doorEffect_civilAnchor {c : Caller} {data : List Byte} (whole : data.length = 14) (alone : s.alone = true) :
    ∃ e, entryOf 0x3400 23 = some e ∧
      s.doorEffect c (entryWrite 0x3400 23 data) e = (0, s.set (.time .timeCivilAnchor) (ofBytesBe data)) := by
  refine ⟨⟨.domain, .rw, [.time .timeCivilAnchor], 14, .any, false⟩, rfl, ?_⟩
  rw [doorEffect_mid (by decide) (by decide) (show 0x3400 ≤ 0x3400 by decide) (show 0x3400 < 0x4800 by decide)]
  have value := splice_whole ⟨.domain, .rw, [.time .timeCivilAnchor], 14, .any, false⟩ s.get (data := data) rfl whole
    (by rw [whole]; decide) rfl
  have after : (s.set (.time .timeCivilAnchor) (ofBytesBe data)).alone = true :=
    (alone_set (r := .time .timeCivilAnchor) _ nofun).trans alone
  have spliced : s.spliced ⟨.domain, .rw, [.time .timeCivilAnchor], 14, .any, false⟩ (entryWrite 0x3400 23 data) =
      [(.time .timeCivilAnchor, ofBytesBe data)] := value
  rw [spliced, effectMid_civilAnchor, State.setAnchor]
  exact congrArg (Prod.mk 0) (if_pos after)

/-- A read of time from a door whose checks let it through (R212, R363). -/
theorem directRead_time {sub len : Nat} (reach : s.doorReach d = true) (checks : s.readChecks (callerAt d) 0x3400 sub false 0 len = 0)
    (posted : s.doors.posted = []) (some_ : 0 < len) (fits : len ≤ 239) :
    s.directRead d 0x3400 sub len [] =
      ((((if sub = 1 then s.latchFraction else s).answered d 0).readDone d).emit
        (.verdict d 0 ((s.entryBytes (callerAt d) 0x3400 sub false).take len))) := by
  have most : min len (if d = .loc then 239 else 1024) = len := Nat.min_eq_left (by split <;> omega)
  have plain : s.posting 0x3400 sub = s := by rw [State.posting, posted]; rfl
  have session : ¬ ((0x2C08 : Nat) ≤ 0x3400 ∧ 0x3400 ≤ 0x2C0C ∧ sub = 5) := by omega
  have lens : ¬ ((0x3400 : Nat) = 0x4800 ∧ sub = 9) := by omega
  simp only [State.directRead, reach, Bool.not_true, Bool.false_eq_true, if_false, State.doorRead, checks, ne_eq, not_true_eq_false,
    if_neg (Nat.pos_iff_ne_zero.1 some_), most, if_neg lens, if_neg session, plain, true_and, List.drop_zero]
  rfl

theorem writeLaunchSubmit_of_fine {data : List Byte} (fine : s.launchRefusal data = 0) :
    s.writeLaunchSubmit data = (0, { s with time := { s.time with launches := s.time.launches ++ [launchOf data] } }) := if_pos fine

theorem writeLaunchSubmit_of_full {data : List Byte} (full : s.launchRefusal data = 2) :
    s.writeLaunchSubmit data = (abortState, (s.set (.launch .launchRefusal) 2).bump (.launch .launchRefusedCount)) := by
  rw [State.writeLaunchSubmit, full]
  rfl

theorem writeLaunchCancel_of_waiting {tag : Nat} {l : Launch} (known : (s.time.launches.find? fun l => l.tag = tag) = some l)
    (waits : l.attempts = 0) : s.writeLaunchCancel tag = (0, s.endLaunch l 6) := by
  rw [State.writeLaunchCancel, known]
  exact congrArg (Prod.mk 0) (if_pos waits)

end

/-- Settles O23: each write and read by the entry it is for. -/
theorem timeWrites : Obligations.TimeWrites := by
  intro s d posted
  refine ⟨fun reach checks => next_of (directRead_time (s := s.fresh) reach checks posted (by decide) (by decide)),
    fun reach checks => next_of (directRead_time (s := s.fresh) reach checks posted (by decide) (by decide)),
    fun v hv takes => ⟨fun near => exec_of_mid rfl takes rfl (show 0x3400 ≤ 0x3401 by decide) (show 0x3401 < 0x4800 by decide)
        (fun l => ?near) (by decide),
      fun far => exec_of_mid rfl takes rfl (show 0x3400 ≤ 0x3401 by decide) (show 0x3401 < 0x4800 by decide) (fun l => ?far) (by decide)⟩,
    fun v hv takes near => exec_of_mid rfl takes rfl (show 0x3400 ≤ 0x3402 by decide) (show 0x3402 < 0x4800 by decide)
      (fun l => ?phase) (by decide),
    fun data whole alone takes => ?anchor,
    fun data fine takes => exec_of_mid rfl takes rfl (show 0x3400 ≤ 0x3430 by decide) (show 0x3430 < 0x4800 by decide)
      (fun l => (effectMid_launchSubmit _).trans (writeLaunchSubmit_of_fine (s := s.fresh) fine)) (by decide),
    fun data full takes => exec_of_mid rfl takes rfl (show 0x3400 ≤ 0x3430 by decide) (show 0x3430 < 0x4800 by decide)
      (fun l => (effectMid_launchSubmit _).trans (writeLaunchSubmit_of_full (s := s.fresh) full)) (by decide),
    fun tag l small takes known waits => exec_of_mid rfl takes rfl (show 0x3400 ≤ 0x3430 by decide) (show 0x3430 < 0x4800 by decide)
      (fun _ => ?cancel) (by decide)⟩
  case near =>
    rw [entryWrite_data, ofBytesBe_word hv]
    exact (effectMid_ppsOutNext _).trans (if_neg (Nat.not_le.2 near))
  case far =>
    rw [entryWrite_data, ofBytesBe_word hv]
    exact (effectMid_ppsOutNext _).trans (if_pos far)
  case phase =>
    rw [entryWrite_data, ofBytesBe_word hv]
    exact (effectMid_canSyncPhase _).trans (if_neg (Nat.not_le.2 near))
  case anchor =>
    obtain ⟨e, he, effect⟩ := doorEffect_civilAnchor (s := s.fresh) (c := callerAt d) whole alone
    exact exec_of_takes rfl takes he effect (by decide)
  case cancel =>
    rw [entryWrite_data, ofBytesBe_bytesBe_of_lt small]
    exact (effectMid_launchCancel _).trans (writeLaunchCancel_of_waiting (s := s.fresh) known waits)

end Sys2Proof.Machine
end

section
/-! SUPPORT. Domain commands, their trigger and the core regulator's answers (R314, R315, R317 to R319, R325, R328). -/

namespace Sys2Proof.Machine

section
variable {s : State} {c : Caller} {l : List (Reg × Nat)} {v : Nat} (data : List Byte)

/-- The entries of the power domains that are commands (R317, R325). -/
theorem effectMid_domains (sub : Nat) : s.effectMid c (entryWrite 0x4000 sub data) l v =
    if sub = 2 then s.writeDomainCommand c.door v else if sub = 10 then (0, s.writeWakeTimer v) else s.plainFor c.door l :=
  (if_neg (show ¬ 0x4000 = 0x3400 by decide)).trans ((if_neg (show ¬ 0x4000 = 0x3401 by decide)).trans
    ((if_neg (show ¬ 0x4000 = 0x3402 by decide)).trans ((if_neg (show ¬ 0x4000 = 0x3430 by decide)).trans
      ((if_neg (show ¬ (0x3C10 ≤ 0x4000 ∧ 0x4000 ≤ 0x3C22) by decide)).trans (if_pos rfl)))))

end

/-- A write of `DomainCommand` (R317). -/
theorem exec_of_domainWrite {s t : State} {d : Door} {c : Instr} {w code : Nat} (hw : w < 2 ^ 32)
    (row : asWrite c = some (d, entryWrite 0x4000 2 (bytesBe 4 w))) (takes : s.Takes d (entryWrite 0x4000 2 (bytesBe 4 w)))
    (effect : s.fresh.writeDomainCommand d w = (code, t)) (answered : code ≠ abWaits) :
    exec c s = .next (s.finish (t.verdict d code)) := by
  refine exec_of_mid row takes rfl (show 0x3400 ≤ 0x4000 by decide) (show 0x4000 < 0x4800 by decide) (fun l => ?_) answered
  rw [entryWrite_data, ofBytesBe_word hw]
  exact ((effectMid_domains _ 2).trans (if_pos rfl)).trans effect

/-! ### One door alone -/

/-- What a command comes to once its check is made (R317, R318): `t` is the state that it finds. -/
def State.domainAnswer (t : State) (d : Door) (word : Nat) : Option (Nat × Nat) → Nat × State
  | some r => (refusalCode r.1, t.refuseDomain r)
  | none =>
    if bitField word 9 8 = 3 then (0, t.set (.domain .domainArmed) 0)
    else if bitField word 12 10 = 0 then (0, t.applyDomain d.num word)
    else (0, (t.set (.domain .domainArmed) (2 ^ 31 + word)).modDomains fun x => { x with armedDoor := d.num })

section
variable {s : State} {d : Door} {w : Nat}

/-- The state in which a door has written `DomainCommand`. -/
def State.domainWritten (s : State) (d : Door) (now : Nat) : State := s.modDomains fun x => { x with written := some (now, d.num) }

theorem writeDomainCommand_of_alone (rival : s.rivalDoor d = none) :
    s.writeDomainCommand d w = (s.domainWritten d s.time.elapsed).domainAnswer d w
      ((s.domainWritten d s.time.elapsed).domainRefusal w (bitField w 12 10 = 0)) := by
  have stands : s.beatRival d = s := by simp [State.beatRival, rival]
  simp only [State.writeDomainCommand, rival, Option.any_none, Bool.false_eq_true, if_false, stands]
  rfl

theorem applyDomain_sleep (low : bitField w 9 8 < 2) (k : Nat) :
    s.applyDomain k w = { s with due := s.due ++ [.sleep (w % 256) (bitField w 9 8)] } := if_pos low

theorem applyDomain_wake (on : bitField w 9 8 = 2) (k : Nat) :
    s.applyDomain k w = { s with due := s.due ++ [.wake ⟨8, k, w % 256, s.now⟩] } := if_neg (by omega)

theorem domainAnswer_now (command : bitField w 9 8 ≠ 3) (now : bitField w 12 10 = 0) :
    s.domainAnswer d w none = (0, s.applyDomain d.num w) := by
  rw [State.domainAnswer, if_neg command, if_pos now]

theorem domainAnswer_later (command : bitField w 9 8 ≠ 3) (later : bitField w 12 10 ≠ 0) :
    s.domainAnswer d w none =
      (0, (s.set (.domain .domainArmed) (2 ^ 31 + w)).modDomains fun x => { x with armedDoor := d.num }) := by
  rw [State.domainAnswer, if_neg command, if_neg later]

/-- A cancel is never refused (R317). -/
theorem domainRefusal_cancel {now : Bool} (target : bitField w 9 8 = 3) (short : w / 2 ^ 15 = 0) (trigger : bitField w 12 10 < 4) :
    s.domainRefusal w now = none := by
  have fine : ¬ (w / 2 ^ 15 ≠ 0 ∨ 4 < bitField w 12 10 ∨
      (bitField w 12 10 = 4 ∧ (!now) = true ∧ 2100000000 ≤ s.ahead (s.get (.domain .domainTriggerTime)))) := by omega
  simp only [State.domainRefusal, if_neg fine, target, if_true]

end

/-! ### Two doors in one cycle (R328) -/

section
variable {s : State} {d : Door} {w e : Nat}

/-- The higher door's command is refused. -/
theorem writeDomainCommand_of_lower (rival : s.rivalDoor d = some e) (lower : e < d.num) :
    s.writeDomainCommand d w = (0x08000022, s.refuseDomain (5, firstDomain w)) := by
  have ahead : decide (e < d.num) = true := decide_eq_true lower
  have behind : ¬ ((some e).any (fun e => decide (d.num < e) && e == s.domains.armedDoor) = true ∧
      (s.get (.domain .domainArmed)).testBit 31 = true) := by
    have : decide (d.num < e) = false := decide_eq_false (by omega)
    simp [this]
  have stands : s.beatRival d = s := by
    rw [State.beatRival, rival]
    exact if_neg behind
  have same : (s.modDomains fun x => { x with written := x.written }) = s := rfl
  simp only [State.writeDomainCommand, rival, Option.any_some, ahead, if_true, stands, same]
  rfl

theorem testBit_armed {v : Nat} (small : v < 2 ^ 31) : (2 ^ 31 + v).testBit 31 = true := by
  rw [Nat.testBit_two_pow_add_eq, Nat.testBit_lt_two_pow small]
  rfl

/-- The lower door's command disarms and refuses what the higher one armed. -/
theorem writeDomainCommand_of_higher {v : Nat} (rival : s.rivalDoor d = some e) (higher : d.num < e) (mine : s.domains.armedDoor = e)
    (armed : s.get (.domain .domainArmed) = 2 ^ 31 + v) (small : v < 2 ^ 31) :
    s.writeDomainCommand d w =
      ((((s.set (.domain .domainArmed) 0).refuseDomain (5, firstDomain (2 ^ 31 + v))).domainWritten d s.time.elapsed).domainAnswer d w
        ((((s.set (.domain .domainArmed) 0).refuseDomain (5, firstDomain (2 ^ 31 + v))).domainWritten d s.time.elapsed).domainRefusal w
          (bitField w 12 10 = 0))) := by
  have last : decide (e < d.num) = false := decide_eq_false (by omega)
  have beats : (some e).any (fun e => decide (d.num < e) && e == s.domains.armedDoor) = true ∧
      (s.get (.domain .domainArmed)).testBit 31 = true := ⟨by simp [higher, mine], by rw [armed]; exact testBit_armed small⟩
  have beaten : s.beatRival d = (s.set (.domain .domainArmed) 0).refuseDomain (5, firstDomain (2 ^ 31 + v)) := by
    rw [State.beatRival, rival, armed]
    rw [armed] at beats
    exact if_pos beats
  simp only [State.writeDomainCommand, rival, Option.any_some, last, Bool.false_eq_true, if_false, beaten]
  rfl

end

theorem State.Traced.time {s t : State} (h : s.Traced t) : t.time = s.time := by
  obtain ⟨_, _, _, rfl⟩ := h
  rfl

theorem State.Traced.due {s t : State} (h : s.Traced t) : t.due = s.due := by
  obtain ⟨_, _, _, rfl⟩ := h
  rfl

theorem modDomains_time (s : State) (f : DomainRt → DomainRt) : (s.modDomains f).time = s.time := rfl
theorem modDomains_due (s : State) (f : DomainRt → DomainRt) : (s.modDomains f).due = s.due := rfl

/-- A refusal is shown and traced (R318). -/
theorem traced_refuseDomain (s : State) (r : Nat × Nat) : s.Traced (s.refuseDomain r) :=
  ((State.Traced.set s _ _).trans (.flag _ _ _)).trans (traced_lensNote _ _ _ _ _ _)

/-! ### The trigger and the regulator -/

section
variable {s : State}

theorem cmdDomainTrigger_of_fine {wakes : List WakeSeen} {w : Nat} (armed : s.get (.domain .domainArmed) = 2 ^ 31 + w) (small : w < 2 ^ 31)
    (holds : s.triggerHolds w = true) (fine : (s.set (.domain .domainArmed) 0).domainRefusal w true = none) :
    s.cmdDomainTrigger wakes = ((s.set (.domain .domainArmed) 0).applyDomain s.domains.armedDoor w).meetSleep wakes := by
  have word : (2 ^ 31 + w) % 2 ^ 31 = w := by rw [Nat.add_mod_left, Nat.mod_eq_of_lt small]
  rw [State.cmdDomainTrigger]
  simp only [armed, word, testBit_armed small, holds, and_self, if_true, fine, set_domains]

theorem cmdDomainTrigger_of_refused {wakes : List WakeSeen} {w : Nat} {r : Nat × Nat} (armed : s.get (.domain .domainArmed) = 2 ^ 31 + w)
    (small : w < 2 ^ 31) (holds : s.triggerHolds w = true)
    (refused : (s.set (.domain .domainArmed) 0).domainRefusal w true = some r) :
    s.cmdDomainTrigger wakes = (s.set (.domain .domainArmed) 0).refuseDomain r := by
  have word : (2 ^ 31 + w) % 2 ^ 31 = w := by rw [Nat.add_mod_left, Nat.mod_eq_of_lt small]
  rw [State.cmdDomainTrigger]
  simp only [armed, word, testBit_armed small, holds, and_self, if_true, refused]

theorem cmdCoreRegAck_of_sleep (st : s.get (.domain .coreRegState) = 3) (noWake : s.domains.wake = none) (sleeps : s.domains.sleeping ≠ 0) :
    s.cmdCoreRegAck =
      ((s.set (.domain .coreRegState) s.coreWanted).modDomains fun x => { x with corePg := true }).sleepEnds true := by
  rw [State.cmdCoreRegAck, if_pos st, noWake]
  exact if_pos sleeps

theorem cmdCoreRegAck_of_wake {x : WakeRt} (st : s.get (.domain .coreRegState) = 3) (wake : s.domains.wake = some x) (shared : x.shared = 1)
    (goes : x.resting = false) : s.cmdCoreRegAck = (s.set (.domain .coreRegState) 2).wakeGo { x with shared := 0 } := by
  rw [State.cmdCoreRegAck, if_pos st, wake]
  exact if_pos ⟨shared, by rw [goes]; rfl⟩

theorem cmdCoreRegLowerFail_of_sleep (st : s.get (.domain .coreRegState) = 3) (noWake : s.domains.wake = none) :
    s.cmdCoreRegLowerFail = (((s.set (.domain .coreRegState) 4).raise 23 (s.get (.domain .coreRegAddress))).flag (.domain .domainEvents)
      domCoreRegFail).sleepEnds false := by
  have address : (s.set (.domain .coreRegState) 4).get (.domain .coreRegAddress) = s.get (.domain .coreRegAddress) :=
    get_set_ne s 4 (by decide)
  exact if_pos ⟨st, by rw [noWake]; rfl⟩

end

/-- A reason that a refused write answers is no wait. -/
theorem refusalCode_answers (r : Nat) : refusalCode r ≠ abWaits := by
  rw [refusalCode]
  split
  · exact show 0x06090030 ≠ abWaits by decide
  · exact show 0x08000022 ≠ abWaits by decide

/-- Settles O38: a command by its target, its trigger and the doors that wrote in the cycle. -/
theorem domainCommands : Obligations.DomainCommands := by
  intro s d word w m hw hm
  have written : s.fresh.domainWritten d s.fresh.time.elapsed = m := hm.symm
  have alone (rival : s.rivalDoor d = none) : s.fresh.writeDomainCommand d w =
      m.domainAnswer d w (m.domainRefusal w (bitField w 12 10 = 0)) := by
    rw [writeDomainCommand_of_alone (s := s.fresh) rival, written]
  have dueless : m.due = [] := by rw [hm]; rfl
  refine ⟨fun spelled takes rival target => ⟨fun now fine => ?offNow, fun later fine => ?offLater, fun r now refused => ?offRefused⟩,
    fun spelled takes rival target now fine => ?retention,
    fun spelled takes target now => ⟨fun rival fine => ?on, fun e rival lower => ?lower,
      fun e v t rival higher mine armed small ht fine => ?higher⟩,
    fun spelled takes rival target short trigger => ?cancel, fun takes => ?timer,
    fun wakes t armed small holds ht => ⟨fun fine => next_of ?trigger, fun r refused => next_of ?triggerRefused⟩,
    fun st noWake sleeps => next_of (cmdCoreRegAck_of_sleep (s := s.fresh) st noWake sleeps),
    fun x st wake shared goes => next_of (cmdCoreRegAck_of_wake (s := s.fresh) st wake shared goes),
    fun st noWake => next_of (cmdCoreRegLowerFail_of_sleep (s := s.fresh) st noWake)⟩
  case offNow =>
    refine exec_of_domainWrite hw (spelled ▸ rfl) takes ((alone rival).trans ?_) (show 0 ≠ abWaits by decide)
    rw [decide_eq_true now, fine, domainAnswer_now (by omega) now, applyDomain_sleep (by omega), dueless, target]
    rfl
  case offLater =>
    refine exec_of_domainWrite hw (spelled ▸ rfl) takes ((alone rival).trans ?_) (show 0 ≠ abWaits by decide)
    rw [decide_eq_false later, fine, domainAnswer_later (by omega) later]
  case offRefused =>
    refine exec_of_domainWrite hw (spelled ▸ rfl) takes ((alone rival).trans ?_) (refusalCode_answers r.1)
    rw [decide_eq_true now, refused, State.domainAnswer]
  case retention =>
    refine exec_of_domainWrite hw (spelled ▸ rfl) takes ((alone rival).trans ?_) (show 0 ≠ abWaits by decide)
    rw [decide_eq_true now, fine, domainAnswer_now (by omega) now, applyDomain_sleep (by omega), dueless, target]
    rfl
  case on =>
    refine exec_of_domainWrite hw (spelled ▸ rfl) takes ((alone rival).trans ?_) (show 0 ≠ abWaits by decide)
    rw [decide_eq_true now, fine, domainAnswer_now (by omega) now, applyDomain_wake target, dueless, hm]
    rfl
  case lower =>
    exact exec_of_domainWrite hw (spelled ▸ rfl) takes (writeDomainCommand_of_lower (s := s.fresh) rival lower) (by decide)
  case higher =>
    have beaten := writeDomainCommand_of_higher (s := s.fresh) (w := w) rival higher mine armed small
    rw [show ((s.fresh.set (.domain .domainArmed) 0).refuseDomain (5, firstDomain (2 ^ 31 + v))).domainWritten d s.fresh.time.elapsed = t
      from ht.symm] at beaten
    refine exec_of_domainWrite hw (spelled ▸ rfl) takes (beaten.trans ?_) (show 0 ≠ abWaits by decide)
    have time : t.now = s.now := by
      rw [State.now, ht, modDomains_time, (traced_refuseDomain _ _).time, set_time]
      rfl
    have due : t.due = [] := by
      rw [ht, modDomains_due, (traced_refuseDomain _ _).due, set_due]
      rfl
    rw [decide_eq_true now, fine, domainAnswer_now (by omega) now, applyDomain_wake target, time, due]
    rfl
  case cancel =>
    refine exec_of_domainWrite hw (spelled ▸ rfl) takes ((alone rival).trans ?_) (show 0 ≠ abWaits by decide)
    rw [domainRefusal_cancel target short trigger]
    exact if_pos target
  case timer =>
    refine exec_of_mid rfl takes rfl (show 0x3400 ≤ 0x4000 by decide) (show 0x4000 < 0x4800 by decide) (fun l => ?_) (by decide)
    rw [entryWrite_data, ofBytesBe_word hw]
    exact (effectMid_domains _ 10).trans ((if_neg (by decide)).trans (if_pos rfl))
  case trigger =>
    subst ht
    exact cmdDomainTrigger_of_fine (s := s.fresh) armed small holds fine
  case triggerRefused =>
    subst ht
    exact cmdDomainTrigger_of_refused (s := s.fresh) armed small holds refused

end Sys2Proof.Machine
end

section
/-! SUPPORT. The wake sources (R322 to R325) and the steps of a wake (R326, R327). -/

namespace Sys2Proof.Machine

/-! ### Where a source is heard -/

section
variable {s : State} {also : List WakeSeen}

/-- Some ports have no place that sleeps, or are not there. -/
theorem cmdWakeDownstreamPort_of_awake {p : Port} {how : PortWake} (awake : 2 ≤ s.domainState (s.portDomain p)) :
    s.cmdWakeDownstreamPort p how also = s := by
  rw [State.cmdWakeDownstreamPort]
  refine if_neg ?_
  rintro ⟨-, ⟨sleeps, -⟩ | ⟨off, -⟩⟩ <;> omega

theorem cmdWakeTimerExpiry_of_set {n : Nat} (set : s.domains.timerEnd = some n) :
    s.cmdWakeTimerExpiry also = (s.modDomains fun x => { x with timerEnd := none }).heard 6 0 also :=
  if_pos (by rw [set]; rfl)

/-- An enabled source alone asks for the domains of `WakeDomains` (R322, R324). -/
theorem heard_of_enabled {source detail : Nat} (on : s.domainOn 0 = true) (awake : s.domains.sleeping = 0)
    (enabled : s.sourceEnabled source detail = true) :
    s.heard source detail [] = s.wakeFor [⟨source, detail, s.get (.domain .wakeDomains), s.now⟩] 0 := by
  simp only [State.heard, on, Bool.not_true, Bool.false_eq_true, if_false, List.filter_cons, enabled, if_true, List.filter_nil,
    List.map_cons, List.map_nil, State.askWake, List.isEmpty_cons, awake, ne_eq, not_true_eq_false]
  rfl

theorem heard_of_disabled {source detail : Nat} (disabled : s.sourceEnabled source detail = false) : s.heard source detail [] = s := by
  simp only [State.heard, List.filter_cons, disabled, Bool.false_eq_true, if_false, List.filter_nil, List.map_nil, State.askWake,
    List.isEmpty_nil, if_true, ite_self]

end

/-- Settles O39: each source by the place that sleeps. -/
theorem wakeSources : Obligations.WakeSources := by
  intro s also
  exact ⟨fun p port sleeps => next_of (if_pos ⟨port, .inl ⟨sleeps, by decide⟩⟩),
    fun p port off on => next_of (if_pos ⟨port, .inr ⟨off, on, rfl⟩⟩),
    fun p how awake => next_of (cmdWakeDownstreamPort_of_awake (s := s.fresh) awake),
    fun u sleeps => next_of (if_pos (.inl ⟨sleeps, nofun⟩)), fun u off => next_of (if_pos (.inr ⟨off, rfl⟩)),
    fun k sleeps => next_of (if_pos sleeps), fun off stby => next_of (if_pos ⟨by rw [fresh_domainOn, off]; rfl, stby⟩),
    fun off strap => next_of (if_pos ⟨by rw [fresh_domainOn, off]; rfl, rfl, strap⟩),
    fun n set => next_of (cmdWakeTimerExpiry_of_set (s := s.fresh) set), fun on => next_of (if_pos on),
    fun _ _ on awake enabled => heard_of_enabled on awake enabled, fun _ _ disabled => heard_of_disabled disabled⟩

/-! ### Steps of a wake (R326) -/

section
variable {s : State} {w : WakeRt} {bad : Nat} (wake : s.domains.wake = some w)
include wake

theorem cmdWakeStepReady_core (shared : w.shared = 1) (goes : w.resting = false) :
    s.cmdWakeStepReady 255 bad = (s.set (.domain .coreRegState) 2).wakeGo { w with shared := 0 } := by
  simp only [State.cmdWakeStepReady, wake, goes, shared, if_true, Bool.false_eq_true, if_false]

theorem cmdWakeStepReady_pll (shared : w.shared = 2) (goes : w.resting = false) (xo : s.domains.xo = true) :
    s.cmdWakeStepReady 255 bad = s.lockPll.wakeGo { w with
      shared := 0, doms := w.doms.map fun x => if x.step = 2 then { x with step := 3 } else x } := by
  simp only [State.cmdWakeStepReady, wake, goes, shared, xo, if_true, Bool.false_eq_true, if_false, OfNat.ofNat_ne_one, and_self]

/-- A step of one domain is ready: what follows by its number (R326). -/
theorem cmdWakeStepReady_domain {d : Nat} {x : DomWake} (own : d ≠ 255) (found : (w.doms.find? fun y => y.d == d && !y.resting) = some x) :
    s.cmdWakeStepReady d bad =
      if x.step = 1 ∧ (w.shared ≠ 1 ∨ d = 5) then
        s.wakeGo { w with doms := w.doms.map fun z => if z.d = d then { x with step := 2, failed := 0 } else z }
      else if x.step = 3 then
        (if x.cold = true ∧ d = 1 then s.sramTest 8 21 bad else if x.cold = true ∧ d = 7 then s.sramTest 0 7 bad else s).wakeGo
          { w with doms := w.doms.map fun z => if z.d = d then { x with step := 4, failed := 0 } else z }
      else if x.step = 4 ∧ ((!underHub d) = true ∨ s.domainOn 1 = true) then
        (s.domainStarts d x.cold).wakeGo { w with doms := w.doms.filter fun z => z.d != d, woken := w.woken ||| 2 ^ d }
      else s := by
  simp only [State.cmdWakeStepReady, wake, if_neg own, found]

/-- A failed step of one domain is tried again up to four times (R327). -/
theorem cmdWakeStepTimeout_domain {d reason : Nat} {x : DomWake} (own : d ≠ 255)
    (found : (w.doms.find? fun y => y.d == d && !y.resting) = some x) (step : x.step ≠ 2) (xo : reason ≠ 5) (nack : reason ≠ 1) :
    s.cmdWakeStepTimeout d reason =
      if x.failed < 3 then
        s.modDomains fun y => { y with wake := some { w with
          doms := w.doms.map fun z => if z.d = d then { x with failed := x.failed + 1, resting := true } else z } }
      else s.wakeFails w (2 ^ d) d x.step reason := by
  simp only [State.cmdWakeStepTimeout, wake, if_neg xo, if_neg nack, if_neg own, found, if_neg step]

theorem cmdWakeStepTimeout_core {reason : Nat} (shared : w.shared = 1) (goes : w.resting = false) (few : w.failed < 3) (xo : reason ≠ 5)
    (nack : reason ≠ 1) : s.cmdWakeStepTimeout 255 reason =
      s.modDomains fun x => { x with wake := some { w with failed := w.failed + 1, resting := true } } := by
  simp only [State.cmdWakeStepTimeout, wake, if_neg xo, if_neg nack, shared, goes, if_pos few, if_true, one_ne_zero, Bool.false_eq_true,
    or_self, if_false, OfNat.one_ne_ofNat]

theorem cmdWakeStepRetry_core (rests : w.resting = true) (shared : w.shared = 1) : s.cmdWakeStepRetry 255 =
    (s.modDomains fun x => { x with wake := some { w with resting := false } }).commandCore 2 := by
  simp only [State.cmdWakeStepRetry, wake, rests, shared, if_true]

theorem cmdWakeStepRetry_domain {d : Nat} (own : d ≠ 255) : s.cmdWakeStepRetry d =
    s.modDomains fun x => { x with wake := some { w with
      doms := w.doms.map fun z => if z.d = d then { z with resting := false } else z } } := by
  simp only [State.cmdWakeStepRetry, wake, if_neg own]

end

/-- Settles O40: each step by its number and its failures. -/
theorem wakeSteps : Obligations.WakeSteps := by
  intro s w wake
  refine ⟨fun bad shared goes => next_of (cmdWakeStepReady_core (s := s.fresh) wake shared goes),
    fun bad shared goes xo => next_of (cmdWakeStepReady_pll (s := s.fresh) wake shared goes xo),
    fun d x bad own found => ?domain,
    fun reason shared goes few nack xo => next_of (cmdWakeStepTimeout_core (s := s.fresh) wake shared goes few xo nack),
    fun rests shared => next_of (cmdWakeStepRetry_core (s := s.fresh) wake rests shared),
    fun d own => next_of (cmdWakeStepRetry_domain (s := s.fresh) wake own)⟩
  have ready := cmdWakeStepReady_domain (s := s.fresh) (bad := bad) wake own found
  have late (reason : Nat) (step : x.step ≠ 2) (nack : reason ≠ 1) (xo : reason ≠ 5) :=
    cmdWakeStepTimeout_domain (s := s.fresh) wake own found step xo nack
  have third (step : x.step = 3) : ¬ (x.step = 1 ∧ (w.shared ≠ 1 ∨ d = 5)) := by omega
  refine ⟨fun step shared => next_of (ready.trans (if_pos ⟨step, .inl shared⟩)),
    fun step warm => next_of (ready.trans ((if_neg (third step)).trans ((if_pos step).trans ?warm))),
    fun step cold hub => next_of (ready.trans ((if_neg (third step)).trans ((if_pos step).trans ?cold))),
    fun step on => next_of (ready.trans ((if_neg ?first).trans ((if_neg ?notThird).trans (if_pos ⟨step, .inr on⟩)))),
    fun reason step few nack xo => next_of ((late reason step nack xo).trans (if_pos few)),
    fun reason step many nack xo => next_of ((late reason step nack xo).trans (if_neg (Nat.not_lt.2 many)))⟩
  case warm => simp only [warm, Bool.false_eq_true, false_and, if_false]
  case cold => rw [if_pos ⟨cold, hub⟩]
  case first => omega
  case notThird => omega

end Sys2Proof.Machine
end

section
/-! SUPPORT. The port power budget (R263, R264), and supplies, clocks and the temperature (R17, R210, R260, R280, R332, R407). -/

namespace Sys2Proof.Machine

/-! ### The budget (R263, R264) -/

/-- Settles O33: the passes of shedding and restoring, and one port of a restoring pass. -/
theorem powerBudget : Obligations.PowerBudget := by
  intro s policy
  refine ⟨next_of (if_pos policy), fun room => ⟨_, rfl, next_of (if_pos ⟨policy, room⟩)⟩, fun p more unmet => if_neg ?_,
    fun p more st source unshed offered less => ?_, fun full => next_of (if_neg ?_)⟩
  · rintro ⟨st, source, unshed, offered, -⟩
    exact unmet ⟨st, source, unshed, offered⟩
  · have met : s.get (.tc p .tcState) = 3 ∧ ((s.tc p).source = true) ∧ ((!s.shed p) = true) ∧
        s.get (.tc p .pdOfferPower) < s.get (.tc p .pdPortMaxPower) ∧
        s.alloc p < (if (s.tc p).explicit = true then s.offerBeside p more else rpPower (rpFor (s.offerBeside p more))) :=
      ⟨st, source, by rw [unshed]; rfl, offered, less⟩
    exact congrArg Prod.snd (if_pos met)
  · rintro ⟨-, room⟩
    exact absurd room (Nat.not_le.2 full)

/-! ### The PLL and the supplies (R17, R210, R280, R332) -/

section
variable {s : State}

theorem cmdPllUnlock_of_locked (locked : s.time.pll = true) (awake : s.domains.wake = none) : s.cmdPllUnlock =
    (((s.setClock true false).bump (.domain .pllUnlockCount)).flag (.domain .domainEvents) domPllUnlock).raise 27 0 := by
  have still : ((((s.setClock true false).bump (.domain .pllUnlockCount)).flag (.domain .domainEvents) domPllUnlock).raise 27 0).domains.wake
      = none := by
    rw [raise_domains, flag_domains, bump_domains]
    exact awake
  rw [State.cmdPllUnlock, if_pos locked]
  simp only [still]

theorem cmdPllRelock_of_unlocked (unlocked : s.time.pll = false) (enabled : s.pllEnabled = true) (xo : s.domains.xo = true)
    (awake : s.domains.wake = none) : s.cmdPllRelock = s.lockPll :=
  if_pos ⟨enabled, by rw [unlocked]; rfl, xo, by rw [awake]; rfl⟩

theorem supplyBack_of_last {n : Nat} (last : setBit s.path.supplies n false = 0) :
    s.supplyBack n = ({ s with path := { s.path with supplies := 0 } }).endLive 31 := by
  rw [State.supplyBack, last]
  exact if_pos rfl

/-- XO alone is lost where the PLL is not locked. -/
theorem cmdXoLoss_of_unlocked (unlocked : s.time.pll = false) :
    s.cmdXoLoss = (((s.modDomains fun x => { x with xo := false }).setClock s.pllEnabled false).raiseLive 26 0) := by
  rw [State.cmdXoLoss]
  refine congrArg (fun t : State => (t.setClock t.pllEnabled false).raiseLive 26 0) (if_neg ?_)
  exact Bool.eq_false_iff.1 unlocked

theorem cmdXoLoss_of_locked (locked : s.time.pll = true) (awake : s.domains.wake = none) {t : State}
    (ht : t = (((((s.modDomains fun x => { x with xo := false }).setClock true false).bump (.domain .pllUnlockCount)).flag
      (.domain .domainEvents) domPllUnlock).raise 27 0)) :
    s.cmdXoLoss = (t.setClock t.pllEnabled false).raiseLive 26 0 := by
  rw [State.cmdXoLoss, ht]
  exact congrArg (fun t : State => (t.setClock t.pllEnabled false).raiseLive 26 0)
    ((if_pos locked).trans (cmdPllUnlock_of_locked (s := s.modDomains fun x => { x with xo := false }) locked awake))

/-- The core's die is read while HUB is on: the hotter of both dies counts (R260) (log 66). -/
theorem cmdTemperatureConversion_core {reading other : Int} (on : s.domainOn 1 = true) (temp : s.path.temp = some other) {t v : State}
    (ht : t = (s.modDomains fun x => { x with temp := some reading }).setInt (.fault .dieTemperature) (max reading other))
    (hv : v = if t.getInt (.fault .thermWarnLevel) < max reading other ∧ t.live 29 = false then
        t.forEach t.allPorts fun w p => if (w.tc p).source && (w.tc p).explicit then w.queueAms p .alert else w
      else t) :
    s.cmdTemperatureConversion false reading = (v.liveIf 29 (ofSigned 32 (max reading other))
      (decide (v.getInt (.fault .thermWarnLevel) < max reading other))).liveIf 30 (ofSigned 32 (max reading other))
      (decide (v.getInt (.fault .thermCritLevel) < max reading other)) := by
  have on' : (s.modDomains fun x => { x with temp := some reading }).domainOn 1 = true := on
  have core : (s.modDomains fun x => { x with temp := some reading }).domains.temp = some reading := rfl
  have power : (s.modDomains fun x => { x with temp := some reading }).path.temp = some other := temp
  have warns : (decide (t.getInt (.fault .thermWarnLevel) < max reading other) = true ∧ (!t.live 29) = true) =
      (t.getInt (.fault .thermWarnLevel) < max reading other ∧ t.live 29 = false) := by
    rw [decide_eq_true_eq, Bool.not_eq_true']
  rw [State.cmdTemperatureConversion]
  simp only [Bool.false_eq_true, if_false, on', Bool.not_true, core, power, ← ht, warns, State.warnPartners, ← hv]

end

/-- Settles O35: each event by what it finds of the supply, the clock or the reading. -/
theorem supplyAndClockEvents : Obligations.SupplyAndClockEvents := by
  intro s
  refine ⟨fun locked awake => next_of (cmdPllUnlock_of_locked (s := s.fresh) locked awake),
    fun unlocked enabled xo awake => next_of (cmdPllRelock_of_unlocked (s := s.fresh) unlocked enabled xo awake),
    fun enabled => next_of ?vaonLow, fun disabled => next_of ?vaonOnly,
    fun last => next_of (supplyBack_of_last (s := { s.fresh with path := { s.path with vbusAon := false } }) last),
    fun n => next_of rfl, fun n last => next_of (supplyBack_of_last (s := s.fresh) last),
    fun n left => next_of (if_neg left), fun commanded good => next_of (if_pos ⟨commanded, good⟩), next_of rfl,
    fun unlocked => next_of (cmdXoLoss_of_unlocked (s := s.fresh) unlocked),
    fun locked awake => ⟨_, rfl, next_of (cmdXoLoss_of_locked (s := s.fresh) locked awake rfl)⟩, next_of rfl,
    fun w wake start => next_of (if_pos ?start),
    fun reading other on temp => ⟨_, rfl, _, rfl, next_of (cmdTemperatureConversion_core (s := s.fresh) on temp rfl rfl)⟩,
    fun reading off => next_of (if_pos ?off)⟩
  case vaonLow => exact congrArg (State.supplyOut · 0) (if_pos enabled)
  case vaonOnly => exact congrArg (State.supplyOut · 0) (if_neg (Bool.eq_false_iff.1 disabled))
  case start =>
    have found : s.fresh.domains.wake = some w := wake
    simp only [found, Option.any_some, start, BEq.rfl]
  case off =>
    exact (congrArg not off : _)

end Sys2Proof.Machine
end

section
/-! SUPPORT. The feeds (R287 to R293), the breakers (R292 to R300), port VBUS (R301) and the energy checkpoint (R303). -/

namespace Sys2Proof.Machine

/-! ### Feeds -/

section
variable {s : State} {x : Feed}

theorem cmdFeedEnFall_of_runs (runs : s.pwr = true) {t : State} (ht : t = (s.modFeed x fun f => { f with en := false }).stopFeed x) :
    s.cmdFeedEnFall x = if (t.feed x.other).en then t else t.clearTrip chanColl := by
  have runs' : (s.modFeed x fun f => { f with en := false }).pwr = true := runs
  rw [State.cmdFeedEnFall]
  simp only [runs', if_true, ← ht]
  cases (t.feed x.other).en <;> rfl

theorem cmdFeedUndervoltage_of_below {mv : Nat} {t : State} (runs : s.pwr = true)
    (ht : t = s.measure (chanOfFeed x) mv (s.getInt (.chan (chanOfFeed x) .chanCurrent))) (inside : (t.feed x).inside = true)
    (below : mv < t.get (.feed x .feedUvFall)) : s.cmdFeedUndervoltage x mv = t.leaveWindow x := by
  subst ht
  exact (if_pos runs).trans (if_pos ⟨inside, below⟩)

theorem cmdFeedOvervoltage_of_above {mv : Nat} {t : State} (runs : s.pwr = true)
    (ht : t = s.measure (chanOfFeed x) mv (s.getInt (.chan (chanOfFeed x) .chanCurrent))) (inside : (t.feed x).inside = true)
    (above : t.get (.feed x .feedOvRise) < mv) : s.cmdFeedOvervoltage x mv = t.leaveWindow x := by
  subst ht
  exact (if_pos runs).trans (if_pos ⟨inside, above⟩)

theorem cmdFeedWindowEntry_of_within {mv : Nat} {t : State} (runs : s.pwr = true)
    (ht : t = s.measure (chanOfFeed x) mv (s.getInt (.chan (chanOfFeed x) .chanCurrent))) (outside : (t.feed x).inside = false)
    (above : t.get (.feed x .feedUvRise) < mv) (below : mv < t.get (.feed x .feedOvFall)) :
    s.cmdFeedWindowEntry x mv = (t.modFeed x fun f => { f with inside := true, revHold := false }).feedsRefresh := by
  subst ht
  exact (if_pos runs).trans (if_pos ⟨congrArg not outside, above, below⟩)

/-- The watch of a feed's main FET (R293), as a condition on its readings. -/
theorem fetShorted_iff {w : CollWatch} : s.fetShorted x w = true ↔
    s.get (.chan (chanOfFeed x) .chanVoltage) ≤ w.last * 10 ∧
      (2 * s.get (.chan (chanOfFeed x) .chanVoltage) < (w.last - w.first) * 100 ∨ 50 ≤ w.most) := by
  rw [State.fetShorted, Bool.and_eq_true, decide_eq_true_eq, decide_eq_true_eq]

theorem cmdInsertionDelayExpiry_of_sound {w : CollWatch} (step : (s.feed x).step = 1)
    (fine : w.last * 10 < s.get (.chan (chanOfFeed x) .chanVoltage) ∨ (s.feed x.other).step = 5 ∨
      (w.most < 50 ∧ (w.last - w.first) * 100 ≤ 2 * s.get (.chan (chanOfFeed x) .chanVoltage))) :
    s.cmdInsertionDelayExpiry x w = (s.modFeed x fun f => { f with step := 2 }).showFeeds := by
  refine (if_pos step).trans (if_neg ?_)
  rw [fetShorted_iff]
  omega

theorem cmdInsertionDelayExpiry_of_shorted {w : CollWatch} (step : (s.feed x).step = 1) (alone : (s.feed x.other).step ≠ 5)
    (passes : s.get (.chan (chanOfFeed x) .chanVoltage) ≤ w.last * 10)
    (carries : 50 ≤ w.most ∨ 2 * s.get (.chan (chanOfFeed x) .chanVoltage) < (w.last - w.first) * 100) :
    s.cmdInsertionDelayExpiry x w = s.passDevice (chanOfFeed x) 6 w.most :=
  (if_pos step).trans (if_pos ⟨fetShorted_iff.2 ⟨passes, carries.symm⟩, alone⟩)

theorem cmdRampComplete_of_ramp (step : (s.feed x).step = 4) {t : State}
    (ht : t = (if s.get (.chan chanColl .brkState) = 1 then (s.rampEnds (chanOfFeed x)).rampEnds chanColl
      else s.rampEnds (chanOfFeed x))) :
    s.cmdRampComplete x = ((((t.modFeed x fun f => { f with step := 5 }).bump (.feed x .feedStartCount)).flag (.power .powerEvents)
      powFeedUp).showFeeds).lensBreaker (chanOfFeed x) 4 := by
  subst ht
  exact if_pos step

end

/-- Settles O36: each event of a feed by its step and its window. -/
theorem feedEvents : Obligations.FeedEvents := by
  intro s x
  exact ⟨fun runs => ⟨_, rfl, next_of (cmdFeedEnFall_of_runs (s := s.fresh) runs rfl)⟩,
    fun runs low => next_of (if_pos ⟨runs, congrArg not low⟩),
    fun mv t runs ht => ⟨fun inside below => next_of (cmdFeedUndervoltage_of_below (s := s.fresh) runs ht inside below),
      fun inside above => next_of (cmdFeedOvervoltage_of_above (s := s.fresh) runs ht inside above),
      fun outside above below => next_of (cmdFeedWindowEntry_of_within (s := s.fresh) runs ht outside above below)⟩,
    fun w step fine => next_of (cmdInsertionDelayExpiry_of_sound (s := s.fresh) step fine),
    fun w step alone passes carries => next_of (cmdInsertionDelayExpiry_of_shorted (s := s.fresh) step alone passes carries),
    fun step => next_of (if_pos step), fun step => next_of (if_pos step), fun step => next_of (if_pos step),
    fun t ht step => next_of (cmdRampComplete_of_ramp (s := s.fresh) step ht), fun turned => next_of (if_pos turned),
    fun runs hold inside => next_of (if_pos ⟨runs, hold, inside⟩)⟩

/-! ### Breakers -/

section
variable {s : State} {c : Channel} {p : Port}

theorem portOfChan_chanOf (p : Port) : portOfChan (chanOf p) = some p := (by decide : ∀ p : Port, portOfChan (chanOf p) = some p) p

theorem portOfChan_chanOfFeed (x : Feed) : portOfChan (chanOfFeed x) = none := by cases x <;> rfl

theorem chanOfFeed_ne_coll (x : Feed) : chanOfFeed x ≠ chanColl := by cases x <;> decide

/-- The feed of a feed's channel. -/
theorem feed_of_chanOfFeed (x : Feed) : (if (chanOfFeed x).val = 0 then Feed.A else .B) = x := by cases x <;> rfl

theorem hasChan_chanOf (has : s.hasPort p = true) : s.hasChan (chanOf p) = true := by
  rw [State.hasChan, portOfChan_chanOf]
  exact has

theorem hasChan_chanOfFeed (x : Feed) : s.hasChan (chanOfFeed x) = true := by
  rw [State.hasChan, portOfChan_chanOfFeed]

theorem uncountStart_of_ramp (ramps : s.get (.chan c .brkState) = 1) : s.uncountStart c = s :=
  if_neg fun h => absurd (ramps.symm.trans h.2) (by decide)

theorem cmdRampTimeout_of_ramp {mA : Nat} (has : s.hasChan c = true) (ramps : s.get (.chan c .brkState) = 1) :
    s.cmdRampTimeout c mA = (s.trip c 4 mA).flag (.power .powerEvents) powTimeout := by
  have inRamp : s.inRamp c = true := by rw [State.inRamp, ramps]; rfl
  rw [State.cmdRampTimeout, if_pos ⟨has, inRamp⟩, uncountStart_of_ramp ramps]

theorem inRamp_of_just (closed : s.get (.chan c .brkState) = 2) (ended : (s.chan c.val).rampedAt = some s.time.elapsed) :
    s.inRamp c = true := by
  rw [State.inRamp, closed, ended, beq_self_eq_true (some s.time.elapsed)]
  rfl

theorem cmdGateFailure_of_port (has : s.hasPort p = true) (ramps : s.get (.chan (chanOf p) .brkState) = 1) :
    s.cmdGateFailure (chanOf p) = s.passDevice (chanOf p) 5 (s.getInt (.chan (chanOf p) .chanCurrent)) := by
  simp only [State.cmdGateFailure, portOfChan_chanOf, ramps, BEq.rfl, and_true, if_pos (hasChan_chanOf has)]

theorem cmdGateFailure_of_feed {x : Feed} (step : (s.feed x).step = 2 ∨ (s.feed x).step = 4) : s.cmdGateFailure (chanOfFeed x) =
    s.passDevice (chanOfFeed x) 5 (s.getInt (.chan (chanOfFeed x) .chanCurrent)) := by
  have started : (chanOfFeed x != chanColl && ((s.feed x).step == 2 || (s.feed x).step == 4)) = true := by
    simpa [chanOfFeed_ne_coll] using step
  simp only [State.cmdGateFailure, portOfChan_chanOfFeed, feed_of_chanOfFeed, started, and_true, if_pos (hasChan_chanOfFeed x)]

theorem cmdPortPairShort_of_idle (runs : s.pwr = true) (has : s.hasPort p = true) (empty : (s.tc p).attach = none)
    (st : s.get (.tc p .tcState) = 1) (open_ : s.get (.chan (chanOf p) .brkState) = 0) (dry : (s.tc p).discharging = false) :
    s.cmdPortPairShort p = s.passDevice (chanOf p) 6 (s.getInt (.chan (chanOf p) .chanCurrent)) :=
  if_pos ⟨runs, has, by rw [empty]; rfl, st, open_, congrArg not dry⟩

theorem sampleOnly_of_closed {mA : Nat} (runs : s.pwr = true) (has : s.hasChan c = true) (closed : s.get (.chan c .brkState) = 2) :
    s.sampleOnly c mA = s.measureCurrent c mA := if_pos ⟨runs, has, .inr closed⟩

theorem cmdCurveTrip_of_below {mA : Nat} (below : s.curveTime c mA = none) : s.cmdCurveTrip c mA = s.sampleOnly c mA := by
  refine if_neg ?_
  rintro ⟨-, -, -, -, reached⟩
  rw [below] at reached
  exact absurd reached (by decide)

theorem cmdInstantaneousTrip_of_below {mA : Nat} (below : mA ≤ s.get (.chan c .brkInstLevel)) :
    s.cmdInstantaneousTrip c mA = s.sampleOnly c mA := if_neg fun h => absurd h.2.2.2 (Nat.not_lt.2 below)

/-- `BrkRearm` of a channel. -/
theorem effectMid_rearm {caller : Caller} {l : List (Reg × Nat)} {v : Nat} (data : List Byte) :
    s.effectMid caller (entryWrite (0x3C10 + c.val) 0x0A data) l v = (0, s.rearm c) := by
  have index : (entryWrite (0x3C10 + c.val) 0x0A data).index = 0x3C10 + c.val := rfl
  have low : ∀ n, n < 0x3C10 → ¬ (entryWrite (0x3C10 + c.val) 0x0A data).index = n := fun n h => by rw [index]; omega
  have within : 0x3C10 ≤ (entryWrite (0x3C10 + c.val) 0x0A data).index ∧ (entryWrite (0x3C10 + c.val) 0x0A data).index ≤ 0x3C22 := by
    rw [index]
    omega
  have small : (entryWrite (0x3C10 + c.val) 0x0A data).index - 0x3C10 < 19 := by
    rw [index]
    omega
  have same : (⟨(entryWrite (0x3C10 + c.val) 0x0A data).index - 0x3C10, small⟩ : Channel) = c := Fin.ext (by
    show 0x3C10 + c.val - 0x3C10 = c.val
    omega)
  rw [State.effectMid, if_neg (low _ (by decide)), if_neg (low _ (by decide)), if_neg (low _ (by decide)), if_neg (low _ (by decide)),
    if_pos within, dif_pos small, same]

theorem rearm_acts (c : Channel) : actsAtOnce (0x3C10 + c.val) 0x0A = true :=
  (by decide : ∀ c : Channel, actsAtOnce (0x3C10 + c.val) 0x0A = true) c

theorem exec_brkRearm {d : Door} (takes : s.Takes d (entryWrite (0x3C10 + c.val) 0x0A [1])) {t : State} (effect : s.fresh.rearm c = t) :
    exec (.brkRearm d c) s = .next (s.finish (t.verdict d 0)) := by
  refine exec_of_mid (row := rfl) takes (rearm_acts c) ?_ ?_ (fun l => (effectMid_rearm [1]).trans (congrArg (Prod.mk 0) effect)) (by decide)
  · show 0x3400 ≤ 0x3C10 + c.val
    omega
  · show 0x3C10 + c.val < 0x4800
    omega

theorem rearm_of_held (held : ∀ q, portOfChan c = some q → s.unitHeld (.port q) = true) (port : (portOfChan c).isSome = true) :
    s.rearm c = s := by
  obtain ⟨q, found⟩ := Option.isSome_iff_exists.1 port
  refine if_neg ?_
  rw [found, Option.any_some, held q found]
  simp only [Bool.not_true, Bool.and_false, Bool.false_eq_true, not_false_eq_true]

theorem rearm_of_free (tripped : s.tripped c = true) (free : ∀ q, portOfChan c = some q → s.unitHeld (.port q) = false) :
    s.rearm c = (s.clearTrip c).feedsRefresh := by
  have none_ : ((portOfChan c).any fun q => s.unitHeld (.port q)) = false := by
    cases found : portOfChan c with
    | none => rfl
    | some q => exact free q found
  refine if_pos ?_
  rw [tripped, none_]
  rfl

theorem rearm_of_untripped (untripped : s.tripped c = false) : s.rearm c = s := by
  refine if_neg ?_
  rw [untripped, Bool.false_and]
  decide

theorem cmdPowerGoodRise_of_sound {mv mA : Nat} {t : State} (runs : s.pwr = true) (ht : t = s.measure c mv mA) (has : s.hasChan c = true)
    (sound : t.sound c = true) (below : t.curveTime c mA = none) : s.cmdPowerGoodRise c mv mA = t.setGood c true := by
  subst ht
  exact (if_pos ⟨runs, has⟩).trans (if_pos ⟨sound, by rw [below]; rfl⟩)

/-! ### What power-good asks of a channel (R300) -/

theorem sound_port (p : Port) : s.sound (chanOf p) =
    (s.get (.chan (chanOf p) .brkState) == 2 && inRegWindow (s.tc p).mv (s.get (.chan (chanOf p) .chanVoltage))) := by
  simp only [State.sound, portOfChan_chanOf]

theorem sound_feed (x : Feed) : s.sound (chanOfFeed x) = (s.get (.chan (chanOfFeed x) .brkState) == 2 && (s.feed x).inside) := by
  simp only [State.sound, portOfChan_chanOfFeed, if_neg (chanOfFeed_ne_coll x), feed_of_chanOfFeed]

theorem sound_coll : s.sound chanColl =
    (s.get (.chan chanColl .brkState) == 2 && s.collectorNear (s.get (.chan chanColl .chanVoltage))) := rfl

/-! ### Port VBUS (R301) and the checkpoint (R303) -/

theorem cmdSoftStartComplete_of_ramp (runs : s.pwr = true) (ramps : s.get (.chan (chanOf p) .brkState) = 1) {t : State}
    (ht : t = ((s.rampEnds (chanOf p)).set (.chan (chanOf p) .brkState) 2).lensBreaker (chanOf p) 4) :
    s.cmdSoftStartComplete p = if (t.tc p).swap = 6 then
        (((t.modTc p fun x => { x with swap := 0 }).pdSend p .psRdy).set (.tc p .pdContractState) 1).flag (.pd .pdEvents) pdPrSwap
      else t := by
  subst ht
  exact if_pos ⟨runs, ramps⟩

@[simp] theorem tc_modTc_self (s : State) (p : Port) (f : TcRt → TcRt) : (s.modTc p f).tc p = f (s.tc p) := tc_setTc_self s p _

theorem cmdPortDischargeComplete_of_stopped (stopped : s.pwr = false) :
    s.cmdPortDischargeComplete p = s.modTc p fun x => { x with discharging := false, vbus := 0 } :=
  if_neg fun h => absurd (stopped.symm.trans h.1) (by decide)

theorem cmdPortDischargeComplete_of_idle (runs : s.pwr = true) (hard : (s.tc p).hardStage = 0) (swap : (s.tc p).swap = 0) :
    s.cmdPortDischargeComplete p = (s.modTc p fun x => { x with discharging := false, vbus := 0 }).vbusOn p := by
  have hard' : ((s.modTc p fun x => { x with discharging := false, vbus := 0 }).tc p).hardStage = 0 := by
    rw [tc_modTc_self]
    exact hard
  have swap' : ((s.modTc p fun x => { x with discharging := false, vbus := 0 }).tc p).swap = 0 := by
    rw [tc_modTc_self]
    exact swap
  exact if_pos ⟨runs, hard', swap'⟩

theorem cmdEnergyCheckpoint_of_running (calm : s.faults.gaspRun = none) (runs : s.boot.running = true) :
    s.cmdEnergyCheckpoint = s.checkpoint := by
  rw [State.cmdEnergyCheckpoint, calm, runs]
  rfl

theorem cmdEnergyCheckpoint_of_stopped (calm : s.faults.gaspRun = none) (stopped : s.boot.running = false) :
    s.cmdEnergyCheckpoint = { s with path := { s.path with due := true } } := by
  rw [State.cmdEnergyCheckpoint, calm, stopped]
  rfl

end

/-- Settles O37: each event by the state of its breaker. -/
theorem breakerEvents : Obligations.BreakerEvents := by
  intro s c p
  exact ⟨fun mA has ramps => next_of (cmdRampTimeout_of_ramp (s := s.fresh) has ramps),
    fun mA has closed ended => next_of (if_pos ⟨has, inRamp_of_just (s := s.fresh) closed ended⟩),
    fun has ramps => next_of (cmdGateFailure_of_port (s := s.fresh) has ramps),
    fun x step => next_of (cmdGateFailure_of_feed (s := s.fresh) step),
    fun runs has empty st open_ dry => next_of (cmdPortPairShort_of_idle (s := s.fresh) runs has empty st open_ dry),
    fun mA runs has untripped steady reached =>
      next_of (if_pos ⟨runs, has, congrArg not untripped, congrArg not steady, reached⟩),
    fun mA runs has steady above => next_of (if_pos ⟨runs, has, congrArg not steady, above⟩),
    fun mA runs has closed =>
      ⟨fun below => next_of ((cmdCurveTrip_of_below (s := s.fresh) below).trans (sampleOnly_of_closed (s := s.fresh) runs has closed)),
        fun below =>
          next_of ((cmdInstantaneousTrip_of_below (s := s.fresh) below).trans (sampleOnly_of_closed (s := s.fresh) runs has closed))⟩,
    fun d takes => ⟨fun _ held port => exec_brkRearm takes (rearm_of_held (s := s.fresh) held port),
      fun tripped free => exec_brkRearm takes (rearm_of_free (s := s.fresh) tripped free),
      fun untripped => exec_brkRearm takes (rearm_of_untripped (s := s.fresh) untripped)⟩,
    fun mv mA t runs ht has sound below => next_of (cmdPowerGoodRise_of_sound (s := s.fresh) runs ht has sound below),
    sound_port p, sound_feed, sound_coll,
    fun runs ramps => ⟨_, rfl, next_of (cmdSoftStartComplete_of_ramp (s := s.fresh) runs ramps rfl)⟩,
    fun stopped => next_of (cmdPortDischargeComplete_of_stopped (s := s.fresh) stopped),
    fun runs hard swap => next_of (cmdPortDischargeComplete_of_idle (s := s.fresh) runs hard swap),
    fun runs discharging => next_of (if_pos ⟨runs, discharging⟩),
    fun calm runs => next_of (cmdEnergyCheckpoint_of_running (s := s.fresh) calm runs),
    fun calm stopped => next_of (cmdEnergyCheckpoint_of_stopped (s := s.fresh) calm stopped)⟩

end Sys2Proof.Machine
end

section
/-! SUPPORT. The fault system's own commands (R332 to R346). -/

namespace Sys2Proof.Machine

/-! ### Reactions, windows and the pin -/

section
variable {s : State}

theorem cmdFaultReactionComplete_of_safe {r : Reaction} (safe : s.faults.safe = some r) :
    s.cmdFaultReactionComplete = (s.modFaults fun f => { f with safe := none }).reactionEnds r := by
  simp only [State.cmdFaultReactionComplete, safe]

/-- S2 ends at once, and S3 once its unit is back (R335). -/
theorem cmdFaultReactionComplete_of_over {r : Reaction} (calm : s.faults.safe = none) (runs : s.faults.running = some r)
    (four : r.level ≠ 4) (isOver : r.level = 3 → s.resetOver r.unit = true) :
    s.cmdFaultReactionComplete =
      (if r.level = 3 then (s.modFaults fun f => { f with running := none }).resetDone r.unit
        else s.modFaults fun f => { f with running := none }).reactionEnds r := by
  have ends : (if r.level = 4 then s.handedOver r else if r.level = 3 then s.resetOver r.unit else true) = true := by
    rw [if_neg four]
    split
    · exact isOver ‹_›
    · rfl
  simp only [State.cmdFaultReactionComplete, calm, runs, ends, if_true]

theorem cmdReactionWindowEnd_of_cons {w : Reaction} {rest : List Reaction} (windows : s.faults.windows = w :: rest) :
    s.cmdReactionWindowEnd = (s.modFaults fun f => { f with windows := rest }).raiseAgain w.merged := by
  simp only [State.cmdReactionWindowEnd, windows]

/-- FAULT_N is low in fail-safe, in a pulse, and while it is commanded (R345). -/
theorem level_faultN : s.level .faultN =
    levelOf (!(s.get (.fault .faultSafeState) == 1 || s.faults.pulse || s.get (.fault .faultNControl) == 1)) := rfl

theorem cmdFaultPulseEnd_of_pulse (pulse : s.faults.pulse = true) (safe : s.get (.fault .faultSafeState) = 0)
    (control : s.get (.fault .faultNControl) = 0) :
    s.cmdFaultPulseEnd = (s.modFaults fun f => { f with pulse := false }).emit (.pin .faultN .high) := by
  have low : s.faultLow = true := by
    rw [State.faultLow, level_faultN, pulse, Bool.or_true, Bool.true_or]
    rfl
  have high : (s.modFaults fun f => { f with pulse := false }).level .faultN = .high := by
    have safe' : (s.modFaults fun f => { f with pulse := false }).get (.fault .faultSafeState) = 0 := safe
    have control' : (s.modFaults fun f => { f with pulse := false }).get (.fault .faultNControl) = 0 := control
    rw [level_faultN, safe', control']
    rfl
  rw [State.cmdFaultPulseEnd, State.driveFaultN, State.faultLow, low, high]
  exact if_neg (by decide)

theorem writeFaultN_low (control : s.get (.fault .faultNControl) = 0) (safe : s.get (.fault .faultSafeState) = 0)
    (pulse : s.faults.pulse = false) :
    s.writeFaultN 1 = (s.set (.fault .faultNControl) 1).emit (.pin .faultN .low) := by
  have high : s.faultLow = false := by
    rw [State.faultLow, level_faultN, pulse, control, safe]
    rfl
  have low : (s.set (.fault .faultNControl) 1).level .faultN = .low := by
    have commanded : (s.set (.fault .faultNControl) 1).get (.fault .faultNControl) = 1 := get_set_self s _ 1
    rw [level_faultN, commanded, beq_self_eq_true, Bool.or_true]
    rfl
  rw [State.writeFaultN, State.driveFaultN, State.faultLow, high, low]
  exact if_neg (by decide)

/-! ### The CAN controller (R346, R371) -/

theorem coreRuns_of_canRuns (runs : s.canRuns = true) : s.coreRuns = true := by
  simp only [State.canRuns, Bool.and_eq_true] at runs
  obtain ⟨⟨⟨⟨⟨⟨⟨hub, clock⟩, -⟩, -⟩, -⟩, -⟩, -⟩, -⟩ := runs
  exact Bool.and_eq_true_iff.2 ⟨hub, clock⟩

theorem cmdEmcySend_of_queued {m : Emcy} {rest : List Emcy} (runs : s.canRuns = true)
    (free : ∀ t, s.doors.emcyTime = some t → t + s.get (.comm .inhibitEmcy) * 240000 ≤ s.time.elapsed) (kept : s.faults.emcyLost = 0)
    (queue : s.faults.emcy = m :: rest) :
    s.cmdEmcySend = ({ s with faults := { s.faults with emcy := rest },
                              doors := { s.doors with emcyTime := some s.time.elapsed } }).sendCan
      (s.get (.comm .cobIdEmcy) % 2048) m.bytes := by
  have free' : (s.doors.emcyTime.all fun t => decide (t + s.get (.comm .inhibitEmcy) * 240000 ≤ s.time.elapsed)) = true := by
    cases sent : s.doors.emcyTime with
    | none => rfl
    | some t =>
      rw [Option.all_some, decide_eq_true_eq]
      exact free t sent
  have goes : (!s.canRuns || !(s.doors.emcyTime.all fun t => decide (t + s.get (.comm .inhibitEmcy) * 240000 ≤ s.time.elapsed))) =
      false := Bool.or_eq_false_iff.2 ⟨congrArg not runs, congrArg not free'⟩
  unfold State.cmdEmcySend
  refine (if_neg (Bool.eq_false_iff.1 goes)).trans ((if_neg (not_not_intro kept)).trans ?_)
  rw [queue]
  rfl

theorem cmdLastGaspProgramDone_of_run {b : List Byte} (runs : s.faults.gaspRun = some b) :
    s.cmdLastGaspProgramDone = s.modFaults fun f => { f with gasp := some b, gaspRun := none } := by
  simp only [State.cmdLastGaspProgramDone, runs]

end

/-! ### Writes of the fault entries -/

section
variable {s : State} {c : Caller} {l : List (Reg × Nat)} {v : Nat} {data : List Byte}

theorem effectMid_faults (sub : Nat) : s.effectMid c (entryWrite 0x4400 sub data) l v =
    if sub = 14 then (0, s.writeFaultN v) else if sub = 16 then s.writeUnitRelease v else if sub = 17 then s.writeSafeRelease v
    else if sub = 18 then (0, s.writeSoftRaise v) else s.plainFor c.door l :=
  (if_neg (show ¬ 0x4400 = 0x3400 by decide)).trans ((if_neg (show ¬ 0x4400 = 0x3401 by decide)).trans
    ((if_neg (show ¬ 0x4400 = 0x3402 by decide)).trans ((if_neg (show ¬ 0x4400 = 0x3430 by decide)).trans
      ((if_neg (show ¬ (0x3C10 ≤ 0x4400 ∧ 0x4400 ≤ 0x3C22) by decide)).trans ((if_neg (show ¬ 0x4400 = 0x4000 by decide)).trans
        (if_pos rfl))))))

end

section
variable {s t : State} {d : Door} {code : Nat}

theorem exec_faultUnitRelease {n : Nat} (small : n < 64) (takes : s.Takes d (entryWrite 0x4400 0x10 [byteOf n]))
    (effect : s.fresh.writeUnitRelease n = (code, t)) (answered : code ≠ abWaits) :
    exec (.faultUnitRelease d n) s = .next (s.finish (t.verdict d code)) := by
  have spelled : ofBytesBe [byteOf n] = n := by
    rw [ofBytesBe_singleton]
    exact (BitVec.toNat_ofNat n 8).trans (Nat.mod_eq_of_lt (by omega))
  refine exec_of_mid (row := rfl) takes (acts := rfl) (show 0x3400 ≤ 0x4400 by decide) (show 0x4400 < 0x4800 by decide) (fun l => ?_) answered
  rw [entryWrite_data, spelled]
  exact (effectMid_faults 16).trans effect

theorem exec_faultSafeRelease (takes : s.Takes d (entryWrite 0x4400 0x11 [0xA5])) (effect : s.fresh.writeSafeRelease 0xA5 = (code, t))
    (answered : code ≠ abWaits) : exec (.faultSafeRelease d) s = .next (s.finish (t.verdict d code)) :=
  exec_of_mid (row := rfl) takes (acts := rfl) (by decide) (by decide) (fun _ => (effectMid_faults 17).trans effect) answered

theorem exec_faultSoftRaise {detail : Nat} (small : detail < 2 ^ 32) (takes : s.Takes d (entryWrite 0x4400 0x12 (bytesBe 4 detail))) :
    exec (.faultSoftRaise d detail) s = .next (s.finish ((s.fresh.raise 63 detail).verdict d 0)) := by
  refine exec_of_mid (row := rfl) takes (acts := rfl) (show 0x3400 ≤ 0x4400 by decide) (show 0x4400 < 0x4800 by decide) (fun l => ?_) (by decide)
  rw [entryWrite_data, ofBytesBe_word small]
  exact effectMid_faults 18

theorem exec_faultNControl (takes : s.Takes d (entryWrite 0x4400 0x0E [1])) (effect : s.fresh.writeFaultN 1 = t) :
    exec (.faultNControl d 1) s = .next (s.finish (t.verdict d 0)) :=
  exec_of_mid (row := rfl) takes (acts := rfl) (by decide) (by decide)
    (fun _ => (effectMid_faults 14).trans (congrArg (Prod.mk 0) effect)) (by decide)

/-- A latch clear is a clear of `FaultStatus` that names FIRST. -/
theorem exec_faultLatchClear {n : Nat} (small : n < 256) (takes : s.Takes d (entryWrite 0x4400 5 (bytesBe 4 (n * 2 ^ 24 + 1)))) :
    exec (.faultLatchClear d n) s = .next (s.finish ((s.fresh.clearEvents (.fault .faultStatus) (n * 2 ^ 24 + 1)).verdict d 0)) := by
  have row : exec (.faultLatchClear d n) s = exec (.eventFlagClear d 0x4400 5 (n % 256 * 2 ^ 24 + 1)) s := rfl
  obtain ⟨e, he, access, regs⟩ : ∃ e, entryOf 0x4400 5 = some e ∧ e.access = .rs ∧ e.regs = [.fault .faultStatus] := ⟨_, rfl, rfl, rfl⟩
  rw [row, Nat.mod_eq_of_lt small]
  exact exec_eventFlagClear s d 0x4400 5 (by omega) he access regs takes

theorem writeSafeRelease_of_safe (safe : s.get (.fault .faultSafeState) ≠ 0) (clear : ∀ n, n < 64 → s.live n = true → s.severity n ≠ 5) :
    s.writeSafeRelease 0xA5 = (0, s.releaseStart) := by
  have none_ : ((List.range 64).any fun n => s.live n && s.severity n == 5) = false := by
    rw [List.any_eq_false]
    intro n within bad
    rw [Bool.and_eq_true, beq_iff_eq] at bad
    exact clear n (List.mem_range.1 within) bad.1 bad.2
  refine (if_neg (not_not_intro rfl)).trans ((if_neg safe).trans (if_neg ?_))
  rw [none_]
  decide

theorem bitField_latchClear {n : Nat} (small : n < 256) : bitField (n * 2 ^ 24 + 1) 31 24 = n := by
  show (n * 2 ^ 24 + 1) / 2 ^ 24 % 2 ^ 8 = n
  omega

end

/-- Settles O41: reactions by their level, the entries by what they write, and the controller's events. -/
theorem faultCommands : Obligations.FaultCommands := by
  intro s d
  refine ⟨fun r calm runs two => next_of ?isolated, fun r calm runs three back => next_of ?reset,
    fun r safe => next_of (cmdFaultReactionComplete_of_safe (s := s.fresh) safe),
    fun w rest windows => next_of (cmdReactionWindowEnd_of_cons (s := s.fresh) windows),
    fun pulse safe control => next_of (cmdFaultPulseEnd_of_pulse (s := s.fresh) pulse safe control),
    fun m rest runs free kept queue => ?emcy,
    fun n small takes dead => exec_faultUnitRelease small takes (if_neg (Bool.eq_false_iff.1 dead)) (by decide),
    fun n small takes live => exec_faultUnitRelease small takes (if_pos live) (by decide),
    fun takes safe clear => exec_faultSafeRelease takes (writeSafeRelease_of_safe (s := s.fresh) safe clear) (by decide),
    fun detail small takes => exec_faultSoftRaise small takes,
    fun takes control safe pulse => exec_faultNControl takes (writeFaultN_low (s := s.fresh) control safe pulse),
    fun n small takes => ⟨fun current => ?current, fun stale => ?stale⟩,
    fun on runs => next_of (if_pos ⟨on, runs⟩),
    fun errors on here alive => next_of_core on (if_pos ⟨domainOn_of_coreRuns on, congrArg not here, congrArg not alive⟩),
    fun on off => next_of_core on (if_pos off), fun b runs => next_of (cmdLastGaspProgramDone_of_run (s := s.fresh) runs)⟩
  case isolated =>
    exact (cmdFaultReactionComplete_of_over (s := s.fresh) calm runs (by omega) (by omega)).trans
      (congrArg (State.reactionEnds · r) (if_neg (by omega)))
  case reset =>
    exact (cmdFaultReactionComplete_of_over (s := s.fresh) calm runs (by omega) fun _ => back).trans
      (congrArg (State.reactionEnds · r) (if_pos three))
  case emcy =>
    exact next_of_core (coreRuns_of_canRuns runs) (cmdEmcySend_of_queued (s := s.fresh) runs free kept queue)
  case current =>
    have now : ¬ bitField (n * 2 ^ 24 + 1) 31 24 ≠ s.fresh.clearSeq (.fault .faultStatus) := by
      rw [bitField_latchClear small, clearSeq_faultStatus]
      exact not_not_intro current
    refine (exec_faultLatchClear small takes).trans ?_
    rw [State.clearEvents, if_neg now, if_pos rfl]
  case stale =>
    refine (exec_faultLatchClear small takes).trans ?_
    rw [clearEvents_stale]
    rw [bitField_latchClear small, clearSeq_faultStatus]
    exact stale

end Sys2Proof.Machine
end

section
/-! SUPPORT. Starts of the facet, its flash, and its upstreams (R279, R350, R404 to R409, R418 to R420). -/

namespace Sys2Proof.Machine

section
variable {s : State}

/-! ### The steward boots (R417, R418) -/

/-- A single-bank start whose other bank is not valid, and that undoes no count of a last gasp (R417). -/
theorem cmdStewardBoot_of_first {ok : Bool} {sfdp : Option (Nat × Nat)} (on : s.domainOn 1 = true) (stopped : s.boot.running = false)
    (out : s.boot.inReset = false) (well : s.faults.safeRun = false) (source : s.bootSource = 2) (fits : s.bankFits 0 = true)
    (other : s.boot.valid.getD 1 false = false) (warm : s.get (.strap .resetCause) ≠ 1) :
    s.cmdStewardBoot true ok sfdp = ((s.discoverFlash sfdp).modBoot fun x => { x with valid := [true, false] }).runBank 0 := by
  obtain ⟨first, few⟩ := Bool.and_eq_true_iff.1 fits
  have goes : ¬ ((!s.domainOn 1) = true ∨ s.boot.running = true ∨ s.boot.inReset = true ∨ s.faults.safeRun = true ∨ s.bootSource = 0) := by
    simp only [on, stopped, out, well, source]
    decide
  have read : ((s.discoverFlash sfdp).modBoot fun x => { x with valid :=
      [(s.discoverFlash sfdp).boot.valid.getD 0 false && true, (s.discoverFlash sfdp).boot.valid.getD 1 false && ok] }) =
      (s.discoverFlash sfdp).modBoot fun x => { x with valid := [true, false] } := by
    have kept : (s.discoverFlash sfdp).boot.valid = s.boot.valid := rfl
    rw [kept, first, other]
    rfl
  generalize hb : ((s.discoverFlash sfdp).modBoot fun x => { x with valid := [true, false] }) = b at read ⊢
  have cause : b.get (.strap .resetCause) = s.get (.strap .resetCause) := by
    rw [← hb]
    rfl
  have source' : b.bootSource = 2 := by
    rw [← hb]
    exact source
  have fits' : b.bankFits 0 = true := by
    rw [← hb]
    exact few
  have second : (s.discoverFlash sfdp).boot.valid.getD 1 false = false := other
  have warm' : ¬ (b.get (.strap .resetCause) = 1 ∧ (!b.boot.started) = true) := fun h => warm (cause.symm.trans h.1)
  unfold State.cmdStewardBoot
  refine (if_neg goes).trans ?_
  simp only [read]
  simp only [warm', false_and, if_false, source', OfNat.ofNat_ne_one, if_true, fits', second, Bool.and_false, State.when,
    Bool.false_eq_true]

/-! ### The stored configuration loads (R420, R421) -/

theorem setAll_boot (s : State) (l : List (Reg × Nat)) : (s.setAll l).boot = s.boot :=
  forEach_keeps (P := fun t => t.boot = s.boot) l (fun _ _ h => h) rfl

theorem loadCopy_boot (whole : s.boot.restart = false) (c : Option Stored) : (s.loadCopy c).boot = s.boot := by
  unfold State.loadCopy
  rw [set_boot]
  dsimp only
  rw [if_neg (Bool.eq_false_iff.1 whole), setAll_boot]

/-- A loaded copy, with or without the raise that a lost copy brings. -/
theorem loadCopy_when_boot (whole : s.boot.restart = false) (c : Option Stored) (b : Bool) :
    ((s.loadCopy c).when b fun t => t.raise 57 0x020000).boot = s.boot := by
  cases b <;> exact loadCopy_boot whole c

/-- A copy that stands alone loads. -/
theorem newerCopy_none (a : Option Stored) : newerCopy a none = a := by cases a <;> rfl

/-- What a cold start makes of a loaded configuration before the gasp is shown: the ports of the links, then the feeds, in `t` at the base
frequency `base`. -/
theorem cmdConfigLoad_of_cold {ok : Bool} {v t u : State} {base : Int} (on : s.domainOn 1 = true) (runs : s.boot.running = true)
    (cold : s.boot.started = false) (loaded : s.boot.recovery = false) (whole : s.boot.restart = false) (single : s.cfg.copyB = none)
    (hv : v = ((s.loadCopy (if ok then s.cfg.copyA else none)).when
      ((if ok then s.cfg.copyA else none).isNone && !s.cfg.copyA.isNone) fun t => t.raise 57 0x020000).modBoot (fun x =>
        { x with started := true, waiting := true, restart := false, aonLoaded := true }))
    (ht : t = (v.forEach (v.allPorts.filter fun p => v.wired p) fun w p => w.setPst p 8).drivePins)
    (hbase : base = if t.get (.time .servoState) = 0 then t.getInt (.time .timeFocalTrim) * 256 else t.storedFreq)
    (hu : u = (({ t with time := { t.time with base := base } }).setFreq base).powerCommitted.resumeEnergy)
    (none_ : u.faults.gasp = none) :
    s.cmdConfigLoad ok true = u.canBoot.wakeFor [⟨0, 0, 0xFC, u.now⟩] 0 := by
  have goes : s.domainOn 1 = true ∧ s.boot.running = true ∧ (!s.boot.started) = true ∧ (!s.boot.recovery) = true :=
    ⟨on, runs, congrArg not cold, congrArg not loaded⟩
  generalize hr : ((s.loadCopy (if ok then s.cfg.copyA else none)).when
    ((if ok then s.cfg.copyA else none).isNone && !s.cfg.copyA.isNone) fun t => t.raise 57 0x020000) = r at hv
  have quiet : r.boot.restart = false := by
    rw [← hr, loadCopy_when_boot whole, whole]
  unfold State.cmdConfigLoad
  refine (if_pos goes).trans ?_
  simp only [single, if_true, newerCopy_none, Option.isNone_none, Bool.and_true, hr, quiet, Bool.not_false, Bool.or_true, ← hv, ← ht,
    ← hbase, ← hu, none_, Bool.false_eq_true, if_false]

/-! ### What the flash answers (R379, R107) -/

theorem cmdConfigStoreDone_of_storing (storing : s.cfg.storing = true) (runs : s.boot.running = true) (ok : Bool) {t : State}
    (ht : t = { s with cfg := { s.cfg with storing := false } }) : s.cmdConfigStoreDone ok =
      if ok then t.store.set (.commit .configCommitResult) 1
      else ((t.set (.commit .configCommitResult) 4).raise 57 s.storeSector).flag (.doors .doorEvents) doorStoreFail := by
  subst ht
  exact if_pos ⟨storing, runs⟩

theorem cmdPrismStoreDone_of_storing (storing : s.cfg.prismStore = true) (runs : s.boot.running = true) (ok : Bool) {t : State}
    (ht : t = { s with cfg := { s.cfg with prismStore := false } }) : s.cmdPrismStoreDone ok =
      if ok then t.store.when (t.get (.lock .prismCommitResult) == 3) fun s => s.set (.lock .prismCommitResult) 1
      else (t.raise 57 s.storeSector).flag (.doors .doorEvents) doorStoreFail := by
  subst ht
  exact if_pos ⟨storing, runs⟩

/-- The store of a prism commit that has succeeded shows its end (R111). -/
theorem cmdPrismStoreDone_of_committed (storing : s.cfg.prismStore = true) (runs : s.boot.running = true)
    (three : s.get (.lock .prismCommitResult) = 3) : s.cmdPrismStoreDone true =
      ({ s with cfg := { s.cfg with prismStore := false } }).store.set (.lock .prismCommitResult) 1 := by
  have three' : ({ s with cfg := { s.cfg with prismStore := false } } : State).get (.lock .prismCommitResult) = 3 := three
  rw [cmdPrismStoreDone_of_storing storing runs true rfl, if_pos rfl, three', State.when, if_pos (beq_self_eq_true 3)]

/-- A steward that stands still stores nothing (R23) (log 104). -/
theorem cmdConfigStoreDone_of_stopped (stopped : s.boot.running = false) (ok : Bool) : s.cmdConfigStoreDone ok = s :=
  if_neg fun h => absurd (stopped.symm.trans h.2) (by decide)

theorem cmdPrismStoreDone_of_stopped (stopped : s.boot.running = false) (ok : Bool) : s.cmdPrismStoreDone ok = s :=
  if_neg fun h => absurd (stopped.symm.trans h.2) (by decide)

/-- A command of the core's logic that changes nothing there changes nothing at all. -/
theorem whenCore_of_unchanged {f : State → State} (same : f s = s) : s.whenCore f = s := by
  cases on : s.coreRuns with
  | true => rw [whenCore_on on, same]
  | false => exact whenCore_off on f

/-! ### Upstreams (R279) -/

@[simp] theorem up_modUp_self (s : State) (u : Upstream) (f : UpRt → UpRt) : (s.modUp u f).up u = f (s.up u) := by
  simp [State.up, State.modUp, State.setUp]

theorem cmdUpstreamAttach_of_new {u : Upstream} {rp : Nat} {v w : State} (on : s.domainOn 2 = true)
    (gone : (s.up u).attached = false ∨ (s.up u).vbus = false)
    (hv : v = s.modUp u fun x => { x with attached := true, vbus := true })
    (hw : w = if (s.up u).presents = .nothing then v else v.setUpSpeed u 2) :
    s.cmdUpstreamAttach u rp = ((w.set (.pd .tcUpstreamRp)
      (putBits (w.get (.pd .tcUpstreamRp)) (2 * u.num + 1) (2 * u.num) rp)).endLive (32 + u.num)).showUp u := by
  have away : (!((s.up u).attached && (s.up u).vbus)) = true := by
    rcases gone with gone | gone
    · rw [gone]
      rfl
    · rw [gone, Bool.and_false]
      rfl
  have presents : (v.up u).presents = (s.up u).presents := by
    rw [hv, up_modUp_self]
  rw [← presents] at hw
  subst hv hw
  exact if_pos ⟨on, away⟩

end

/-- Settles O42: each start and stop, the boots and loads of a first start, and what the flash and the upstreams report. -/
theorem startUpCommands : Obligations.StartUpCommands := by
  intro s
  exact ⟨⟨_, rfl, next_of rfl⟩, fun off out => next_of (if_pos ⟨off, congrArg not out⟩), next_of rfl, fun held => next_of (if_pos held),
    next_of rfl, fun ok sfdp on stopped out well source fits other warm =>
      next_of_core on (cmdStewardBoot_of_first (s := s.fresh) (domainOn_of_coreRuns on) stopped out well source fits other warm),
    fun ok on runs cold loaded whole single => ⟨_, rfl, _, rfl, _, rfl, fun none_ => next_of_core on
      (cmdConfigLoad_of_cold (s := s.fresh) (domainOn_of_coreRuns on) runs cold loaded whole single rfl rfl rfl rfl none_)⟩,
    fun u rp v w on gone hv hw => next_of (cmdUpstreamAttach_of_new (s := s.fresh) on gone hv hw),
    fun on started waits settled => next_of_core on (if_pos ⟨started, waits, settled⟩),
    fun on runs storing => ⟨_, rfl, next_of_core on (cmdConfigStoreDone_of_storing (s := s.fresh) storing runs true rfl),
      next_of_core on (cmdConfigStoreDone_of_storing (s := s.fresh) storing runs false rfl)⟩,
    fun stopped => ⟨next_of (whenCore_of_unchanged (cmdConfigStoreDone_of_stopped (s := s.fresh) stopped true)),
      next_of (whenCore_of_unchanged (cmdPrismStoreDone_of_stopped (s := s.fresh) stopped true))⟩,
    fun on runs storing => ⟨_, rfl, next_of_core on (cmdPrismStoreDone_of_storing (s := s.fresh) storing runs false rfl),
      fun three => next_of_core on (cmdPrismStoreDone_of_committed (s := s.fresh) storing runs three)⟩⟩

end Sys2Proof.Machine
end

section
/-! SUPPORT. What sending a frame and reading an entry leave of the doors' own records: all (R86, R87, R187, R430). -/

namespace Sys2Proof.Machine

/-! ### Sending -/

section
variable (s : State) (k : Link)

theorem ite_doors {p : Prop} [Decidable p] {s t u : State} (yes : t.doors = s.doors) (no : u.doors = s.doors) :
    (if p then t else u).doors = s.doors := by
  split
  · exact yes
  · exact no

theorem forEach_doors {α : Type} (s : State) (l : List α) {f : State → α → State} (step : ∀ t a, (f t a).doors = t.doors) :
    (s.forEach l f).doors = s.doors := forEach_keeps (P := fun t => t.doors = s.doors) l (fun t a h => (step t a).trans h) rfl

theorem State.Traced.doors {s t : State} (h : s.Traced t) : t.doors = s.doors := by
  obtain ⟨_, _, _, rfl⟩ := h
  rfl

@[simp] theorem modLink_doors (f : LinkRt → LinkRt) : (s.modLink k f).doors = s.doors := rfl
@[simp] theorem emitFrame_doors (f : Frame) (corrupt stomped : Bool) : (s.emitFrame k f corrupt stomped).doors = s.doors := rfl
@[simp] theorem spendCredit_doors (f : Frame) : (s.spendCredit k f).doors = s.doors := rfl
@[simp] theorem lensCount_doors (g pl n : Nat) : (s.lensCount g pl n).doors = s.doors := rfl
@[simp] theorem lensFrame_doors (sent : Bool) (f : Frame) : (s.lensFrame k sent f).doors = s.doors := (traced_lensNote s _ _ _ _ _).doors

@[simp] theorem provoke_doors (n pl : Nat) : (s.provoke n pl).2.doors = s.doors := by
  unfold State.provoke
  split
  · split
    · dsimp only
      split
      · rw [lensCount_doors, bump_doors]
      · rfl
    · rfl
  · rfl

@[simp] theorem countSent_doors (f : Frame) : (s.countSent k f).doors = s.doors := by
  have counted (t : State) (g : Nat) : ∀ (p : Prop) [Decidable p], (if p then t.lensCount g (placeLink k) 1 else t).doors = t.doors :=
    fun p _ => ite_doors rfl rfl
  unfold State.countSent
  refine (ite_doors (lensFrame_doors _ k true f) rfl).trans ?_
  rw [counted, counted, lensCount_doors]

@[simp] theorem stampEcho_doors (f : Frame) : (s.stampEcho k f).2.doors = s.doors := by
  unfold State.stampEcho
  split <;> rfl

@[simp] theorem transmit_doors (f : Frame) : (s.transmit k f).doors = s.doors := by
  unfold State.transmit
  dsimp only
  refine ite_doors (ite_doors ?dropped (ite_doors ?reordered ?sent)) ?fresh
  case dropped => simp only [countSent_doors, provoke_doors, modLink_doors, spendCredit_doors]
  case reordered => simp only [countSent_doors, provoke_doors, modLink_doors, spendCredit_doors]
  case sent =>
    rw [modLink_doors, forEach_doors _ _ fun t g => emitFrame_doors t k g false false]
    simp only [emitFrame_doors, countSent_doors, provoke_doors, modLink_doors, spendCredit_doors]
  case fresh => simp only [emitFrame_doors, countSent_doors, stampEcho_doors, spendCredit_doors]

@[simp] theorem noteStalls_doors : (s.noteStalls k).doors = s.doors := rfl

@[simp] theorem drainLink_doors (fuel : Nat) : (s.drainLink k fuel).doors = s.doors := by
  induction fuel generalizing s with
  | zero => rfl
  | succ n ih =>
    unfold State.drainLink
    split
    · rfl
    · rw [ih, transmit_doors, modLink_doors]

@[simp] theorem resend_doors (l : List Frame) : (s.resend k l).doors = s.doors := by
  induction l generalizing s with
  | nil => rfl
  | cons f rest ih => exact ite_doors (ih _) rfl

@[simp] theorem sendOn_doors (f : Frame) : (s.sendOn k f).doors = s.doors := by
  rw [State.sendOn, State.drain, drainLink_doors, resend_doors, modLink_doors]

@[simp] theorem sendTo_doors (uid typ image tag : Nat) (body : RingBody) : (s.sendTo uid typ image tag body).doors = s.doors := by
  unfold State.sendTo
  refine ite_doors rfl ?_
  split
  · rfl
  · split
    · exact sendOn_doors _ _ _
    · rfl

end

/-! ### Reading -/

section
variable (s : State) (d : Door)

@[simp] theorem rewindStream_doors (n : Nat) : (s.rewindStream n).doors = s.doors := rfl

@[simp] theorem cutDelivery_doors : (s.cutDelivery d).doors = s.doors := forEach_doors _ _ fun t n => rewindStream_doors t n

@[simp] theorem startDelivery_doors : (s.startDelivery d).doors = s.doors := by
  unfold State.startDelivery
  refine ite_doors rfl ?_
  split
  · rfl
  · refine ite_doors rfl ?_
    dsimp only
    refine ite_doors ?lost ?next
    case lost =>
      refine (show (State.setSession _ d _).doors = _ from ite_doors rfl ?_)
      rw [flag_doors, bump_doors]
      rfl
    case next => split <;> rfl

@[simp] theorem readSession_doors (fuel limit : Nat) (acc : List Byte) : (s.readSession d fuel limit acc).2.doors = s.doors := by
  induction fuel generalizing s acc with
  | zero => rfl
  | succ n ih =>
    have start := startDelivery_doors s d
    unfold State.readSession
    dsimp only
    split
    · exact start
    · split
      · split
        · exact start
        · exact start
      · split
        · exact start
        · split
          · exact (ih _ _).trans start
          · split
            · exact start
            · exact start

@[simp] theorem modSession_doors (f : SessRt → SessRt) : (s.modSession d f).doors = s.doors := rfl

@[simp] theorem countRemote_doors (b : List Byte) : (s.countRemote d b).doors = s.doors :=
  (count_doors _ _ _).trans (modSession_doors _ _ _)

@[simp] theorem doorTo_doors (uid op idx sub length : Nat) (data : List Byte) : (s.doorTo d uid op idx sub length data).2.doors = s.doors := by
  unfold State.doorTo
  dsimp only
  rw [sendTo_doors]
  rfl

@[simp] theorem readSessionData_doors (via : Door) (limit : Nat) (remote : List Byte) :
    (s.readSessionData via d limit remote).2.doors = s.doors := by
  unfold State.readSessionData
  split
  · rfl
  · split
    · dsimp only
      rw [modSession_doors, readSession_doors]
      exact ite_doors (cutDelivery_doors s d) rfl
    · split
      · rfl
      · rw [countRemote_doors, doorTo_doors]

@[simp] theorem readLens_doors (limit : Nat) : (s.readLens limit).2.doors = s.doors := by
  have errors (l : List Nat) (t : State) : (t.forEach l fun s _ => s.flag (.lens .lensEvents) lensExtError).doors = t.doors :=
    forEach_doors t l fun t _ => flag_doors t _ _
  unfold State.readLens
  dsimp only
  rw [set_doors, errors]

@[simp] theorem raise_doors (source detail : Nat) : (s.raise source detail).doors = s.doors := rfl

@[simp] theorem latchFraction_doors : s.latchFraction.doors = s.doors := rfl

/-- An answer is counted. -/
@[simp] theorem answered_doors (code : Nat) : (s.answered d code).doors = s.doors := by
  unfold State.answered
  refine ite_doors (bump_doors _ _) (ite_doors ?denied (ite_doors ?busy rfl))
  case denied => rw [raise_doors, flag_doors, bump_doors]
  case busy => rw [flag_doors, bump_doors]

@[simp] theorem doorRead_doors (c : Caller) (idx sub : Nat) (staged : Bool) (offset len limit : Nat) (remote : List Byte) :
    (s.doorRead c idx sub staged offset len limit remote).2.2.doors = s.doors := by
  unfold State.doorRead
  dsimp only
  split
  · exact answered_doors _ _ _
  · rw [answered_doors]
    rw [apply_ite State.doors, latchFraction_doors, ite_self]
    split
    · exact readLens_doors _ _
    · split
      · split
        · exact readSessionData_doors _ _ _ _ _
        · rfl
      · rfl

end

end Sys2Proof.Machine
end

section
/-! SUPPORT. Commands at the doors, answers that wait, and notifications (R362 to R370, R451). -/

namespace Sys2Proof.Machine

/-! ### The bytes of a command (R364) -/

section
variable (op facet tag idx sub flags offset length : Nat) (data : List Byte)

theorem doorBytes_length : (doorBytes op facet tag idx sub flags offset length data).length = 16 + data.length := by
  show data.length + 16 = 16 + data.length
  omega

theorem doorBytes_drop : (doorBytes op facet tag idx sub flags offset length data).drop 16 = data := rfl

variable {op facet tag idx sub flags offset length data}

theorem byteOf_toNat {n : Nat} (h : n < 256) : (byteOf n).toNat = n := (BitVec.toNat_ofNat n 8).trans (Nat.mod_eq_of_lt h)

theorem doorBytes_op (h : op < 256) : byteAt (doorBytes op facet tag idx sub flags offset length data) 0 = op := byteOf_toNat h
theorem doorBytes_sub (h : sub < 256) : byteAt (doorBytes op facet tag idx sub flags offset length data) 6 = sub := byteOf_toNat h
theorem doorBytes_flags (h : flags < 256) : byteAt (doorBytes op facet tag idx sub flags offset length data) 7 = flags := byteOf_toNat h

theorem doorBytes_index (h : idx < 65536) : fieldAt (doorBytes op facet tag idx sub flags offset length data) 4 2 = idx :=
  ofBytesBe_bytesBe_of_lt (n := 2) h

theorem doorBytes_offset (h : offset < 2 ^ 32) : fieldAt (doorBytes op facet tag idx sub flags offset length data) 8 4 = offset :=
  ofBytesBe_word h

theorem doorBytes_count (h : length < 65536) : fieldAt (doorBytes op facet tag idx sub flags offset length data) 12 2 = length :=
  ofBytesBe_bytesBe_of_lt (n := 2) h

theorem doorBytes_reserved : fieldAt (doorBytes op facet tag idx sub flags offset length data) 14 2 = 0 :=
  ofBytesBe_bytesBe_of_lt (n := 2) (by decide)

theorem boolNat_lt (b : Bool) : boolNat b < 2 := by cases b <;> decide

theorem boolNat_testBit (b : Bool) : (boolNat b).testBit 0 = b := by cases b <;> rfl

/-- A read of the board's is well formed at every door. -/
theorem wellFormed_read (d : Door) (staged : Bool) :
    wellFormedCommand d (doorBytes 1 facet tag idx sub (boolNat staged) offset length []) = true := by
  have flags := boolNat_lt staged
  simp only [wellFormedCommand, doorBytes_length, doorBytes_op (show 1 < 256 by decide), doorBytes_flags (show boolNat staged < 256 by omega),
    doorBytes_reserved, flags, List.length_nil, if_neg (show ¬ 1 = 2 by decide)]
  rfl

/-- A write whose data the CAN door may carry is well formed there. -/
theorem wellFormed_write (short : data.length ≤ 1024) :
    wellFormedCommand .can (doorBytes 2 facet tag idx sub 0 offset data.length data) = true := by
  simp only [wellFormedCommand, doorBytes_length, doorBytes_op (show 2 < 256 by decide), doorBytes_flags (show 0 < 256 by decide),
    doorBytes_reserved, doorBytes_count (show data.length < 65536 by omega), if_pos, Nat.add_comm data.length 16, Nat.le_add_right, decide_true]
  exact decide_eq_true short

end

/-! ### The CAN and LOC doors -/

section
variable {s : State}

theorem cmdDoorRead_can {facet tag idx sub : Nat} {staged : Bool} {offset len : Nat} {remote : List Byte} (reach : s.doorReach .can = true)
    (index : idx < 65536) (small : sub < 256) (off : offset < 2 ^ 32) (count : len < 65536) :
    s.cmdDoorRead .can facet tag idx sub staged offset len remote =
      ((s.doorRead (callerAt .can) idx sub staged offset len 1024 remote).2.2.readDone .can).emit (.verdict .can
        (s.doorRead (callerAt .can) idx sub staged offset len 1024 remote).1
        (s.doorRead (callerAt .can) idx sub staged offset len 1024 remote).2.1) := by
  have flags := boolNat_lt staged
  refine (if_pos reach).trans ?_
  simp only [State.directCommand, wellFormed_read, Bool.not_true, Bool.false_eq_true, if_false, doorBytes_op (show 1 < 256 by decide), if_true,
    doorBytes_index index, doorBytes_sub small, doorBytes_flags (show boolNat staged < 256 by omega), boolNat_testBit, doorBytes_offset off,
    doorBytes_count count]

theorem cmdDoorWrite_can {facet tag : Nat} {w : RegWrite} (reach : s.doorReach .can = true)
    (index : w.index < 65536) (small : w.sub < 256) (off : w.offset < 2 ^ 32) (short : w.data.length ≤ 1024) :
    s.cmdDoorWrite .can facet tag w =
      (s.doorWrite (callerAt .can) w false).2.writeVerdict .can (s.doorWrite (callerAt .can) w false).1 := by
  refine (if_pos reach).trans ?_
  simp only [State.directCommand, wellFormed_write short, Bool.not_true, Bool.false_eq_true, if_false, doorBytes_op (show 2 < 256 by decide),
    OfNat.ofNat_ne_one, doorBytes_index index, doorBytes_sub small, doorBytes_offset off, doorBytes_drop]

theorem cmdLocBlockWrite_closed {b : List Byte} {pecOk : Bool} (on : s.domainOn 1 = true) (closed : s.doorOpen .loc = false) :
    s.cmdLocBlockWrite b pecOk = s.emit (.closed .loc) := by
  rw [State.cmdLocBlockWrite, on, closed]
  rfl

theorem cmdLocBlockWrite_damaged {b : List Byte} (on : s.domainOn 1 = true) (opened : s.doorOpen .loc = true)
    (pec : s.isTrue (.loc .locPec) = true) : s.cmdLocBlockWrite b false = s.bump (.loc .locPecErrorCount) := by
  rw [State.cmdLocBlockWrite, on, opened, pec]
  rfl

/-- A door without a command of its own has nothing to work off. -/
theorem pumpDoor_idle {d : Door} {remote : List Byte} {n : Nat} (idle : (s.doors.forwarded.find? fun f => f.door == d) = none) :
    State.pumpDoor d remote n s = s := by
  cases n with
  | zero => rfl
  | succ n =>
    unfold State.pumpDoor
    rw [idle]

/-- A command that this facet serves at once (R364). -/
theorem pumpDoor_served {d : Door} {remote : List Byte} {n : Nat} {f : Forward} {t : State} {r : Nat × List Byte × State}
    (first : (s.doors.forwarded.find? fun f => f.door == d) = some f) (new : f.tag = none) (good : wellFormedCommand d f.bytes = true)
    (opened : s.doorOpen d = true) (here : s.commandTarget f.bytes = none)
    (ht : t = { s with doors := { s.doors with forwarded := s.doors.forwarded.erase f } })
    (hr : r = t.execCommand (callerAt d) f.bytes remote) (answered : r.1 ≠ abWaits) :
    State.pumpDoor d remote (n + 1) s = State.pumpDoor d remote n (r.2.2.deliver d r.2.1) := by
  conv_lhs => unfold State.pumpDoor
  simp only [first]
  refine (if_neg (by rw [new]; decide)).trans ((if_neg (by rw [good]; decide)).trans ((if_neg (by rw [opened]; decide)).trans ?_))
  rw [here, ← ht]
  simp only [← hr]
  exact if_neg answered

/-- A read command leaves the doors' records as they were. -/
theorem execCommand_read_doors {c : Caller} {b remote : List Byte} (read : byteAt b 0 = 1) : (s.execCommand c b remote).2.2.doors = s.doors := by
  have kept := doorRead_doors s c (fieldAt b 4 2) (byteAt b 6) ((byteAt b 7).testBit 0) (fieldAt b 8 4) (fieldAt b 12 2) (doorLimit c.via)
    remote
  unfold State.execCommand
  dsimp only
  rw [if_pos read]
  exact kept

/-- A command's facet is judged by this facet's index alone. -/
theorem commandTarget_of_index {t : State} (same : t.get (.ring .facetIndex) = s.get (.ring .facetIndex)) (b : List Byte) :
    t.commandTarget b = s.commandTarget b := by
  rw [State.commandTarget, State.ownIndex, same]
  rfl

/-- The reads that are cut off leave the facet's index and its straps. -/
theorem cutReads_keeps (via : Door) : (s.cutReads via).get (.ring .facetIndex) = s.get (.ring .facetIndex) ∧
    (s.cutReads via).straps = s.straps := by
  refine forEach_keeps (P := fun t => t.get (.ring .facetIndex) = s.get (.ring .facetIndex) ∧ t.straps = s.straps) allDoors
    (fun t d h => ?_) ⟨rfl, rfl⟩
  split
  · refine forEach_keeps (P := fun t => t.get (.ring .facetIndex) = s.get (.ring .facetIndex) ∧ t.straps = s.straps) _ (fun t n h => ?_) h
    obtain ⟨index, straps⟩ := h
    refine ⟨?_, straps⟩
    rw [State.rewindStream, get_set_ne]
    · exact index
    · nofun
  · exact h

/-- The LOC door that holds no command, in any state `q` with the doors' records `x`, works off a read that has just come. -/
theorem pumpDoor_read {q : State} {x : DoorRt} {b : List Byte} {r : Nat × List Byte × State} (opened : q.straps.testBit 3 = true)
    (kept : x.shut.testBit 3 = false) (idle : x.forwarded = []) (good : wellFormedCommand .loc b = true) (read : byteAt b 0 = 1)
    (here : q.commandTarget b = none) (hr : r = ({ q with doors := x } : State).execCommand (callerAt .loc) b []) (answered : r.1 ≠ abWaits) :
    State.pumpDoor .loc [] 16 { q with doors := { x with forwarded := [⟨.loc, none, false, b⟩] } } = r.2.2.deliver .loc r.2.1 := by
  have left : r.2.2.doors = x := by
    rw [hr, execCommand_read_doors read]
  have target : ({ q with doors := { x with forwarded := [⟨.loc, none, false, b⟩] } } : State).commandTarget b = none :=
    (commandTarget_of_index (s := q) rfl b).trans here
  refine (pumpDoor_served (f := ⟨.loc, none, false, b⟩) (r := r) (t := { q with doors := x }) rfl rfl good ?opened target ?dropped hr
    answered).trans (pumpDoor_idle ?done)
  case opened =>
    show (q.straps.testBit 3 && !x.shut.testBit 3) = true
    rw [opened, kept]
    rfl
  case dropped =>
    have same : x = { x with forwarded := ([⟨.loc, none, false, b⟩] : List Forward).erase ⟨.loc, none, false, b⟩ } := by
      rw [List.erase_cons_head, ← idle]
    exact congrArg (fun y => ({ q with doors := y } : State)) same
  case done =>
    have none_ : (r.2.2.deliver .loc r.2.1).doors.forwarded = r.2.2.doors.forwarded := rfl
    rw [none_, left, idle]
    rfl

/-- A Block Write that brings a read, at a LOC door that holds no command (R368). -/
theorem cmdLocBlockWrite_read {b : List Byte} {r : Nat × List Byte × State} (on : s.domainOn 1 = true) (opened : s.doorOpen .loc = true)
    (idle : s.doors.forwarded = []) (good : wellFormedCommand .loc b = true) (read : byteAt b 0 = 1) (here : s.commandTarget b = none)
    (hr : r = ({ s.cutReads .loc with doors := { s.doors with loc := none } }).execCommand (callerAt .loc) b []) (answered : r.1 ≠ abWaits) :
    s.cmdLocBlockWrite b true = r.2.2.deliver .loc r.2.1 := by
  have pec : ¬ (s.isTrue (.loc .locPec) = true ∧ (!true) = true) := fun h => absurd h.2 (by decide)
  obtain ⟨index, straps⟩ := cutReads_keeps (s := s) .loc
  have target : (s.cutReads .loc).commandTarget b = none := (commandTarget_of_index index b).trans here
  obtain ⟨strap, unshut⟩ : s.straps.testBit 3 = true ∧ (!s.doors.shut.testBit 3) = true := Bool.and_eq_true_iff.1 opened
  have pumped := pumpDoor_read (q := s.cutReads .loc) (x := { s.doors with loc := none }) (by rw [straps, strap])
    (Bool.not_eq_true' _ ▸ unshut) idle good read target hr answered
  rw [State.cmdLocBlockWrite, if_neg (by rw [on]; decide), if_neg (by rw [opened]; decide), if_neg pec]
  simp only [State.arrive, on, opened, Bool.not_true, Bool.false_eq_true, if_false, idle, List.filter_nil, List.nil_append]
  exact pumped

theorem cmdLocBlockRead_empty (on : s.domainOn 1 = true) (opened : s.doorOpen .loc = true) (none_ : s.doors.loc = none) :
    s.cmdLocBlockRead = s.emit (.door .loc [0xFE]) := by
  simp only [State.cmdLocBlockRead, on, opened, none_, Bool.not_true, Bool.false_eq_true, if_false]

theorem cmdLocBlockRead_answer {a : List Byte} (on : s.domainOn 1 = true) (opened : s.doorOpen .loc = true) (some_ : s.doors.loc = some a) :
    s.cmdLocBlockRead = ((s.modDoors fun x => { x with loc := none }).readDone .loc).emit (.door .loc a) := by
  simp only [State.cmdLocBlockRead, on, opened, some_, Bool.not_true, Bool.false_eq_true, if_false]
  rfl

/-! ### A peer's command (R369) -/

theorem cmdDoor_of_new {k : Link} {h : FrameHdr} {origin : Door} {b remote : List Byte} {r : State}
    (took : s.receive k h 7 (.door origin (.command b)) = (true, r)) (on : r.domainOn 1 = true) (well : r.faults.safeRun = false)
    (new : ∀ e ∈ r.ring.doorSeen, e.1 ≠ h.src ∨ e.2.1 ≠ h.tag) :
    s.cmdDoor k h origin (.command b) remote =
      if (r.serveRing k h origin b remote).1 = abWaits then
        (r.serveRing k h origin b remote).2.2.awaitOpen (.ring h.src h.tag b)
      else (((r.serveRing k h origin b remote).2.2.modRing fun x =>
        { x with doorSeen := ((h.src, h.tag, (r.serveRing k h origin b remote).2.1) :: x.doorSeen).take 64 }).sendIndex h.src 7 0 h.tag
          (.door .ring (.answer (r.serveRing k h origin b remote).2.1))).readDone .ring := by
  have unseen : (r.ring.doorSeen.find? fun e => e.1 == h.src && e.2.1 == h.tag) = none := by
    refine List.find?_eq_none.2 fun e he same => ?_
    rw [Bool.and_eq_true, beq_iff_eq, beq_iff_eq] at same
    exact (new e he).elim (· same.1) (· same.2)
  simp only [State.cmdDoor, took, on, well, Bool.not_true, Bool.false_eq_true, or_self, if_false, unseen]
  rfl

theorem cmdDoor_of_seen {k : Link} {h : FrameHdr} {origin : Door} {b remote : List Byte} {r : State} {e : Nat × Nat × List Byte}
    (took : s.receive k h 7 (.door origin (.command b)) = (true, r)) (on : r.domainOn 1 = true) (well : r.faults.safeRun = false)
    (seen : (r.ring.doorSeen.find? fun e => e.1 == h.src && e.2.1 == h.tag) = some e) :
    s.cmdDoor k h origin (.command b) remote = r.sendIndex h.src 7 0 h.tag (.door .ring (.answer e.2.2)) := by
  simp only [State.cmdDoor, took, on, well, Bool.not_true, Bool.false_eq_true, or_self, if_false, seen]

/-! ### Answers that wait, and notifications -/

theorem cmdDoorForwardTimeout_forward {d : Door} {f : Forward} (none_ : ∀ e, (s.session e).opening = none)
    (found : (s.doors.forwarded.find? fun f => f.door == d && f.tag.isSome) = some f) :
    s.cmdDoorForwardTimeout d = s.endForward f (answerTo f.bytes 0xB abEpoch []) := by
  simp only [State.cmdDoorForwardTimeout, none_, Option.any_none, List.find?_eq_none.2 fun _ _ => Bool.false_ne_true, found]

/-- The one door that a condition picks. -/
theorem find?_allDoors {p : Door → Bool} {e : Door} (yes : p e = true) (others : ∀ c, c ≠ e → p c = false) : allDoors.find? p = some e := by
  cases found : allDoors.find? p with
  | none => exact absurd yes (List.find?_eq_none.1 found e (mem_allDoors e))
  | some c =>
    by_cases same : c = e
    · rw [same]
    · have picked := List.find?_some found
      rw [others c same] at picked
      exact absurd picked (by decide)

theorem cmdDoorForwardTimeout_open {d e : Door} {tag : Nat} (opening : (s.session e).opening = some (tag, .verdict d))
    (others : ∀ c, c ≠ e → (s.session c).opening = none) : s.cmdDoorForwardTimeout d = s.endOpen e none := by
  unfold State.cmdDoorForwardTimeout
  dsimp only
  rw [find?_allDoors (e := e)]
  · rw [opening, Option.any_some]
    exact beq_self_eq_true d
  · intro c other
    rw [others c other, Option.any_none]

theorem cmdNotificationEp2In_of_note {u : Upstream} {f : Fn} {b : List Byte} {rest : List (List Byte)} (fn : s.mgmtFn u = some f)
    (config : (s.fnDev f).config = 1) (runs : (s.fnDev f).halted.testBit (haltBit 0x82) = false) (kept : (s.up u).lost = 0)
    (notes : (s.up u).notes = b :: rest) : s.cmdNotificationEp2In u true =
      (((s.mgmtData u (s.fnDev f).addr 2 ((s.fnDev f).toggle.testBit (haltBit 0x82)) true b).setFnDev f { s.fnDev f with
        toggle := setBit (s.fnDev f).toggle (haltBit 0x82) (!(s.fnDev f).toggle.testBit (haltBit 0x82)) }).setUp u
          { s.up u with notes := rest }) := by
  simp only [State.cmdNotificationEp2In, fn, config, runs, kept, notes, ne_eq, not_true_eq_false, Bool.false_eq_true, if_false, if_true]

end

/-- Settles O26: each door's commands by what the door finds. -/
theorem doorCommands : Obligations.DoorCommands := by
  intro s on
  have hub : s.fresh.domainOn 1 = true := domainOn_of_coreRuns on
  refine ⟨fun facet tag idx sub staged offset len remote _ _ index small off count reach =>
      next_of_core on (cmdDoorRead_can (s := s.fresh) reach index small off count),
    fun facet tag w _ _ index small off short reach => ?canWrite,
    fun b pecOk closed => next_of_core on (cmdLocBlockWrite_closed (s := s.fresh) hub closed),
    fun b opened pec => next_of_core on (cmdLocBlockWrite_damaged (s := s.fresh) hub opened pec),
    fun b r opened idle posted good read here hr answered => ?locWrite,
    fun opened none_ => next_of_core on (cmdLocBlockRead_empty (s := s.fresh) hub opened none_),
    fun a opened some_ => next_of_core on (cmdLocBlockRead_answer (s := s.fresh) hub opened some_), next_of rfl,
    fun k h origin b remote r ring took hub well new => ?door,
    fun k h origin b remote r e ring took hub well seen => next_of_ring on ring (cmdDoor_of_seen (s := s.fresh) took hub well seen),
    fun d f none_ found => next_of_core on (cmdDoorForwardTimeout_forward (s := s.fresh) none_ found),
    fun d e tag opening others => next_of_core on (cmdDoorForwardTimeout_open (s := s.fresh) opening others),
    fun u f b rest fn config runs kept notes =>
      next_of_core on (cmdNotificationEp2In_of_note (s := s.fresh) fn config runs kept notes)⟩
  case canWrite =>
    have write := cmdDoorWrite_can (s := s.fresh) (facet := facet) (tag := tag) reach index small off short
    exact ⟨fun answered => next_of_core on (write.trans (if_neg answered)), fun waits => next_of_core on (write.trans (if_pos waits))⟩
  case locWrite => exact next_of_core on (cmdLocBlockWrite_read (s := s.fresh) hub opened idle good read here hr answered)
  case door =>
    have serves := cmdDoor_of_new (s := s.fresh) (remote := remote) took hub well new
    exact ⟨fun answered => next_of_ring on ring (serves.trans (if_neg answered)),
      fun waits => next_of_ring on ring (serves.trans (if_pos waits))⟩

end Sys2Proof.Machine
end

section
/-! SUPPORT. Type-C attach and detach, moisture, and the lowered advertisement (R243 to R250). -/

namespace Sys2Proof.Machine

section
variable {s : State} {p : Port}

/-! ### Attach and detach -/

section
variable (runs : s.ccRuns p = true) (free : s.unattached p = true) (empty : (s.tc p).attach = none)
include runs free empty

/-- The attach debounce of a port that takes a Source's partner now. -/
theorem cmdCcSourceAttach_of_free {pin2 ra safe : Bool} (role : (s.tc p).trying ≠ 2) : s.cmdCcSourceAttach p (.rd pin2 ra) safe =
    if !safe then
      (if (s.tc p).backfed then s.set (.tc p .tcState) 2
        else (((s.set (.tc p .tcState) 2).modTc p fun x => { x with backfed := true }).bump (.tc p .pdViolationCount)).flag (.pd .pdEvents)
          pdBackfeed)
    else if (s.modTc p fun x => { x with backfed := false }).isTrue (.pd .moistureEnable) then
      ((s.modTc p fun x => { x with backfed := false }).set (.tc p .tcState) 2).modTc p fun x =>
        { x with attach := some (boolNat pin2, ra), attachAt := if x.measuring then some s.time.elapsed else none, measuring := true }
    else (s.modTc p fun x => { x with backfed := false }).confirmAttach p pin2 ra := by
  simp only [State.cmdCcSourceAttach, runs, free, empty, Option.isSome_none, Bool.not_true, Bool.false_eq_true, or_self, if_false, if_neg role]
  rfl

theorem cmdCcSinkAttach_of_free {pin2 : Bool} {rp : Nat} (dual : s.get (.tc p .tcRoleMode) = 1) (untried : (s.tc p).trying ≠ 1) :
    s.cmdCcSinkAttach p pin2 rp =
      if (s.tc p).trying = 0 then (s.modTc p fun x => { x with trying := 1, drpSink := false }).set (.tc p .tcState) 2
      else (s.modTc p fun x => { x with orientValid := true, orient := boolNat pin2, source := false, dfp := false, asSource := false,
                                        rp := rp % 4, drpSink := true, trying := 0 }).set (.tc p .tcState) 4 :=
  if_pos ⟨runs, free, by rw [empty]; rfl, dual, untried⟩

end

section
variable (runs : s.ccRuns p = true) (dual : s.get (.tc p .tcRoleMode) = 1)
include runs dual

theorem cmdDrpToggle_of_dual : s.cmdDrpToggle p =
    if s.get (.tc p .tcState) = 1 ∧ !(s.tc p).measuring then s.modTc p fun x => { x with drpSink := !x.drpSink }
    else if s.get (.tc p .tcState) = 2 ∧ (s.tc p).trying = 1 ∧ (s.tc p).attach.isNone then
      s.modTc p fun x => { x with trying := 2, drpSink := true }
    else s := by
  refine if_neg ?_
  rw [runs, dual]
  decide

end

theorem cmdSourceDetach_of_attached (st : s.get (.tc p .tcState) = 3) : s.cmdSourceDetach p = s.tcDetach p := by
  rw [State.cmdSourceDetach, st]
  rfl

theorem cmdRpLowerAllocation_of_lowered {mw : Nat} (lowered : (s.tc p).lowerTo = some mw) :
    s.cmdRpLowerAllocation p = (s.set (.tc p .pdAllocation) mw).modTc p fun x => { x with lowerTo := none } := by
  simp only [State.cmdRpLowerAllocation, lowered]

/-! ### Moisture -/

theorem keepReadings_tc (z : List Nat) : (s.keepReadings p z).tc p = { s.tc p with measuring := false } := by
  refine (tc_modTc_self _ p _).trans (congrArg (fun x : TcRt => { x with measuring := false }) ?_)
  exact forEach_keeps (P := fun t => t.tc p = s.tc p) _ (fun _ _ h => h) rfl

theorem modTc_congr {q : State} {f g : TcRt → TcRt} (same : f (q.tc p) = g (q.tc p)) : q.modTc p f = q.modTc p g := by
  rw [State.modTc, same, State.modTc]

theorem keepReadings_wetReading (z y : List Nat) : (s.keepReadings p z).wetReading y = s.wetReading y := by
  have kept : (s.keepReadings p z).get (.pd .moistureThreshold) = s.get (.pd .moistureThreshold) := by
    refine forEach_keeps (P := fun t => t.get (.pd .moistureThreshold) = s.get (.pd .moistureThreshold)) _ (fun t j h => ?_) rfl
    rw [get_set_ne]
    · exact h
    · nofun
  rw [State.wetReading, kept]
  rfl

/-- A measurement of a port without an attach under way ends (R250). -/
theorem cmdMoistureResult_of_measuring {z : List Nat} (runs : (s.tc p).measuring = true) (empty : (s.tc p).attach = none)
    (st : s.get (.tc p .tcState) = 1 ∨ s.get (.tc p .tcState) = 2 ∨ s.get (.tc p .tcState) = 5) : s.cmdMoistureResult p z =
      if s.wetReading z then
        (if s.get (.tc p .tcState) = 5 then (s.keepReadings p z).modTc p fun x => { x with dryRun := 0 } else (s.keepReadings p z).goWet p)
      else if s.get (.tc p .tcState) = 5 then
        (if 3 ≤ (s.tc p).dryRun + 1 then
          (((s.keepReadings p z).modTc p fun x => { x with corroded := false, dryRun := (s.tc p).dryRun + 1 }).leaveWet p).flag
            (.pd .pdEvents) pdDry
        else (s.keepReadings p z).modTc p fun x => { x with corroded := false, dryRun := (s.tc p).dryRun + 1 })
      else s.keepReadings p z := by
  have goes : ¬ ((!(s.tc p).measuring) = true ∨ ¬ (s.get (.tc p .tcState) = 1 ∨ s.get (.tc p .tcState) = 2 ∨ s.get (.tc p .tcState) = 5)) := by
    rintro (h | h)
    · rw [runs] at h
      exact absurd h (by decide)
    · exact h st
  have dry : ((s.keepReadings p z).tc p).dryRun = (s.tc p).dryRun := by rw [keepReadings_tc]
  simp only [State.cmdMoistureResult, empty, Option.isSome_none, Bool.false_eq_true, if_false, if_neg goes, keepReadings_wetReading, dry]

theorem cmdAttachMoistureResult_of_dry {z : List Nat} {pin : Nat} {ra : Bool} (runs : (s.tc p).measuring = true)
    (attach : (s.tc p).attach = some (pin, ra)) (dry : s.wetReading z = false) :
    s.cmdAttachMoistureResult p z = (s.keepReadings p z).confirmAttach p (pin == 1) ra := by
  simp only [State.cmdAttachMoistureResult, attach, runs, keepReadings_wetReading, dry, Bool.not_true, Bool.false_eq_true, if_false]

end

/-- Settles O29: attaches by the port's state, measurements by their reading. -/
theorem typecEvents : Obligations.TypecEvents := by
  intro s p
  refine ⟨fun pin2 ra runs free empty role dry => next_of ((cmdCcSourceAttach_of_free (s := s.fresh) runs free empty role).trans ?attach),
    fun pin2 ra runs free empty role fed => next_of ((cmdCcSourceAttach_of_free (s := s.fresh) runs free empty role).trans ?backfeed),
    fun pin2 rp runs free empty dual untried => next_of ((cmdCcSinkAttach_of_free (s := s.fresh) runs free empty dual ?untried).trans
      (if_pos untried)),
    fun runs dual st trying empty => next_of ((cmdDrpToggle_of_dual (s := s.fresh) runs dual).trans ((if_neg ?waits).trans (if_pos ?tryWait))),
    fun pin2 rp runs free empty dual waited => next_of ((cmdCcSinkAttach_of_free (s := s.fresh) runs free empty dual ?waited).trans
      (if_neg ?sink)),
    fun _ st => next_of (cmdSourceDetach_of_attached (s := s.fresh) st), fun st => next_of (if_pos st),
    fun mw lowered => next_of (cmdRpLowerAllocation_of_lowered (s := s.fresh) lowered),
    fun runs st dual still => next_of ((cmdDrpToggle_of_dual (s := s.fresh) runs dual).trans (if_pos ⟨st, congrArg not still⟩)),
    fun st calm => next_of (if_pos ⟨st, congrArg not calm⟩), fun recovers => next_of (if_pos recovers),
    fun runs enabled st => next_of (if_pos ⟨runs, enabled, st⟩),
    fun z runs empty st wet => next_of ((cmdMoistureResult_of_measuring (s := s.fresh) runs empty (.inl st)).trans
      ((if_pos wet).trans (if_neg ?unattached))),
    fun z runs empty st dry many => next_of ((cmdMoistureResult_of_measuring (s := s.fresh) runs empty (.inr (.inr st))).trans
      ((if_neg (Bool.eq_false_iff.1 dry)).trans ((if_pos st).trans ((if_pos (Nat.succ_le_succ many)).trans ?dry)))),
    fun z pin ra runs attach dry => next_of (cmdAttachMoistureResult_of_dry (s := s.fresh) runs attach dry),
    fun st => next_of (if_pos st)⟩
  case attach => exact (if_neg (by decide)).trans (if_neg (Bool.eq_false_iff.1 dry))
  case backfeed => exact (if_pos rfl).trans (if_neg (Bool.eq_false_iff.1 fed))
  case untried => exact fun one => absurd (untried.symm.trans one) (by decide)
  case waits => exact fun one => absurd (st.symm.trans one.1) (by decide)
  case tryWait => exact ⟨st, trying, by rw [fresh_tc, empty]; rfl⟩
  case waited => exact fun one => absurd (waited.symm.trans one) (by decide)
  case sink => exact fun zero => absurd (waited.symm.trans zero) (by decide)
  case unattached => exact fun five => absurd (st.symm.trans five) (by decide)
  case dry =>
    refine congrArg (fun t : State => (t.leaveWet p).flag (.pd .pdEvents) pdDry) (modTc_congr ?_)
    rw [keepReadings_tc]

end Sys2Proof.Machine
end

section
/-! SUPPORT. What a PD message that is delivered is answered (R245, R254, R259, R260, R271, R281). -/

namespace Sys2Proof.Machine

section
variable {s : State} {p : Port}

theorem extendedAnswer_of_rev3 (rev3 : s.rev2 p = false) (m : PdMsg) : s.extendedAnswer p m = s.pdSend p m :=
  if_neg (Bool.eq_false_iff.1 rev3)

theorem cmdPdUnsupportedMessage_unknown (h : PdHdr) :
    s.cmdPdUnsupportedMessage p h .unknown = s.pdIn p h 31 [] false false fun s => s.notSupported p := rfl

theorem cmdPdUnsupportedMessage_unchunked (h : PdHdr) : s.cmdPdUnsupportedMessage p h .unchunked =
    s.pdIn p h 1 [] true false fun s => (s.pdBreach p).pdSend p (if s.rev2 p then .reject else .notSupported) := rfl

theorem cmdPdPartnerNotice_alert (h : PdHdr) : s.cmdPdPartnerNotice p h .alert = s.pdIn p h 6 [] false true fun s => s := rfl

end

/-- Settles O31: each message by the state it is served in. -/
theorem pdAnswers : Obligations.PdAnswers := by
  intro s p h t
  refine ⟨fun serves => next_of (serves _), fun serves => next_of (serves _),
    fun objects serves await => next_of ((serves _).trans (if_pos await)), fun serves => next_of (serves _),
    fun serves await => next_of ((serves _).trans ?accepted),
    fun objects serves sink => next_of ((serves _).trans (if_neg (Bool.eq_false_iff.1 sink))),
    fun serves rev3 => next_of ((serves _).trans (extendedAnswer_of_rev3 rev3 _)),
    fun serves fixed => next_of ((serves _).trans (if_neg ?fixed)),
    fun serves explicit pps rev3 => next_of ((serves _).trans ((if_pos ?pps).trans (extendedAnswer_of_rev3 rev3 _))),
    fun serves => next_of (serves _), fun serves source => next_of ((serves _).trans (if_pos source)),
    fun serves => next_of ((cmdPdUnsupportedMessage_unknown (s := s.fresh) h).trans (serves _)),
    fun serves => next_of ((cmdPdUnsupportedMessage_unchunked (s := s.fresh) h).trans (serves _)),
    fun serves => ⟨fun low => next_of ((serves _).trans (if_pos low)), fun high => next_of ((serves _).trans (if_neg high)),
      next_of (serves _)⟩,
    fun serves => next_of ((cmdPdPartnerNotice_alert (s := s.fresh) h).trans (serves _)), fun serves await => next_of ?refused, next_of rfl, fun ready => next_of (if_pos ready)⟩
  case accepted => dsimp only; rw [await]
  case fixed => rw [fixed, Bool.and_false]; decide
  case pps => rw [explicit, pps]; rfl
  case refused =>
    have await' : (s.fresh.tc p).await = .sinkCaps := await
    simp only [State.cmdPdPartnerNotice, await']
    exact serves _

end Sys2Proof.Machine
end
section
/-! SUPPORT. VCONN and the cable, advertisements, requests and the transition of a contract (R251, R256 to R258, R262, R265 to R268). -/

namespace Sys2Proof

section
variable {κ α : Type} [DecidableEq κ]

theorem Table.drop_drop (t : Table κ α) (k : κ) : (t.drop k).drop k = t.drop k := by
  unfold Table.drop
  rw [List.filter_filter]
  exact List.filter_congr fun e _ => Bool.and_self _

theorem Table.drop_place (ord : κ → Nat) (t : Table κ α) (k : κ) (v : α) : (Table.place ord k v t).drop k = t.drop k := by
  have new (t : Table κ α) : Table.drop ((k, v) :: t) k = t.drop k := List.filter_cons_of_neg (by simp)
  induction t with
  | nil => exact new []
  | cons e t ih =>
    unfold Table.place
    split
    · exact new _
    · rw [Table.drop_cons, Table.drop_cons, ih]

/-- Of two values put at one key, the last stands. -/
theorem Table.put_put [DecidableEq α] (ord : κ → Nat) (d : α) (t : Table κ α) (k : κ) (v w : α) :
    Table.put ord d (Table.put ord d t k v) k w = Table.put ord d t k w := by
  have drop : (Table.put ord d t k v).drop k = t.drop k := by
    unfold Table.put
    split
    · exact Table.drop_drop t k
    · rw [Table.drop_place, Table.drop_drop]
  change (if w = d then (Table.put ord d t k v).drop k else Table.place ord k w ((Table.put ord d t k v).drop k)) = _
  rw [drop]
  rfl

end

end Sys2Proof

namespace Sys2Proof.Machine

section
variable {s : State} {p : Port}

theorem modTc_modTc (s : State) (p : Port) (f g : TcRt → TcRt) : (s.modTc p f).modTc p g = s.modTc p fun x => g (f x) := by
  unfold State.modTc
  rw [tc_setTc_self]
  exact congrArg (fun l => { s with tcs := l }) (Table.put_put Fin.val {} s.tcs p _ _)

@[simp] theorem bump_tc (s : State) (r : Reg) (p : Port) : (s.bump r).tc p = s.tc p := rfl
@[simp] theorem flag_tc (s : State) (r : Reg) (b : Nat) (p : Port) : (s.flag r b).tc p = s.tc p := by
  rw [State.tc, flag_tcs, State.tc]
@[simp] theorem raise_tc (s : State) (n d : Nat) (p : Port) : (s.raise n d).tc p = s.tc p := rfl

theorem ackTx_of_idle (idle : (s.tc p).sent = none) : s.ackTx p = s := by
  simp only [State.ackTx, idle]

/-! ### VCONN and the cable -/

theorem cableLimit_of_tc {t : State} {x : TcRt} (h : t.tc p = x) :
    t.cableLimit p = if x.cable5A && !x.vconnOut then 5000 else 3000 := by
  rw [State.cableLimit, h]

theorem cmdVconnOverload_of_vconn {v : State} (vconn : (s.tc p).vconn = true) (await : (s.tc p).await ≠ .cable)
    (hv : v = ((((s.vconnOff p).modTc p fun x => { x with
      vconnOut := true, cableTries := 20,
      own := x.own.filter fun a => a != .cable }).bump (.tc p .vconnFaultCount)).flag (.pd .pdEvents) pdVconnFault).raise 22 (p.val + 1)) :
    s.cmdVconnOverload p = if (s.tc p).cable5A && !(s.tc p).vconnOut then v.reoffer p (v.offerPower p) else v := by
  have limit : v.cableLimit p = 3000 := by
    rw [hv, State.cableLimit, raise_tc, flag_tc, bump_tc, tc_modTc_self, Bool.not_true, Bool.and_false, if_neg Bool.false_ne_true]
  simp only [State.cmdVconnOverload, if_pos vconn, State.when, beq_eq_false_iff_ne.2 await, Bool.false_eq_true, if_false]
  rw [← hv, limit, State.cableLimit]
  cases (s.tc p).cable5A && !(s.tc p).vconnOut with
  | true => exact if_pos (by decide)
  | false => exact if_neg (by decide)

theorem cmdCableIdentity_of_idle {a : CableAnswer} {vdo : Nat} {v : State} (ready : s.pdReady p = true) (vconn : (s.tc p).vconn = true)
    (idle : (s.tc p).sent = none)
    (hv : v = ((s.lensPd p false (pdHeader 15 5 a.id false false false 2) 1 0 []).lensCount 10 (placePort p) 1).emit
      (.pd p .cableGoodCrc false)) :
    ((s.tc p).lastIdP = some a.id → s.cmdCableIdentity p a vdo = v.pdBreach p) ∧
    ((s.tc p).lastIdP ≠ some a.id → (s.tc p).cableKnown = false → (s.tc p).cableTries ≠ 0 → (s.tc p).explicit = false →
      (s.tc p).await ≠ .cable → s.cmdCableIdentity p a vdo =
        let w := v.modTc p fun x => { x with
          lastIdP := some a.id, cableKnown := true,
          cable5A := a.ack && bitField vdo 6 5 == 2 }
        if a.ack then w.set (.tc p .pdCableVdo) vdo else w) := by
  have asked : ¬ ((!s.pdReady p) = true ∨ (!(s.tc p).vconn) = true) := by simp [ready, vconn]
  simp only [State.cmdCableIdentity, if_neg asked, idle, Option.any_none, Bool.false_eq_true, if_false]
  rw [← hv]
  refine ⟨fun again => if_pos again, fun new known tries explicit await => ?_⟩
  have learns : ¬ ((s.tc p).cableKnown = true ∨ (s.tc p).cableTries = 0) := by simp [known, tries]
  simp only [if_neg new, if_neg learns, if_neg await, explicit, Bool.false_eq_true, false_and, if_false, modTc_modTc]

/-! ### Advertisements -/

theorem cmdSourceCapabilitiesSend_of_source (ready : s.pdReady p = true) (policy : s.policy = true) (source : (s.tc p).source = true)
    (pd : (s.tc p).nonPd = false) (kept : s.shed p = false) (calm : (s.tc p).hardStage = 0) (still : (s.tc p).trans = none)
    (swap : (s.tc p).swap = 0) (on : s.get (.chan (chanOf p) .brkState) = 2) (open' : (s.tc p).explicit = false)
    (few : (s.tc p).caps < 50) : s.cmdSourceCapabilitiesSend p = s.sendCaps p := by
  simp [State.cmdSourceCapabilitiesSend, ready, policy, source, pd, kept, calm, still, swap, on, open', few]

/-- A first question to the cable leaves at once: no contract stands. -/
theorem cmdCableDiscoveryAttempt_of_first (ready : s.pdReady p = true) (policy : s.policy = true) (source : (s.tc p).source = true)
    (vconn : (s.tc p).vconn = true) (unknown : (s.tc p).cableKnown = false) (calm : (s.tc p).hardStage = 0)
    (still : (s.tc p).trans = none) (open' : (s.tc p).explicit = false) (tries : (s.tc p).cableTries < 4) (caps : (s.tc p).caps = 0) :
    s.cmdCableDiscoveryAttempt p = s.askCable p := by
  simp [State.cmdCableDiscoveryAttempt, ready, policy, source, vconn, unknown, calm, still, open', tries, caps]

/-! ### Polls of the regulator -/

/-- What a poll of a port's regulator reports is noted (R265). -/
def State.polled (s : State) (p : Port) (r : RegPoll) : State :=
  (s.modTc p fun x => { x with vbus := r.mv, limited := r.limit }).measure (chanOf p) r.mv r.ma

@[simp] theorem measure_tc (s : State) (c : Channel) (mv : Nat) (ma : Int) (p : Port) : (s.measure c mv ma).tc p = s.tc p := rfl

theorem polled_tc (r : RegPoll) : (s.polled p r).tc p = { s.tc p with vbus := r.mv, limited := r.limit } := by
  rw [State.polled, measure_tc, tc_modTc_self]

section
variable {r : RegPoll} (port : s.hasPort p = true) (on : s.domainOn 5 = true) (policy : s.policy = true)
  (calm : (s.tc p).recovery = false)
include port on policy calm

theorem cmdRegulatorPoll_of_still (still : (s.tc p).trans = none) : s.cmdRegulatorPoll p r =
    if inRegWindow (s.tc p).mv r.mv then (s.polled p r).modTc p fun x => { x with bleeding := false } else s.polled p r := by
  have runs : ¬ ((!s.hasPort p) = true ∨ (!s.domainOn 5) = true ∨ (!s.policy) = true) := by simp [port, on, policy]
  simp only [State.cmdRegulatorPoll, if_neg runs]
  rw [← State.polled]
  simp only [polled_tc]
  split <;> simp [polled_tc, calm, still]

theorem cmdRegulatorPoll_of_good {x : TransRt} (pll : s.time.pll = true) (moves : (s.tc p).trans = some x) (written : x.written = true)
    (good : r.good = true) (near : inRegWindow (s.tc p).mv r.mv = true) : s.cmdRegulatorPoll p r =
      ((s.polled p r).modTc p fun y => { y with bleeding := false }).completeTrans p x := by
  have runs : ¬ ((!s.hasPort p) = true ∨ (!s.domainOn 5) = true ∨ (!s.policy) = true) := by simp [port, on, policy]
  have clock : ((s.polled p r).modTc p fun y => { y with bleeding := false }).time.pll = true := pll
  simp only [State.cmdRegulatorPoll, if_neg runs]
  rw [← State.polled]
  simp [polled_tc, near, calm, moves, written, good, clock]

end

/-! ### Requests and transitions -/

/-- The object that a request names is the one that was offered, whatever is awaited now. -/
theorem requestedObject_unawaited (t : State) (p : Port) (rdo : Nat) :
    (t.modTc p fun x => { x with await := .nothing }).requestedObject p rdo = t.requestedObject p rdo := by
  rw [State.requestedObject, tc_modTc_self, State.requestedObject]

section
variable {h : PdHdr} {rdo : Nat} {t : State} (serves : s.Serves p h 2 [rdo] false ((s.tc p).await == .request) t)
  (source : (t.tc p).source = true)
include serves source

/-- A request on a port that the manager sheds in the same cycle. -/
theorem cmdRequest_of_shed (due : t.shedDue = true) (shed : t.cmdShedDelayExpiry.shed p = true) : s.cmdRequest p h rdo = t := by
  refine (serves _).trans ?_
  simp [source, due, shed]

theorem cmdRequest_of_unknown (kept : t.shed p = false) (due : t.shedDue = false) (unknown : t.requestedObject p rdo = none) {u : State}
    (hu : u = (((t.modTc p fun x => { x with await := .nothing }).bump (.tc p .pdRejectCount)).pdSend p
        .reject).modTc p (fun x => { x with offerOut := none })) :
    s.cmdRequest p h rdo = (u.set (.tc p .pdContractState) (if (t.tc p).explicit then 3 else 1)).endAms p := by
  refine (serves _).trans ?_
  subst hu
  simp only [source, kept, due, requestedObject_unawaited, unknown, Bool.not_true, Bool.false_and, Bool.or_self, Bool.false_eq_true, if_false]

theorem cmdRequest_of_fitting {obj mv ma mw : Nat} {pps : Bool} (kept : t.shed p = false) (due : t.shedDue = false) (named : t.requestedObject p rdo = some obj)
    (fits : requestFits obj rdo = true) (kind : obj / 2 ^ 30 ≠ 3) (free : t.unitHeld .pmb = false)
    (asked : requestOf obj rdo = (mv, ma, mw, pps)) {u : State}
    (hu : u = (((t.modTc p fun x => { x with await := .nothing }).pdSend p .accept).modTc p fun x =>
        { x with trans := some { rdo := rdo, mv := mv, ma := ma, pps := pps, alloc := mw } })) :
    s.cmdRequest p h rdo = (u.set (.tc p .pdAllocation) (max (u.alloc p) mw)).set (.tc p .pdContractState) 4 := by
  refine (serves _).trans ?_
  subst hu
  have goes : ¬ ((!requestFits obj rdo) = true ∨ (obj / 2 ^ 30 = 3 ∧ (t.modTc p fun x => { x with await := .nothing }).rev2 p = true) ∨
      (t.modTc p fun x => { x with await := .nothing }).unitHeld .pmb = true) := by
    rintro (unfit | other | held)
    · exact absurd (unfit.symm.trans (congrArg not fits)) (by decide)
    · exact kind other.1
    · exact absurd (held.symm.trans free) (by decide)
  simp only [source, kept, due, requestedObject_unawaited, named, if_neg goes, asked, Bool.not_true, Bool.false_and, Bool.or_self,
    Bool.false_eq_true, if_false]

end

theorem cmdTransitionStart_of_new {x : TransRt} (moves : (s.tc p).trans = some x) (new : x.written = false) (fixed : x.pps = false)
    (idle : (s.tc p).sent = none) (pll : s.time.pll = true) : s.cmdTransitionStart p false =
      ((s.pmb1 p 0x46 x.ma).pmb1Vout p x.mv).modTc p fun y => { y with
        mv := x.mv, ma := x.ma, trans := some { x with written := true },
        bleeding := decide (x.mv < y.mv) } := by
  have goes : ¬ (x.written = true ∨ (!s.time.pll) = true) := by simp [new, pll]
  have volts : ¬ (x.pps = true ∧ (s.tc p).pps = true ∧ x.mv = (s.tc p).mv) := by simp [fixed]
  simp only [State.cmdTransitionStart, moves, if_neg goes, ackTx_of_idle idle, if_neg volts, Bool.false_eq_true, if_false]

end

/-- Settles O30: the port's state at the command decides each case; a request is served in the state its delivery leaves. -/
theorem pdContracts : Obligations.PdContracts := by
  intro s p h t
  refine ⟨fun v vconn await hv => ⟨fun low => next_of ((cmdVconnOverload_of_vconn (s := s.fresh) vconn await hv).trans (if_neg ?low)),
      fun five off => next_of ((cmdVconnOverload_of_vconn (s := s.fresh) vconn await hv).trans (if_pos ?five))⟩,
    fun ready policy source pd kept calm still swap on open' few =>
      next_of (cmdSourceCapabilitiesSend_of_source (s := s.fresh) ready policy source pd kept calm still swap on open' few),
    fun ready policy source vconn unknown calm still open' tries caps =>
      next_of (cmdCableDiscoveryAttempt_of_first (s := s.fresh) ready policy source vconn unknown calm still open' tries caps),
    fun a vdo v ready vconn idle hv => ?cable,
    fun rdo obj mv ma mw pps serves source kept due named fits kind free asked => ⟨_, rfl,
      next_of (cmdRequest_of_fitting serves source kept due named fits kind free asked rfl)⟩,
    fun rdo serves source kept due shed => next_of (cmdRequest_of_shed serves source due shed),
    fun rdo serves source kept due unknown => ⟨_, rfl, next_of (cmdRequest_of_unknown serves source kept due unknown rfl)⟩,
    fun x moves new fixed idle pll => next_of (cmdTransitionStart_of_new (s := s.fresh) moves new fixed idle pll),
    fun r v port on policy calm still hv => ?still,
    fun r x v port on policy pll calm moves written good near hv => next_of (hv ▸
      cmdRegulatorPoll_of_good (s := s.fresh) port on policy calm pll moves written good near),
    fun x moves written => next_of (if_pos ?written), fun explicit source still => next_of (if_pos ⟨explicit, source, ?none⟩),
    fun explicit pps still policy => next_of (if_pos ⟨explicit, pps, ?none', policy⟩)⟩
  case low =>
    rcases low with no | out
    · rw [fresh_tc, no]
      exact Bool.false_ne_true
    · rw [fresh_tc, out, Bool.not_true, Bool.and_false]; decide
  case five => rw [fresh_tc, five, off]; rfl
  case cable =>
    obtain ⟨again, new⟩ := cmdCableIdentity_of_idle (s := s.fresh) (a := a) (vdo := vdo) ready vconn idle hv
    exact ⟨fun same => next_of (again same), fun other known tries open' await => next_of (new other known tries open' await)⟩
  case still =>
    have poll := cmdRegulatorPoll_of_still (s := s.fresh) (r := r) port on policy calm still
    subst hv
    exact ⟨fun far => next_of (poll.trans (if_neg (Bool.eq_false_iff.1 far))), fun near => next_of (poll.trans (if_pos near))⟩
  case written => rw [fresh_tc, moves]; exact written
  case none => rw [fresh_tc, still]; rfl
  case none' => rw [fresh_tc, still]; rfl

end Sys2Proof.Machine
end

section
/-! SUPPORT. Swaps, Hard Resets and the timers of the PD message layer (R262, R267, R269 to R275, R281). -/

namespace Sys2Proof.Machine

section
variable {s : State} {p : Port}

/-! ### Swaps -/

section
variable {h : PdHdr} {t : State}

theorem cmdPrSwap_of_source (serves : s.Serves p h 10 [] false false t) (source : (t.tc p).source = true) : s.cmdPrSwap p h =
    if t.swapRefusal p ≠ 0 then t.rejectSwap p (t.swapRefusal p)
    else ((t.pdSend p .accept).modTc p fun x => { x with swap := 1, detectOff := true }).set (.tc p .pdContractState) 5 :=
  (serves _).trans (if_pos source)

theorem cmdPsRdyReceived_of_swapped (serves : s.Serves p h 6 [] false ((s.tc p).await == .psRdy) t) (vswap : (s.tc p).vswap = 0)
    (swap : (s.tc p).swap = 3) : s.cmdPsRdyReceived p h = t.modTc p fun x => { x with swap := 4 } := by
  unfold State.cmdPsRdyReceived
  refine (serves _).trans ?_
  simp only [vswap, swap, Nat.zero_ne_one, if_false, if_true]

end

theorem cmdPrSwapDetectResume_of_idle (off : (s.tc p).detectOff = true) (idle : (s.tc p).swap = 0) :
    s.cmdPrSwapDetectResume p true = s.modTc p fun x => { x with detectOff := false } := by
  refine (if_pos ⟨off, ?_⟩).trans (if_pos rfl)
  rw [idle]
  decide

/-! ### Hard Resets -/

theorem cmdHardReset_of_ready (ready : s.pdReady p = true) (new : (s.tc p).hardStage ≠ 1) : s.cmdHardReset p = s.hardReset p false := by
  simp only [State.cmdHardReset, ready, Bool.not_true, Bool.false_eq_true, if_false, if_neg new]

section
variable (stage : (s.tc p).hardStage = 2) (pll : s.time.pll = true)
include stage pll

theorem cmdHardResetRecover_acked : s.cmdHardResetRecover p true = (((((s.modTc p fun x => { x with
    hardStage := 0,
    source := true, dfp := true, discharging := false }).set (.tc p .tcState) 3).set (.tc p .pdContractState)
      (if (s.tc p).fallback then 7 else 1)).vconnOn p).vbusOn p) := by
  refine (if_pos ⟨stage, pll⟩).trans ?_
  simp only [Bool.not_true, Bool.false_eq_true, if_false, tc_modTc_self]

theorem cmdHardResetRecover_failed : s.cmdHardResetRecover p false = s.errorRecovery p true := if_pos ⟨stage, pll⟩

end

/-! ### Timers -/

theorem cmdGoodcrcTimeout_of_retry {m : PdMsg} {n : Nat} (sent : (s.tc p).sent = some (m, n)) (ready : s.pdReady p = true)
    (few : n < (if s.rev2 p then 3 else 2)) (disarmed : s.lens.armed = false) : s.cmdGoodcrcTimeout p =
      (((s.lensCount 12 (placePort p) 1).modTc p fun x => { x with sent := some (m, n + 1) }).emit (.pd p m false)) := by
  have disarmed' : ((s.lensCount 12 (placePort p) 1).modTc p fun x => { x with sent := some (m, n + 1) }).lens.armed = false := disarmed
  simp only [State.cmdGoodcrcTimeout, sent, ready, Bool.not_true, Bool.false_eq_true, if_false, if_pos few,
    provoke_of_disarmed disarmed']

theorem cmdSenderResponseTimeout_of_stopped (stopped : s.time.pll = false) : s.cmdSenderResponseTimeout p = s :=
  if_pos (congrArg not stopped)

section
variable (pll : s.time.pll = true)
include pll

theorem cmdSenderResponseTimeout_of_request (await : (s.tc p).await = .request) : s.cmdSenderResponseTimeout p =
    if 2 ≤ (s.tc p).hardRow then
      (((((s.ackTx p).modTc p fun x => { x with await := .nothing, offerOut := none }).modTc p fun x =>
        { x with nonPd := true, fallback := true }).set (.tc p .pdContractState) 7).flag (.pd .pdEvents) pdNonPdFallback)
    else ((s.ackTx p).modTc p fun x => { x with await := .nothing, offerOut := none }).hardReset p true := by
  simp only [State.cmdSenderResponseTimeout, pll, await, Bool.not_true, Bool.false_eq_true, if_false]

theorem cmdSenderResponseTimeout_of_vdm {n : Nat} (await : (s.tc p).await = .vdm n) :
    s.cmdSenderResponseTimeout p = (s.ackTx p).endEntry p 1 := by
  simp only [State.cmdSenderResponseTimeout, pll, await, Bool.not_true, Bool.false_eq_true, if_false]
  rfl

end

end

/-- Settles O32: swaps and resets by their stage, the message layer's timers by what is awaited. -/
theorem pdSwapsAndResets : Obligations.PdSwapsAndResets := by
  intro s p h t
  refine ⟨fun serves => next_of (serves _), fun serves => next_of (serves _),
    fun serves source => ⟨fun fits => next_of ((cmdPrSwap_of_source serves source).trans (if_neg (not_not_intro fits))),
      fun refused => next_of ((cmdPrSwap_of_source serves source).trans (if_pos refused))⟩,
    fun swap pll => next_of (if_pos ⟨swap, pll⟩), fun swap pll => next_of (if_pos ⟨swap, pll⟩),
    fun serves vswap swap => next_of (cmdPsRdyReceived_of_swapped serves vswap swap), fun pll swap => next_of (if_pos ⟨swap, pll⟩),
    fun off idle => next_of (cmdPrSwapDetectResume_of_idle (s := s.fresh) off idle),
    fun serves on => next_of ((serves _).trans (if_pos on)),
    fun serves off => next_of ((serves _).trans (if_neg (Bool.eq_false_iff.1 off))), fun swap => next_of (if_pos swap),
    fun ready new => next_of (cmdHardReset_of_ready (s := s.fresh) ready new), fun stage pll => next_of (if_pos ⟨stage, pll⟩),
    fun stage pll => next_of (cmdHardResetRecover_acked (s := s.fresh) stage pll),
    fun stage pll => next_of (cmdHardResetRecover_failed (s := s.fresh) stage pll),
    fun m n sent ready few disarmed => next_of (cmdGoodcrcTimeout_of_retry (s := s.fresh) sent ready few disarmed),
    fun await => next_of (if_pos await),
    fun pll await few => next_of ((cmdSenderResponseTimeout_of_request (s := s.fresh) pll await).trans (if_neg (Nat.not_le.2 few))),
    fun pll await many => next_of ((cmdSenderResponseTimeout_of_request (s := s.fresh) pll await).trans (if_pos many)),
    fun pll await => next_of (cmdSenderResponseTimeout_of_vdm (s := s.fresh) pll await),
    fun stopped => ⟨next_of (cmdSenderResponseTimeout_of_stopped (s := s.fresh) stopped), next_of (if_neg ?stopped)⟩,
    fun window still await swap vswap ready policy => next_of (if_pos ⟨window, ?still, await, swap, vswap, ready, policy⟩)⟩
  case stopped => exact fun runs => absurd (stopped.symm.trans runs.2) (by decide)
  case still => rw [fresh_tc, still]; rfl

end Sys2Proof.Machine
end

section
/-! SUPPORT. The Wyhelen exchange of structured VDMs (R70 to R73, R277, R278). -/

namespace Sys2Proof.Machine

section
variable {s : State} {p : Port} {h : PdHdr} {t : State} {k : Link}

/-! ### As responder -/

theorem cmdDiscoverModes_of_modal (serves : s.Serves p h 15 [vdmHeader 0x3A5D 0 0 3 h.svdm] false false t) (link : t.portLink p = some k)
    (modal : t.modal p = true) :
    s.cmdDiscoverModes p h 0x3A5D = t.pdSend p (.vdm false 3 1 0x3A5D [t.modeVdo k] (min h.svdm 1)) := by
  refine (serves _).trans ?_
  simp only [link, modal, and_self, if_true]

/-- Enter Mode for another SVID or another object. -/
theorem cmdEnterMode_of_other {svid position : Nat} (serves : s.Serves p h 15 [vdmHeader svid position 0 4 h.svdm] false false t)
    (other : svid ≠ 0x3A5D ∨ position ≠ 1) : s.cmdEnterMode p h svid position =
      ((t.pdBreach p).when (svid == 0x3A5D) fun t => t.refuseLink p 6).pdSend p (.vdm false 4 2 svid [] (min h.svdm 1)) :=
  (serves _).trans (if_pos other)

theorem cmdEnterMode_of_mode (serves : s.Serves p h 15 [vdmHeader 0x3A5D 1 0 4 h.svdm] false false t) : s.cmdEnterMode p h 0x3A5D 1 =
    if t.modal p ∧ t.domainOn 6 then
      ((t.pdSend p (.vdm false 4 1 0x3A5D [] (min h.svdm 1))).modTc p fun x => { x with entryStep := 6 }).entering p true
    else (t.refuseLink p 6).pdSend p (.vdm false 4 2 0x3A5D [] (min h.svdm 1)) :=
  (serves _).trans (if_neg (by decide))

theorem refuseLink_of_link (link : s.portLink p = some k) (code : Nat) : s.refuseLink p code = s.set (.link k .linkRefusal) code := by
  rw [State.refuseLink, link]

theorem cmdEnterModeAck_of_entering (link : s.portLink p = some k) (step : (s.tc p).entryStep = 6) (out : (s.tc p).entered = false)
    (pll : s.time.pll = true) : s.cmdEnterModeAck p =
      ((((((s.ackTx p).usbDisconnect p).modTc p fun x => { x with entered := true, entryStep := 9 }).set (.link k .linkRefusal)
        0).setPst p 8).cmdLinkTrainingStart k) := by
  have enters : (s.tc p).entryStep = 6 ∧ (!(s.tc p).entered) = true ∧ s.time.pll = true := ⟨step, congrArg not out, pll⟩
  simp only [State.cmdEnterModeAck, link, if_pos enters]

/-! ### As initiator -/

theorem cmdWyhelenEntryStart_of_contract (link : s.portLink p = some k) (wyhelen : s.ident.wyhelen = true)
    (explicit : (s.tc p).explicit = true) (source : (s.tc p).source = true) (dfp : (s.tc p).dfp = true) (step : (s.tc p).entryStep = 0)
    (policy : s.policy = true) (ready : s.pdReady p = true) (out : (s.tc p).entered = false) : s.cmdWyhelenEntryStart p =
      if s.modeOf k ≠ 0 ∨ !s.domainOn 6 then s.endEntry p 5
      else if !(s.tc p).cableKnown ∨ bitField (s.get (.tc p .pdCableVdo)) 2 0 < 2 then s.endEntry p 2
      else s.entryGo p 2 := by
  simp [State.cmdWyhelenEntryStart, link, wyhelen, explicit, source, dfp, step, policy, ready, out]

/-- A message that answers what is awaited. -/
theorem State.Serves.awaited {typ : Nat} {objs : List Nat} {ext : Bool} {a : Await}
    (serves : s.Serves p h typ objs ext ((s.tc p).await == a) t) (await : (s.tc p).await = a) (f : State → State) :
    s.pdIn p h typ objs ext true f = f t := by
  have answer := serves f
  rwa [await, beq_self_eq_true] at answer

section
variable {v : Nat} {rest vdos : List Nat}

theorem cmdStructuredVdmAnswer_identity
    (serves : s.Serves p h 15 (vdmHeader 0xFF00 0 1 1 h.svdm :: v :: rest) false ((s.tc p).await == .vdm 2) t)
    (await : (s.tc p).await = .vdm 2) : s.cmdStructuredVdmAnswer p h .identity true (v :: rest) =
      if v % 65536 = 0x3A5D ∧ v.testBit 26 then t.entryGo p 3 else t.endEntry p 1 := by
  simp [State.cmdStructuredVdmAnswer, await, serves.awaited await]

theorem cmdStructuredVdmAnswer_modes
    (serves : s.Serves p h 15 (vdmHeader 0x3A5D 0 1 3 h.svdm :: v :: rest) false ((s.tc p).await == .vdm 4) t)
    (await : (s.tc p).await = .vdm 4) : s.cmdStructuredVdmAnswer p h .modes true (v :: rest) =
      if bitField v 31 24 = 0x11 then t.entryGo p 5 else t.endEntry p 4 := by
  simp [State.cmdStructuredVdmAnswer, await, serves.awaited await]

theorem cmdStructuredVdmAnswer_enterMode_refused
    (serves : s.Serves p h 15 (vdmHeader 0x3A5D 1 2 4 h.svdm :: vdos) false ((s.tc p).await == .vdm 5) t)
    (await : (s.tc p).await = .vdm 5) : s.cmdStructuredVdmAnswer p h .enterMode false vdos = t.endEntry p 3 := by
  simp [State.cmdStructuredVdmAnswer, await, serves.awaited await]

end

end

/-- Settles O34: a request by what the port can enter, an answer by what was asked. -/
theorem wyhelenEntry : Obligations.WyhelenEntry := by
  intro s p h k t
  refine ⟨fun serves => next_of (serves _),
    fun serves => ⟨fun modal => next_of ((serves _).trans (if_pos modal)),
      fun plain => next_of ((serves _).trans (if_neg (Bool.eq_false_iff.1 plain)))⟩,
    fun serves link modal => next_of (cmdDiscoverModes_of_modal serves link modal),
    fun serves modal on => next_of ((cmdEnterMode_of_mode serves).trans (if_pos ⟨modal, on⟩)),
    fun svid position serves => ⟨fun other => next_of ((cmdEnterMode_of_other serves (.inl other)).trans ?otherSvid),
      fun same other => next_of ((cmdEnterMode_of_other serves (.inr other)).trans ?otherPosition)⟩,
    fun serves closed => next_of ((cmdEnterMode_of_mode serves).trans (if_neg ?closed)),
    fun link code => refuseLink_of_link link code,
    fun link step out pll => next_of (cmdEnterModeAck_of_entering (s := s.fresh) link step out pll),
    fun serves entered => next_of ((serves _).trans (if_pos entered)),
    fun serves out => next_of ((serves _).trans (if_neg (Bool.eq_false_iff.1 out))), fun serves => next_of (serves _),
    fun link wyhelen explicit source dfp step policy ready out => ?start,
    fun v rest serves await => ⟨fun is mode => next_of ((cmdStructuredVdmAnswer_identity (s := s.fresh) serves await).trans
        (if_pos ⟨is, mode⟩)),
      fun other => next_of ((cmdStructuredVdmAnswer_identity (s := s.fresh) serves await).trans (if_neg ?identity))⟩,
    fun v rest serves await => ⟨fun mode => next_of ((cmdStructuredVdmAnswer_modes (s := s.fresh) serves await).trans (if_pos mode)),
      fun other => next_of ((cmdStructuredVdmAnswer_modes (s := s.fresh) serves await).trans (if_neg other))⟩,
    fun vdos serves await => next_of (cmdStructuredVdmAnswer_enterMode_refused (s := s.fresh) serves await)⟩
  case otherSvid => rw [State.when, if_neg (by simpa using other)]; rfl
  case otherPosition => rw [State.when, if_pos (by simpa using same), same]; rfl
  case closed =>
    rcases closed with plain | off
    · exact fun both => absurd (plain.symm.trans both.1) (by decide)
    · exact fun both => absurd (off.symm.trans both.2) (by decide)
  case start =>
    have start := cmdWyhelenEntryStart_of_contract (s := s.fresh) link wyhelen explicit source dfp step policy ready out
    have opens (open' : s.modeOf k = 0) (on : s.domainOn 6 = true) : ¬ (s.modeOf k ≠ 0 ∨ (!s.domainOn 6) = true) := by
      simp [open', on]
    have wired (known : (s.tc p).cableKnown = true) (wide : 2 ≤ bitField (s.get (.tc p .pdCableVdo)) 2 0) :
        ¬ ((!(s.tc p).cableKnown) = true ∨ bitField (s.get (.tc p .pdCableVdo)) 2 0 < 2) := by
      simp [known, Nat.not_lt.2 wide]
    exact ⟨fun closed => next_of (start.trans (if_pos (closed.imp id (congrArg not ·)))),
      fun open' on unknown => next_of (start.trans ((if_neg (opens open' on)).trans (if_pos (.inl (congrArg not unknown))))),
      fun open' on known wide => next_of (start.trans ((if_neg (opens open' on)).trans (if_neg (wired known wide))))⟩
  case identity =>
    rintro ⟨is, mode⟩
    rcases other with other | other
    · exact other is
    · exact absurd (other.symm.trans mode) (by decide)

end Sys2Proof.Machine
end

section
/-! SUPPORT. The HS engine (R21, R64, R65), and a host's tokens and splits at the upstream of an image (R49, R50, R55 to R57, R126). -/

namespace Sys2Proof.Machine

section
variable {s : State}

/-! ### USB packets while Lens is off -/

/-- While Lens is off, a packet only counts (R425, R431). -/
theorem usbSeen_of_off (off : s.isTrue (.lens .lensEnable) = false) (pl : Nat) (sent : Bool) (pid addr b10 : Nat) (data : List Byte) :
    s.usbSeen pl sent pid addr b10 data = (s.lensCount (pidGroup pid) pl 1).lensCount 7 pl data.length := by
  rw [State.usbSeen, State.lensUsb, State.lensNote, off, Bool.false_and, Bool.false_and, if_neg Bool.false_ne_true]

/-- So nothing but the counters of Lens has changed. -/
theorem usbSeen_counts (off : s.isTrue (.lens .lensEnable) = false) (pl : Nat) (sent : Bool) (pid addr b10 : Nat) (data : List Byte) :
    ∃ counters, s.usbSeen pl sent pid addr b10 data = { s with lens := { s.lens with counters := counters } } :=
  ⟨_, usbSeen_of_off off pl sent pid addr b10 data⟩

/-! ### The engine -/

theorem grant_of_launch {n tag : Nat} {x : Xact} (free : s.freeContext = some n) (work : s.nextWork = some x) (launch : x.who = .launch tag) :
    s.grant = (({ s with waiting := s.waiting.erase x }).startContext n x).launchBegins tag := by
  simp only [State.grant, free, work, launch]

section
variable {n : Fin 4} {x : Xact} (runs : s.context n.val = some x)
include runs

theorem cmdHsEngineResponseTimeout_of_running : s.cmdHsEngineResponseTimeout n =
    (((s.bump (.hub .hsEngineTimeoutCount)).flag (.hub .hubEvents) hubEngineTimeout).lensCount 6 (placePort x.port) 1).engineError n.val x := by
  simp only [State.cmdHsEngineResponseTimeout, runs]

/-- The NAK of an IN. -/
theorem cmdHsEngineTransactionEnd_of_nak (dirIn : x.dirIn = true) (setup : x.setup = false) (ping : x.ping = false)
    (disarmed : s.lens.armed = false) (off : s.isTrue (.lens .lensEnable) = false) : s.cmdHsEngineTransactionEnd n .nak =
      (((s.usbSeen (placePort x.port) true 0x69 x.addr (x.ep % 16 + 64 * speedCode (s.get (.port x.port .portSpeed)))
        []).usbSeen (placePort x.port) false 0x5A x.addr (x.ep % 16 + 64 * speedCode (s.get (.port x.port .portSpeed))) []).engineFinish
          n.val x 1 false []) := by
  have disarmed' : (s.usbSeen (placePort x.port) true 0x69 x.addr (x.ep % 16 + 64 * speedCode (s.get (.port x.port .portSpeed)))
      []).lens.armed = false := by
    rw [usbSeen_of_off off]
    exact disarmed
  simp only [State.cmdHsEngineTransactionEnd, runs, dirIn, setup, ping, Bool.false_eq_true, true_or, if_true, if_false,
    provoke_of_disarmed disarmed']

end

end

/-- Settles O7: a grant by the work it takes, an error by how many went before it. -/
theorem engineCommands : Obligations.EngineCommands := fun s on =>
  ⟨fun _ _ _ free work launch => next_of_core on (grant_of_launch (s := s.fresh) free work launch),
    fun _ _ runs few => next_of_core on ((cmdHsEngineResponseTimeout_of_running (s := s.fresh) runs).trans (if_neg (Nat.not_le.2 few))),
    fun _ _ runs many => next_of_core on ((cmdHsEngineResponseTimeout_of_running (s := s.fresh) runs).trans (if_pos many)),
    fun _ _ runs dirIn setup ping disarmed off =>
      next_of_core on (cmdHsEngineTransactionEnd_of_nak (s := s.fresh) runs dirIn setup ping disarmed off)⟩

end Sys2Proof.Machine
end

section
/-! SUPPORT. A host's tokens and splits at the upstream of an image, and the end of a translator's transaction (R49, R50, R55 to R57,
R126), while Lens and provocation are off. -/

namespace Sys2Proof.Machine

section
variable {s v : State} {u : Upstream} {i : Image} {p : Port}

/-- `t` differs from `s` in Lens alone. -/
def State.LensOnly (s t : State) : Prop := ∃ lens, t = { s with lens := lens }

/-- What does not look at Lens reads the same. -/
theorem State.LensOnly.reads {α : Type} (h : s.LensOnly v) (f : State → α) (blind : ∀ lens, f { s with lens := lens } = f s) : f v = f s := by
  obtain ⟨lens, rfl⟩ := h
  exact blind lens

theorem lensOnly_usbSeen (off : s.isTrue (.lens .lensEnable) = false) (pl : Nat) (sent : Bool) (pid addr b10 : Nat) (data : List Byte) :
    s.LensOnly (s.usbSeen pl sent pid addr b10 data) := ⟨_, usbSeen_of_off off pl sent pid addr b10 data⟩

theorem splitsOpen_of_shown (shows : s.upShows u = .hub) (open' : (s.hold i).blocked = false) (host : s.holdState i ≠ 4)
    (resume : s.holdState i ≠ 5) : s.splitsOpen u i = true := by
  simp [State.splitsOpen, shows, open', host, resume]

/-! ### Tokens -/

theorem deviceToken_of_direct {x : Xlate} {ep : Nat} {t : Token} {a : DevAnswer} {acked : Bool} (direct : s.relayed i x.port = false)
    (place : s.place i x.port = .own p) (open' : s.directOpen i x.port p = true) : s.deviceToken i x ep t a acked =
      (s.sendToken i p t x.devAddr (s.mapEp i t.addr ep) (crc5 x.devAddr (s.mapEp i t.addr ep))
        (t.toggle != s.flipOf i x.port x (s.mapEp i t.addr ep) false)).directAnswer i p x t.addr ep t a acked := by
  simp only [State.deviceToken, direct, place, open', Bool.false_eq_true, if_false, if_true]

/-- A good IN token that is for a device is routed by its address. -/
theorem cmdHostToken_of_input (up : s.imageOfUp u = some i) (shows : s.upShows u = .hub) (open' : (s.hold i).blocked = false)
    (host : s.holdState i ≠ 4) (resume : s.holdState i ≠ 5) (disarmed : s.lens.armed = false)
    (off : s.isTrue (.lens .lensEnable) = false) {t : Token} {a : DevAnswer} {acked : Bool} (input : t.pid = .input)
    (pid : t.pidOk = true) (crc : t.crcOk = true) (addressed : t.addr ≠ 0) (device : t.addr ≠ (s.hub i).addr)
    (hv : v = s.usbSeen (placeUp u) false 0x69 t.addr (t.ep % 16 + 16 * i.val) []) :
    s.cmdHostToken u t a acked = (s.entry i t.addr).elim v.unrouted fun x => v.deviceToken i x (t.ep % 16) t a acked := by
  have only : s.LensOnly v := hv ▸ lensOnly_usbSeen off _ _ _ _ _ _
  have hub : v.hub i = s.hub i := only.reads (·.hub i) fun _ => rfl
  have entry : v.entry i t.addr = s.entry i t.addr := only.reads (·.entry i t.addr) fun _ => rfl
  have goes : ¬ (s.upShows u ≠ .hub ∨ (s.hold i).blocked = true ∨ s.holdState i = 4 ∨ s.holdState i = 5) := by
    simp [shows, open', host, resume]
  have hv' : s.usbSeen (placeUp u) false (tokenPid .input) t.addr (t.ep % 16 + 16 * i.val) [] = v := hv.symm
  have data : ¬ (TokPid.input = .out ∨ TokPid.input = .setup) := by decide
  have known : ¬ (TokPid.input = .ext) := by decide
  simp only [State.cmdHostToken, up, if_neg goes, provoke_of_disarmed disarmed, input, hv', if_neg data, pid, crc, if_neg known, hub, entry,
    if_neg addressed, if_neg device, Bool.not_true, Bool.false_eq_true, if_false]
  cases s.entry i t.addr <;> rfl

/-! ### Splits -/

theorem ttSplitOf_addr {x : Split} {e : Xlate} (entry : s.entry i x.addr = some e) : (s.ttSplitOf i x).addr = e.devAddr := by
  change s.wireAddr i x.addr x.port = e.devAddr
  rw [State.wireAddr, entry]
  rfl

theorem localStart_of_room {x : Split} (runs : (s.port p).tt.stopped = false)
    (room : s.ttRoom i x.port p x.periodic x.data.length = true) : s.localStart u i p x =
      if x.periodic then (s.modPort p fun y => { y with tt := { y.tt with pipeline := y.tt.pipeline ++ [s.ttSplitOf i x] } }).emit
        (.ttSplit p (s.ttSplitOf i x).addr (s.ttSplitOf i x).ep)
      else ((s.modPort p fun y => { y with tt := { y.tt with buffers := y.tt.buffers ++ [s.ttSplitOf i x] } }).emit
        (.ttSplit p (s.ttSplitOf i x).addr (s.ttSplitOf i x).ep)).splitAnswer u .ack := by
  simp only [State.localStart, runs, room, Bool.false_eq_true, if_false, if_true]

section
variable (up : s.imageOfUp u = some i) (takes : s.splitsOpen u i = true) (off : s.isTrue (.lens .lensEnable) = false) {x : Split}
  (near : x.external = none) (place : s.place i x.port = .own p) (split : s.splitPort i p = true)
include up takes off near place split

/-- A start-split for a translator of this facet that the hub does not complete itself. -/
theorem cmdHostStartSplit_of_own (plain : s.splitAbsorbed i x = false)
    (fresh : x.setup = true → (s.relayEp i x.addr 0 false).control ≠ 5)
    (hv : v = s.usbSeen (placeUp u) false 0x78 x.addr (x.ep % 16 + 16 * i.val) x.data) :
    s.cmdHostStartSplit u x = v.localStart u i p x := by
  have only : s.LensOnly v := hv ▸ lensOnly_usbSeen off _ _ _ _ _ _
  have plain' : v.splitAbsorbed i x = false := (only.reads (·.splitAbsorbed i x) fun _ => rfl).trans plain
  have place' : v.place i x.port = .own p := (only.reads (·.place i x.port) fun _ => rfl).trans place
  have split' : v.splitPort i p = true := (only.reads (·.splitPort i p) fun _ => rfl).trans split
  have control : (v.relayEp i x.addr 0 false).control = (s.relayEp i x.addr 0 false).control :=
    only.reads (fun t => (t.relayEp i x.addr 0 false).control) fun _ => rfl
  have keeps : ¬ (x.setup = true ∧ (!false) = true ∧ (v.relayEp i x.addr 0 false).control = 5) := fun all =>
    fresh all.1 (control.symm.trans all.2.2)
  simp only [State.cmdHostStartSplit, up, takes, ← hv, near, plain', if_neg keeps, place', split', Bool.not_true, Bool.false_eq_true,
    if_false]

/-- Its complete-split. -/
theorem cmdHostCompleteSplit_of_own
    (plain : s.splitAbsorbed i { x with setup := x.setup && (s.relayEp i x.addr 0 false).control != 5 } = false)
    (hv : v = s.usbSeen (placeUp u) false 0x78 x.addr (x.ep % 16 + 16 * i.val) []) :
    s.cmdHostCompleteSplit u x = v.localComplete u i p x := by
  have only : s.LensOnly v := hv ▸ lensOnly_usbSeen off _ _ _ _ _ _
  have plain' : v.splitAbsorbed i { x with setup := x.setup && (v.relayEp i x.addr 0 false).control != 5 } = false :=
    (only.reads (fun t => t.splitAbsorbed i { x with setup := x.setup && (t.relayEp i x.addr 0 false).control != 5 }) fun _ => rfl).trans
      plain
  have place' : v.place i x.port = .own p := (only.reads (·.place i x.port) fun _ => rfl).trans place
  have split' : v.splitPort i p = true := (only.reads (·.splitPort i p) fun _ => rfl).trans split
  simp only [near] at plain'
  simp only [State.cmdHostCompleteSplit, up, takes, ← hv, near, plain', place', split', Bool.not_true, Bool.false_eq_true, if_false]

end

theorem localComplete_of_done {x : Split} {w ep : Nat} {flip : Bool} {r : TtResult} (runs : (s.port p).tt.stopped = false)
    (bulk : x.periodic = false) (rewrite : s.splitRewrite i x = (w, ep, flip))
    (done : ((s.port p).tt.done.find? fun q => q.addr == w && q.ep == ep && q.dirIn == x.dirIn) = some r) : s.localComplete u i p x =
      (s.modPort p fun y => { y with tt := { y.tt with done := y.tt.done.erase r } }).splitResultAnswer u (exchanged r.answer flip) := by
  simp only [State.localComplete, rewrite, runs, bulk, done, Bool.false_eq_true, if_false]

/-! ### The end of a translator's transaction -/

theorem cmdTtFsTransactionDone_of_buffer {q : TtSplit} {rest : List TtSplit} {answer judged : DevAnswer} {r : State}
    (launch : s.ttLaunch p = none) (pipeline : (s.port p).tt.pipeline = []) (staging : (s.port p).tt.staging = [])
    (buffers : (s.port p).tt.buffers = q :: rest) (host : q.engine = none) (judge : s.ttJudge p q answer = (judged, r)) :
    s.cmdTtFsTransactionDone p answer = r.modPort p fun x => { x with tt := { x.tt with
      buffers := rest,
      done := x.tt.done ++ [⟨q.addr, q.ep, q.dirIn, judged⟩] } } := by
  simp only [State.cmdTtFsTransactionDone, launch, pipeline, staging, buffers, host, judge]

end

/-- Settles O6: tokens by the entry of their address, splits by the translator they name. -/
theorem hostTransfers : Obligations.HostTransfers := by
  intro s u i p on up shows open' host resume disarmed off
  have takes := splitsOpen_of_shown shows open' host resume
  have token {t : Token} {a : DevAnswer} {acked : Bool} (input : t.pid = .input) (pid : t.pidOk = true) (crc : t.crcOk = true)
      (addressed : t.addr ≠ 0) (device : t.addr ≠ (s.hub i).addr) :=
    cmdHostToken_of_input (s := s.fresh) (a := a) (acked := acked) up shows open' host resume disarmed off input pid crc addressed device rfl
  have only (pl pid addr b10 : Nat) (data : List Byte) := lensOnly_usbSeen (s := s.fresh) off pl false pid addr b10 data
  refine ⟨fun t a acked x input pid crc addressed device entry direct place way => next_of_core on
      ((token input pid crc addressed device).trans ?direct),
    fun t a acked input pid crc addressed device entry => next_of_core on ((token input pid crc addressed device).trans ?unrouted),
    fun x e q near entry place split plain fresh runs hq room => ?start,
    fun x w ep flip r near place split plain runs bulk rewrite done => next_of_core on
      ((cmdHostCompleteSplit_of_own (s := s.fresh) up takes off near place split plain rfl).trans ?complete),
    fun q rest answer judged r launch pipeline staging buffers engine judge => next_of_core on
      (cmdTtFsTransactionDone_of_buffer (s := s.fresh) launch pipeline staging buffers engine judge)⟩
  case direct =>
    have only := only (placeUp u) 0x69 t.addr (t.ep % 16 + 16 * i.val) []
    have ep := only.reads (·.mapEp i t.addr (t.ep % 16)) fun _ => rfl
    have flip := only.reads (·.flipOf i x.port x (s.fresh.mapEp i t.addr (t.ep % 16)) false) fun _ => rfl
    rw [fresh_entry, entry, Option.elim_some, deviceToken_of_direct ((only.reads (·.relayed i x.port) fun _ => rfl).trans direct)
      ((only.reads (·.place i x.port) fun _ => rfl).trans place) ((only.reads (·.directOpen i x.port p) fun _ => rfl).trans way), ep, flip]
    rfl
  case unrouted =>
    rw [fresh_entry, entry]
    rfl
  case start =>
    have only := only (placeUp u) 0x78 x.addr (x.ep % 16 + 16 * i.val) x.data
    have split' : (s.fresh.usbSeen (placeUp u) false 0x78 x.addr (x.ep % 16 + 16 * i.val) x.data).ttSplitOf i x = q :=
      (only.reads (·.ttSplitOf i x) fun _ => rfl).trans hq
    have local' := (cmdHostStartSplit_of_own (s := s.fresh) up takes off near place split plain fresh rfl).trans
      (localStart_of_room ((only.reads (fun t => (t.port p).tt.stopped) fun _ => rfl).trans runs)
        ((only.reads (·.ttRoom i x.port p x.periodic x.data.length) fun _ => rfl).trans room))
    rw [split'] at local'
    exact ⟨hq ▸ ttSplitOf_addr entry, hq ▸ rfl, fun periodic => next_of_core on (local'.trans (if_pos periodic)),
      fun bulk => next_of_core on (local'.trans (if_neg (Bool.eq_false_iff.1 bulk)))⟩
  case complete =>
    have only := only (placeUp u) 0x78 x.addr (x.ep % 16 + 16 * i.val) []
    exact localComplete_of_done ((only.reads (fun t => (t.port p).tt.stopped) fun _ => rfl).trans runs) bulk
      ((only.reads (·.splitRewrite i x) fun _ => rfl).trans rewrite)
      ((only.reads (fun t => (t.port p).tt.done.find? fun q => q.addr == w && q.ep == ep && q.dirIn == x.dirIn) fun _ => rfl).trans done)

end Sys2Proof.Machine
end

section
/-! SUPPORT. Reset, resume, SOF and silence on an upstream (R35, R46, R48, R59, R60). -/

namespace Sys2Proof.Machine

theorem State.SameImages.ownUpstream {s t : State} (h : s.SameImages t) (b : Nat) : t.ownUpstream b = s.ownUpstream b := by
  rw [State.ownUpstream, h.ownSlot, State.ownUpstream]

theorem State.SameImages.activeByte {s t : State} (h : s.SameImages t) (i : Image) : t.activeByte i = s.activeByte i := by
  have swapped : t.swappedRoles i = s.swappedRoles i := by
    rw [State.swappedRoles, State.isTrue, h.2.2.2.2 (.hold4 _ _) rfl, State.hold, h.2.1]
    rfl
  rw [State.activeByte, swapped, h.2.2.2.2 (.image _ _) rfl, h.2.2.2.2 (.image _ _) rfl, State.activeByte]

theorem State.SameImages.activeUp {s t : State} (h : s.SameImages t) (i : Image) : t.activeUp i = s.activeUp i := by
  rw [State.activeUp, h.enabled, h.activeByte, h.ownUpstream, State.activeUp]

theorem State.SameImages.imageOfUp {s t : State} (h : s.SameImages t) (u : Upstream) : t.imageOfUp u = s.imageOfUp u := by
  simp only [State.imageOfUp, h.activeUp]

/-- `t` reads every register as `s` does. -/
def State.SameRegs (s t : State) : Prop := ∀ r, t.get r = s.get r

namespace State.SameRegs
variable {s t u : State}

theorem trans (h : s.SameRegs t) (h' : t.SameRegs u) : s.SameRegs u := fun r => (h' r).trans (h r)

theorem alone (h : s.SameRegs t) : t.alone = s.alone := by
  rw [State.alone, h, State.alone]

theorem holdState (h : s.SameRegs t) (i : Image) : t.holdState i = s.holdState i := h _

theorem ite {p : Prop} [Decidable p] (h : s.SameRegs t) (h' : s.SameRegs u) : s.SameRegs (if p then t else u) := by
  split <;> assumption

end State.SameRegs

section
variable {s : State} {u : Upstream} {i : Image}

theorem sameRegs_resumePorts (s : State) (i : Image) : s.SameRegs (s.resumePorts i) :=
  forEach_keeps (P := fun t => s.SameRegs t) _ (fun _ _ h => h) fun _ => rfl

theorem sameRegs_suspendImage (s : State) (i : Image) : s.SameRegs (s.suspendImage i) :=
  forEach_keeps (P := fun t => s.SameRegs t) _ (fun _ _ h => h) fun _ => rfl

theorem sameRegs_firstSof (s : State) (i : Image) (count : Nat) : s.SameRegs (s.firstSof i count) := .ite (fun _ => rfl) fun _ => rfl

/-- Within a frame no SOF is traced, and no register changes. -/
theorem sameRegs_repeatSof (s : State) (i : Image) (frame source : Nat) {micro : Nat} (within : micro ≠ 0) :
    s.SameRegs (s.repeatSof i frame micro source) := by
  refine forEach_keeps (P := fun t => s.SameRegs t) _ (fun t p h => ?_) (.ite (fun _ => rfl) (sameRegs_firstSof s i _))
  dsimp only
  split
  · exact h
  · simp only [if_neg within]
    exact .ite h (.ite h (.ite h h))

/-! ### Reset -/

theorem sameImages_abortControl (s : State) : s.SameImages s.abortControl :=
  (State.SameImages.set s (r := .hub .controlAbortByResetCount) _ rfl).trans (.flag _ _ rfl)

theorem sameImages_abortControls (s : State) (l : List Nat) : s.SameImages (s.forEach l fun s _ => s.abortControl) :=
  forEach_keeps (P := fun t => s.SameImages t) l (fun t _ h => h.trans (sameImages_abortControl t)) (.refl s)

theorem cmdUpstreamReset_of_unarmed (up : s.imageOfUp u = some i) (shows : s.upShows u = .hub) (unarmed : s.holdState i = 0) {mid hs : Bool}
    {r : State} (hr : (s.forEach (List.range (s.openControls u mid)) fun s _ => s.abortControl) = r) : s.cmdUpstreamReset u mid hs =
      ((((r.defaultHub i).cutDelivery (upDoor u)).dropCommands u).setUpSpeed u (if hs then 3 else 2)).resetUnarmed i := by
  have same : s.SameImages r := hr ▸ sameImages_abortControls s _
  have up' : r.imageOfUp u = some i := (same.imageOfUp u).trans up
  have unarmed' : r.holdState i = 0 := (same.holdState i).trans unarmed
  simp only [State.cmdUpstreamReset, shows, hr, up', unarmed', if_true]

/-! ### Resume -/

section
variable (up : s.imageOfUp u = some i) (shows : s.upShows u = .hub) (suspended : (s.hub i).suspended = true)
include up shows suspended

/-- A resume of a suspended image, by what the device's wake left. -/
theorem cmdHostResume_of_suspended {v w : State} (hv : v = if s.time.elapsed < (s.hub i).wakeEnd then s.wakeMerged else s)
    (hw : w = (v.modHub i fun h => { h with resuming := true, wakeEnd := 0 }).resumePorts i) :
    (s.alone = true → s.holdState i = 0 → s.cmdHostResume u = w) ∧
    (s.holdState i = 3 → s.cmdHostResume u = (w.endIntent i).setHoldState i 1) := by
  have same : s.SameImages v := hv ▸ .ite ((State.SameImages.set s (r := .hub .remoteWakeMergedCount) _ rfl).trans (.flag _ _ rfl)) (.refl s)
  have regs : v.SameRegs w := hw ▸ State.SameRegs.trans (t := v.modHub i fun h => { h with resuming := true, wakeEnd := 0 }) (fun _ => rfl)
    (sameRegs_resumePorts _ i)
  have hold : w.holdState i = s.holdState i := (regs.holdState i).trans (same.holdState i)
  have alone : w.alone = s.alone := by
    rw [regs.alone, State.alone, same.2.2.2.2 (.ring _) rfl, State.alone]
  have other : ¬ (Presents.hub = .standby) := by decide
  refine ⟨fun single zero => ?_, fun three => ?_⟩
  · simp only [State.cmdHostResume, shows, up, if_neg other, suspended, ← hv, ← hw, hold, alone, zero, single, true_or, and_self, if_true]
    rfl
  · simp only [State.cmdHostResume, shows, up, if_neg other, suspended, ← hv, ← hw, hold, three, or_true, and_self, if_true]

end

/-! ### SOF -/

theorem countRecall_of_hosted (hosted : s.holdState i ≠ 4) (count : Nat) : s.countRecall i count = s := if_neg fun h => hosted h.1

theorem cmdHostSof_of_micro (up : s.imageOfUp u = some i) (shows : s.upShows u = .hub) {frame micro : Nat} (within : micro ≠ 0)
    (hosted : s.holdState i ≠ 4) (awake : (s.hub i).suspended = false) (settled : (s.hub i).resuming = false) (single : s.alone = true) :
    s.cmdHostSof u frame micro = (((({ (s.lensCount 8 (placeUp u) 1).modHub i fun h => { h with
      locked := true, frame := frame, micro := micro, lastSof := s.extended, suspended := false, resuming := false, wakeEnd := 0 } with
        engineMissed := false }).repeatSof i frame micro 1).retryRelay i).grantAll) := by
  have up' : (s.lensCount 8 (placeUp u) 1).imageOfUp u = some i := up
  have hosted' : (s.lensCount 8 (placeUp u) 1).holdState i ≠ 4 := hosted
  have awake' : ((s.lensCount 8 (placeUp u) 1).hub i).suspended = false := awake
  have settled' : ((s.lensCount 8 (placeUp u) 1).hub i).resuming = false := settled
  have off : ¬ (Presents.hub = .nothing) := by decide
  have other : ¬ (Presents.hub = .standby) := by decide
  simp only [State.cmdHostSof, shows, if_neg off, if_neg other, within, up', countRecall_of_hosted hosted', awake', settled', Bool.or_self,
    Bool.false_eq_true, false_and, if_false]
  refine congrArg (fun t : State => (t.retryRelay i).grantAll) (if_pos (Or.inl ?_))
  exact (State.SameRegs.alone (sameRegs_repeatSof _ i frame 1 within)).trans single

theorem cmdMicroframeWithoutSof_of_missed (up : s.imageOfUp u = some i) (shows : s.upShows u = .hub) (fast : (s.up u).speed = 3)
    (config : (s.hub i).config = 1) (awake : (s.hub i).suspended = false) (host : s.holdState i ≠ 4) (resume : s.holdState i ≠ 5) :
    s.cmdMicroframeWithoutSof u = (((((({ s with engineMissed := false }).modHold i fun h =>
      { h with recallSofs := 0 }).retryRelay i).grantAll).bump (.hub .sofMissCount)).flag (.hub .hubEvents) hubSofMiss) := by
  have up' : ({ s with engineMissed := false } : State).imageOfUp u = some i := up
  have shows' : ({ s with engineMissed := false } : State).upShows u = .hub := shows
  have fast' : (({ s with engineMissed := false } : State).up u).speed = 3 := fast
  have config' : (({ s with engineMissed := false } : State).hub i).config = 1 := config
  have awake' : (({ s with engineMissed := false } : State).hub i).suspended = false := awake
  have host' : (({ s with engineMissed := false } : State).holdState i != 4) = true := bne_iff_ne.2 host
  have resume' : (({ s with engineMissed := false } : State).holdState i != 5) = true := bne_iff_ne.2 resume
  simp only [State.cmdMicroframeWithoutSof, up', shows', fast', config', awake', host', resume']
  rfl

theorem cmdTtFrameSof_of_fullSpeed {p : Port} {m : Nat} (port : s.logicalOf p = some (i, m)) (awake : s.awake p = true)
    (speed : s.get (.port p .portSpeed) = 2) (grid : s.onGrid i m = false) (resume : s.holdState i ≠ 5) (fast : s.fullSpeed i = false) :
    s.cmdTtFrameSof p = ((s.emit (.line p (.sof (s.hub i).frame 0))).lensCount 8 (placePort p) 1).writeRow p.val ((s.hub i).frame * 8)
      4 i.val := by
  simp [State.cmdTtFrameSof, port, awake, speed, grid, resume, fast]

/-! ### Silence -/

theorem cmdUpstreamIdleSuspend_of_alone (up : s.imageOfUp u = some i) (shows : s.upShows u = .hub) (unarmed : s.holdState i = 0)
    (awake : (s.hub i).suspended = false) (single : s.alone = true) : s.cmdUpstreamIdleSuspend u =
      (((s.modHub i fun h => { h with suspended := true, resuming := false }).suspendImage i).modHold i fun h =>
        { h with windowOpen := false }) := by
  have single' : (((s.modHub i fun h => { h with suspended := true, resuming := false }).suspendImage i).modHold i fun h =>
      { h with windowOpen := false }).alone = true :=
    (State.SameRegs.alone (sameRegs_suspendImage (s.modHub i fun h => { h with suspended := true, resuming := false }) i)).trans single
  have other : ¬ (Presents.hub = .standby) := by decide
  simp only [State.cmdUpstreamIdleSuspend, shows, if_neg other, up, unarmed, awake, single', Bool.not_false, true_or, and_self, if_true]

end

/-- Settles O5: what an upstream's event finds of its image decides each case. -/
theorem upstreamEvents : Obligations.UpstreamEvents := by
  intro s u i on up shows
  refine ⟨fun unarmed mid hs r hr => next_of_core on (cmdUpstreamReset_of_unarmed (s := s.fresh) up shows unarmed hr),
    fun suspended single unarmed ended => next_of_core on ?resumed, fun suspended single unarmed drives => next_of_core on ?merged,
    fun suspended dormant ended => next_of_core on ?dormant,
    fun frame micro within hosted awake settled single => next_of_core on
      (cmdHostSof_of_micro (s := s.fresh) up shows within hosted awake settled single),
    fun fast config awake host resume => next_of_core on
      (cmdMicroframeWithoutSof_of_missed (s := s.fresh) up shows fast config awake host resume),
    fun unarmed awake single => next_of_core on (cmdUpstreamIdleSuspend_of_alone (s := s.fresh) up shows unarmed awake single),
    fun p m port awake speed grid resume fast => next_of_core on
      (cmdTtFrameSof_of_fullSpeed (s := s.fresh) port awake speed grid resume fast)⟩
  case resumed =>
    exact (cmdHostResume_of_suspended (s := s.fresh) up shows suspended (if_neg (Nat.not_lt.2 ended)).symm rfl).1 single unarmed
  case merged => exact (cmdHostResume_of_suspended (s := s.fresh) up shows suspended (if_pos drives).symm rfl).1 single unarmed
  case dormant =>
    exact (cmdHostResume_of_suspended (s := s.fresh) up shows suspended (if_neg (Nat.not_lt.2 ended)).symm rfl).2 dormant

end Sys2Proof.Machine
end

section
/-! SUPPORT. What a record of the relay does once the link layer has delivered its frame (R123 to R126, R129, R131, R134, R140). -/

namespace Sys2Proof.Machine

section
variable {s t : State} {k : Link} {h : FrameHdr} {r : RelayHdr} {data : List Byte} {p : Port} {i : Image} {m : Nat}

theorem ownEp_setOwnEp_ne (s : State) (p : Port) (a : Nat) {e e' : Nat} {d d' : Bool} (x : OwnEp) (h : (e', d') ≠ (e, d)) :
    (s.setOwnEp p a e d x).ownEp p a e' d' = s.ownEp p a e' d' :=
  Table.get_put_ne (k := (p, a, e, d)) (k' := (p, a, e', d')) ownOrd ({} : OwnEp) s.ownEps x fun same => h (Prod.mk.inj (Prod.mk.inj same).2).2

/-! ### Requests and their results -/

theorem cmdXactReq_of_served (took : s.receive k h 8 (.relay r data) = (true, t)) (shape : t.recordShape h r 1 data.length = true)
    (port : t.recordPort r = some p) (logical : t.logicalOf p = some (i, m)) (enabled : t.pst p = 4) (inside : t.outside i m = false) :
    s.cmdXactReq k h r data = t.ownRequest h.src p r data fun s res stamp d => s.relayReply h.src i m r res stamp d := by
  simp [State.cmdXactReq, took, shape, port, logical, enabled, inside]

theorem cmdXactReq_of_malformed (took : s.receive k h 8 (.relay r data) = (true, t)) (shape : t.recordShape h r 1 data.length = false) :
    s.cmdXactReq k h r data = t.badRecord k := by
  simp [State.cmdXactReq, took, shape]

/-- A result that answers a request is none of the read-ahead that hold-over entry returns. -/
theorem cmdXactRsp_of_answer (took : s.receive k h 9 (.relay r data) = (true, t)) (shape : t.recordShape h r 2 data.length = true)
    (seq : r.seq ≠ 0) (logical : t.recordLogical h r = some (i, m)) : s.cmdXactRsp k h r data =
      t.relayAnswer i ((t.hostAddrOf i m r.devAddr).getD 0) m r.ep r.dirIn r.setup r.seq r.result r.stamp data := by
  simp [State.cmdXactRsp, took, shape, seq, logical]

theorem cmdXactRsp_of_readAhead (took : s.receive k h 9 (.relay r data) = (true, t)) (shape : t.recordShape h r 2 data.length = true)
    (port : t.recordPort r = some p) (logical : t.logicalOf p = some (i, m)) (kept : t.keeps i m = true) (away : t.entryHere i = false)
    (dirIn : r.dirIn = true) (seq : r.seq = 0) : s.cmdXactRsp k h r data = t.keepReadAhead i m r.devAddr r.ep p r.stamp data := by
  simp [State.cmdXactRsp, took, shape, port, logical, kept, away, dirIn, seq]

theorem cmdCancel_of_shaped (took : s.receive k h 8 (.relay r data) = (true, t)) (shape : t.recordShape h r 5 data.length = true)
    (port : t.recordPort r = some p) : s.cmdCancel k h r data = t.dropControl p r.devAddr r.ep := by
  simp only [State.cmdCancel, took, shape, port, Bool.not_true, Bool.false_eq_true, if_false, if_true]

theorem dropControl_of_other {w e : Nat} (other : e ≠ 0) : t.dropControl p w e =
    (t.setOwnEp p w e false { t.ownEp p w e false with jobs := [], setup := [], gather := [] }).setOwnEp p w e true
      { t.ownEp p w e true with jobs := [] } := by
  rw [State.dropControl, if_neg other, ownEp_setOwnEp_ne _ _ _ _ (by simp)]

/-! ### Port requests and their answers -/

theorem cmdPortReq_of_mapped {q : PortReq} (took : s.receive k h 8 (.portReq r q) = (true, t))
    (shape : t.recordShape h r 3 (h.length - 16) = true) (port : t.recordPort r = some p) (logical : t.logicalOf p = some (i, m)) :
    s.cmdPortReq k h r q = (t.portRequest p q).modPort p fun x => { x with answerTo := some (h.src, h.tag, r.seq) } := by
  simp only [State.cmdPortReq, took, shape, port, logical, Bool.not_true, Bool.false_eq_true, if_false, if_true]

/-- The status of a port that stays connected and is not in reset. -/
theorem cmdPortStatus_of_steady {b : PortStatusBody} (took : s.receive k h 9 (.portStatus r b) = (true, t))
    (shape : t.recordShape h r 4 (h.length - 16) = true) (logical : t.recordLogical h r = some (i, m))
    (connected : b.status.testBit psConn = true) (settled : b.status.testBit psReset = false) (calm : b.change.testBit psReset = false)
    {u : State} (hu : u = t.setRemotePort i m { b with change := (t.remotePort i m).change ||| b.change }) : s.cmdPortStatus k h r b =
      if (t.hub i).waitsOn = some (m, r.seq) then (u.modHub i fun x => { x with waitsOn := none }).emit .controlAck else u := by
  have hub : u.hub i = t.hub i := by rw [hu]; rfl
  simp only [State.cmdPortStatus, took, shape, logical, connected, settled, calm, ← hu, hub, Bool.not_true, Bool.and_false, Bool.false_and,
    Bool.false_eq_true, or_self, if_false]

/-! ### Splits -/

theorem cmdSplitStart_of_room (took : s.receive k h 10 (.relay r data) = (true, t)) (shape : t.recordShape h r 6 data.length = true)
    (port : t.recordPort r = some p) (enabled : t.pst p = 4) (slow : t.get (.port p .portSpeed) = 1 ∨ t.get (.port p .portSpeed) = 2)
    (runs : (t.port p).tt.stopped = false) (room : ((t.port p).tt.staging.map fun q => q.data.length).sum + data.length ≤ 3584) :
    s.cmdSplitStart k h r data = ((t.modPort p fun x => { x with tt := { x.tt with staging := x.tt.staging ++
      [{ addr := r.devAddr, ep := r.ep, dirIn := r.dirIn, setup := r.setup, iso := r.epType == 3, micro := r.stamp % 16384,
         toggle := false, data := data, remote := some (h.src, h.tag, r.seq), periodic := decide (2 ≤ r.epType),
         maxPacket := r.maxPacket }] } }).emit (.ttSplit p r.devAddr r.ep)) := by
  have takes : ¬ (t.pst p ≠ 4 ∨ ¬ (t.get (.port p .portSpeed) = 1 ∨ t.get (.port p .portSpeed) = 2)) := fun refused =>
    refused.elim (· enabled) (· slow)
  simp only [State.cmdSplitStart, took, shape, port, if_neg takes, runs, if_pos room, Bool.not_true, Bool.false_eq_true, if_false, if_true]

theorem cmdSplitStart_of_malformed (took : s.receive k h 10 (.relay r data) = (true, t)) (shape : t.recordShape h r 6 data.length = false) :
    s.cmdSplitStart k h r data = t.badRecord k := by
  simp [State.cmdSplitStart, took, shape]

section
variable (took : s.receive k h 10 (.relay r data) = (true, t))
include took

theorem cmdSplitResult_of_malformed (shape : t.recordShape h r 7 data.length = false) : s.cmdSplitResult k h r data = t.badRecord k := by
  simp [State.cmdSplitResult, took, shape]

theorem cmdSplitResult_of_stale (shape : t.recordShape h r 7 data.length = true)
    (stale : (t.splits.find? fun y => y.tag == h.tag && y.seq == r.seq && y.result.isNone) = none) :
    s.cmdSplitResult k h r data = t.staleResult := by
  simp only [State.cmdSplitResult, took, shape, stale, Bool.not_true, Bool.false_eq_true, if_false]

/-- The result of a split that waits for it. -/
theorem cmdSplitResult_of_waiting (shape : t.recordShape h r 7 data.length = true) {q : EntrySplit}
    (waits : (t.splits.find? fun y => y.tag == h.tag && y.seq == r.seq && y.result.isNone) = some q) {u : State}
    (hu : u = { t with splits := t.splits.map fun y =>
      if y.tag == h.tag && y.seq == r.seq && y.result.isNone then { y with result := some (r.result, data) } else y }) :
    s.cmdSplitResult k h r data =
      if r.result = 0 ∧ !q.dirIn then
        u.setRelayEp (imageOf q.image) q.addr (u.mapEp (imageOf q.image) q.addr q.ep) false
          { u.relayEp (imageOf q.image) q.addr (u.mapEp (imageOf q.image) q.addr q.ep) false with lastOut := some q.toggle }
      else u := by
  simp only [State.cmdSplitResult, took, shape, waits, ← hu, Bool.not_true, Bool.false_eq_true, if_false]

end

end

/-- Settles O18: each record by the state its frame was delivered in. -/
theorem relayRecords : Obligations.RelayRecords := by
  intro s k h r data t on ring
  refine ⟨fun p i m took shape port logical enabled inside => next_of_ring on ring
      (cmdXactReq_of_served took shape port logical enabled inside),
    fun i m took shape seq logical => next_of_ring on ring (cmdXactRsp_of_answer took shape seq logical),
    fun p i m took shape port logical kept away dirIn seq => next_of_ring on ring
      (cmdXactRsp_of_readAhead took shape port logical kept away dirIn seq),
    fun p took shape port => ⟨fun zero => next_of_ring on ring ((cmdCancel_of_shaped took shape port).trans ?control),
      fun other => next_of_ring on ring ((cmdCancel_of_shaped took shape port).trans (dropControl_of_other other))⟩,
    fun p i m q took shape port logical => next_of_ring on ring (cmdPortReq_of_mapped took shape port logical),
    fun i m b took shape logical connected settled calm =>
      ⟨fun free => next_of_ring on ring ((cmdPortStatus_of_steady took shape logical connected settled calm rfl).trans (if_neg free)),
        fun waits => next_of_ring on ring ((cmdPortStatus_of_steady took shape logical connected settled calm rfl).trans (if_pos waits))⟩,
    fun p took shape port enabled slow runs room => next_of_ring on ring (cmdSplitStart_of_room took shape port enabled slow runs room),
    fun took shape => next_of_ring on ring (cmdXactReq_of_malformed took shape),
    fun took shape => next_of_ring on ring (cmdSplitStart_of_malformed took shape),
    fun took shape => next_of_ring on ring (cmdSplitResult_of_malformed took shape),
    fun q took shape waits kept => next_of_ring on ring ((cmdSplitResult_of_waiting took shape waits rfl).trans (if_neg ?kept)),
    fun q took shape waits done out => next_of_ring on ring ((cmdSplitResult_of_waiting took shape waits rfl).trans
      (if_pos ⟨done, congrArg not out⟩)),
    fun took shape stale => next_of_ring on ring (cmdSplitResult_of_stale took shape stale)⟩
  case control => rw [zero]; rfl
  case kept =>
    rintro ⟨done, out⟩
    rcases kept with bad | dirIn
    · exact bad done
    · rw [dirIn] at out
      exact absurd out (by decide)

end Sys2Proof.Machine
end

section
/-! SUPPORT. What the entry facet answers a host on a relayed port (R129 to R131, R134). -/

namespace Sys2Proof.Machine

section
variable {s : State} {i : Image} {addr ep : Nat} {x : Xlate}

theorem relayEp_setRelayEp_ne (s : State) (i : Image) (a : Nat) {e e' : Nat} {d d' : Bool} (r : RelayEp) (h : (e', d') ≠ (e, d)) :
    (s.setRelayEp i a e d r).relayEp i a e' d' = s.relayEp i a e' d' :=
  Table.get_put_ne (k := (i, a, e, d)) (k' := (i, a, e', d')) relayOrd ({} : RelayEp) s.relayEps r fun same =>
    h (Prod.mk.inj (Prod.mk.inj same).2).2

theorem ite_some_eq_none {α : Type} {c : Prop} [Decidable c] {a : α} {o : Option α} : (if c then some a else o) = none ↔ ¬ c ∧ o = none := by
  by_cases h : c
  · rw [if_pos h]
    exact ⟨nofun, fun no => absurd h no.1⟩
  · rw [if_neg h]
    exact ⟨fun none' => ⟨h, none'⟩, And.right⟩

/-- Neither a STALL nor a silence is due. -/
theorem relayTrouble_eq_none_iff {a e : Nat} {d : Bool} : s.relayTrouble i a e d = none ↔
    ¬ (s.relayEp i a e d).errorOnce = true ∧ ¬ (s.relayEp i a e false).deferred = true ∧ ¬ (s.relayEp i a e d).stallOnce = true ∧
      ¬ (e = 0 ∧ (s.relayEp i a e false).errorOnce = true) ∧ ¬ (e = 0 ∧ (s.relayEp i a e false).stallOnce = true) := by
  simp only [State.relayTrouble, ite_some_eq_none, and_true]

theorem fresh_relayTrouble {a e : Nat} {d : Bool} (trouble : s.relayTrouble i a e d = none) : s.fresh.relayTrouble i a e d = none :=
  relayTrouble_eq_none_iff.2 ((relayTrouble_eq_none_iff (s := s)).1 trouble)

theorem any_refusedType_of_served {o : Option EpInfo} (served : ∀ q, o = some q → refusedType q = false) : o.any refusedType = false := by
  cases o with
  | none => rfl
  | some q => exact served q rfl

/-! What the hub completes itself does not look at the counts of relay. -/

section
variable (s : State) (i : Image) (r : RelayReg) (v : Nat)

theorem get_hold4_set_relay (j : Image) (x : HoldImageReg) : (s.set (.relay r) v).get (.hold4 j x) = s.get (.hold4 j x) :=
  get_set_ne s v nofun

theorem keeps_set_relay (m : Nat) : (s.set (.relay r) v).keeps i m = s.keeps i m := by
  rw [State.keeps, State.heldPort, get_hold4_set_relay]
  rfl

theorem addr0Port_set_relay : (s.set (.relay r) v).addr0Port i = s.addr0Port i := by
  have ports : (s.set (.relay r) v).addr0Ports i = s.addr0Ports i := by
    simp only [State.addr0Ports, State.logicalPorts, State.portCount, keeps_set_relay,
      get_set_ne s v (r := .relay r) (r' := .image i .imagePortCount) nofun]
    rfl
  rw [State.addr0Port, ports, State.holdState, get_hold4_set_relay]
  rfl

theorem absorbs_set_relay (a m : Nat) (setup : List Byte) : (s.set (.relay r) v).absorbs i a m setup = s.absorbs i a m setup := by
  have port : (s.set (.relay r) v).portAt i a m = s.portAt i a m := by
    rw [State.portAt, addr0Port_set_relay, State.holdState, get_hold4_set_relay]
    rfl
  have config : (s.set (.relay r) v).configIsAbsorbed i a (byteAt setup 2) = s.configIsAbsorbed i a (byteAt setup 2) := by
    simp only [State.configIsAbsorbed, State.heldPort, get_hold4_set_relay]
    rfl
  simp only [State.absorbs, port, config, keeps_set_relay]
  rfl

end

section
variable (serves : s.hubServes i = true) (target : s.relayTarget i addr = some x) (relayed : s.relayed i x.port = true)
  (open' : s.relayOpen i x.port = true)
include serves target relayed open'

/-! ### IN -/

section
variable (served : ∀ q, (s.infoOf i addr x.port).endpoint (s.mapEp i addr ep) true = some q → refusedType q = false)
  (trouble : s.relayTrouble i addr (s.mapEp i addr ep) true = none) (data : s.mapEp i addr ep ≠ 0)
include served trouble data

theorem cmdHostHsInRelayed_of_empty {acked : Bool} (held : (s.relayEp i addr (s.mapEp i addr ep) true).held = [])
    (asks : (s.relayEp i addr (s.mapEp i addr ep) true).asks = []) : s.cmdHostHsInRelayed i addr ep acked =
      (s.answerHs i addr ep .nak).ask i addr (s.mapEp i addr ep) true x
        (1 + (s.answerHs i addr ep .nak).readAhead i addr (s.mapEp i addr ep) x.port) false [] := by
  simp [State.cmdHostHsInRelayed, serves, target, relayed, open', any_refusedType_of_served served, trouble, data, held, asks]

theorem cmdHostHsInRelayed_of_held {d : Nat × List Byte} {rest : List (Nat × List Byte)}
    (held : (s.relayEp i addr (s.mapEp i addr ep) true).held = d :: rest)
    (early : (s.relayEp i addr (s.mapEp i addr ep) true).heldAt ≠ some s.time.elapsed) : s.cmdHostHsInRelayed i addr ep false =
      s.answerData i addr ep (s.relayEp i addr (s.mapEp i addr ep) true).hostToggle d.2 := by
  simp [State.cmdHostHsInRelayed, serves, target, relayed, open', any_refusedType_of_served served, trouble, data, held, early]

end

/-! ### PING and OUT -/

section
variable (served : ∀ q, (s.infoOf i addr x.port).endpoint (s.mapEp i addr ep) false = some q → refusedType q = false)
  (trouble : s.relayTrouble i addr (s.mapEp i addr ep) false = none)
include served trouble

theorem cmdHostPingRelayed_of_served : s.cmdHostPingRelayed i addr ep =
    s.answerHs i addr ep (if s.outRoom i addr (s.mapEp i addr ep) then .ack else .nak) := by
  simp [State.cmdHostPingRelayed, serves, target, relayed, open', any_refusedType_of_served served, trouble]

theorem cmdHostHsOutRelayed_of_fitting (other : s.mapEp i addr ep ≠ 0) {toggle : Bool} {data : List Byte}
    (fits : data.length ≤ packetSize (s.mapEp i addr ep) ((s.infoOf i addr x.port).endpoint (s.mapEp i addr ep) false)) {t : State}
    (ht : t = s.setRelayEp i addr (s.mapEp i addr ep) false { s.relayEp i addr (s.mapEp i addr ep) false with
      stored := (s.relayEp i addr (s.mapEp i addr ep) false).stored ++ [data], lastOut := some toggle }) :
    s.cmdHostHsOutRelayed i addr ep toggle data =
      if (s.relayEp i addr (s.mapEp i addr ep) false).lastOut = some toggle then
        (s.bump (.relay .relayDupOutCount)).answerHs i addr ep .ack
      else if s.outRoom i addr (s.mapEp i addr ep) then
        (t.answerHs i addr ep (if t.outRoom i addr (s.mapEp i addr ep) || s.fullSpeed i then .ack else .nyet)).ask i addr
          (s.mapEp i addr ep) false x 1 false data
      else s.answerHs i addr ep .nak := by
  have full : s.fullSpeed i = t.fullSpeed i := by rw [ht]; rfl
  simp only [State.cmdHostHsOutRelayed, serves, target, relayed, open', any_refusedType_of_served served, trouble, other,
    if_neg (Nat.not_lt.2 fits), ← ht, full, Bool.not_true, Bool.false_eq_true, or_self, false_and, if_false, if_true]

end

/-! ### SETUP -/

theorem cmdHostSetupRelayed_of_idle {data : List Byte} (length : data.length = 8) (plain : s.absorbs i addr x.port data = false)
    (idle : (s.relayEp i addr 0 false).control = 0)
    (dropped : (s.relayEp i addr 0 false).deferred = true ∨ (s.relayEp i addr 0 false).stored = []) :
    s.cmdHostSetupRelayed i addr 0 data = (((((s.count (.relay .relayOutDropBytes) 0).setRelayEp i addr 0 false
      { seq := (s.relayEp i addr 0 false).seq, setup := data, lastOut := some false,
        control := if byteAt data 6 + 256 * byteAt data 7 = 0 then 2 else if byteAt data 0 ≥ 128 then 1 else 2 }).setRelayEp i addr 0
          true { seq := (s.relayEp i addr 0 true).seq, hostToggle := true }).answerHs i addr 0 .ack).ask i addr 0 false x 1 true
            data) := by
  have zero : s.mapEp i addr 0 = 0 := if_pos rfl
  have ended : s.controlPending i addr 0 = false := by simp [State.controlPending, idle]
  have none' : (if (s.relayEp i addr 0 false).deferred then 0 else ((s.relayEp i addr 0 false).stored.map List.length).sum) = 0 := by
    rcases dropped with deferred | empty
    · exact if_pos deferred
    · rw [empty]
      exact ite_self 0
  have other (t : State) (r : RelayEp) : (t.setRelayEp i addr 0 false r).relayEp i addr 0 true = t.relayEp i addr 0 true :=
    relayEp_setRelayEp_ne t i addr r (by decide)
  have goes : ¬ ((!s.relayed i x.port) = true ∨ (!s.relayOpen i x.port) = true ∨ data.length ≠ 8) := by simp [relayed, open', length]
  simp only [State.cmdHostSetupRelayed, serves, target, if_neg goes, zero, ended, none', State.count, absorbs_set_relay, plain, other, beq_self_eq_true, Bool.true_and,
    Bool.false_eq_true, if_false, if_true]
  rfl

end

/-! ### A request without a result -/

theorem cmdRelayTimeout_of_asked {dirIn : Bool} {q : RelayAsk} {rest : List RelayAsk} (target : s.relayTarget i addr = some x)
    (asks : (s.relayEp i addr ep dirIn).asks = q :: rest) : s.cmdRelayTimeout i addr ep dirIn =
      if (s.relayEp i addr ep dirIn).retries < 4 then
        ((s.setRelayEp i addr ep dirIn { s.relayEp i addr ep dirIn with
          retries := (s.relayEp i addr ep dirIn).retries + 1 }).bump (.relay .relayRetryCount)).sendAsk i addr ep dirIn x q
      else s.relayAnswer i addr x.port ep dirIn q.setup q.seq 3 s.now [] := by
  simp only [State.cmdRelayTimeout, asks, target]

end

/-- Settles O17: a host's transaction by what the endpoint holds, a timeout by its retries. -/
theorem relayedTransfers : Obligations.RelayedTransfers := by
  intro s i addr ep x on serves target relayed open'
  refine ⟨fun served trouble other => ⟨fun acked held asks => next_of_core on
        (cmdHostHsInRelayed_of_empty (s := s.fresh) serves target relayed open' served (fresh_relayTrouble trouble) other held asks),
      fun d rest held early => next_of_core on
        (cmdHostHsInRelayed_of_held (s := s.fresh) serves target relayed open' served (fresh_relayTrouble trouble) other held early)⟩,
    fun served trouble => ⟨next_of_core on (cmdHostPingRelayed_of_served (s := s.fresh) serves target relayed open' served (fresh_relayTrouble trouble)),
      fun other toggle data fits => ?out⟩,
    fun data length plain idle dropped => next_of_core on
      (cmdHostSetupRelayed_of_idle (s := s.fresh) serves target relayed open' length plain idle dropped),
    fun dirIn q rest asks few => next_of_core on ((cmdRelayTimeout_of_asked (s := s.fresh) target asks).trans (if_pos few)),
    fun dirIn q rest asks many => next_of_core on ((cmdRelayTimeout_of_asked (s := s.fresh) target asks).trans
      (if_neg (Nat.not_lt.2 many)))⟩
  case out =>
    have out := cmdHostHsOutRelayed_of_fitting (s := s.fresh) (toggle := toggle) serves target relayed open' served (fresh_relayTrouble trouble) other fits rfl
    exact ⟨fun again => next_of_core on (out.trans (if_pos again)),
      fun new full => next_of_core on (out.trans ((if_neg new).trans (if_neg (Bool.eq_false_iff.1 full)))),
      fun new room => next_of_core on (out.trans ((if_neg new).trans (if_pos room)))⟩

end Sys2Proof.Machine
end

section
/-! SUPPORT. DRAM training, memory errors, scrubbing, the arbiter, and a host's IN on EP1 (R176, R177, R186, R193 to R199). -/

namespace Sys2Proof.Machine

/-! ### Passes over a list that change one element's state -/

theorem forEach_of_rest {α : Type} {s : State} {l : List α} {f : State → α → State} (still : ∀ a ∈ l, f s a = s) : s.forEach l f = s := by
  induction l with
  | nil => rfl
  | cons a l ih =>
    exact (congrArg (fun t : State => t.forEach l f) (still a List.mem_cons_self)).trans
      (ih fun b hb => still b (List.mem_cons_of_mem a hb))

/-- A pass that finds nothing to do but at one element. -/
theorem forEach_of_single {α : Type} {s t : State} {l : List α} {f : State → α → State} {n : α} (nodup : l.Nodup) (mem : n ∈ l)
    (before : ∀ a, a ≠ n → f s a = s) (at' : f s n = t) (after : ∀ a, a ≠ n → f t a = t) : s.forEach l f = t := by
  induction l with
  | nil => cases mem
  | cons a l ih =>
    obtain ⟨new, nodup⟩ := List.nodup_cons.1 nodup
    have rest (u : State) (h : f s a = u) : s.forEach (a :: l) f = u.forEach l f := congrArg (fun t : State => t.forEach l f) h
    by_cases same : a = n
    · rw [rest t (same ▸ at')]
      exact forEach_of_rest fun b hb => after b fun h => new (same.trans h.symm ▸ hb)
    · rw [rest s (before a same)]
      exact ih nodup ((List.mem_cons.1 mem).resolve_left (Ne.symm same))

section
variable {s : State}

/-! ### DRAM -/

theorem dramReady_of_ready (dram : s.sramOnly = false) (ready : s.get (.res .reservoirDramState) = 2) : s.dramReady = true := by
  rw [State.dramReady, dram, ready]
  rfl

section
variable {size : Nat} (on : s.domainOn 7 = true) (trains : s.get (.res .reservoirDramState) = 1)
include on trains

theorem cmdDramTrainingDone_of_training (ok : Bool) : s.cmdDramTrainingDone size ok =
    if ok ∧ size ≠ 0 ∧ size = geometrySize (s.get (.res .reservoirDramGeometry)) then (s.set (.res .reservoirDramSize) size).setDramState 2
    else ((s.set (.res .reservoirDramSize) 0).setDramState 4).raise 53 0 :=
  if_neg fun h => h.elim (· trains) fun off => absurd (off.symm.trans (congrArg not on)) (by decide)

end

theorem raise_ident (s : State) (n d : Nat) : (s.raise n d).ident = s.ident := rfl
theorem raise_boot (s : State) (n d : Nat) : (s.raise n d).boot = s.boot := rfl

/-- An address lies where it did while the DRAM's state and the streams' regions stand. -/
theorem streamAt_congr {t : State} (ident : t.ident = s.ident) (boot : t.boot = s.boot)
    (dram : t.get (.res .reservoirDramState) = s.get (.res .reservoirDramState))
    (streams : ∀ n x, t.get (streamReg n x) = s.get (streamReg n x)) (addr : Nat) : t.streamAt addr = s.streamAt addr := by
  have sram : t.sramOnly = s.sramOnly := by rw [State.sramOnly, ident, boot, dram, State.sramOnly]
  have configured (n : Nat) : t.configured n = s.configured n := by
    rw [State.configured, State.isTrue, streams, streams]
    rfl
  have granules (n : Nat) : t.granules n = s.granules n := by rw [State.granules, sram, streams, streams, State.granules]
  simp only [State.streamAt, sram, configured, granules, streams]

theorem cmdDramUncorrectableError_of_stream {addr n off : Nat} (ready : s.dramReady = true) (stream : s.streamAt addr = some (n, off)) :
    s.cmdDramUncorrectableError addr =
      (((((s.bump (.res .dramUeCount)).set (.res .dramUeAddress) (addr / 8)).flag (.res .resEvents) resDramUe).raise 49
        (addr / 8)).damageStream n off) := by
  have get {r : Reg} (h : r ≠ .res .dramUeCount) (h' : r ≠ .res .dramUeAddress) (h'' : r ≠ .res .resEvents) :
      ((((s.bump (.res .dramUeCount)).set (.res .dramUeAddress) (addr / 8)).flag (.res .resEvents) resDramUe).raise 49 (addr / 8)).get r =
        s.get r := by
    rw [raise_get, get_flag_ne _ _ h'', get_set_ne _ _ h', get_bump_ne _ h]
  have stream' := (streamAt_congr (t := (((s.bump (.res .dramUeCount)).set (.res .dramUeAddress) (addr / 8)).flag (.res .resEvents)
    resDramUe).raise 49 (addr / 8)) (by rw [raise_ident, flag_ident, set_ident, bump_ident])
    (by rw [raise_boot, flag_boot, set_boot, bump_boot]) (get nofun nofun nofun) (fun _ _ => get nofun nofun nofun) addr).trans stream
  simp only [State.cmdDramUncorrectableError, if_pos ready, stream']

theorem cmdScrubBurst_of_dram {addr : Nat} (on : s.domainOn 7 = true) (dram : s.sramOnly = false) (ready : s.dramReady = true)
    (granted : s.granted 10 = true) (stream : (s.streamAt addr).isSome = true) : s.cmdScrubBurst addr true = s.dramCorrected addr := by
  have scrubs : s.scrubs = true := by rw [State.scrubs, on, ready, Bool.or_true]; rfl
  exact (if_pos ⟨scrubs, .inr granted, rfl, .inl stream⟩).trans (if_neg (Bool.eq_false_iff.1 dram))

/-! ### The arbiter -/

@[simp] theorem req_setReq_self (s : State) (n : Nat) (x : ReqRt) : (s.setReq n x).req n = x := Table.get_put_self id ({} : ReqRt) s.arb n x

theorem req_setReq_ne (s : State) {n m : Nat} (x : ReqRt) (h : m ≠ n) : (s.setReq n x).req m = s.req m :=
  Table.get_put_ne id ({} : ReqRt) s.arb x h

theorem req_holdHeads (s : State) (sel : Nat → Bool) (m : Nat) : (s.holdHeads sel).req m = s.req m :=
  forEach_keeps (P := fun t => t.req m = s.req m) _ (fun t d h => by dsimp only; split <;> exact h) rfl

/-- The one that asks is chosen. -/
theorem arbChoice_of_single {n : Fin 11} (asks : ∀ m, (s.req m).asking = decide (m = n.val)) (calm : ∀ m, (s.req m).forced = false) :
    s.arbChoice = some n.val := by
  have asking : (requesters.filter fun m => (s.req m).asking) = [n.val] := by
    simp only [asks]
    exact (by decide : ∀ n : Fin 11, (List.range 11).filter (fun m => decide (m = n.val)) = [n.val]) n
  simp only [State.arbChoice, asking, List.filter_cons, calm, Bool.false_eq_true, if_false, List.filter_nil, List.isEmpty_nil, if_true,
    List.find?_cons, List.find?_nil, List.head?_cons]
  split <;> rfl

/-- One new request on an idle arbiter is granted (R197). -/
theorem cmdArbDecision_of_idle {n : Fin 11} {cycles : Nat} (ready : s.dramReady = true) (runs : s.get (.arb .arbFreezeState) = 0)
    (idle : ∀ k, s.req k = {}) {t u : State}
    (ht : t = (s.holdHeads fun q => q == n.val).setReq n.val { waiting := true, asking := true }) (hu : u = t.arbGrant n.val) :
    s.cmdArbDecision (2 ^ n.val) cycles = { u with arbSaved := some { t.saveArb n.val with flags := u.get (.res .resEvents) } } := by
  have self : t.req n.val = { waiting := true, asking := true } := by rw [ht, req_setReq_self]
  have other (m : Nat) (h : m ≠ n.val) : t.req m = {} := by rw [ht, req_setReq_ne _ _ h, req_holdHeads, idle]
  have bit (m : Nat) (h : m ≠ n.val) : ¬ (2 ^ n.val).testBit m = true := by
    rw [Nat.testBit_two_pow]
    exact fun same => h (of_decide_eq_true same).symm
  have asks : (s.forEach requesters fun s k =>
      if (s.req k).waiting then
        s.setReq k { s.req k with
          wait := min 65535 ((s.req k).wait + cycles),
          forced := (s.req k).forced || decide (s.waitLimit k ≤ min 65535 ((s.req k).wait + cycles)),
          asking := (s.req k).asking || ((s.req k).forced || decide (s.waitLimit k ≤ min 65535 ((s.req k).wait + cycles))) }
      else if (2 ^ n.val).testBit k then (s.holdHeads fun q => q == k).setReq k { waiting := true, asking := true }
      else s) = t := by
    refine forEach_of_single List.nodup_range (List.mem_range.2 n.isLt) (fun m h => ?_) ?_ fun m h => ?_
    · rw [idle, if_neg Bool.false_ne_true, if_neg (bit m h)]
    · rw [idle, if_neg Bool.false_ne_true, if_pos (by rw [Nat.testBit_two_pow]; exact decide_eq_true rfl), ht]
    · rw [other m h, if_neg Bool.false_ne_true, if_neg (bit m h)]
  have choice : t.arbChoice = some n.val := by
    refine arbChoice_of_single (fun m => ?_) fun m => ?_
    · by_cases h : m = n.val
      · rw [h, self, decide_eq_true rfl]
      · rw [other m h, decide_eq_false h]
    · by_cases h : m = n.val
      · rw [h, self]
      · rw [other m h]
  have losers : (t.forEach requesters fun s m =>
      if (s.req m).asking = true ∧ m ≠ n.val then s.setReq m { s.req m with losses := (s.req m).losses + 1, asking := (s.req m).forced }
      else s) = t := by
    refine forEach_of_rest fun m _ => if_neg fun h => ?_
    rw [other m h.2] at h
    exact Bool.false_ne_true h.1
  have goes : ¬ ((!s.dramReady) = true ∨ s.get (.arb .arbFreezeState) ≠ 0) := by simp [ready, runs]
  simp only [State.cmdArbDecision, if_neg goes]
  rw [asks]
  simp only [choice]
  rw [losers, ← hu]

/-! ### A host's IN on EP1 -/

section
variable {u : Upstream} {f : Fn} {acked : Bool} {remote : List Byte} (fn : s.mgmtFn u = some f) (config : (s.fnDev f).config = 1)
  (runs : (s.fnDev f).halted.testBit (haltBit 0x81) = false)
include fn config runs

theorem cmdHostEp1In_of_empty (part : (s.up u).part = none) (answers : (s.up u).answers = [])
    (closed : (s.session (upDoor u)).opened = false) : s.cmdHostEp1In u acked remote = s.mgmtHs u (s.fnDev f).addr 1 .nak := by
  have still : s.startPart u remote = s := by
    simp only [State.startPart, part, answers, closed, Option.isSome_none, Bool.not_false, Bool.false_eq_true, if_false, if_true]
  simp only [State.cmdHostEp1In, fn, config, runs, still, part, ne_eq, not_true_eq_false, Bool.false_eq_true, if_false]

/-- An answer that waits is sent again until the host acknowledges it. -/
theorem cmdHostEp1In_of_answer {b : List Byte} (part : (s.up u).part = some (1, b)) : s.cmdHostEp1In u false remote =
    s.mgmtData u (s.fnDev f).addr 1 ((s.fnDev f).toggle.testBit (haltBit 0x81)) false (b.take (s.ep1Size u)) := by
  have still : s.startPart u remote = s := by
    simp only [State.startPart, part, Option.isSome_some, if_true]
  simp only [State.cmdHostEp1In, fn, config, runs, still, part, ne_eq, not_true_eq_false, Bool.false_eq_true, if_false, Nat.one_ne_zero,
    false_and]

end

end

/-- Settles O22: the DRAM's events by its state, the arbiter's by who waits, an IN by what waits for it. -/
theorem reservoirEvents : Obligations.ReservoirEvents := by
  intro s on
  refine ⟨fun size dom trains new fits => next_of_core on ((cmdDramTrainingDone_of_training (s := s.fresh) dom trains true).trans
      (if_pos ⟨rfl, new, fits⟩)),
    fun size ok dom trains bad => next_of_core on ((cmdDramTrainingDone_of_training (s := s.fresh) dom trains ok).trans (if_neg ?untrained)),
    fun n dram spills => next_of_core on (if_neg ?spills), fun dram ready => ?dram, fun scrubs => next_of_core on (if_pos scrubs),
    fun _ => next_of_core on rfl, fun _ _ => next_of_core on rfl, fun _ => next_of_core on rfl,
    fun n waits runs => next_of_core on (if_pos ⟨waits, runs⟩), fun n waits runs => next_of_core on (if_pos ⟨waits, runs⟩),
    fun drains => next_of_core on (if_pos drains),
    fun u f acked remote fn config runs part answers closed => next_of_core on
      (cmdHostEp1In_of_empty (s := s.fresh) fn config runs part answers closed),
    fun u f b remote fn config runs part => next_of_core on (cmdHostEp1In_of_answer (s := s.fresh) fn config runs part)⟩
  case untrained =>
    rintro ⟨good, new, fits⟩
    exact (bad good).elim new (· fits)
  case spills =>
    rintro (none' | stays)
    · exact absurd (dram.symm.trans none') (by decide)
    · exact absurd (stays.symm.trans (congrArg not spills)) (by decide)
  case dram =>
    have up := dramReady_of_ready (s := s.fresh) dram ready
    exact ⟨fun addr => next_of_core on (if_pos up),
      fun addr n off stream => next_of_core on (cmdDramUncorrectableError_of_stream (s := s.fresh) up stream),
      fun addr n off dom granted stream => next_of_core on (cmdScrubBurst_of_dram (s := s.fresh) dom dram up granted
        (Option.isSome_of_mem stream)),
      fun n cycles runs idle => next_of_core on (cmdArbDecision_of_idle (s := s.fresh) up runs idle rfl rfl)⟩

end Sys2Proof.Machine
end

section
/-! SUPPORT. The counter, the servo and the PPS signals (R212, R214, R218, R219, R221, R222, R224 to R226). -/

namespace Sys2Proof.Machine

section
variable {s : State} {k : Link}

/-! ### ECHO -/

theorem filter_finRange_single (k : Link) : (List.finRange 4).filter (fun j => decide (j = k)) = [k] :=
  (by decide : ∀ k : Fin 4, (List.finRange 4).filter (fun j => decide (j = k)) = [k]) k

/-- An ECHO leaves on the one link that is up. -/
theorem cmdEchoSend_of_single (on : s.domainOn 6 = true) (up : s.get (.link k .linkState) = 3)
    (down : ∀ j, j ≠ k → s.get (.link j .linkState) = 0) : s.cmdEchoSend =
      (s.setEcho k { s.echo k with seq := ((s.echo k).seq + 1) % 2 ^ 32 }).sendOn k (s.newFrame 3 0 false 0 0
        (.echo [((s.echo k).seq + 1) % 2 ^ 32, 0, ((s.echo k).last.getD (0, 0)).2, ((s.echo k).last.getD (0, 0)).1, s.bestFocal.uid,
          s.bestFocal.prio, boolNat s.bestFocal.pps + 2 * boolNat (s.get (.time .servoState) = 3) +
            4 * boolNat (s.bestFocal.uid = s.ident.uniqueId), s.bestFocal.steps])) := by
  have links : ((List.finRange 4).filter fun j => s.get (.link j .linkState) = 3 ∨ s.get (.link j .linkState) = 6) = [k] := by
    refine Eq.trans (List.filter_congr fun j _ => decide_eq_decide.2 ?_) (filter_finRange_single k)
    by_cases same : j = k
    · rw [same, up]
      exact iff_of_true (by decide) rfl
    · rw [down j same]
      exact iff_of_false (by decide) same
  have on' : ¬ (!s.domainOn 6) = true := by rw [on]; decide
  unfold State.cmdEchoSend
  rw [if_neg on', links]
  rfl

section
variable {b : EchoBody} {rx : Nat} {t : State} (ht : t = s.setEcho k { s.echo k with
    last := some (b.seq, ofSigned 48 ((rx : Int) - psUnits (s.getInt (.echo k .echoRxDelay)))),
    ann := some ⟨b.focalId, b.focalPriority, b.focalPps, b.steps⟩ })
include ht

theorem cmdEchoReceive_of_first (first : (s.echo k).exchange b = some none) :
    (s.get (.link k .linkState) = 3 → s.cmdEchoReceive k b rx = t.chooseFocal) ∧
    (s.get (.link k .linkState) = 6 → s.cmdEchoReceive k b rx = t) := by
  subst ht
  refine ⟨fun up => ?_, fun up => ?_⟩ <;> simp [State.cmdEchoReceive, State.when, first, up]

theorem cmdEchoReceive_of_missed (missed : (s.echo k).exchange b = none) (up : s.get (.link k .linkState) = 3) :
    s.cmdEchoReceive k b rx = (t.missEcho k).chooseFocal := by
  subst ht
  simp [State.cmdEchoReceive, State.when, missed, up]

theorem cmdEchoReceive_of_exchange {fwd back : Int} (done : (s.echo k).exchange b = some (some (fwd, back)))
    (up : s.get (.link k .linkState) = 3) :
    s.cmdEchoReceive k b rx = (t.takeExchange k fwd back).chooseFocal.servoFrom k := by
  subst ht
  simp [State.cmdEchoReceive, State.when, done, up]

end

/-! ### The servo -/

theorem cmdServoReferenceLost_of_servo (servo : s.get (.time .servoState) = 2 ∨ s.get (.time .servoState) = 3) : s.cmdServoReferenceLost =
    ((((s.set (.time .servoState) 4).flag (.time .timeEvents) timeRefLost).setFreq (s.time.base - s.time.integral)).raiseLive 46 4) := by
  refine (if_pos servo).trans ?_
  rw [flag_time, set_time]

/-! ### PPS_IN -/

theorem ppsValid_set {r : Reg} (v : Nat) (h : r ≠ .pps .ppsInState) : (s.set r v).ppsValid = s.ppsValid := by
  rw [State.ppsValid, get_set_ne s v h.symm]
  rfl

/-- A second without a usable edge. -/
theorem missPps_of_few (few : s.time.ppsMiss < 2) :
    s.missPps = { s.bump (.pps .ppsInMissCount) with time := { s.time with ppsMiss := s.time.ppsMiss + 1 } } := if_pos few

section
variable (enabled : s.isTrue (.pps .ppsInEnable) = true) (valid : s.ppsValid = true)
include enabled valid

/-- A second passes without an edge. -/
theorem cmdPpsInMiss_of_valid {next : Nat} (hnext : next = nextSecond s.time.ppsNext) {t : State}
    (ht : t = { s.bump (.pps .ppsInMissCount) with time := { s.time with ppsNext := next, ppsMiss := s.time.ppsMiss + 1 } }) :
    s.cmdPpsInMiss = if s.time.ppsMiss < 2 then t else t.ppsLost := by
  subst ht
  simp only [State.cmdPpsInMiss, enabled, valid, ← hnext, Bool.not_true, Bool.false_eq_true, if_false, if_true]
  rfl

variable (free : s.unitHeld .time = false) (pll : s.time.pll = true) {e next : Nat}
  (he : e = ofSigned 32 ((s.now : Int) - s.getInt (.pps .ppsInOffset))) (hnext : next = s.time.ppsNext)
include free pll he hnext

theorem cmdPpsInEdge_of_far (far : nearEdge e next = false) : s.cmdPpsInEdge = (s.set (.pps .ppsInLastStamp) e).missPps := by
  have valid' : (s.set (.pps .ppsInLastStamp) e).ppsValid = true := (ppsValid_set (r := .pps .ppsInLastStamp) e nofun).trans valid
  simp only [State.cmdPpsInEdge, enabled, free, ← he, set_time, pll, valid', ← hnext, far, Bool.not_true, Bool.false_eq_true, or_self, if_false, if_true]

theorem cmdPpsInEdge_of_near (servo : s.get (.time .servoState) ≠ 0) (near : nearEdge e next = true) {err : Int}
    (herr : err = signedOf 32 ((e + 2 ^ 32 - next) % 2 ^ 32)) : s.cmdPpsInEdge =
    { (s.set (.pps .ppsInLastStamp) e).setInt (.pps .ppsInError) err with
      time := { s.time with ppsNext := nextSecond next, ppsMiss := 0 } } := by
  have valid' : (s.set (.pps .ppsInLastStamp) e).ppsValid = true := (ppsValid_set (r := .pps .ppsInLastStamp) e nofun).trans valid
  have runs (time : TimeRt) : ({ (s.set (.pps .ppsInLastStamp) e).setInt (.pps .ppsInError) err with time := time } : State).get
      (.time .servoState) ≠ 0 := by
    change ((s.set (.pps .ppsInLastStamp) e).set (.pps .ppsInError) _).get (.time .servoState) ≠ 0
    rwa [get_set_ne (r := .pps .ppsInError) (r' := .time .servoState) _ _ nofun,
      get_set_ne (r := .pps .ppsInLastStamp) (r' := .time .servoState) _ _ nofun]
  simp only [State.cmdPpsInEdge, enabled, free, ← he, set_time, setInt_time, pll, valid', ← hnext, near, ← herr, Bool.not_true,
    Bool.false_eq_true, or_self, if_false, if_true]
  exact if_neg (runs _)

end

end

/-- Settles O24: an ECHO by the exchange it completes, an edge by whether it comes when it is due. -/
theorem timeEvents : Obligations.TimeEvents := by
  intro s
  refine ⟨next_of rfl, fun k on ring up down => next_of_ring on ring (cmdEchoSend_of_single (s := s.fresh) ring up down),
    fun k f seq old rest body => ?stamp, fun k b rx t on ring ht => ?receive,
    fun k on ring up => next_of_ring on ring (if_pos (.inl up)), fun k on ring => next_of_ring on ring rfl,
    fun on servo => next_of_core on (cmdServoReferenceLost_of_servo (s := s.fresh) servo),
    fun on runs servo => next_of_core on (if_pos ⟨runs, .inl servo⟩),
    fun enabled free pll valid servo near => next_of
      (cmdPpsInEdge_of_near (s := s.fresh) enabled valid free pll
        (e := ofSigned 32 ((s.now : Int) - s.getInt (.pps .ppsInOffset))) (next := s.time.ppsNext) rfl rfl servo near rfl),
    fun enabled free pll valid few far => next_of ((cmdPpsInEdge_of_far (s := s.fresh) enabled valid free pll
        (e := ofSigned 32 ((s.now : Int) - s.getInt (.pps .ppsInOffset))) (next := s.time.ppsNext) rfl rfl far).trans
      (missPps_of_few few)),
    fun enabled valid few => next_of ((cmdPpsInMiss_of_valid (s := s.fresh) enabled valid
      (next := nextSecond s.time.ppsNext) rfl rfl).trans (if_pos few)),
    fun enabled valid many => next_of ((cmdPpsInMiss_of_valid (s := s.fresh) enabled valid
      (next := nextSecond s.time.ppsNext) rfl rfl).trans (if_neg (Nat.not_lt.2 many))),
    fun enabled => next_of (if_pos enabled), fun out => next_of (if_pos out), rfl⟩
  case stamp => simp only [State.stampEcho, body]
  case receive =>
    refine ⟨fun first up => next_of_ring on ring ((cmdEchoReceive_of_first ht first).1 up),
      fun first up => next_of_ring on ring ((cmdEchoReceive_of_first ht first).2 up),
      fun missed up => next_of_ring on ring (cmdEchoReceive_of_missed ht missed up),
      fun fwd back done up => next_of_ring on ring ((cmdEchoReceive_of_exchange ht done up).trans ?_)⟩
    subst ht
    rfl

end Sys2Proof.Machine
end

section
/-! SUPPORT. CANopen TIME and SYNC, and timed launches (R230, R231, R234, R235). -/

namespace Sys2Proof.Machine

section
variable {s : State}

/-! ### CANopen TIME and SYNC -/

theorem sendCan_sends (s : State) (id : Nat) (data : List Byte) : ∃ out, s.sendCan id data = { s with out := out } := by
  unfold State.sendCan
  split
  · exact ⟨s.out, rfl⟩
  · exact ⟨_, rfl⟩

@[simp] theorem sendCan_get (s : State) (id : Nat) (data : List Byte) (r : Reg) : (s.sendCan id data).get r = s.get r := by
  obtain ⟨out, h⟩ := sendCan_sends s id data
  rw [h]
  rfl

@[simp] theorem sendCan_now (s : State) (id : Nat) (data : List Byte) : (s.sendCan id data).now = s.now := by
  obtain ⟨out, h⟩ := sendCan_sends s id data
  rw [h]
  rfl

/-- The TIME of a facet whose civil time has no anchor counts from the start of its counter. -/
theorem cmdCanTimeSend_of_unanchored (runs : s.canRuns = true) (sends : (s.get (.comm .cobIdTime)).testBit 30 = true)
    (on : s.get (.canTime .canTimePeriod) ≠ 0) (anchor : s.get (.time .timeCivilAnchor) = 0) {late : Nat} (timely : late ≤ 500000)
    {due : Nat} (hdue : due = s.extended / (s.get (.canTime .canTimePeriod) * 1000000) * (s.get (.canTime .canTimePeriod) * 1000000)) :
    s.cmdCanTimeSend late = ((s.sendCan (s.get (.comm .cobIdTime) % 2048)
      (bytesLe 4 ((due : Int) / 1000000 % 86400000).toNat ++ bytesLe 2 (ofSigned 16 ((due : Int) / 1000000 / 86400000)))).set
        (.canTime .canTimeTxStamp) ((due + late) % 2 ^ 32)) := by
  have period : (s.get (.canTime .canTimePeriod) * 1000000 == 0) = false := beq_eq_false_iff_ne.2 (Nat.mul_ne_zero on (by decide))
  have ms : fieldAt (bytesBe 14 0) 10 4 = 0 := by decide
  have days : fieldAt (bytesBe 14 0) 8 2 = 0 := by decide
  have zero : fieldAt (bytesBe 14 0) 0 8 = 0 := by decide
  simp only [State.cmdCanTimeSend, runs, sends, period, ← hdue, State.anchorBytes, anchor, ms, days, zero, Nat.cast_zero, Int.zero_add,
    Int.sub_zero, if_neg (Nat.not_lt.2 timely), Bool.not_true, Bool.or_self, Bool.false_eq_true, if_false]

theorem cmdCanTimeReceive_of_alone (runs : s.canRuns = true) (takes : (s.get (.comm .cobIdTime)).testBit 31 = true)
    (sends : (s.get (.comm .cobIdTime)).testBit 30 = false) (single : s.alone = true) (ms days : Nat) : s.cmdCanTimeReceive ms days =
      s.set (.time .timeCivilAnchor) (ofBytesBe (bytesBe 8 s.extended ++ bytesBe 2 days ++ bytesBe 4 (ms % 2 ^ 28))) := by
  have goes : (s.canRuns && (s.get (.comm .cobIdTime)).testBit 31 && !(s.get (.comm .cobIdTime)).testBit 30) = true := by
    rw [runs, takes, sends]
    rfl
  exact (if_pos goes).trans (if_pos ((alone_set (r := .time .timeCivilAnchor) _ nofun).trans single))

/-- PDOs follow a SYNC in Operational alone. -/
theorem syncPdos_of_preOperational (pre : s.get (.can .canState) = 127) : s.syncPdos = s := by
  have idle : s.operational = false := by
    rw [State.operational, pre]
    simp
  simp only [State.syncPdos, idle, Bool.not_false, if_true]

theorem cmdCanSyncSend_of_preOperational (runs : s.canRuns = true) (sends : (s.get (.comm .cobIdSync)).testBit 30 = true)
    (on : s.get (.comm .commCyclePeriod) ≠ 0) (pre : s.get (.can .canState) = 127) : s.cmdCanSyncSend =
      ((((s.sendCan (s.get (.comm .cobIdSync) % 2048) []).set (.canTime .canSyncStamp) s.now).bump (.canTime .canSyncCount)).set
        (.canTime .canSyncPhase) ((s.get (.canTime .canSyncPhase) + s.get (.comm .commCyclePeriod) * 1000) % 2 ^ 32)) := by
  have sync : s.sendSync = ((((s.sendCan (s.get (.comm .cobIdSync) % 2048) []).set (.canTime .canSyncStamp) s.now).bump
      (.canTime .canSyncCount)).set (.canTime .canSyncPhase)
        ((s.get (.canTime .canSyncPhase) + s.get (.comm .commCyclePeriod) * 1000) % 2 ^ 32)) := by
    have get {r : Reg} (h : r ≠ .canTime .canSyncStamp) (h' : r ≠ .canTime .canSyncCount) :
        (s.sendCan (s.get (.comm .cobIdSync) % 2048) []).stampSync.get r = s.get r := by
      rw [State.stampSync, get_bump_ne _ h', get_set_ne _ _ h, sendCan_get]
    simp only [State.sendSync, runs, sends, beq_eq_false_iff_ne.2 on, get (r := .canTime .canSyncPhase) nofun nofun,
      get (r := .comm .commCyclePeriod) nofun nofun, Bool.not_true, Bool.or_self, Bool.false_eq_true, if_false]
    rw [State.stampSync, sendCan_now]
  have pre' : s.sendSync.get (.can .canState) = 127 := by
    rw [sync, get_set_ne (r := .canTime .canSyncPhase) (r' := .can .canState) _ _ nofun,
      get_bump_ne (r := .canTime .canSyncCount) (r' := .can .canState) _ nofun,
      get_set_ne (r := .canTime .canSyncStamp) (r' := .can .canState) _ _ nofun, sendCan_get, pre]
  rw [State.cmdCanSyncSend, syncPdos_of_preOperational pre', ite_self, sync]

theorem cmdCanSyncReceive_of_preOperational (runs : s.canRuns = true) (pre : s.get (.can .canState) = 127) :
    s.cmdCanSyncReceive = (s.set (.canTime .canSyncStamp) s.now).bump (.canTime .canSyncCount) := by
  have pre' : s.stampSync.get (.can .canState) = 127 := by
    rw [State.stampSync, get_bump_ne (r := .canTime .canSyncCount) (r' := .can .canState) _ nofun,
      get_set_ne (r := .canTime .canSyncStamp) (r' := .can .canState) _ _ nofun, pre]
  exact (if_pos runs).trans (syncPdos_of_preOperational pre')

/-! ### Launches -/

/-- The toggle of a launch (R234): its mode's, or the endpoint's own. -/
def launchToggle (l : Launch) (d : DevInfo) : Bool := if l.mode = 1 then false else if l.mode = 2 then true else d.toggleOut.testBit l.ep

/-- The transaction of a launch to a device. -/
def launchXact (l : Launch) (tag : Nat) (p : Port) (w : Nat) (d : DevInfo) : Xact :=
  { port := p, addr := w, ep := l.ep, dirIn := false, setup := false,
    epType := (d.endpoint l.ep false).elim 1 fun q => q.epType,
    maxPacket := (d.endpoint l.ep false).elim 64 fun q => q.maxPacket % 2048,
    toggle := launchToggle l d, data := l.data, errors := 0, who := .launch tag }

/-- A launch runs. -/
def State.launchRuns (s : State) (l : Launch) (tag : Nat) (d : DevInfo) : State :=
  { s with time := { s.time with launches := s.time.launches.map fun (q : Launch) =>
      if q.tag = tag then { l with running := true, toggle := launchToggle l d } else q } }

section
variable {tag : Nat} {l : Launch} {p : Port} (found : (s.time.launches.find? fun l => l.tag = tag) = some l)
include found

section
variable (idle : l.running = false) (window : s.inWindow l = true) (first : s.launchFirst l = true)
  (place : s.place (imageOf l.image) l.port = .own p)
include idle window first place

theorem cmdLaunchStart_of_direct {a : Nat} {x : Xlate} (direct : s.keeps (imageOf l.image) l.port = false)
    (device : s.deviceOn (imageOf l.image) l.port = some (a, x)) : s.cmdLaunchStart tag =
      if s.get (.port p .portSpeed) = 3 then s.endLaunch l 5
      else if s.frameAllows p l.data.length = false then s
      else ((s.launchRuns l tag (s.device (imageOf l.image) a)).launchBegins tag).emit
        (.engine 4 (launchXact l tag p x.devAddr (s.device (imageOf l.image) a))) := by
  by_cases fast : s.get (.port p .portSpeed) = 3
  · simp [State.cmdLaunchStart, found, idle, window, first, place, direct, device, fast]
  · have slow : (s.get (.port p .portSpeed) == 3) = false := beq_eq_false_iff_ne.2 fast
    simp only [State.cmdLaunchStart, found, idle, window, first, place, direct, device, slow, if_neg fast, Option.map_some, Bool.not_true,
      Bool.not_false, Bool.false_eq_true, or_self, false_and, true_and, if_false, Bool.not_eq_true']
    rfl

theorem cmdLaunchStart_of_kept (kept : s.keeps (imageOf l.image) l.port = true) (fast : s.get (.port p .portSpeed) = 3) :
    s.cmdLaunchStart tag = (s.launchRuns l tag (s.record (imageOf l.image) l.port).info).submit
      (launchXact l tag p (s.record (imageOf l.image) l.port).devAddr (s.record (imageOf l.image) l.port).info) := by
  have fast' : (s.get (.port p .portSpeed) == 3) = true := beq_iff_eq.2 fast
  simp only [State.cmdLaunchStart, found, idle, window, first, place, kept, fast', Bool.not_true, Bool.false_eq_true, or_self, not_true_eq_false,
    false_and, and_false, if_false, if_true]
  rfl

end

theorem cmdLaunchWindowEnd_of_waiting (waits : l.running = false ∨ (s.waiting.any fun x => decide (x.who = Requester.launch tag)) = true)
    (passed : (s.launchAge l).any (fun a => decide (l.window * 1000 ≤ a)) = true) :
    s.cmdLaunchWindowEnd tag = s.endLaunch l (if l.attempts = 0 then 4 else 1) := by
  have begun : (l.running && !s.waiting.any fun x => decide (x.who = Requester.launch tag)) = false := by
    rcases waits with idle | waits
    · rw [idle, Bool.false_and]
    · rw [waits, Bool.not_true, Bool.and_false]
  simp only [State.cmdLaunchWindowEnd, found, begun, passed, Bool.not_true, Bool.false_eq_true, or_self, if_false]

end

theorem find?_finRange_first : ∀ (f : Fin 4 → Bool) (n : Fin 4), f n = true → (∀ k, k < n → f k = false) →
    (List.finRange 4).find? f = some n := by decide

/-- A launch that runs in a context of the engine. -/
theorem cmdLaunchEnd_of_context {tag : Nat} {n : Fin 4} {x : Xact} {answer : DevAnswer} (runs : s.context n.val = some x)
    (who : x.who = .launch tag) (others : ∀ k, k < n.val → s.context k = none) :
    s.cmdLaunchEnd tag answer = s.cmdHsEngineTransactionEnd n answer := by
  have found : ((List.finRange 4).find? fun (n : Fin 4) => (s.context n.val).any fun x => x.who == .launch tag) = some n := by
    refine find?_finRange_first _ n ?_ fun k before => ?_
    · rw [runs, Option.any_some, who, beq_self_eq_true]
    · rw [others k.val before, Option.any_none]
  simp only [State.cmdLaunchEnd, found]

/-- A launch that runs through a translator. -/
theorem cmdLaunchEnd_of_translator {tag : Nat} {l : Launch} {p : Port} {answer : DevAnswer} (idle : ∀ n, s.context n = none)
    (found : (s.time.launches.find? fun l => decide (l.tag = tag) && l.running) = some l)
    (place : s.place (imageOf l.image) l.port = .own p) (slow : s.get (.port p .portSpeed) ≠ 3) :
    s.cmdLaunchEnd tag answer = s.cmdTtFsTransactionDone p answer := by
  have none' : ((List.finRange 4).find? fun (n : Fin 4) => (s.context n.val).any fun x => x.who == .launch tag) = none :=
    List.find?_eq_none.2 fun n _ => by simp [idle]
  simp only [State.cmdLaunchEnd, none', found, place, if_neg slow]

end

/-- Settles O25: TIME and SYNC by the controller's state, a launch by the port it runs on. -/
theorem canTimeAndLaunches : Obligations.CanTimeAndLaunches := by
  intro s on
  refine ⟨fun runs => ⟨fun late sends period anchor timely => next_of_core on (cmdCanTimeSend_of_unanchored (s := s.fresh) runs sends period
        anchor timely (due := s.extended / (s.get (.canTime .canTimePeriod) * 1000000) * (s.get (.canTime .canTimePeriod) * 1000000)) rfl),
      fun ms days takes sends single => next_of_core on (cmdCanTimeReceive_of_alone (s := s.fresh) runs takes sends single ms days),
      fun sends period pre => next_of_core on (cmdCanSyncSend_of_preOperational (s := s.fresh) runs sends period pre),
      fun pre => next_of_core on (cmdCanSyncReceive_of_preOperational (s := s.fresh) runs pre)⟩,
    fun tag l p a x found idle window first place direct device => ?direct, fun tag => rfl,
    fun tag l p a found idle window first place kept fast ha => next_of_core on ?kept,
    fun tag n x answer runs who others => next_of_core on (cmdLaunchEnd_of_context (s := s.fresh) runs who others),
    fun tag l p answer idle found place slow => next_of_core on (cmdLaunchEnd_of_translator (s := s.fresh) idle found place slow),
    fun tag l found waits passed => next_of_core on (cmdLaunchWindowEnd_of_waiting (s := s.fresh) found waits passed)⟩
  case direct =>
    have start := cmdLaunchStart_of_direct (s := s.fresh) found idle window first place direct device
    exact ⟨fun fast => next_of_core on (start.trans (if_pos fast)),
      fun slow full => next_of_core on (start.trans ((if_neg slow).trans (if_pos full))),
      fun slow room => next_of_core on (start.trans ((if_neg slow).trans (if_neg (ne_false_of_eq_true room))))⟩
  case kept =>
    subst ha
    exact cmdLaunchStart_of_kept (s := s.fresh) found idle window first place kept fast

end Sys2Proof.Machine
end

section
/-! SUPPORT. Hold-over's timers, its grid and its slots (R144 to R158, R160 to R169). -/

namespace Sys2Proof.Machine
variable {s : State} {i : Image}

theorem holdState_logStep (s : State) (kind image time before after : Nat) (phase : Int) (rows : List Nat) (i : Image) :
    (s.logStep kind image time before after phase rows).holdState i = s.holdState i :=
  forEach_keeps (P := fun t => t.holdState i = s.holdState i) rows (fun _ _ h => h)
    (get_set_ne (r := .launch .sofStepLogIndex) (r' := .hold4 i .holdoverState) _ _ nofun)

/-! ### Loss of the host -/

theorem cmdSofLossDeclaration_of_armed (here : s.hubHere i = true) (config : (s.hub i).config = 1) (awake : (s.hub i).suspended = false)
    (settled : (s.hub i).resuming = false) (fast : s.fullSpeed i = false) (armed : s.holdState i = 1) :
    s.cmdSofLossDeclaration i = s.hostLoss i 3 := by
  simp [State.cmdSofLossDeclaration, here, config, awake, settled, fast, armed]

/-! ### Adoption's events -/

theorem cmdAdoptAutoDelayExpiry_of_mirror {u : Upstream} (auto : s.isTrue (.hold4 i .adoptAuto) = true) (mirror : s.mirrorUp i = some u)
    (held : s.holdState i = 4 ∨ s.holdState i = 5) :
    s.cmdAdoptAutoDelayExpiry i = (s.startAdoption i true).modHold i fun h => { h with autoAt := some s.time.elapsed } := by
  simp only [State.cmdAdoptAutoDelayExpiry, auto, mirror, Option.isSome_some, Bool.and_eq_true, Bool.or_eq_true, beq_iff_eq, true_and, held,
    if_true]

theorem cmdAdoptMirrorAttach_of_attached {u : Upstream} (mirror : s.mirrorUp i = some u) (adopting : s.holdState i = 6)
    (via : (s.hold i).viaMirror = true) (first : (s.hold i).attached = false) (attached : (s.up u).attached = true) :
    s.cmdAdoptMirrorAttach i = (((s.modHold i fun h => { h with attached := true, exchanged := !h.exchanged }).defaultHub i).present u
      .hub).tellHold i 6 8 := by
  simp [State.cmdAdoptMirrorAttach, State.modHold, mirror, adopting, via, first, attached]

theorem cmdAbsorbedResetComplete_of_own {m : Nat} {p : Port} (own : s.place i m = .own p) (absorbing : (s.port p).absorbing = true)
    (quiet : s.pst p ≠ 6) (held : s.heldPort i m = true) : s.cmdAbsorbedResetComplete i m =
      ((((({ s with ownEps := s.ownEps.filter fun e => decide (e.1.1 ≠ p) }).setPc p psReset).setPs p psEnable true).setPst p 4).modPort p
        fun x => { x with absorbing := false, globalSusp := false }).modRecord i m fun r =>
          { r with stage := .absorbed, resetOrder := s.nextReset i } := by
  simp only [State.cmdAbsorbedResetComplete, own, absorbing, held, ne_eq, quiet, not_false_eq_true, and_self, if_true]

theorem cmdTableSwitchBoundary_of_swapping (swapping : s.swapping = true) (waits : s.switched.testBit i.val = false)
    (earlier : (s.hold i).swapAt ≠ some s.time.elapsed) : s.cmdTableSwitchBoundary i = s.switchImage i := by
  simp [State.cmdTableSwitchBoundary, swapping, waits, earlier]

/-! ### The grid -/

/-- What a boundary of the grid does once the first SOF is traced. -/
def State.passBoundary (t : State) (i : Image) (n : Nat) : State :=
  let t := { t with engineMissed := false }
  let t := t.forEach (t.ownPorts i) fun t p =>
    if (t.logicalOf p).any (fun e => t.onGrid i e.2) && t.awake p then t.gridSof i p n else t
  ((if n % 8 = 0 then t.frameBoundary i else t).retryRelay i).grantAll

theorem cmdHoldoverSofBoundary_of_started (open_ : s.holdState i ≠ 5) (started : (s.hold i).started = true) {k n : Nat} {t u : State}
    (hk : s.nextBoundary i = k) (hn : ((s.hold i).lastCount + k) % 16384 = n)
    (ht : s.setHold i { s.hold i with boundary := k, count := n } = t)
    (hu : (if (s.hold i).boundary = 0 ∧ t.holdState i = 4 ∧ !(t.imageRows i).isEmpty then
      t.logStep 1 i.val (((s.hold i).lastSof + k * 125000) % 2 ^ 32) (s.hold i).lastCount n (((k : Int) - 1) * 125000) (t.imageRows i)
      else t) = u) :
    s.cmdHoldoverSofBoundary i = (if u.holdState i = 4 ∨ u.holdState i = 6 then u.firstSof i n else u).passBoundary i n := by
  subst hu ht hn hk
  exact if_neg (by simp [started, open_])

/-- A boundary of a grid whose first boundary has passed. -/
theorem cmdHoldoverSofBoundary_of_running (open_ : s.holdState i ≠ 5) (started : (s.hold i).started = true)
    (running : (s.hold i).boundary ≠ 0) {n : Nat} {t : State} (hn : ((s.hold i).lastCount + s.nextBoundary i) % 16384 = n)
    (ht : s.setHold i { s.hold i with boundary := s.nextBoundary i, count := n } = t) :
    s.cmdHoldoverSofBoundary i = (if s.holdState i = 4 ∨ s.holdState i = 6 then t.firstSof i n else t).passBoundary i n := by
  have state : t.holdState i = s.holdState i := ht ▸ rfl
  rw [cmdHoldoverSofBoundary_of_started open_ started rfl hn ht (if_neg fun h => running h.1), state]

/-- The first boundary of the grid of an image in hold-over. -/
theorem cmdHoldoverSofBoundary_of_first (holding : s.holdState i = 4) (started : (s.hold i).started = true)
    (first : (s.hold i).boundary = 0) (rows : s.imageRows i ≠ []) {k n : Nat} {t : State} (hk : s.nextBoundary i = k)
    (hn : ((s.hold i).lastCount + k) % 16384 = n) (ht : s.setHold i { s.hold i with boundary := k, count := n } = t) :
    s.cmdHoldoverSofBoundary i = ((t.logStep 1 i.val (((s.hold i).lastSof + k * 125000) % 2 ^ 32) (s.hold i).lastCount n
      (((k : Int) - 1) * 125000) (s.imageRows i)).firstSof i n).passBoundary i n := by
  have open_ : s.holdState i ≠ 5 := by simp [holding]
  have state : t.holdState i = 4 := ht ▸ holding
  have same : t.imageRows i = s.imageRows i := ht ▸ rfl
  have some : (!(t.imageRows i).isEmpty) = true := by simpa [same] using rows
  rw [cmdHoldoverSofBoundary_of_started open_ started hk hn ht (if_pos ⟨first, state, some⟩),
    if_pos (Or.inl ((holdState_logStep _ _ _ _ _ _ _ _ _).trans state)), same]

/-! ### Slots and entry actions -/

theorem slotRuns_of_current {j : Nat} (current : (s.slot j).left = false) : s.slotRuns j = s.entryNow j := by
  rw [State.slotRuns, current]
  rfl

theorem cmdEntryAction_of_out {j : Fin 256} {e : SlotEntry} {p : Port} {q : Option EpInfo} (current : (s.slot j.val).left = false)
    (fresh : (s.slot j.val).stage = 0) (now : s.entryNow j.val = e) (valid : e.valid = true) (out : e.action = 3)
    (due : (s.slot j.val).entry = true) (rests : (s.slot j.val).running = false) (asked : (s.slot j.val).waiting = false)
    (port : s.slotPort e = some (p, q)) : s.cmdEntryAction j =
      (s.modSlot j.val fun x => { x with waiting := true, word := s.wordNow e j.val, data := s.slotPayload e.image e.target e.length }).submit
        (s.slotXact e p q false false none (s.slotPayload e.image e.target e.length) (.entryAction j.val)) := by
  have runs : s.slotRuns j.val = e := (slotRuns_of_current current).trans now
  simp only [State.cmdEntryAction, fresh, runs, valid, out, due, rests, asked, port, current, Bool.not_true, Bool.not_false,
    Bool.false_eq_true, true_or, not_true_eq_false, or_self, and_self, if_true, if_false]
  rfl

section
variable {j : Fin 256} {e : SlotEntry} (now : s.entryNow j.val = e) (valid : e.valid = true) (read : e.action = 1)
  (holds : s.inHold (imageOf e.image) = true) (phase : s.slotCount (imageOf e.image) e.port % 2 ^ e.interval = e.phase)
include now valid read holds phase

theorem cmdSlotOccurrence_of_absorbing (absorbing : s.absorbingAt (imageOf e.image) e.port = true) : s.cmdSlotOccurrence j = s.slotSkip := by
  simp only [State.cmdSlotOccurrence, now, valid, read, holds, phase, absorbing, Bool.not_true, Bool.false_eq_true, true_or, ne_eq,
    not_true_eq_false, or_self, if_false, if_true]

theorem cmdSlotOccurrence_of_inactive (settled : s.absorbingAt (imageOf e.image) e.port = false) (port : s.slotPort e = none) :
    s.cmdSlotOccurrence j = s.slotInactive j.val := by
  simp only [State.cmdSlotOccurrence, now, valid, read, holds, phase, settled, port, Bool.not_true, Bool.false_eq_true, true_or, ne_eq,
    not_true_eq_false, or_self, if_false]

/-- Where no slot is at work, a slot that falls due is asked at once. -/
theorem cmdSlotOccurrence_of_idle {p : Port} {q : Option EpInfo} (settled : s.absorbingAt (imageOf e.image) e.port = false)
    (port : s.slotPort e = some (p, q)) (idle : ∀ k, (s.slot k).running = false ∧ (s.slot k).waiting = false ∧ (s.slot k).entry = false) :
    s.cmdSlotOccurrence j = (s.modSlot j.val fun x => { x with waiting := true, burst := 0, word := s.wordNow e j.val }).submit
      (s.slotXact e p q e.dirIn false none [] (.slot j.val)) := by
  have running : ∀ k, (s.slot k).running = false := fun k => (idle k).1
  have waiting : ∀ k, (s.slot k).waiting = false := fun k => (idle k).2.1
  have entry : ∀ k, (s.slot k).entry = false := fun k => (idle k).2.2
  have other : ¬ ((1 : Nat) = 4) := by decide
  have none' : (List.range 256).any (fun _ => false) = false := by simp
  have empty : (List.range 256).filter (fun _ => false) = [] := by simp
  have nothing : ∀ f : State → Nat → State, s.forEach [] f = s := fun _ => rfl
  simp only [State.cmdSlotOccurrence, now, valid, read, holds, phase, settled, port, Bool.not_true, Bool.false_eq_true, true_or, ne_eq,
    not_true_eq_false, or_self, if_false, running, waiting, entry, Bool.or_self, Bool.false_and, Bool.and_false, none', empty, nothing,
    other]
  rfl

end

end Sys2Proof.Machine
end

section
/-! O20. Timers, upstreams and adoption of an image in hold-over. -/

namespace Sys2Proof.Machine

/-- Settles O20: by each command's branch for its timer, upstream, boundary or slot. -/
theorem holdoverEvents : Obligations.HoldoverEvents := by
  intro s i on
  refine ⟨fun two window => next_of_core on (if_pos ⟨two, window⟩), fun u vbus => next_of_core on (if_pos vbus),
    fun u attached => next_of_core on (if_pos attached),
    fun here config awake settled fast armed => next_of_core on
      (cmdSofLossDeclaration_of_armed (s := s.fresh) here config awake settled fast armed),
    fun u auto mirror held => next_of_core on (cmdAdoptAutoDelayExpiry_of_mirror (s := s.fresh) auto mirror held),
    fun u mirror adopting via first attached => next_of_core on
      (cmdAdoptMirrorAttach_of_attached (s := s.fresh) mirror adopting via first attached),
    fun m here held addressed => next_of_core on (if_pos ⟨(Bool.or_eq_true _ _).mpr here, held, addressed⟩),
    fun m p own absorbing quiet held => next_of_core on (cmdAbsorbedResetComplete_of_own (s := s.fresh) own absorbing quiet held),
    fun decided => next_of_core on (if_pos decided), fun adopting => next_of_core on (if_pos adopting),
    fun swapping waits earlier => next_of_core on (cmdTableSwitchBoundary_of_swapping (s := s.fresh) swapping waits earlier),
    fun open_ started running => next_of_core on (cmdHoldoverSofBoundary_of_running (s := s.fresh) open_ started running rfl rfl),
    fun holding started first rows => next_of_core on
      (cmdHoldoverSofBoundary_of_first (s := s.fresh) holding started first rows rfl rfl rfl),
    fun five => next_of_core on (if_pos (Or.inr five)),
    fun j e p q b current fresh now valid out due rests asked port data => data ▸ next_of_core on
      (cmdEntryAction_of_out (s := s.fresh) current fresh now valid out due rests asked port),
    fun j due rests => next_of_core on (if_pos ⟨due, by simpa using rests⟩),
    fun j e p q now valid read holds phase settled => ⟨fun port => next_of_core on
      (cmdSlotOccurrence_of_inactive (s := s.fresh) now valid read holds phase settled port), fun port idle => next_of_core on
      (cmdSlotOccurrence_of_idle (s := s.fresh) now valid read holds phase settled port idle)⟩,
    fun j e now valid read holds phase absorbing => next_of_core on
      (cmdSlotOccurrence_of_absorbing (s := s.fresh) now valid read holds phase absorbing)⟩

end Sys2Proof.Machine
end

section
/-! SUPPORT. No operation that a write runs reads what the step has sent so far or what is still due. -/

namespace Sys2Proof.Machine

/-- `t` is `s` but for what the step has sent and what is due. -/
inductive State.Same (s : State) : State → Prop
  | mk (o : List Out) (d : List Due) : State.Same s { s with out := o, due := d }

/-- Two results of an operation that agree, the states but for what the step has sent and what is due. -/
def Alike {α : Type} (x y : α × State) : Prop := y.1 = x.1 ∧ x.2.Same y.2

namespace State.Same
variable {s t a b a' b' : State}

/-- What is read of a state without what it has sent and what is due. -/
theorem reads {α : Type} (h : s.Same t) (g : State → α) (blind : ∀ {s o d}, g { s with out := o, due := d } = g s) :
    g t = g s := by
  obtain ⟨o, d⟩ := h
  exact blind

theorem eq (h : s.Same t) : ∃ o d, t = { s with out := o, due := d } := by
  obtain ⟨o, d⟩ := h
  exact ⟨o, d, rfl⟩

theorem either {p : Prop} {i j : Decidable p} (h : a.Same b) (h' : a'.Same b') : (@ite _ p i a a').Same (@ite _ p j b b') := by
  by_cases p <;> simp [*]

theorem either₂ {α : Type} {p : Prop} {i j : Decidable p} {x x' y y' : α × State} (h : x.2.Same y.2) (h' : x'.2.Same y'.2) :
    (@ite _ p i x x').2.Same (@ite _ p j y y').2 := by
  by_cases p <;> simp [*]

theorem pair {α : Type} {x y : α} (h : a.Same b) : (x, a).2.Same (y, b).2 := h

end State.Same

theorem Alike.eqs {α : Type} {x y : α × State} (h : Alike x y) : ∃ r a b, x = (r, a) ∧ y = (r, b) ∧ a.Same b :=
  ⟨x.1, x.2, y.2, rfl, Prod.ext h.1 rfl, h.2⟩

theorem Alike.either {α : Type} {p : Prop} {i j : Decidable p} {x x' y y' : α × State} (h : Alike x y) (h' : Alike x' y') :
    Alike (@ite _ p i x x') (@ite _ p j y y') := by
  by_cases p <;> simp [*]

namespace State.Same
variable {s t : State}

theorem putSeqs {l} : s.Same t → (s.putSeqs l).Same (t.putSeqs l) | ⟨_, _⟩ => ⟨_, _⟩
theorem set {r v} : s.Same t → (s.set r v).Same (t.set r v) | ⟨_, _⟩ => ⟨_, _⟩
theorem setFrom {r} {f : Nat → Nat} : s.Same t → (s.set r (f (s.get r))).Same (t.set r (f (t.get r))) | h@⟨_, _⟩ => h.set

theorem setWhen {r v n} : s.Same t → (if s.get r = n then s.set r v else s).Same (if t.get r = n then t.set r v else t)
  | h@⟨_, _⟩ => .either h.set h

theorem flag {r b} : s.Same t → (s.flag r b).Same (t.flag r b) | h@⟨_, _⟩ => h.set.putSeqs
theorem bump {r} : s.Same t → (s.bump r).Same (t.bump r) | h@⟨_, _⟩ => h.set
theorem modFaults {f} : s.Same t → (s.modFaults f).Same (t.modFaults f) | ⟨_, _⟩ => ⟨_, _⟩

theorem clearFaultStatus {w} : s.Same t → (s.clearFaultStatus w).Same (t.clearFaultStatus w)
  | h@⟨_, _⟩ => .either h.modFaults.set.set.set.set.modFaults h.modFaults.set

theorem clearEvents {r v} : s.Same t → (s.clearEvents r v).Same (t.clearEvents r v)
  | h@⟨_, _⟩ => .either h.bump.flag (.either h.clearFaultStatus h.set)

theorem setRegBit {r b v} : s.Same t → (s.setRegBit r b v).Same (t.setRegBit r b v) | h@⟨_, _⟩ => h.set
theorem endLive {source} : s.Same t → (s.endLive source).Same (t.endLive source) | h@⟨_, _⟩ => .either ⟨_, _⟩ h
theorem unreference : s.Same t → s.unreference.Same t.unreference | ⟨_, _⟩ => .endLive ⟨_, _⟩

theorem forEach {α : Type} {l : List α} {f g : State → α → State} (h : s.Same t)
    (step : ∀ {s t} a, s.Same t → (f s a).Same (g t a)) : (s.forEach l f).Same (t.forEach l g) := by
  induction l generalizing s t with
  | nil => exact h
  | cons a l ih => exact ih (step a h)

theorem setAll {l} : s.Same t → (s.setAll l).Same (t.setAll l) | h@⟨_, _⟩ => .forEach h (fun _ k@⟨_, _⟩ => k.set)

theorem writeComm {idx l} : s.Same t → (s.writeComm idx l).2.Same (t.writeComm idx l).2
  | h@⟨_, _⟩ => .either₂ h (.pair h.setAll.unreference)

theorem stagePrism {l} : s.Same t → (s.stagePrism l).Same (t.stagePrism l) | h@⟨_, _⟩ => .forEach h (fun _ ⟨_, _⟩ => ⟨_, _⟩)
theorem modRing {f} : s.Same t → (s.modRing f).Same (t.modRing f) | ⟨_, _⟩ => ⟨_, _⟩
theorem setLink {k x} : s.Same t → (s.setLink k x).Same (t.setLink k x) | ⟨_, _⟩ => ⟨_, _⟩
theorem modLink {k f} : s.Same t → (s.modLink k f).Same (t.modLink k f) | h@⟨_, _⟩ => h.setLink
theorem count {r n} : s.Same t → (s.count r n).Same (t.count r n) | h@⟨_, _⟩ => h.set

theorem noteStalls {k} : s.Same t → (s.noteStalls k).Same (t.noteStalls k)
  | h@⟨_, _⟩ => by
    unfold State.noteStalls
    exact h.count.modLink

theorem spendCredit {k f} : s.Same t → (s.spendCredit k f).Same (t.spendCredit k f) | h@⟨_, _⟩ => h.modLink
theorem lensCount {g pl n} : s.Same t → (s.lensCount g pl n).Same (t.lensCount g pl n) | ⟨_, _⟩ => ⟨_, _⟩

theorem provoke {k pl} : s.Same t → Alike (s.provoke k pl) (t.provoke k pl)
  | h@⟨_, _⟩ => by
    unfold State.provoke
    split
    · exact .either (.either ⟨rfl, .lensCount (.bump ⟨_, _⟩)⟩ ⟨rfl, ⟨_, _⟩⟩) ⟨rfl, h⟩
    · exact ⟨rfl, h⟩

theorem when {b} {f g : State → State} (h : s.Same t) (step : ∀ {s t}, s.Same t → (f s).Same (g t)) : (s.when b f).Same (t.when b g) :=
  .either (step h) h

theorem lensWrite {bytes pl} : s.Same t → (s.lensWrite bytes pl).Same (t.lensWrite bytes pl)
  | h@⟨_, _⟩ => by
    unfold State.lensWrite
    cases pl != 0
    · exact .either (.bump (.either h (.flag ⟨_, _⟩))) (.either (.either (.flag ⟨_, _⟩) ⟨_, _⟩) (.either (.flag ⟨_, _⟩) ⟨_, _⟩))
    · exact .either (.lensCount (.bump (.either h (.flag ⟨_, _⟩)))) (.either (.either (.flag ⟨_, _⟩) ⟨_, _⟩)
        (.either (.flag ⟨_, _⟩) ⟨_, _⟩))

theorem lensNote {src pl sent detail ext} : s.Same t → (s.lensNote src pl sent detail ext).Same (t.lensNote src pl sent detail ext)
  | h@⟨_, _⟩ => .either (.either (.either ⟨_, _⟩ (.when (.bump ⟨_, _⟩) (fun k@⟨_, _⟩ => k.lensCount))) (.lensWrite ⟨_, _⟩)) h

theorem lensFrame {k sent f} : s.Same t → (s.lensFrame k sent f).Same (t.lensFrame k sent f) | h@⟨_, _⟩ => h.lensNote

theorem countSent {k f} : s.Same t → (s.countSent k f).Same (t.countSent k f)
  | h@⟨_, _⟩ => .either (.lensFrame (.either (.lensCount (.either h.lensCount.lensCount h.lensCount)) (.either h.lensCount.lensCount
      h.lensCount))) (.either (.lensCount (.either h.lensCount.lensCount h.lensCount)) (.either h.lensCount.lensCount h.lensCount))

theorem emit {o} : s.Same t → (s.emit o).Same (t.emit o) | ⟨_, _⟩ => ⟨_, _⟩

theorem emitFrame {k f corrupt stomped} : s.Same t → (s.emitFrame k f corrupt stomped).Same (t.emitFrame k f corrupt stomped)
  | h@⟨_, _⟩ => h.emit

theorem setEcho {k x} : s.Same t → (s.setEcho k x).Same (t.setEcho k x) | ⟨_, _⟩ => ⟨_, _⟩

theorem stampEcho {k f} : s.Same t → Alike (s.stampEcho k f) (t.stampEcho k f)
  | h@⟨_, _⟩ => by
    unfold State.stampEcho
    split
    · exact ⟨rfl, ⟨_, _⟩⟩
    · exact ⟨rfl, h⟩

theorem transmit {k f} : s.Same t → (s.transmit k f).Same (t.transmit k f)
  | h@⟨_, _⟩ => by
    unfold State.transmit
    extract_lets _ f a u _ g b v
    have m : a.Same b := h.spendCredit
    have n : u.Same v := m.modLink
    have eq : g = f := rfl
    clear_value a b u v g f
    subst eq
    refine .either ?_ ?_
    · obtain ⟨drop, _, _, hu, hv, n⟩ := (n.provoke (k := 0) (pl := placeLink k)).eqs
      obtain ⟨corrupt, _, _, hu', hv', n⟩ := (n.provoke (k := 1) (pl := placeLink k)).eqs
      obtain ⟨reorder, _, _, hu'', hv'', n⟩ := (n.provoke (k := 2) (pl := placeLink k)).eqs
      have sent := n.countSent (k := k) (f := g)
      simp only [hu, hv, hu', hv', hu'', hv'', sent.reads (·.link k) rfl]
      exact .either sent (.either sent.modLink (.modLink (.forEach sent.emitFrame fun _ k => k.emitFrame)))
    · obtain ⟨f, _, _, hu, hv, m⟩ := (m.stampEcho (k := k) (f := g)).eqs
      simp only [hu, hv]
      exact .emitFrame m.countSent

theorem drainLink {k n} (h : s.Same t) : (s.drainLink k n).Same (t.drainLink k n) := by
  induction n generalizing s t with
  | zero => exact h.noteStalls
  | succ n ih =>
    simp only [State.drainLink, h.reads (·.mayStart) rfl, h.reads (·.heads k) rfl]
    cases (s.heads k).find? fun f => s.mayStart k f with
    | none => exact h.noteStalls
    | some f => exact ih (.transmit h.modLink)

theorem resend {k l} (h : s.Same t) : (s.resend k l).Same (t.resend k l) := by
  induction l generalizing s t with
  | nil => obtain ⟨_, _⟩ := h; exact .modLink ⟨_, _⟩
  | cons f l ih =>
    obtain ⟨_, _⟩ := h
    exact .either (ih (.lensCount (.emitFrame (.spendCredit ⟨_, _⟩)))) (.modLink ⟨_, _⟩)

theorem drain {k} : s.Same t → (s.drain k).Same (t.drain k) | h@⟨_, _⟩ => h.resend.drainLink
theorem sendOn {k f} : s.Same t → (s.sendOn k f).Same (t.sendOn k f) | h@⟨_, _⟩ => h.modLink.drain

theorem broadcast {typ image body} : s.Same t → (s.broadcast typ image body).Same (t.broadcast typ image body)
  | h@⟨_, _⟩ => .either h (.forEach h (fun _ k@⟨_, _⟩ => k.sendOn))

theorem stageOut {w l} : s.Same t → (s.stageOut w l).Same (t.stageOut w l)
  | h@⟨_, _⟩ => by
    unfold State.stageOut
    extract_lets a _ b _
    have k : a.Same b := h.stagePrism.unreference
    clear_value a b
    obtain ⟨_, _⟩ := k
    exact .broadcast (.modRing ⟨_, _⟩)

theorem writePrism {c w l} : s.Same t → (s.writePrism c w l).2.Same (t.writePrism c w l).2 | h@⟨_, _⟩ => .either₂ h (.pair h.stageOut)
theorem ownStage {c} : s.Same t → (s.ownStage c).Same (t.ownStage c) | ⟨_, _⟩ => ⟨_, _⟩
theorem stageAll {l} : s.Same t → (s.stageAll l).Same (t.stageAll l) | h@⟨_, _⟩ => .forEach h (fun _ ⟨_, _⟩ => ⟨_, _⟩)

theorem stageLocal {c l} : s.Same t → (s.stageLocal c l).Same (t.stageLocal c l)
  | h@⟨_, _⟩ => by
    unfold State.stageLocal
    extract_lets a _ b _
    have k : a.Same b := h.stageAll.ownStage.unreference
    clear_value a b
    obtain ⟨_, _⟩ := k
    exact ⟨_, _⟩

theorem writeStaged {c l} : s.Same t → (s.writeStaged c l).2.Same (t.writeStaged c l).2 | h@⟨_, _⟩ => .either₂ (.pair h.stageLocal) h

theorem refuseCommit {reason facet detail} : s.Same t → (s.refuseCommit reason facet detail).Same (t.refuseCommit reason facet detail)
  | h@⟨_, _⟩ => h.set.set.flag

theorem dropPrismStage : s.Same t → s.dropPrismStage.Same t.dropPrismStage | ⟨_, _⟩ => ⟨_, _⟩
theorem endCommit : s.Same t → s.endCommit.Same t.endCommit | h@⟨_, _⟩ => h.modRing

theorem commitUnlocked : s.Same t → s.commitUnlocked.Same t.commitUnlocked
  | h@⟨_, _⟩ => .either h (.dropPrismStage (.endCommit (.either h.refuseCommit (.either h.set h))))

theorem freeLock : s.Same t → s.freeLock.Same t.freeLock | h@⟨_, _⟩ => h.set.modRing.commitUnlocked
theorem raise {source detail} : s.Same t → (s.raise source detail).Same (t.raise source detail) | ⟨_, _⟩ => ⟨_, _⟩
theorem lapse : s.Same t → s.lapse.Same t.lapse | h@⟨_, _⟩ => .either h.bump.flag.raise.freeLock h

theorem lapseHere : s.Same t → s.lapseHere.Same t.lapseHere
  | h@⟨_, _⟩ => by
    unfold State.lapseHere
    exact .when h.lapse (fun k@⟨_, _⟩ => k.broadcast)

theorem takeLoss : s.Same t → s.takeLoss.Same t.takeLoss | h@⟨_, _⟩ => .either h.bump.modRing h.bump.modRing

theorem sendTo {uid typ image tag body} (h : s.Same t) : (s.sendTo uid typ image tag body).Same (t.sendTo uid typ image tag body) := by
  simp only [State.sendTo, h.reads (·.carriesImages) rfl, h.reads (·.routeTo uid) rfl, h.reads (·.newFrame) rfl, h.reads (·.indexFor) rfl]
  refine .either h ?_
  cases s.routeTo uid with
  | none => exact h
  | some r =>
    by_cases first : r.first < 4
    · simp only [first, dite_true]
      exact h.sendOn
    · simp only [first, dite_false]
      exact h

theorem sendIndex {index typ image tag body} (h : s.Same t) : (s.sendIndex index typ image tag body).Same (t.sendIndex index typ image tag body) := by
  simp only [State.sendIndex, h.reads (·.peerOf) rfl]
  cases s.peerOf typ index with
  | none => exact h
  | some uid => exact h.sendTo

theorem takeGrant {q expiry} : s.Same t → (s.takeGrant q expiry).Same (t.takeGrant q expiry)
  | h@⟨_, _⟩ => by
    unfold State.takeGrant
    extract_lets _ _ a _ _ _ b _
    have k : a.Same b := .modRing (.set (.when h fun h => h.commitUnlocked))
    clear_value a b
    simp only [k.reads (·.ownIndex) rfl, k.reads (·.ring) rfl, k.reads (·.elapsedMs) rfl]
    exact .either (.either k.modRing k.freeLock.broadcast) k.modRing

theorem keeperDecide {reqs} : s.Same t → (s.keeperDecide reqs).Same (t.keeperDecide reqs)
  | h@⟨_, _⟩ => by
    unfold State.keeperDecide
    refine .either h ?_
    extract_lets a sorted told e b e'
    have k : a.Same b := .either h.lapseHere h
    have same : ∀ {s t : State} (q : LockReq), s.Same t → (told s q).Same (told t q) := by
      rintro s t q ⟨_, _⟩
      exact .either (.takeLoss ⟨_, _⟩) (.sendIndex ⟨_, _⟩)
    have lease : e' = e := k.reads (·.leaseEnd) rfl
    clear_value a b e e' told sorted
    simp only [k.reads (·.lockHeld) rfl, lease]
    cases sorted with
    | nil => exact k
    | cons q rest => exact .either (k.forEach same) (.forEach k.takeGrant.broadcast same)

theorem sendRequest (h : s.Same t) : s.sendRequest.Same t.sendRequest := by
  simp only [State.sendRequest, h.reads (·.ring) rfl, h.reads (·.keeper) rfl, h.reads (·.isTrue) rfl, h.reads (·.ownIndex) rfl]
  split
  · exact .either h (.either h.keeperDecide h.sendIndex)
  · exact h

theorem writeLockRequest {c v} : s.Same t → (s.writeLockRequest c v).2.Same (t.writeLockRequest c v).2
  | h@⟨_, _⟩ => .either₂ (.either₂ (.pair h.freeLock.broadcast) (.either₂ (.pair h.modRing) h)) (.either₂ h (.either₂ h (.pair
      h.modRing.sendRequest)))

theorem abortCommit {reason facet detail} : s.Same t → (s.abortCommit reason facet detail).Same (t.abortCommit reason facet detail)
  | h@⟨_, _⟩ => h.endCommit.refuseCommit.broadcast

theorem renewLease : s.Same t → s.renewLease.Same t.renewLease | h@⟨_, _⟩ => h.modRing.broadcast

theorem startApply : s.Same t → s.startApply.Same t.startApply
  | h@⟨_, _⟩ => .either h.abortCommit (.broadcast (.set (.modRing (.either h.renewLease h))))

theorem startCommit {others formed} : s.Same t → (s.startCommit others formed).Same (t.startCommit others formed)
  | h@⟨_, _⟩ => by
    unfold State.startCommit
    extract_lets _ _ _ _ _ a _ _ _ _ _ b
    have k : a.Same b := .broadcast (.modRing (.set ⟨_, _⟩))
    clear_value a b
    simp only [k.reads (·.commitCheck) rfl, k.reads (·.ownIndex) rfl]
    split
    · exact k.abortCommit
    · exact .either k.startApply k

theorem discardStage : s.Same t → s.discardStage.Same t.discardStage
  | h@⟨_, _⟩ => .dropPrismStage (.forEach h (fun _ k@⟨_, _⟩ => k.stageOut))

theorem writePrismCommit {c v} : s.Same t → (s.writePrismCommit c v).2.Same (t.writePrismCommit c v).2
  | h@⟨_, _⟩ => .either₂ (.either₂ (.pair h.set.flag) (.either₂ (.pair h.refuseCommit) (.either₂ (.pair h.refuseCommit) (.pair
      h.startCommit)))) (.either₂ (.either₂ h (.pair h.discardStage)) h)

end State.Same
end Sys2Proof.Machine
end

section
/-! SUPPORT. Hold-over: what its operations read. -/

namespace Sys2Proof.Machine.State.Same
variable {s t : State}

theorem plainFor {d l} (h : s.Same t) : (s.plainFor d l).2.Same (t.plainFor d l).2 := by
  obtain ⟨_, _, eq⟩ := (h.setAll (l := l)).eq
  simp only [State.plainFor, h.reads (·.doors) rfl, h.reads (·.time) rfl, eq]
  split
  · exact .pair (.setAll ⟨_, _⟩)
  · exact .pair ⟨_, _⟩

theorem writeDefaultMap {c i} : s.Same t → (s.writeDefaultMap c i).2.Same (t.writeDefaultMap c i).2
  | h@⟨_, _⟩ => .either₂ h (.pair h.stageOut.stageOut)

theorem setHold {i x} : s.Same t → (s.setHold i x).Same (t.setHold i x) | ⟨_, _⟩ => ⟨_, _⟩
theorem modHold {i f} : s.Same t → (s.modHold i f).Same (t.modHold i f) | h@⟨_, _⟩ => h.setHold
theorem setSlot {j x} : s.Same t → (s.setSlot j x).Same (t.setSlot j x) | ⟨_, _⟩ => ⟨_, _⟩
theorem modSlot {j f} : s.Same t → (s.modSlot j f).Same (t.modSlot j f) | h@⟨_, _⟩ => h.setSlot
theorem unwait {j} : s.Same t → (s.unwait j).Same (t.unwait j) | ⟨_, _⟩ => .modSlot ⟨_, _⟩
theorem setStream {n x} : s.Same t → (s.setStream n x).Same (t.setStream n x) | ⟨_, _⟩ => ⟨_, _⟩

theorem closeRecord {n flags words} (h : s.Same t) : (s.closeRecord n flags words).Same (t.closeRecord n flags words) := by
  simp only [State.closeRecord, h.reads (·.stream n) rfl, h.reads (·.time) rfl, h.reads (·.get) rfl]
  cases (s.stream n).current with
  | none => exact h.setStream
  | some r => exact h.setStream.bump

theorem truncateRecord {n} : s.Same t → (s.truncateRecord n).Same (t.truncateRecord n) | h@⟨_, _⟩ => h.closeRecord

theorem swapDone (h : s.Same t) : s.swapDone.Same t.swapDone := by
  simp only [State.swapDone, h.reads (·.running) rfl, h.reads (·.runPayload) rfl, h.reads (·.shadowWord) rfl, h.reads (·.get) rfl]
  generalize List.range 256 = r, List.finRange 256 = l, List.finRange 4096 = m
  obtain ⟨_, _⟩ := h
  exact .flag (.set (.setFrom (f := (· % 128)) (.forEach (.forEach ⟨_, _⟩ fun _ k => k.set) fun _ k => k.set)))

theorem switchImage {i} : s.Same t → (s.switchImage i).Same (t.switchImage i)
  | h@⟨_, _⟩ => by
    unfold State.switchImage
    extract_lets _ _ a _ _ c _ _ _ _ b _ _ d _ _
    have k : a.Same b := .forEach h fun _ k@⟨_, _⟩ => .either k.modSlot k.unwait.setSlot
    clear_value a b
    obtain ⟨_, _⟩ := k
    have k : c.Same d := .forEach ⟨_, _⟩ fun _ k => k.truncateRecord
    clear_value c d
    obtain ⟨_, _⟩ := k
    exact .either (.swapDone (.set ⟨_, _⟩)) (.set ⟨_, _⟩)

theorem writeSwap {v} (h : s.Same t) : (s.writeSwap v).2.Same (t.writeSwap v).2 := by
  simp only [State.writeSwap, h.reads (·.swapping) rfl, h.reads (·.slotCheck) rfl, h.reads (·.shadowWord) rfl]
  refine .either₂ h (.either₂ h ?_)
  split
  · exact .pair h.set.flag
  · obtain ⟨_, _⟩ := h
    exact .pair (.forEach (.setRegBit ⟨_, _⟩) fun _ k@⟨_, _⟩ => .either k.modHold k.switchImage)

theorem tellHold {i v code} : s.Same t → (s.tellHold i v code).Same (t.tellHold i v code)
  | h@⟨_, _⟩ => .either h.set.modHold.broadcast h.set.modHold

theorem setHoldState {i v} : s.Same t → (s.setHoldState i v).Same (t.setHoldState i v) | h@⟨_, _⟩ => h.tellHold
theorem endIntent {i} : s.Same t → (s.endIntent i).Same (t.endIntent i) | h@⟨_, _⟩ => h.set.modHold

theorem applyArm {i v} : s.Same t → (s.applyArm i v).Same (t.applyArm i v)
  | h@⟨_, _⟩ => .either (.either h.set.setHoldState h.set) (.either h.set.endIntent.setHoldState h.set)

theorem writeArm {i v} : s.Same t → (s.writeArm i v).2.Same (t.writeArm i v).2
  | h@⟨_, _⟩ => by
    refine .either₂ h (.either₂ h (.either₂ ?_ (.pair h.broadcast)))
    extract_lets a b
    have k : a.Same b := h.applyArm
    clear_value a b
    obtain ⟨_, _⟩ := k
    exact .pair (.either ⟨_, _⟩ (.broadcast ⟨_, _⟩))

theorem openIntent {i} : s.Same t → (s.openIntent i).Same (t.openIntent i) | h@⟨_, _⟩ => h.set.modHold

theorem writeIntent {i v} : s.Same t → (s.writeIntent i v).2.Same (t.writeIntent i v).2
  | h@⟨_, _⟩ => .either₂ h (.either₂ (.either₂ (.pair h.openIntent.setHoldState) (.either₂ (.pair h.bump) h)) (.either₂ (.pair
      h.endIntent.setHoldState) (.pair h.endIntent)))

theorem slotInactive {j} : s.Same t → (s.slotInactive j).Same (t.slotInactive j) | h@⟨_, _⟩ => .either h h.modSlot.bump

theorem startSlot {e j} : s.Same t → (s.startSlot e j).Same (t.startSlot e j)
  | h@⟨_, _⟩ => by
    unfold State.startSlot
    extract_lets a b
    have k : a.Same b := .either h h.setSlot
    clear_value a b
    obtain ⟨_, _⟩ := k
    exact .either (.either (.modSlot ⟨_, _⟩) (.slotInactive ⟨_, _⟩)) ⟨_, _⟩

theorem startSlots {i} : s.Same t → (s.startSlots i).Same (t.startSlots i)
  | h@⟨_, _⟩ => .forEach h (fun _ k@⟨_, _⟩ => .either (.either k.modSlot k.startSlot) k)

theorem startGrid {i declared lastSof count} : s.Same t → (s.startGrid i declared lastSof count).Same (t.startGrid i declared lastSof
    count)
  | h@⟨_, _⟩ => h.modHold

theorem setHeld {i m v} : s.Same t → (s.setHeld i m v).Same (t.setHeld i m v) | h@⟨_, _⟩ => .either h h.setRegBit
theorem setRecord {i m x} : s.Same t → (s.setRecord i m x).Same (t.setRecord i m x) | ⟨_, _⟩ => ⟨_, _⟩

theorem takeHeld {i time} (h : s.Same t) : (s.takeHeld i time).Same (t.takeHeld i time) := by
  rw [State.takeHeld, State.takeHeld, h.reads (·.logicalPorts i) rfl]
  refine h.forEach fun m k => ?_
  simp only [k.reads (·.place i m) rfl, k.reads (·.heldPort) rfl, k.reads (·.recordNow) rfl]
  split
  · exact .either k (.either k.setRecord.setHeld k.setRecord)
  · exact k

theorem modStream {n f} : s.Same t → (s.modStream n f).Same (t.modStream n f) | h@⟨_, _⟩ => h.setStream

theorem setFull {n size} : s.Same t → (s.setFull n size).Same (t.setFull n size)
  | h@⟨_, _⟩ => by
    unfold State.setFull
    exact .modStream (.either h h.flag)

theorem ignoreItem {n size} : s.Same t → (s.ignoreItem n size).Same (t.ignoreItem n size)
  | h@⟨_, _⟩ => .bump (.modStream (.either h h.flag.flag.raise.setFull))

theorem tailWrite {n size q} : s.Same t → (s.tailWrite n size q).Same (t.tailWrite n size q) | h@⟨_, _⟩ => .either h h.modStream

theorem writeItem {n item q} : s.Same t → (s.writeItem n item q).Same (t.writeItem n item q)
  | h@⟨_, _⟩ => by
    unfold State.writeItem
    extract_lets _ _ _ _ _ _ _ a _ _ _ _ _ _ _ _ b _
    have k : a.Same b := .either (.count h.setStream) (.either (.ignoreItem h.setStream)
      (.either (.tailWrite (.set (.modStream h.setStream))) (.ignoreItem h.setStream)))
    clear_value a b
    obtain ⟨_, _⟩ := k
    exact .either (.closeRecord ⟨_, _⟩) (.either (.closeRecord ⟨_, _⟩) ⟨_, _⟩)

theorem returnReadAhead {i a e x} (h : s.Same t) : (s.returnReadAhead i a e x).Same (t.returnReadAhead i a e x) := by
  simp only [State.returnReadAhead, h.reads (·.entry i a) rfl, h.reads (·.place) rfl, h.reads (·.slotsOf) rfl, h.reads (·.device) rfl]
  split
  · exact h
  · split
    · exact h.forEach fun _ k@⟨_, _⟩ => k.sendTo
    · split
      · exact h.count
      · exact h.forEach fun _ k@⟨_, _⟩ => k.writeItem
    · exact h

theorem setRelayEp {i a e dirIn x} : s.Same t → (s.setRelayEp i a e dirIn x).Same (t.setRelayEp i a e dirIn x) | ⟨_, _⟩ => ⟨_, _⟩
theorem setPort {p x} : s.Same t → (s.setPort p x).Same (t.setPort p x) | ⟨_, _⟩ => ⟨_, _⟩
theorem modPort {p f} : s.Same t → (s.modPort p f).Same (t.modPort p f) | h@⟨_, _⟩ => h.setPort

theorem settleRelay {i} : s.Same t → (s.settleRelay i).Same (t.settleRelay i)
  | h@⟨_, _⟩ => by
    unfold State.settleRelay
    extract_lets _ a _ b
    have k : a.Same b := .forEach h fun _ k => .setRelayEp (.either k.returnReadAhead k)
    clear_value a b
    obtain ⟨_, _⟩ := k
    exact .forEach ⟨_, _⟩ fun _ k => k.modPort

theorem activate {i time declared lastSof count} : s.Same t → (s.activate i time declared lastSof count).Same (t.activate i time declared
    lastSof count)
  | h@⟨_, _⟩ => h.settleRelay.takeHeld.startGrid.startSlots

theorem holdEntry {i cause time lastSof count} : s.Same t → (s.holdEntry i cause time lastSof count).Same (t.holdEntry i cause time
    lastSof count)
  | h@⟨_, _⟩ => h.set.set.bump.flag.endIntent.set.raise.activate

theorem modRecord {i m f} : s.Same t → (s.modRecord i m f).Same (t.modRecord i m f) | h@⟨_, _⟩ => h.setRecord
theorem setUp {u x} : s.Same t → (s.setUp u x).Same (t.setUp u x) | ⟨_, _⟩ => ⟨_, _⟩
theorem setSession {d x} : s.Same t → (s.setSession d x).Same (t.setSession d x) | ⟨_, _⟩ => ⟨_, _⟩
theorem modSession {d f} : s.Same t → (s.modSession d f).Same (t.modSession d f) | h@⟨_, _⟩ => h.setSession
theorem rewindStream {n} : s.Same t → (s.rewindStream n).Same (t.rewindStream n) | h@⟨_, _⟩ => h.modStream.set

theorem cutDelivery {d} : s.Same t → (s.cutDelivery d).Same (t.cutDelivery d)
  | h@⟨_, _⟩ => .forEach h.modSession (fun _ k@⟨_, _⟩ => k.rewindStream)

theorem present {u w} : s.Same t → (s.present u w).Same (t.present u w)
  | h@⟨_, _⟩ => .either h (.either (.either h.setUp.set.cutDelivery h.setUp.set.cutDelivery.emit) (.emit (.either h.setUp.set.cutDelivery
      h.setUp.set.cutDelivery.emit)))

theorem presentFormer {u} : s.Same t → (s.presentFormer u).Same (t.presentFormer u) | h@⟨_, _⟩ => .either h.present h.present

theorem showMirror {i} (h : s.Same t) : (s.showMirror i).Same (t.showMirror i) := by
  simp only [State.showMirror, h.reads (·.mirrorUp i) rfl]
  cases s.mirrorUp i with
  | none => exact h
  | some u => exact h.presentFormer

theorem failBack {i} : s.Same t → (s.failBack i).Same (t.failBack i)
  | h@⟨_, _⟩ => by
    unfold State.failBack
    extract_lets _ a _ _ b _
    have k : a.Same b := .modHold (.forEach h fun _ k@⟨_, _⟩ => .either k.modRecord.setHeld k)
    clear_value a b
    obtain ⟨_, _⟩ := k
    exact .showMirror (.either ⟨_, _⟩ (.startGrid ⟨_, _⟩))

theorem adoptLost {i} : s.Same t → (s.adoptLost i).Same (t.adoptLost i) | h@⟨_, _⟩ => h.bump.flag.set.setHoldState.failBack
theorem adoptFail {i cause} : s.Same t → (s.adoptFail i cause).Same (t.adoptFail i cause) | h@⟨_, _⟩ => h.set.set.adoptLost

theorem hostLoss {i cause} (h : s.Same t) : (s.hostLoss i cause).Same (t.hostLoss i cause) := by
  unfold State.hostLoss
  rw [h.reads (·.hub i) rfl, h.reads (·.holdState i) rfl, h.reads (·.hold i) rfl, h.reads (·.time) rfl, h.reads (·.now) rfl]
  extract_lets _ _ a c _ e b d _ f
  refine .either ?_ (.either ?_ (.either (.modHold h.set) (.either h.adoptFail h)))
  · have k : a.Same b := .either h.bump h
    have m : c.Same d := by
      simp only [c, d, k.reads (·.alone) rfl, k.reads (·.now) rfl]
      exact .either k.broadcast k
    rw [m.reads (·.now) rfl, m.reads (·.time) rfl]
    exact .modHold m.holdEntry
  · have k : e.Same f := .setHoldState (.flag (.bump (.set h.set)))
    rw [k.reads (·.now) rfl]
    exact k.takeHeld

theorem setDevice {i a x} : s.Same t → (s.setDevice i a x).Same (t.setDevice i a x) | ⟨_, _⟩ => ⟨_, _⟩
theorem setEntry {i a x} : s.Same t → (s.setEntry i a x).Same (t.setEntry i a x) | ⟨_, _⟩ => ⟨_, _⟩

theorem clearXlate {i} : s.Same t → (s.clearXlate i).Same (t.clearXlate i)
  | h@⟨_, _⟩ => .forEach h (fun _ k@⟨_, _⟩ => k.setEntry.setDevice)

theorem adoptReset {i mirror} : s.Same t → (s.adoptReset i mirror).Same (t.adoptReset i mirror)
  | h@⟨_, _⟩ => by
    unfold State.adoptReset
    extract_lets a _ _ c e b _ _ d f
    have k : a.Same b := .forEach h fun _ k@⟨_, _⟩ => .either k.modRecord k
    clear_value a b
    obtain ⟨_, _⟩ := k
    have k : c.Same d := .modHold (.endIntent (.clearXlate ⟨_, _⟩))
    clear_value c d
    have m : e.Same f := by
      simp only [e, f, k.reads (·.mirrorUp i) rfl]
      split
      · exact k.present
      · exact k
    clear_value e f
    refine .either ?_ k
    rw [m.reads (·.activeUp i) rfl]
    split
    · exact m.present
    · exact m

theorem startAdoption {i mirror} : s.Same t → (s.startAdoption i mirror).Same (t.startAdoption i mirror)
  | h@⟨_, _⟩ => by
    unfold State.startAdoption
    exact h.tellHold.flag.set.set.adoptReset

theorem flood : s.Same t → s.flood.Same t.flood | h@⟨_, _⟩ => .either h (.forEach ⟨_, _⟩ (fun _ k@⟨_, _⟩ => k.sendOn))
theorem setLinkState {k v} : s.Same t → (s.setLinkState k v).Same (t.setLinkState k v) | h@⟨_, _⟩ => h.set.lensNote
theorem showLinkState {k v} : s.Same t → (s.showLinkState k v).Same (t.showLinkState k v) | h@⟨_, _⟩ => .either h h.setLinkState.flood

theorem entering {p v} (h : s.Same t) : (s.entering p v).Same (t.entering p v) := by
  simp only [State.entering, h.reads (·.portLink p) rfl, h.reads (·.get) rfl]
  cases s.portLink p with
  | none => exact h
  | some k => exact .either h.showLinkState (.either h.showLinkState h)

theorem setTc {p x} : s.Same t → (s.setTc p x).Same (t.setTc p x) | ⟨_, _⟩ => ⟨_, _⟩
theorem modTc {p f} : s.Same t → (s.modTc p f).Same (t.modTc p f) | h@⟨_, _⟩ => h.setTc
theorem endContract {p} : s.Same t → (s.endContract p).Same (t.endContract p) | h@⟨_, _⟩ => h.modTc.set.set.set.set
theorem vconnOff {p} : s.Same t → (s.vconnOff p).Same (t.vconnOff p) | h@⟨_, _⟩ => h.modTc
theorem noCurrent {c} : s.Same t → (s.noCurrent c).Same (t.noCurrent c) | h@⟨_, _⟩ => h.set.set
theorem lensBreaker {c kind} : s.Same t → (s.lensBreaker c kind).Same (t.lensBreaker c kind) | h@⟨_, _⟩ => h.lensNote
theorem setGood {c v} : s.Same t → (s.setGood c v).Same (t.setGood c v) | h@⟨_, _⟩ => .either h h.setRegBit.flag.lensBreaker
theorem vbusOff {p} : s.Same t → (s.vbusOff p).Same (t.vbusOff p) | h@⟨_, _⟩ => .either h.set.setGood.noCurrent.modTc h

theorem tcRelease {p} : s.Same t → (s.tcRelease p).Same (t.tcRelease p)
  | h@⟨_, _⟩ => by
    unfold State.tcRelease
    extract_lets _ _ a _ _ b
    have k : a.Same b := .set (.modTc (.entering (.endContract (.vconnOff (.vbusOff h)))))
    clear_value a b
    obtain ⟨_, _⟩ := k
    exact .set ⟨_, _⟩

theorem setPst {p v} : s.Same t → (s.setPst p v).Same (t.setPst p v) | h@⟨_, _⟩ => h.set
theorem setPs {p b v} : s.Same t → (s.setPs p b v).Same (t.setPs p b v) | h@⟨_, _⟩ => h.modPort
theorem clearDevice {p} : s.Same t → (s.clearDevice p).Same (t.clearDevice p) | ⟨_, _⟩ => ⟨_, _⟩

theorem stopSlots {i m} : s.Same t → (s.stopSlots i m).Same (t.stopSlots i m)
  | h@⟨_, _⟩ => by
    unfold State.stopSlots
    extract_lets _ _ a _ _ b
    have k : a.Same b := .forEach ⟨_, _⟩ fun _ k@⟨_, _⟩ => .either k k.modSlot
    clear_value a b
    obtain ⟨_, _⟩ := k
    exact .forEach ⟨_, _⟩ fun _ k => k.truncateRecord

theorem dropHeld {i m} : s.Same t → (s.dropHeld i m).Same (t.dropHeld i m) | h@⟨_, _⟩ => .setRecord (.either h.stopSlots.setHeld h)
theorem putEntry {i a x} : s.Same t → (s.putEntry i a x).Same (t.putEntry i a x) | h@⟨_, _⟩ => .either h.setEntry.broadcast h.setEntry

theorem dropEntries {i m} : s.Same t → (s.dropEntries i m).Same (t.dropEntries i m)
  | h@⟨_, _⟩ => .forEach h (fun _ k@⟨_, _⟩ => k.putEntry.setDevice)

theorem dropRelay {i m} : s.Same t → (s.dropRelay i m).Same (t.dropRelay i m) | ⟨_, _⟩ => .count ⟨_, _⟩
theorem dropOwn {p} : s.Same t → (s.dropOwn p).Same (t.dropOwn p) | ⟨_, _⟩ => ⟨_, _⟩

theorem forgetDevice {p} (h : s.Same t) : (s.forgetDevice p).Same (t.forgetDevice p) := by
  unfold State.forgetDevice
  extract_lets a b
  have k : a.Same b := by
    simp only [a, b, h.reads (·.logicalOf p) rfl]
    split
    · exact h
    · exact h.dropRelay.dropEntries.dropHeld
  exact .modPort (.set k.dropOwn)

theorem setPc {p b} : s.Same t → (s.setPc p b).Same (t.setPc p b) | h@⟨_, _⟩ => h.modPort

theorem loseDevice {p} : s.Same t → (s.loseDevice p).Same (t.loseDevice p)
  | h@⟨_, _⟩ => by
    unfold State.loseDevice
    exact .when h.forgetDevice.clearDevice.set.set (fun k@⟨_, _⟩ => k.setPc)

theorem usbOff {p} : s.Same t → (s.usbOff p).Same (t.usbOff p) | h@⟨_, _⟩ => h.loseDevice.setPs.setPst
theorem powerOff {p} : s.Same t → (s.powerOff p).Same (t.powerOff p) | h@⟨_, _⟩ => h.usbOff.tcRelease

theorem abandonPorts {i} : s.Same t → (s.abandonPorts i).Same (t.abandonPorts i)
  | h@⟨_, _⟩ => by
    refine .endIntent (.modHold (.forEach h fun m k => ?_))
    simp only [k.reads (·.keeps) rfl, k.reads (·.place i m) rfl]
    refine .either ?_ k
    split
    · exact k.powerOff.modPort
    · exact k.dropHeld

theorem abandonHold {i} : s.Same t → (s.abandonHold i).Same (t.abandonHold i) | h@⟨_, _⟩ => h.abandonPorts.tellHold
theorem activateWoken {i} : s.Same t → (s.activateWoken i).Same (t.activateWoken i) | h@⟨_, _⟩ => h.modHold.endIntent.activate
theorem wakeHold {i} : s.Same t → (s.wakeHold i).Same (t.wakeHold i) | h@⟨_, _⟩ => h.setHoldState.flag.activateWoken

theorem startWake {i} : s.Same t → (s.startWake i).Same (t.startWake i)
  | h@⟨_, _⟩ => by
    refine .either h ?_
    extract_lets _ a _ b
    have k : a.Same b := .forEach h fun _ k => k.setPst.modPort.emit
    clear_value a b
    obtain ⟨_, _⟩ := k
    exact .either (.modHold ⟨_, _⟩) (.either ⟨_, _⟩ (.wakeHold ⟨_, _⟩))

theorem callWake {i m} : s.Same t → (s.callWake i m).Same (t.callWake i m)
  | h@⟨_, _⟩ => by
    unfold State.callWake
    extract_lets a b
    have k : a.Same b := h.startWake
    clear_value a b
    obtain ⟨_, _⟩ := k
    exact .either ⟨_, _⟩ (.broadcast ⟨_, _⟩)

theorem writeCommand {i v} : s.Same t → (s.writeCommand i v).2.Same (t.writeCommand i v).2
  | h@⟨_, _⟩ => .either₂ (.either₂ (.pair h.hostLoss) h) (.either₂ (.either₂ (.pair h.set.modHold) (.pair (.startAdoption (.either
      h.hostLoss h)))) (.either₂ (.either₂ (.pair h.abandonHold) h) (.either₂ (.either₂ (.pair h.callWake) h) h)))

theorem holdHeads {sel} : s.Same t → (s.holdHeads sel).Same (t.holdHeads sel)
  | h@⟨_, _⟩ => .forEach h (fun _ k@⟨_, _⟩ => .either k.modSession k)

theorem undoGrant (h : s.Same t) : s.undoGrant.Same t.undoGrant := by
  simp only [State.undoGrant, h.reads (·.arbSaved) rfl, h.reads (·.time) rfl]
  split
  · exact h
  · split
    · obtain ⟨_, _⟩ := h
      exact .setWhen (.set (.set (.set (.set (.forEach ⟨_, _⟩ fun _ k => k.modStream)))))
    · exact h

theorem lensDrain : s.Same t → s.lensDrain.Same t.lensDrain | ⟨_, _⟩ => .forEach ⟨_, _⟩ (fun _ k@⟨_, _⟩ => k.lensWrite)

theorem resumeArb : s.Same t → s.resumeArb.Same t.resumeArb
  | h@⟨_, _⟩ => by
    unfold State.resumeArb
    extract_lets _ a _ b
    have k : a.Same b := .forEach (.set h) fun _ k@⟨_, _⟩ => .either k.modStream k
    clear_value a b
    obtain ⟨_, _⟩ := k
    exact .either (.lensDrain ⟨_, _⟩) ⟨_, _⟩

theorem writeFreeze {v} : s.Same t → (s.writeFreeze v).2.Same (t.writeFreeze v).2
  | h@⟨_, _⟩ => .either₂ h (.either₂ (.pair h.set) (.either₂ (.pair (.either h.set.undoGrant.holdHeads.set h.set)) (.pair
      h.set.resumeArb)))

theorem newTag : s.Same t → s.newTag.2.Same t.newTag.2 | ⟨_, _⟩ => ⟨_, _⟩

theorem doorTo {d uid op idx sub length data} : s.Same t → (s.doorTo d uid op idx sub length data).2.Same (t.doorTo d uid op idx sub
    length data).2
  | ⟨_, _⟩ => .pair (.sendTo ⟨_, _⟩)

theorem modUp {u f} : s.Same t → (s.modUp u f).Same (t.modUp u f) | h@⟨_, _⟩ => h.setUp

end Sys2Proof.Machine.State.Same
end

section
/-! SUPPORT. The reservoir, the ring and the hub core: what their operations read. -/

namespace Sys2Proof.Machine.State.Same
variable {s t : State}

theorem unqueue {d} (h : s.Same t) : (s.unqueue d).Same (t.unqueue d) := by
  simp only [State.unqueue, h.reads (·.session d) rfl]
  refine .either h ?_
  split
  · exact h.modSession.modUp
  · exact h.modSession

theorem closeSession {d} : s.Same t → (s.closeSession d).Same (t.closeSession d) | h@⟨_, _⟩ => h.unqueue.cutDelivery.modSession.set
theorem openSession {d owner} : s.Same t → (s.openSession d owner).Same (t.openSession d owner) | h@⟨_, _⟩ => h.modSession.set.set.set

theorem alikeDoorTo {d uid op idx sub n data} (h : s.Same t) :
    Alike (s.doorTo d uid op idx sub n data) (t.doorTo d uid op idx sub n data) :=
  ⟨h.reads (fun s => (s.doorTo d uid op idx sub n data).1) rfl, h.doorTo⟩

theorem writeSessionOpen {c d v} (h : s.Same t) : (s.writeSessionOpen c d v).2.Same (t.writeSessionOpen c d v).2 := by
  simp only [State.writeSessionOpen, h.reads (·.session) rfl, h.reads (·.sessionHere) rfl, h.reads (·.sessionPeer) rfl, h.reads (·.get) rfl]
  refine .either₂ h (.either₂ h (.either₂ (.pair (.set (.closeSession (.either ?_ h)))) (.either₂ h (.either₂ h (.either₂
    (.either₂ (.pair h.set) (.pair h.openSession)) ?_)))))
  · split
    · exact h.doorTo
    · exact h
  · split
    · exact .pair h.set
    · obtain ⟨tag, _, _, hs, ht, k⟩ := (h.doorTo.alikeDoorTo).eqs
      rw [hs, ht]
      exact .pair k.modSession

theorem markStream {n} : s.Same t → (s.markStream n).Same (t.markStream n) | h@⟨_, _⟩ => h.modStream.set

theorem flushStream {n} (h : s.Same t) : (s.flushStream n).Same (t.flushStream n) := by
  unfold State.flushStream
  rw [h.reads (·.stream n) rfl, h.reads (·.get) rfl, h.reads (·.granules n) rfl]
  extract_lets _ _ _ _ _ a c e _ _ _ b d f _ _
  have k : a.Same b := .setStream (h.forEach fun _ k@⟨_, _⟩ => .either k.unqueue k)
  have m : c.Same d := by
    simp only [c, d, k.reads (·.time) rfl]
    split
    · exact .either k.count.set k
    · exact k
  have n : e.Same f := m.set.set.set
  clear_value e f
  obtain ⟨_, _⟩ := n
  exact .flag (.forEach (.set ⟨_, _⟩) fun _ k => k.modSession)

theorem rewindCommand {n} (h : s.Same t) : (s.rewindCommand n).Same (t.rewindCommand n) := by
  simp only [State.rewindCommand, h.reads (·.deliveringFrom n) rfl]
  split
  · exact h.modSession
  · exact .rewindStream (h.forEach fun _ k@⟨_, _⟩ => .either k.unqueue k)

theorem clearFull {n} : s.Same t → (s.clearFull n).Same (t.clearFull n) | h@⟨_, _⟩ => .either h.modStream h

theorem releaseStream {n} : s.Same t → (s.releaseStream n).Same (t.releaseStream n)
  | h@⟨_, _⟩ => .clearFull (.either h.setStream.set.set.flag h.setStream.set)

theorem moveStream {n v} : s.Same t → (s.moveStream n v).Same (t.moveStream n v) | h@⟨_, _⟩ => .either h.rewindCommand h.releaseStream
theorem restoreStream {n w} : s.Same t → (s.restoreStream n w).Same (t.restoreStream n w) | h@⟨_, _⟩ => h.modStream.set.set.set.set

theorem streamCommand {d n v} (h : s.Same t) : (s.streamCommand d n v).Same (t.streamCommand d n v) := by
  simp only [State.streamCommand, h.reads (·.stream n) rfl, h.reads (·.time) rfl, h.reads (·.saveStream) rfl]
  refine .either h.modStream.markStream (.either h.flushStream ?_)
  split
  · exact h.restoreStream.moveStream.moveStream
  · exact h.modStream.moveStream

theorem writeStreamCommand {d n v} : s.Same t → (s.writeStreamCommand d n v).2.Same (t.writeStreamCommand d n v).2
  | h@⟨_, _⟩ => .either₂ h (.either₂ h (.pair h.streamCommand))

theorem withdraw {fault} : s.Same t → (s.withdraw fault).Same (t.withdraw fault)
  | h@⟨_, _⟩ => by
    unfold State.withdraw
    extract_lets a _ b _
    have k : a.Same b := h.broadcast
    clear_value a b
    obtain ⟨_, _⟩ := k
    exact .either h ⟨_, _⟩

theorem placeMember : s.Same t → s.placeMember.Same t.placeMember
  | h@⟨_, _⟩ => .either h.set.set (.either h.set.set (.either h.set.set (.either h.set.set h.set.set)))

theorem enterSync {uid} : s.Same t → (s.enterSync uid).Same (t.enterSync uid) | h@⟨_, _⟩ => h.set.sendTo
theorem checkAdopting : s.Same t → s.checkAdopting.Same t.checkAdopting | h@⟨_, _⟩ => .forEach h (fun _ k@⟨_, _⟩ => .either k.adoptLost k)
theorem setRemotePort {i m x} : s.Same t → (s.setRemotePort i m x).Same (t.setRemotePort i m x) | ⟨_, _⟩ => ⟨_, _⟩

theorem raiseLive {source detail} : s.Same t → (s.raiseLive source detail).Same (t.raiseLive source detail)
  | h@⟨_, _⟩ => .either h h.setRegBit.raise

theorem apertureLive {i m} : s.Same t → (s.apertureLive i m).Same (t.apertureLive i m) | h@⟨_, _⟩ => .either h.raiseLive h.endLive

theorem unlessHeld {i m p f} : s.Same t → (if s.heldPort i m then s else s.modPort p f).Same (if t.heldPort i m then t else t.modPort p f)
  | h@⟨_, _⟩ => .either h h.modPort

theorem rejoinAperture {i m} (h : s.Same t) : (s.rejoinAperture i m).Same (t.rejoinAperture i m) := by
  unfold State.rejoinAperture
  extract_lets a x c b y d
  have k : a.Same b := h.setRegBit.flag
  have n : c.Same d := by
    simp only [c, d, x, y, k.reads (·.place i m) rfl, k.reads (·.remotePort i m) rfl, k.reads (·.entryHere) rfl, k.reads (·.port) rfl]
    split
    · exact .either k.setRemotePort k
    · exact .unlessHeld (.either k.setPc k)
    · exact k
  exact n.apertureLive

theorem adoptAgain {i m} : s.Same t → (s.adoptAgain i m).Same (t.adoptAgain i m) | h@⟨_, _⟩ => .either h.modRecord.setHeld h

theorem startPortSlots {i m} : s.Same t → (s.startPortSlots i m).Same (t.startPortSlots i m)
  | h@⟨_, _⟩ => .forEach h (fun _ k@⟨_, _⟩ => .either k.startSlot k)

theorem holdAlone {i m p} (h : s.Same t) : (s.holdAlone i m p).Same (t.holdAlone i m p) := by
  unfold State.holdAlone
  rw [h.reads (·.recordNow i m p) rfl, h.reads (·.record i m) rfl, h.reads (·.pst p) rfl, h.reads (·.keeps i m) rfl, h.reads (·.now) rfl]
  extract_lets _ _ _ a _ b _
  have k : a.Same b := h.setRecord.setHeld
  clear_value a b
  refine .either h.modRecord (.either ?_ h)
  obtain ⟨_, _⟩ := k
  exact .startPortSlots (.either ⟨_, _⟩ (.startGrid ⟨_, _⟩))

theorem leaveAperture {i m} (h : s.Same t) : (s.leaveAperture i m).Same (t.leaveAperture i m) := by
  unfold State.leaveAperture
  extract_lets _ a x u c _ b y v d
  have k : a.Same b := h.setRegBit.adoptAgain.bump.flag
  have n : c.Same d := by
    simp only [c, d, u, v, x, y, k.reads (·.place i m) rfl, k.reads (·.remotePort i m) rfl, k.reads (·.armed) rfl, k.reads (·.time) rfl]
    split
    · exact .dropEntries (.dropRelay (.either k.setRemotePort k))
    · exact .either k.holdAlone.dropOwn k.dropOwn.modPort
    · exact k
  rw [n.reads (·.live 39) rfl]
  exact .either n.raise n.apertureLive

theorem evalPort {rerouted i m} : s.Same t → (s.evalPort rerouted i m).Same (t.evalPort rerouted i m)
  | h@⟨_, _⟩ => .either (.either h.setHold (.either h.setHold.rejoinAperture h.setHold)) (.either (.either h.setHold.leaveAperture
      h.setHold) h.setHold)

theorem evalAperture : s.Same t → s.evalAperture.Same t.evalAperture
  | h@⟨_, _⟩ => by
    unfold State.evalAperture
    extract_lets _ _ a _ _ _ b _
    have k : a.Same b := .forEach h fun _ k@⟨_, _⟩ => .forEach k fun _ k@⟨_, _⟩ => k.evalPort
    clear_value a b
    obtain ⟨_, _⟩ := k
    exact ⟨_, _⟩

theorem afterRoutes : s.Same t → s.afterRoutes.Same t.afterRoutes | h@⟨_, _⟩ => h.evalAperture.checkAdopting.set

theorem fetchRecords : s.Same t → s.fetchRecords.Same t.fetchRecords
  | h@⟨_, _⟩ => by
    unfold State.fetchRecords
    extract_lets a b
    have k : a.Same b := .forEach h fun _ k@⟨_, _⟩ => k.broadcast
    simp only [k.reads (·.holdState) rfl]
    exact k.broadcast

theorem comeBack : s.Same t → s.comeBack.Same t.comeBack | h@⟨_, _⟩ => h.modRing.flood.fetchRecords.afterRoutes

theorem writeWithdraw {v} : s.Same t → (s.writeWithdraw v).2.Same (t.writeWithdraw v).2
  | h@⟨_, _⟩ => by
    unfold State.writeWithdraw
    extract_lets _ _ a _ _ b
    have k : a.Same b := .placeMember (.set ⟨_, _⟩)
    simp only [k.reads (·.get) rfl, k.reads (·.ring) rfl]
    exact .either₂ (.pair h.withdraw) (.either₂ (.either₂ h (.either₂ (.either₂ (.pair k.modRing.enterSync) (.pair k.comeBack)) h)) h)

theorem plain {l} : s.Same t → (s.plain l).2.Same (t.plain l).2 | h@⟨_, _⟩ => .pair h.setAll

theorem writePairs {i l} (h : s.Same t) : (s.writePairs i l).2.Same (t.writePairs i l).2 := by
  have k := h.setAll (l := l)
  simp only [State.writePairs, State.plain, h.reads (·.pairsWord) rfl, k.reads (·.pairsWord) rfl]
  exact k.forEach fun _ k@⟨_, _⟩ => k.putEntry

theorem effectLow {c w l v} (h : s.Same t) : (s.effectLow c w l v).2.Same (t.effectLow c w l v).2 := by
  simp only [State.effectLow, h.reads (·.swapping) rfl, h.reads (·.session) rfl]
  refine .either₂ (.either₂ h.writeLockRequest (.either₂ h.writePrismCommit h.plainFor)) (.either₂ (.either₂ h.writeDefaultMap h.plainFor)
    (.either₂ (.either₂ h.writeSwap (.either₂ h h.plainFor)) (.either₂ (.either₂ h.writeArm (.either₂ h.writeIntent (.either₂
      h.writeCommand h.plainFor))) (.either₂ h.writeFreeze (.either₂ ?_ (.either₂ h.writeStreamCommand (.either₂ h.writeWithdraw ?_)))))))
  · split
    · exact h
    · exact .either₂ h.writeSessionOpen (.either₂ h h.plainFor)
  · split
    · exact h.writePairs
    · exact h.plainFor

end Sys2Proof.Machine.State.Same
end

section
/-! SUPPORT. Time, feeds, domains and faults. -/

namespace Sys2Proof.Machine.State.Same
variable {s t : State}

theorem setAnchor {v} : s.Same t → (s.setAnchor v).Same (t.setAnchor v) | h@⟨_, _⟩ => .either h.set h.set.broadcast
theorem writeCompare {r v} : s.Same t → (s.writeCompare r v).2.Same (t.writeCompare r v).2 | h@⟨_, _⟩ => .either₂ h (.pair h.set)

theorem writeLaunchSubmit {b} : s.Same t → (s.writeLaunchSubmit b).2.Same (t.writeLaunchSubmit b).2
  | h@⟨_, _⟩ => .either₂ ⟨_, _⟩ (.pair h.set.bump)

theorem endLaunch {l result} : s.Same t → (s.endLaunch l result).Same (t.endLaunch l result)
  | ⟨_, _⟩ => .either (.bump (.set ⟨_, _⟩)) (.either (.flag (.bump (.set ⟨_, _⟩))) (.either (.set ⟨_, _⟩) (.flag (.bump (.set ⟨_,
      _⟩)))))

theorem writeLaunchCancel {tag} (h : s.Same t) : (s.writeLaunchCancel tag).2.Same (t.writeLaunchCancel tag).2 := by
  simp only [State.writeLaunchCancel, h.reads (·.time) rfl]
  split
  · exact .pair (.either h.endLaunch h)
  · exact h

theorem showFeeds : s.Same t → s.showFeeds.Same t.showFeeds
  | h@⟨_, _⟩ => by
    unfold State.showFeeds
    extract_lets _ a c e g _ b d f i
    have k : a.Same b := by
      refine .forEach (.set h.set) fun x k => ?_
      extract_lets u v
      have m : u.Same v := by
        obtain ⟨_, _⟩ := k
        exact .either (.setGood ⟨_, _⟩) ⟨_, _⟩
      clear_value u v
      obtain ⟨_, _⟩ := m
      exact .either ⟨_, _⟩ (.set ⟨_, _⟩)
    clear_value a b
    obtain ⟨_, _⟩ := k
    have k : c.Same d := .either (.setGood ⟨_, _⟩) ⟨_, _⟩
    clear_value c d
    obtain ⟨_, _⟩ := k
    have k : e.Same f := .either (.noCurrent ⟨_, _⟩) ⟨_, _⟩
    clear_value e f
    obtain ⟨_, _⟩ := k
    have k : g.Same i := .either ⟨_, _⟩ (.set ⟨_, _⟩)
    clear_value g i
    obtain ⟨_, _⟩ := k
    exact .set ⟨_, _⟩

theorem setFeed {x f} : s.Same t → (s.setFeed x f).Same (t.setFeed x f) | ⟨_, _⟩ => ⟨_, _⟩
theorem modFeed {x f} : s.Same t → (s.modFeed x f).Same (t.modFeed x f) | h@⟨_, _⟩ => h.setFeed
theorem tryFeed {x} : s.Same t → (s.tryFeed x).Same (t.tryFeed x) | h@⟨_, _⟩ => .either h.modFeed h
theorem feedsRefresh : s.Same t → s.feedsRefresh.Same t.feedsRefresh | h@⟨_, _⟩ => h.tryFeed.tryFeed.showFeeds
theorem overCurrentEnd {p} : s.Same t → (s.overCurrentEnd p).Same (t.overCurrentEnd p) | h@⟨_, _⟩ => .either h.setPs.setPc h

theorem advertise {p level} : s.Same t → (s.advertise p level).Same (t.advertise p level)
  | h@⟨_, _⟩ => .either h.modTc.set.set.modTc h.modTc.set.modTc

theorem vbusOn {p} : s.Same t → (s.vbusOn p).Same (t.vbusOn p)
  | h@⟨_, _⟩ => by
    unfold State.vbusOn
    extract_lets a _ b _
    have k : a.Same b := h.advertise
    clear_value a b
    refine .either (.either h.setRegBit.flag ?_) h
    obtain ⟨_, _⟩ := k
    exact .lensBreaker (.modTc (.set (.set ⟨_, _⟩)))

theorem setHub {i x} : s.Same t → (s.setHub i x).Same (t.setHub i x) | ⟨_, _⟩ => ⟨_, _⟩
theorem modHub {i f} : s.Same t → (s.modHub i f).Same (t.modHub i f) | h@⟨_, _⟩ => h.setHub

theorem idlePort {p} : s.Same t → (if s.get (.tc p .tcState) = 0 then s.set (.tc p .tcState) (s.tcIdle p) else s).Same
    (if t.get (.tc p .tcState) = 0 then t.set (.tc p .tcState) (t.tcIdle p) else t)
  | ⟨_, _⟩ => .either (.set ⟨_, _⟩) ⟨_, _⟩

theorem clearTrip {c} (h : s.Same t) : (s.clearTrip c).Same (t.clearTrip c) := by
  unfold State.clearTrip
  rw [h.reads (·.tripped c) rfl, h.reads (·.faults) rfl, h.reads (·.chan) rfl, h.reads (·.time) rfl]
  extract_lets _ a e _ b f
  have k : a.Same b := h.setRegBit.set.flag.lensBreaker
  have m : e.Same f := by
    simp only [e, f, k.reads (·.allPorts) rfl]
    exact k.tryFeed.tryFeed.forEach fun p k => k.overCurrentEnd.idlePort
  clear_value a b e f
  refine .either ?_ h
  split
  next p _ =>
    have k := k.overCurrentEnd (p := p)
    simp only [k.reads (·.get) rfl, k.reads (·.tcIdle) rfl]
    exact .either k.set k.vbusOn
  · exact .either (.showFeeds (m.forEach fun _ k@⟨_, _⟩ => .either k.modHub k)) (.showFeeds k.tryFeed)

theorem rearm {c} : s.Same t → (s.rearm c).Same (t.rearm c) | h@⟨_, _⟩ => .either h.clearTrip.feedsRefresh h
theorem modDomains {f} : s.Same t → (s.modDomains f).Same (t.modDomains f) | ⟨_, _⟩ => ⟨_, _⟩

theorem lensDomain {kind mask step reason duration} : s.Same t → (s.lensDomain kind mask step reason duration).Same (t.lensDomain kind
    mask step reason duration)
  | h@⟨_, _⟩ => h.lensNote

theorem refuseDomain {r} : s.Same t → (s.refuseDomain r).Same (t.refuseDomain r) | h@⟨_, _⟩ => h.set.flag.lensDomain
theorem beatRival {d} : s.Same t → (s.beatRival d).Same (t.beatRival d) | h@⟨_, _⟩ => .either h.set.refuseDomain h
theorem applyDomain {door word} : s.Same t → (s.applyDomain door word).Same (t.applyDomain door word) | ⟨_, _⟩ => .either ⟨_, _⟩ ⟨_, _⟩

theorem writeDomainCommand {d word} (h : s.Same t) : (s.writeDomainCommand d word).2.Same (t.writeDomainCommand d word).2 := by
  unfold State.writeDomainCommand
  rw [h.reads (·.rivalDoor d) rfl, h.reads (·.time) rfl]
  extract_lets _ _ a b
  have k : a.Same b := h.beatRival.modDomains
  rw [k.reads (·.domainRefusal) rfl]
  split
  · exact .pair k.refuseDomain
  · exact .either₂ (.pair k.set) (.either₂ (.pair k.applyDomain) (.pair k.set.modDomains))

theorem writeWakeTimer {n} : s.Same t → (s.writeWakeTimer n).Same (t.writeWakeTimer n) | h@⟨_, _⟩ => h.modDomains
theorem driveFaultN {was} : s.Same t → (s.driveFaultN was).Same (t.driveFaultN was) | h@⟨_, _⟩ => .either h h.emit
theorem writeFaultN {v} : s.Same t → (s.writeFaultN v).Same (t.writeFaultN v) | h@⟨_, _⟩ => h.set.driveFaultN
theorem setEmb {i x} : s.Same t → (s.setEmb i x).Same (t.setEmb i x) | ⟨_, _⟩ => ⟨_, _⟩
theorem defaultHub {i} : s.Same t → (s.defaultHub i).Same (t.defaultHub i) | h@⟨_, _⟩ => h.setHub.setEmb.setRegBit
theorem presentStandby {u} : s.Same t → (s.presentStandby u).Same (t.presentStandby u) | h@⟨_, _⟩ => .either h.present h.present

theorem showUp {u} (h : s.Same t) : (s.showUp u).Same (t.showUp u) := by
  simp only [State.showUp, h.reads (·.up u) rfl, h.reads (·.boot) rfl, h.reads (·.domainOn) rfl, h.reads (·.formerHost u) rfl,
    h.reads (·.imageOfUp u) rfl, h.reads (·.hold) rfl, h.reads (·.enabled) rfl, h.reads (·.imageOfMirror u) rfl]
  refine .either h ?_
  split
  · exact .either h h.defaultHub.present
  · exact .either h.presentStandby h

theorem changeImagePort {i m} (h : s.Same t) : (s.changeImagePort i m).Same (t.changeImagePort i m) := by
  simp only [State.changeImagePort, h.reads (·.place i m) rfl, h.reads (·.remotePort i m) rfl, h.reads (·.ps) rfl]
  split
  · exact .dropEntries (.dropRelay (.either h.setRemotePort h))
  · exact .when h.dropOwn fun k => k.setPc
  · exact h

theorem startTraining {k} : s.Same t → (s.startTraining k).Same (t.startTraining k)
  | h@⟨_, _⟩ => .either h.showLinkState h.emit.modLink.showLinkState

theorem cmdLinkTrainingStart {k} (h : s.Same t) : (s.cmdLinkTrainingStart k).Same (t.cmdLinkTrainingStart k) := by
  simp only [State.cmdLinkTrainingStart, h.reads (·.get) rfl, h.reads (·.linkMode k) rfl, h.reads (·.linkPort k) rfl]
  refine .either ?_ h
  split
  · exact h
  · exact h.setPst.startTraining.modLink

theorem unitBack {u} (h : s.Same t) : (s.unitBack u).Same (t.unitBack u) := by
  simp only [State.unitBack, h.reads (·.unitHeld u) rfl, h.reads (·.get) rfl, h.reads (·.tcIdle) rfl]
  refine .either h ?_
  split
  · exact h.set
  · exact h.feedsRefresh
  · exact h.modUp.emit.showUp
  · exact h.changeImagePort
  · exact .either h.showLinkState.cmdLinkTrainingStart h
  · obtain ⟨_, _⟩ := h
    exact ⟨_, _⟩
  · obtain ⟨_, _⟩ := h
    exact ⟨_, _⟩
  · exact h

theorem writeUnitRelease {n} : s.Same t → (s.writeUnitRelease n).2.Same (t.writeUnitRelease n).2
  | h@⟨_, _⟩ => .either₂ h (.pair (.forEach h.modFaults.setRegBit (fun _ k@⟨_, _⟩ => k.unitBack)))

theorem modBoot {f} : s.Same t → (s.modBoot f).Same (t.modBoot f) | ⟨_, _⟩ => ⟨_, _⟩
theorem setDomain {d v} : s.Same t → (s.setDomain d v).Same (t.setDomain d v) | h@⟨_, _⟩ => h.set

theorem wakeRecord {source detail woken flags time} : s.Same t → (s.wakeRecord source detail woken flags time).Same (t.wakeRecord source
    detail woken flags time)
  | h@⟨_, _⟩ => h.set

theorem wakeEnds {w} : s.Same t → (s.wakeEnds w).Same (t.wakeEnds w)
  | h@⟨_, _⟩ => .either h.modDomains h.modDomains.wakeRecord.bump.flag.lensDomain

theorem setClock {enabled locked} : s.Same t → (s.setClock enabled locked).Same (t.setClock enabled locked) | ⟨_, _⟩ => .set ⟨_, _⟩

theorem wakeGo {w} : s.Same t → (s.wakeGo w).Same (t.wakeGo w)
  | h@⟨_, _⟩ => .either h.wakeEnds (.either (.either h.modDomains h.modDomains.setClock) h.modDomains)

theorem commandCore {v} : s.Same t → (s.commandCore v).Same (t.commandCore v)
  | h@⟨_, _⟩ => .either h.set.emit (.either h.set.emit h.set.emit.emit)

theorem wakeFor {asks flags} (h : s.Same t) : (s.wakeFor asks flags).Same (t.wakeFor asks flags) := by
  unfold State.wakeFor
  rw [h.reads (·.wakeMask) rfl, h.reads (·.domainState) rfl]
  split
  · exact h
  · extract_lets _ _ _ _ a raise _ w c b raise' w' d
    have k : a.Same b := h.forEach fun _ k => k.setDomain
    have reads := k.reads (·.get) rfl
    rw [k.reads (·.domains) rfl]
    clear_value a b
    refine .either h ?_
    simp only [c, d, raise, raise', w, w', reads]
    split
    · exact .wakeGo (.when k fun k => k.commandCore)
    · exact .wakeGo (.when (.either k k.lensDomain) fun k => k.commandCore)

theorem startLogic {cause} : s.Same t → (s.startLogic cause).Same (t.startLogic cause)
  | h@⟨_, _⟩ => by
    unfold State.startLogic
    exact .wakeFor (.modBoot (.setDomain (.set (.set ⟨_, _⟩))))

theorem loseRegs {d} : s.Same t → (s.loseRegs d).Same (t.loseRegs d) | ⟨_, _⟩ => ⟨_, _⟩

theorem loseHub (h : s.Same t) : s.loseHub.Same t.loseHub := by
  unfold State.loseHub
  rw [h.reads (·.allPorts) rfl]
  extract_lets _ a _ _ _ b
  have k : a.Same b := .loseRegs (h.forEach fun _ k => k.powerOff)
  clear_value a b
  obtain ⟨_, _⟩ := k
  exact ⟨_, _⟩

theorem loseUpl : s.Same t → s.loseUpl.Same t.loseUpl | h@⟨_, _⟩ => .set (.forEach h (fun _ k@⟨_, _⟩ => k.present.modUp.emit))
theorem setDramState {v} : s.Same t → (s.setDramState v).Same (t.setDramState v) | ⟨_, _⟩ => .either ⟨_, _⟩ (.set ⟨_, _⟩)
theorem loseRsv : s.Same t → s.loseRsv.Same t.loseRsv | ⟨_, _⟩ => .setDramState (.set (.loseRegs ⟨_, _⟩))

theorem liveIf {source detail b} : s.Same t → (s.liveIf source detail b).Same (t.liveIf source detail b)
  | h@⟨_, _⟩ => .either h.raiseLive h.endLive

theorem retopo {before} (h : s.Same t) : (s.retopo before).Same (t.retopo before) := by
  unfold State.retopo
  rw [h.reads (·.inRouting) rfl, h.reads (·.quorum) rfl, h.reads (·.isTrue) rfl]
  extract_lets _ _ a c e b d f
  have k : a.Same b := h.when fun k => k.flag
  clear_value a b
  have k : c.Same d := by
    simp only [c, d, k.reads (·.presence) rfl, k.reads (·.topology) rfl]
    exact k.set.set.set
  clear_value c d
  have k : e.Same f := by
    simp only [e, f, k.reads (·.now) rfl]
    exact .either k.bump.set.flag k
  rw [k.reads (·.get) rfl, k.reads (·.topologyBroken) rfl]
  exact k.liveIf

theorem loseRing (h : s.Same t) : s.loseRing.Same t.loseRing := by
  unfold State.loseRing
  rw [h.reads (·.inRouting) rfl]
  extract_lets _ _ a _ _ b _
  have k : a.Same b := .loseRegs (h.forEach fun _ k => k.endLive)
  clear_value a b
  obtain ⟨_, _⟩ := k
  exact .set (.afterRoutes (.retopo (.set ⟨_, _⟩)))

theorem drivePins : s.Same t → s.drivePins.Same t.drivePins | h@⟨_, _⟩ => .forEach h (fun _ k@⟨_, _⟩ => k.emit)

theorem dropLogic {keep} (h : s.Same t) : (s.dropLogic keep).Same (t.dropLogic keep) := by
  unfold State.dropLogic
  extract_lets a _ _ _ _ _ _ c b _ _ _ _ _ _ d
  have k : a.Same b := .loseHub (.loseUpl (.loseRsv h.loseRing))
  clear_value a b
  obtain ⟨_, _⟩ := k
  have k : c.Same d := .setDomain (.set ⟨_, _⟩)
  exact .drivePins (.setClock k.set)

theorem releaseStart : s.Same t → s.releaseStart.Same t.releaseStart | h@⟨_, _⟩ => h.dropLogic.startLogic

theorem writeSafeRelease {v} : s.Same t → (s.writeSafeRelease v).2.Same (t.writeSafeRelease v).2
  | h@⟨_, _⟩ => .either₂ h (.either₂ h (.either₂ h (.pair h.releaseStart)))

theorem writeSoftRaise {v} : s.Same t → (s.writeSoftRaise v).Same (t.writeSoftRaise v) | h@⟨_, _⟩ => h.raise

theorem effectMid {c w l v} (h : s.Same t) : (s.effectMid c w l v).2.Same (t.effectMid c w l v).2 := by
  unfold State.effectMid
  refine .either₂ (.pair h.setAnchor) (.either₂ h.writeCompare (.either₂ h.writeCompare (.either₂ (.either₂ h.writeLaunchSubmit
    h.writeLaunchCancel) (.either₂ ?_ (.either₂ (.either₂ h.writeDomainCommand (.either₂ (.pair h.writeWakeTimer) h.plainFor)) (.either₂
      (.either₂ (.pair h.writeFaultN) (.either₂ h.writeUnitRelease (.either₂ h.writeSafeRelease (.either₂ (.pair h.writeSoftRaise)
        h.plainFor)))) h.plainFor))))))
  split
  · exact .pair h.rearm
  · exact h

end Sys2Proof.Machine.State.Same
end

section
/-! SUPPORT. Lens, provocation, commit and firmware. -/

namespace Sys2Proof.Machine.State.Same
variable {s t : State}

theorem modLens {f} : s.Same t → (s.modLens f).Same (t.modLens f) | ⟨_, _⟩ => ⟨_, _⟩
theorem lensRestart : s.Same t → s.lensRestart.Same t.lensRestart | h@⟨_, _⟩ => .either h h.modLens
theorem lensDiscard : s.Same t → s.lensDiscard.Same t.lensDiscard | h@⟨_, _⟩ => h.set

theorem writeLensCommand {v} : s.Same t → (s.writeLensCommand v).2.Same (t.writeLensCommand v).2
  | h@⟨_, _⟩ => .either₂ (.pair h.lensRestart) (.either₂ (.pair h.lensDiscard) h)

theorem writeLensReadPtr {v} : s.Same t → (s.writeLensReadPtr v).2.Same (t.writeLensReadPtr v).2 | h@⟨_, _⟩ => .either₂ h (.pair h.set)
theorem lensSnapshot : s.Same t → s.lensSnapshot.Same t.lensSnapshot | h@⟨_, _⟩ => h.modLens.set
theorem lensClear : s.Same t → s.lensClear.Same t.lensClear | h@⟨_, _⟩ => h.modLens
theorem disarm : s.Same t → s.disarm.Same t.disarm | h@⟨_, _⟩ => .either h.modLens.set.flag.endLive h

theorem writeProvokeArm {d v} : s.Same t → (s.writeProvokeArm d v).2.Same (t.writeProvokeArm d v).2
  | h@⟨_, _⟩ => .either₂ (.pair h.disarm) (.either₂ h (.either₂ (.pair h.flag) (.either₂ (.pair h.set.flag) (.pair (.raiseLive (.flag
      (.set (.forEach h.modLens (fun _ k@⟨_, _⟩ => k.set)))))))))

theorem configDefaults {c} : s.Same t → (s.configDefaults c).Same (t.configDefaults c) | h@⟨_, _⟩ => h.stageLocal
theorem refuseRegions {r} : s.Same t → (s.refuseRegions r).Same (t.refuseRegions r) | h@⟨_, _⟩ => h.set.flag

theorem commitBroke (h : s.Same t) : s.commitBroke.Same t.commitBroke := by
  unfold State.commitBroke
  rw [h.reads (·.stagedValue) rfl, h.reads (·.regionRefusal) rfl, h.reads (·.powerRefusal) rfl]
  extract_lets region power
  clear_value region power
  cases region <;> cases power
  · exact h
  · exact h.set.flag
  · exact h.refuseRegions
  · exact h.refuseRegions.set.flag

theorem startPointers {n} : s.Same t → (s.startPointers n).Same (t.startPointers n) | h@⟨_, _⟩ => h.set.set.set.set

theorem reroute {f} (h : s.Same t) (k : a.Same b) : ((s.reroute f).getD a).Same ((t.reroute f).getD b) := by
  unfold State.reroute
  rw [h.reads (·.treeLinks) rfl, h.reads (·.peerOf) rfl, h.reads (·.routeTo) rfl]
  split
  · exact h.forEach fun _ k => k.sendOn
  · cases (s.peerOf f.typ f.dst).bind s.routeTo with
    | none => exact k
    | some r =>
      by_cases inside : r.first < 4
      · simpa [inside] using h.sendOn
      · simpa [inside] using k

theorem rescue {f} (h : s.Same t) : (s.rescue f).Same (t.rescue f) := .either h.bump (h.reroute h)

theorem divert {k keep f} (h : s.Same t) : (s.divert k keep f).Same (t.divert k keep f) :=
  .either h (h.reroute (.either h.modLink h))

theorem linkDown {k state} : s.Same t → (s.linkDown k state).Same (t.linkDown k state)
  | h@⟨_, _⟩ => .forEach (.forEach h.setLinkState.bump.set.set.modLink.raiseLive.flag.placeMember.retopo.flood (fun _ k@⟨_, _⟩ =>
      k.rescue)) (fun _ k@⟨_, _⟩ => k.divert)

theorem leaveWyhelen {p} (h : s.Same t) : (s.leaveWyhelen p).Same (t.leaveWyhelen p) := by
  unfold State.leaveWyhelen
  extract_lets a c b d
  have k : a.Same b := h.modTc
  have k : c.Same d := by
    simp only [c, d, k.reads (·.portLink p) rfl, k.reads (·.get) rfl, k.reads (·.unitHeld) rfl]
    split
    · exact k
    · exact .either k.linkDown (.either k k.showLinkState)
  rw [k.reads (·.pst p) rfl, k.reads (·.ps p) rfl]
  exact .either (.either k.setPst k.powerOff) k

theorem unreset {p} : s.Same t → (s.unreset p).Same (t.unreset p) | h@⟨_, _⟩ => .either h.modPort h

theorem usbDisconnect {p} (h : s.Same t) : (s.usbDisconnect p).Same (t.usbDisconnect p) := by
  unfold State.usbDisconnect
  rw [h.reads (·.pst p) rfl]
  extract_lets a b
  have k : a.Same b := h.loseDevice.unreset
  rw [k.reads (·.pst p) rfl, k.reads (·.ps p) rfl]
  exact .either h (.either k.setPst k.setPst)

theorem restartLink {k} (h : s.Same t) : (s.restartLink k).Same (t.restartLink k) := by
  unfold State.restartLink
  rw [h.reads (·.linkPort k) rfl]
  split
  · exact h
  next p _ =>
    rw [h.reads (·.get) rfl, h.reads (·.tc) rfl, h.reads (·.unitHeld) rfl]
    extract_lets _ a c e g b d f i
    have k : a.Same b :=
      .either h.leaveWyhelen (.either h.linkDown (.either h (.either h.showLinkState.endLive h.showLinkState)))
    have k : c.Same d := k.afterRoutes
    have k : e.Same f := by
      simp only [e, f, k.reads (·.pst p) rfl, k.reads (·.ps p) rfl]
      exact .either k.setPst k
    have k : g.Same i := k.tcRelease.usbDisconnect.modTc
    rw [k.reads (·.modeOf) rfl]
    exact .either k.cmdLinkTrainingStart k

theorem setInt {r v} : s.Same t → (s.setInt r v).Same (t.setInt r v) | h@⟨_, _⟩ => h.set

theorem setFreq {f} : s.Same t → (s.setFreq f).Same (t.setFreq f)
  | ⟨_, _⟩ => .either (.raiseLive (.flag (.setInt ⟨_, _⟩))) (.either (.setInt ⟨_, _⟩) (.endLive (.setInt ⟨_, _⟩)))

theorem endHolding : s.Same t → s.endHolding.Same t.endHolding | h@⟨_, _⟩ => .either h.endLive h

theorem retime {x y} : s.Same t → y = x → State.Same { s with time := x } { t with time := y }
  | ⟨_, _⟩, rfl => ⟨_, _⟩

theorem chooseFocal (h : s.Same t) : s.chooseFocal.Same t.chooseFocal := by
  unfold State.chooseFocal
  rw [h.reads (·.bestFocal) rfl, h.reads (·.get) rfl]
  extract_lets _ _ a c cTime e g gTime eTime i b d dTime f l lTime fTime m
  have k : a.Same b := by
    simp only [a, b, h.reads (·.slotOf) rfl, h.reads (·.indexOf) rfl, h.reads (·.alone) rfl, h.reads (·.ident) rfl, h.reads (·.ownIndex) rfl]
    exact h.set.set
  have changed : c.Same d := k.set.bump.flag
  clear_value a b c d
  have kept : e.Same f := changed.retime (by simp only [cTime, dTime, changed.reads (·.time) rfl])
  clear_value cTime dTime e f
  have ended : g.Same l := kept.endHolding
  clear_value g l
  have k : i.Same m := by
    simp only [i, m, gTime, lTime, eTime, fTime, kept.reads (·.ident.uniqueId) rfl, kept.reads (·.time) rfl, ended.reads (·.time) rfl]
    exact .either k (.either (.set (ended.retime rfl)) (.either (.either (.set (kept.retime rfl)) kept.set) kept))
  clear_value i m
  rw [k.reads (·.parentLink) rfl]
  exact k.set

theorem drivePps : s.Same t → s.drivePps.Same t.drivePps | h@⟨_, _⟩ => .either h h.emit
theorem cmdPpsOutWidthEnd : s.Same t → s.cmdPpsOutWidthEnd.Same t.cmdPpsOutWidthEnd | h@⟨_, _⟩ => .either (.drivePps ⟨_, _⟩) h

theorem ppsEnables {i o} (h : s.Same t) : (s.ppsEnables i o).Same (t.ppsEnables i o) := by
  unfold State.ppsEnables
  rw [h.reads (·.time) rfl]
  extract_lets _ a c b d
  have k : a.Same b := h.retime rfl
  have k : c.Same d := by
    simp only [c, d, k.reads (·.isTrue) rfl]
    exact .either h (.either k.set k.set.endLive.chooseFocal)
  rw [k.reads (·.isTrue) rfl]
  exact .either k.cmdPpsOutWidthEnd k

theorem leaveWet {p} (h : s.Same t) : (s.leaveWet p).Same (t.leaveWet p) := by
  unfold State.leaveWet
  extract_lets _ a c e _ b d f
  have k : a.Same b := h.modTc.set
  have k : c.Same d := by
    simp only [c, d, k.reads (·.tcIdle) rfl]
    exact k.set
  have k : e.Same f := by
    simp only [e, f, k.reads (·.pst p) rfl, k.reads (·.ps p) rfl]
    exact .either k.setPst k
  rw [k.reads (·.anyWet) rfl]
  exact .either k k.endLive

theorem vconnOn {p} : s.Same t → (s.vconnOn p).Same (t.vconnOn p) | h@⟨_, _⟩ => h.modTc

theorem confirmAttach {p pin2 ra} : s.Same t → (s.confirmAttach p pin2 ra).Same (t.confirmAttach p pin2 ra)
  | h@⟨_, _⟩ => h.modTc.set.vconnOn.vbusOn

theorem moistureOff (h : s.Same t) : s.moistureOff.Same t.moistureOff := by
  unfold State.moistureOff
  rw [h.reads (·.allPorts) rfl]
  refine h.forEach fun {s t} p h => ?_
  extract_lets a b
  have k : a.Same b := by
    simp only [a, b, h.reads (·.get) rfl]
    exact .either h.leaveWet h
  rw [k.reads (·.tc p) rfl]
  split
  · exact k.confirmAttach
  · exact k.modTc

theorem openFeed {x} : s.Same t → (s.openFeed x).Same (t.openFeed x) | h@⟨_, _⟩ => h.modFeed.noCurrent
theorem stopFeed {x} : s.Same t → (s.stopFeed x).Same (t.stopFeed x) | h@⟨_, _⟩ => h.openFeed.feedsRefresh

theorem leaveWindow {x} : s.Same t → (s.leaveWindow x).Same (t.leaveWindow x)
  | h@⟨_, _⟩ => .stopFeed (.when h.modFeed.bump.flag (fun k@⟨_, _⟩ => k.raise))

theorem powerCommitted (h : s.Same t) : s.powerCommitted.Same t.powerCommitted := by
  unfold State.powerCommitted
  rw [h.reads (·.pwr) rfl]
  refine .either (.feedsRefresh (h.forEach fun {s t} x h => ?_)) h
  rw [h.reads (·.get) rfl, h.reads (·.feed x) rfl]
  extract_lets _ a b
  have k : a.Same b := .either h.leaveWindow h
  rw [k.reads (·.feed x) rfl, k.reads (·.feedMayRun x) rfl]
  exact .either k.openFeed k

theorem setLive {l} (h : s.Same t) : (s.setLive l).Same (t.setLive l) := by
  unfold State.setLive
  rw [h.reads (·.get) rfl, h.reads (·.configured) rfl]
  extract_lets before new touched flushed a old srca c e g i l big srcl n p r before' b old' srcb d f j k' m big' srcm o q u
  have k : a.Same b := h.forEach fun _ k => k.flushStream
  have k : c.Same d := by
    clear_value a b
    obtain ⟨_, _⟩ := k
    exact .either ⟨_, _⟩ ⟨_, _⟩
  have k : e.Same f := k.setAll
  have k : g.Same j := k.forEach fun _ k => k.startPointers
  have k : i.Same k' := by
    simp only [i, k', k.reads (·.get) rfl]
    exact .either k.set k
  have k : l.Same m := by
    simp only [l, m, before, before', h.reads (·.modeOf) rfl, k.reads (·.modeOf) rfl]
    exact k.forEach fun _ k => k.restartLink
  have k : n.Same o := by
    simp only [n, o, big, big', srcl, srcm, k.reads (·.get) rfl, k.reads (·.getInt) rfl, k.reads (·.ppsValid) rfl, k.reads (·.time) rfl]
    exact .either (.setFreq (k.retime rfl)) k
  have k : p.Same q := k.ppsEnables
  have k : r.Same u := by
    simp only [r, u, k.reads (·.isTrue) rfl]
    exact .either k.moistureOff k
  exact .either k.powerCommitted k

theorem endStage : s.Same t → s.endStage.Same t.endStage | ⟨_, _⟩ => ⟨_, _⟩

theorem recfg {x y} : s.Same t → y = x → State.Same { s with cfg := x } { t with cfg := y }
  | ⟨_, _⟩, rfl => ⟨_, _⟩

theorem runCommit (h : s.Same t) : s.runCommit.2.Same t.runCommit.2 := by
  unfold State.runCommit
  rw [h.reads (·.commitFailures) rfl]
  rw [h.reads (·.staged) rfl, h.reads (·.domainOn) rfl]
  extract_lets _ _ _ _ a c e g gCfg b d f i iCfg
  split
  · extract_lets a _ b
    have k : a.Same b := h.commitBroke.set.set
    clear_value a b
    obtain ⟨_, _⟩ := k
    exact .flag ⟨_, _⟩
  · have k : a.Same b := h.forEach fun x k@⟨_, _⟩ => ⟨_, _⟩
    have k : c.Same d := k.forEach fun x k@⟨_, _⟩ => ⟨_, _⟩
    have k : e.Same f := k.endStage.setLive.unreference.flag
    have k : g.Same i := by
      simp only [g, i, k.reads (·.storeSector) rfl]
      exact k.set.emit
    exact .pair (k.recfg (by simp only [k.reads (·.cfg) rfl, gCfg, iCfg]))

theorem unlapse {o} (h : s.Same t) : (s.unlapse o).Same (t.unlapse o) := by
  unfold State.unlapse
  rw [h.reads (·.cfg) rfl, h.reads (·.time) rfl, h.reads (·.get) rfl]
  split
  · exact h
  · extract_lets a _ b
    have k : a.Same b := h.set.set
    clear_value a b
    obtain ⟨_, _⟩ := k
    exact ⟨_, _⟩

theorem configReload {c} : s.Same t → (s.configReload c).Same (t.configReload c) | h@⟨_, _⟩ => h.stageLocal

theorem writeConfigCommit {c v} : s.Same t → (s.writeConfigCommit c v).2.Same (t.writeConfigCommit c v).2
  | h@⟨_, _⟩ => .either₂ (.pair h.set.flag) (.either₂ (.pair h.configDefaults) (.either₂ h (.either₂ h.unlapse.runCommit (.either₂ (.pair
      h.endStage) (.either₂ (.pair h.configReload) h)))))

theorem writeCrcReference {v} : s.Same t → (s.writeCrcReference v).Same (t.writeCrcReference v) | ⟨_, _⟩ => ⟨_, _⟩
theorem showBanks : s.Same t → s.showBanks.Same t.showBanks | h@⟨_, _⟩ => h.set.set

theorem writeFwCommand {d v} (h : s.Same t) : (s.writeFwCommand d v).2.Same (t.writeFwCommand d v).2 := by
  unfold State.writeFwCommand
  rw [h.reads (·.get) rfl, h.reads (·.boot) rfl, h.reads (·.imageGood) rfl, h.reads (·.bankBytes) rfl]
  extract_lets _ other
  clear_value other
  generalize s.boot.target = target
  refine .either₂ h (.either₂ h (.either₂ ?_ ?_))
  · cases other with
    | none => exact h
    | some _ => exact .either₂ (.pair h.modBoot.set.showBanks.emit) h
  · cases target with
    | none => exact h
    | some _ => exact .either₂ (.either₂ (.pair h.modBoot.set.showBanks) (.pair h.set.raise)) (.either₂ (.pair h.modBoot.set) (.either₂
        (.pair h.modBoot.set.showBanks) h))

theorem writeFwData {d offset data} : s.Same t → (s.writeFwData d offset data).2.Same (t.writeFwData d offset data).2
  | h@⟨_, _⟩ => .either₂ h (.either₂ (.pair h.modBoot) (.either₂ h (.either₂ h (.either₂ h (.either₂ h (.either₂ h (.either₂ h (.pair
      h.modBoot))))))))

theorem effectHigh {c w l v} : s.Same t → (s.effectHigh c w l v).2.Same (t.effectHigh c w l v).2
  | h@⟨_, _⟩ => .either₂ (.either₂ h.writeLensCommand h.writeLensReadPtr) (.either₂ (.pair (.either h.lensSnapshot h.lensClear)) (.either₂
      (.either₂ h.writeProvokeArm (.either₂ h h.plainFor)) (.either₂ (.either₂ h.writeConfigCommit (.pair h.writeCrcReference)) (.either₂
      (.either₂ h.writeFwCommand h.writeFwData) h.plainFor))))

theorem doorEffect {c w e} (h : s.Same t) : (s.doorEffect c w e).2.Same (t.doorEffect c w e).2 := by
  unfold State.doorEffect
  rw [h.reads (·.spliced e w) rfl, h.reads (·.straps) rfl]
  extract_lets l v
  split
  · split
    · exact .pair h.clearEvents
    · exact h
  · exact .either₂ h.writeComm (.either₂ h.writePrism (.either₂ h h.writeStaged))
  · exact .either₂ h.effectLow (.either₂ h.effectMid h.effectHigh)

end Sys2Proof.Machine.State.Same
end

section
/-! SUPPORT. The CAN door's services (R371, R372, R393). -/

namespace Sys2Proof.Machine

/-! ### What the end of a transfer leaves as it was -/

/-- Two states in which the steward, the faults and the controller's entries are the same. -/
def State.SameCan (s t : State) : Prop := (∀ r : CanReg, t.get (.can r) = s.get (.can r)) ∧ t.boot = s.boot ∧ t.faults = s.faults

section
variable {s : State}

theorem sameCan_rewindStream {t : State} (n : Nat) (h : s.SameCan t) : s.SameCan (t.rewindStream n) := by
  obtain ⟨regs, boot, faults⟩ := h
  refine ⟨fun r => ?_, (set_boot _ _ _).trans boot, faults⟩
  rw [← regs r]
  exact get_set_ne (r := streamReg n .streamReadPtr) (r' := .can r) _ _ nofun

theorem sameCan_cutDelivery {t : State} (d : Door) (h : s.SameCan t) : s.SameCan (t.cutDelivery d) := by
  obtain ⟨regs, boot, faults⟩ := h
  exact forEach_keeps (P := s.SameCan) _ (fun _ n h => sameCan_rewindStream n h) ⟨regs, boot, faults⟩

theorem sameCan_cutReads (via : Door) : s.SameCan (s.cutReads via) := by
  refine forEach_keeps (P := s.SameCan) allDoors (fun t d h => ?_) ⟨fun _ => rfl, rfl, rfl⟩
  split
  · exact sameCan_cutDelivery d h
  · exact h

theorem sameCan_modDoors {t : State} {f : DoorRt → DoorRt} (h : s.SameCan t) : s.SameCan (t.modDoors f) := by
  obtain ⟨regs, boot, faults⟩ := h
  exact ⟨regs, boot, faults⟩

theorem sameCan_endSdo : s.SameCan s.endSdo := by
  rw [State.endSdo]
  exact sameCan_modDoors (sameCan_cutReads .can)

theorem endSdo_sdoTakes : s.endSdo.sdoTakes = s.sdoTakes := by
  obtain ⟨-, boot, faults⟩ := sameCan_endSdo (s := s)
  rw [State.sdoTakes, State.stewardServes, boot, faults]
  rfl

theorem endSdo_sdoOffset (idx sub : Nat) : s.endSdo.sdoOffset idx sub = s.sdoOffset idx sub := by
  rw [State.sdoOffset, sameCan_endSdo.1]
  rfl

/-! ### SDO transfers -/

section
variable (serves : s.sdoServes = true)
include serves

theorem cmdSdoUpload_of_read {idx sub : Nat} {remote : List Byte} {r : Nat × List Byte × State} {b : List Byte}
    (hr : r = s.endSdo.doorRead (callerAt .can) idx sub (s.get (.can .sdoReadStaged) == 1) (s.sdoOffset idx sub) 0 1024 remote)
    (hb : b = canOrder idx sub r.2.1) (fine : r.1 = 0) : s.cmdSdoUpload idx sub remote =
      if 0 < b.length ∧ b.length ≤ 4 then
        (((r.2.2.set (.can .sdoReadStaged) 0).sdoOffsetDone idx sub).sdoSend (sdoFrame (0x43 + 4 * (4 - b.length)) idx sub b)).readDone .can
      else (((r.2.2.set (.can .sdoReadStaged) 0).sdoOffsetDone idx sub).sdoSend (sdoFrame 0x41 idx sub (bytesLe 4 b.length))).modDoors
        fun x => { x with sdo := some { index := idx, sub := sub, download := false, toggle := false, data := b, done := 0 } } := by
  simp only [State.cmdSdoUpload, serves, Bool.not_true, Bool.false_eq_true, if_false, sameCan_endSdo.1, endSdo_sdoOffset, ← hr, ← hb, fine, ne_eq, not_true_eq_false]

theorem cmdSdoDownload_expedited {idx sub : Nat} {b : List Byte} {r : Nat × State} (hr : r = s.endSdo.sdoWrite idx sub (b.take 4)) :
    s.cmdSdoDownload idx sub (some b) = r.2.sdoWritten idx sub r.1 (sdoFrame 0x60 idx sub []) := by
  simp only [State.cmdSdoDownload, serves, Bool.not_true, Bool.false_eq_true, if_false, ← hr]

theorem cmdSdoDownload_segmented {idx sub : Nat} (takes : s.sdoTakes = true) : s.cmdSdoDownload idx sub none =
    (s.endSdo.sdoSend (sdoFrame 0x60 idx sub [])).modDoors fun x =>
      { x with sdo := some { index := idx, sub := sub, download := true, toggle := false, data := [], done := 0 } } := by
  simp only [State.cmdSdoDownload, serves, endSdo_sdoTakes, takes, Bool.not_true, Bool.false_eq_true, if_false]

theorem cmdSdoSegment_of_busy {toggle : Bool} {seg : Option (List Byte × Bool)} {x : SdoRt} (busy : s.sdoTakes = false)
    (run : s.doors.sdo = some x) : s.cmdSdoSegment toggle seg = s.sdoBusy x.index x.sub := by
  simp only [State.cmdSdoSegment, serves, run, busy, Bool.not_true, Bool.not_false, Bool.false_eq_true, if_false, if_true]

theorem cmdSdoSegment_upload {x : SdoRt} (takes : s.sdoTakes = true) (run : s.doors.sdo = some x) (up : x.download = false) {u : State}
    (hu : u = s.sdoSend ([byteOf (16 * boolNat x.toggle + 2 * (7 - ((x.data.drop x.done).take 7).length) +
      boolNat (decide (x.data.length ≤ x.done + 7)))] ++ ((x.data.drop x.done).take 7 ++ List.replicate 7 0).take 7)) :
    s.cmdSdoSegment x.toggle none =
      if x.data.length ≤ x.done + 7 then (u.readDone .can).endSdo
      else u.modDoors fun y => { y with sdo := some { x with done := x.done + 7, toggle := !x.toggle } } := by
  simp only [State.cmdSdoSegment, serves, run, takes, up, Bool.not_true, Bool.false_eq_true, if_false, Option.isSome_none, ne_eq,
    not_true_eq_false, ← hu, decide_eq_true_eq]

theorem cmdSdoSegment_download {x : SdoRt} {b : List Byte} {last : Bool} (takes : s.sdoTakes = true) (run : s.doors.sdo = some x)
    (down : x.download = true) {r : Nat × State} (hr : r = s.sdoWrite x.index x.sub (x.data ++ b.take 7)) :
    s.cmdSdoSegment x.toggle (some (b, last)) =
      if last then r.2.endSdo.sdoWritten x.index x.sub r.1 ([byteOf (0x20 + 16 * boolNat x.toggle)] ++ List.replicate 7 0)
      else (s.sdoSend ([byteOf (0x20 + 16 * boolNat x.toggle)] ++ List.replicate 7 0)).modDoors fun y =>
        { y with sdo := some { x with data := x.data ++ b.take 7, toggle := !x.toggle } } := by
  simp only [State.cmdSdoSegment, serves, run, takes, down, Bool.not_true, Bool.false_eq_true, if_false, Option.isSome_some, ne_eq,
    not_true_eq_false, ← hr]

theorem cmdSdoSegmentTimeout_of_run {x : SdoRt} (takes : s.sdoTakes = true) (run : s.doors.sdo = some x) :
    s.cmdSdoSegmentTimeout = s.sdoAbort x.index x.sub 0x05040000 := by
  simp only [State.cmdSdoSegmentTimeout, run, serves, takes, Bool.and_self, if_true]

end

theorem sdoWritten_done {idx sub r : Nat} (ok : List Byte) (fine : r = 0) : s.sdoWritten idx sub r ok = s.sdoSend ok := by
  rw [State.sdoWritten, fine, if_neg (by decide), if_neg (not_not_intro rfl)]

theorem sdoWritten_refused {idx sub r : Nat} (ok : List Byte) (refused : r ≠ 0) (answered : r ≠ abWaits) :
    s.sdoWritten idx sub r ok = s.sdoAbort idx sub r := by
  rw [State.sdoWritten, if_neg answered, if_pos refused]

theorem sdoWritten_waits {idx sub r : Nat} (ok : List Byte) (waits : r = abWaits) : s.sdoWritten idx sub r ok = s.awaitOpen (.sdo idx sub) :=
  if_pos waits

/-! ### PDOs -/

section
variable (flows : s.operational = true)
include flows

theorem cmdRpdoReceive_of_flow {r : Fin 4} {b : List Byte} (valid : (s.get (.rpdo r .cobId)).testBit 31 = false)
    (opened : s.doorOpen .can = true) : s.cmdRpdoReceive r b =
      if s.get (.rpdo r .transType) ≤ 240 then
        s.modDoors fun x => { x with rpdoHeld := (x.rpdoHeld.filter fun e => e.1 != r.val) ++ [(r.val, b)] }
      else s.rpdoApply r b := by
  refine if_neg ?_
  rw [flows, valid, opened]
  decide

theorem cmdTpdoSend_of_sync {t : Fin 8} (valid : (s.get (.tpdo t .cobId)).testBit 31 = false) (typ : s.get (.tpdo t .transType) = 0) :
    s.cmdTpdoSend t = s.modDoors fun x => { x with tpdoSyncs := Table.put id 0 x.tpdoSyncs t.val 1 } := by
  simp only [State.cmdTpdoSend, flows, valid, typ, Bool.not_true, Bool.or_self, Bool.false_eq_true, if_false, if_true]

theorem cmdTpdoSend_of_event {t : Fin 8} (valid : (s.get (.tpdo t .cobId)).testBit 31 = false) (typ : 240 < s.get (.tpdo t .transType))
    (fresh : ∀ e ∈ s.doors.tpdoTimes, e.1 ≠ t.val) : s.cmdTpdoSend t = s.tpdoOut t := by
  have never : (s.doors.tpdoTimes.find? fun e => e.1 == t.val) = none :=
    List.find?_eq_none.2 fun e he same => fresh e he (beq_iff_eq.1 same)
  have late : ¬ s.get (.tpdo t .transType) ≤ 240 := Nat.not_le.2 typ
  have event : ¬ s.get (.tpdo t .transType) = 0 := by omega
  simp only [State.cmdTpdoSend, flows, valid, late, event, never, Option.all_none, Bool.not_true, Bool.or_self, Bool.false_eq_true,
    if_false, if_true]

end

theorem State.Same.posting {t : State} {idx sub : Nat} (h : s.Same t) : (s.posting idx sub).Same (t.posting idx sub) := by
  rw [State.posting, State.posting, h.reads (·.doors) rfl]
  refine h.forEach fun x k => ?_
  split
  · exact k
  · exact k.doorEffect

theorem tpdoData_fresh (t : Fin 8) : s.fresh.tpdoData t = s.tpdoData t := by
  have blind (idx sub : Nat) : (s.fresh.posting idx sub).entryBytes (callerAt .can) idx sub false =
      (s.posting idx sub).entryBytes (callerAt .can) idx sub false :=
    (State.Same.mk [] []).posting.reads (·.entryBytes (callerAt .can) idx sub false) rfl
  simp only [State.tpdoData, blind]
  rfl

theorem tpdoOut_fresh (t : Fin 8) : s.fresh.tpdoOut t =
    (s.fresh.sendCan (s.get (.tpdo t .cobId) % 2048) (s.tpdoData t)).modDoors fun x =>
      { x with tpdoTimes := Table.put id 0 x.tpdoTimes t.val s.time.elapsed } := by
  rw [State.tpdoOut, tpdoData_fresh]
  rfl

end

/-- Settles O27: transfers by what they find of their run, NMT and PDOs by the controller's state. -/
theorem canCommands : Obligations.CanCommands := by
  intro s on
  refine ⟨fun serves => ⟨fun idx sub remote r b hr hb fine lo hi => ?short, fun idx sub remote r b hr hb fine many => ?long,
    fun idx sub b r hr => ?download, fun idx sub takes => ?start, fun x toggle u takes run up same hu => ?upload,
    fun x toggle b takes run down same => ?segment, fun x toggle b r takes run down same hr fine => ?last,
    fun x toggle seg busy run => next_of_core on (cmdSdoSegment_of_busy (s := s.fresh) serves busy run),
    fun x takes run => next_of_core on (cmdSdoSegmentTimeout_of_run (s := s.fresh) serves takes run)⟩,
    next_of_core on rfl,
    fun node obeys => ⟨next_of_core on (if_pos obeys), next_of_core on (if_pos obeys), next_of_core on (if_pos obeys),
      next_of_core on (if_pos obeys), next_of_core on (if_pos obeys)⟩,
    fun obeys time => next_of_core on (if_pos ⟨obeys, time⟩),
    fun flows => ⟨fun r b valid opened sync =>
        next_of_core on ((cmdRpdoReceive_of_flow (s := s.fresh) flows valid opened).trans (if_pos sync)),
      fun r b valid opened event =>
        next_of_core on ((cmdRpdoReceive_of_flow (s := s.fresh) flows valid opened).trans (if_neg (Nat.not_le.2 event))),
      fun t valid typ => next_of_core on (cmdTpdoSend_of_sync (s := s.fresh) flows valid typ),
      fun t valid typ never => next_of_core on ((cmdTpdoSend_of_event (s := s.fresh) flows valid typ never).trans (tpdoOut_fresh t))⟩,
    fun r => next_of (whenCore_of_unchanged rfl)⟩
  case short => exact next_of_core on ((cmdSdoUpload_of_read (s := s.fresh) serves hr hb fine).trans (if_pos ⟨lo, hi⟩))
  case long =>
    refine next_of_core on ((cmdSdoUpload_of_read (s := s.fresh) serves hr hb fine).trans (if_neg ?_))
    omega
  case download =>
    have written := cmdSdoDownload_expedited (s := s.fresh) serves hr
    exact ⟨fun fine => next_of_core on (written.trans (sdoWritten_done _ fine)),
      fun refused answered => next_of_core on (written.trans (sdoWritten_refused _ refused answered)),
      fun waits => next_of_core on (written.trans (sdoWritten_waits _ waits))⟩
  case start => exact next_of_core on (cmdSdoDownload_segmented (s := s.fresh) serves takes)
  case upload =>
    subst same
    have sent := cmdSdoSegment_upload (s := s.fresh) serves takes run up hu
    exact ⟨fun more => next_of_core on (sent.trans (if_neg (Nat.not_le.2 more))), fun done => next_of_core on (sent.trans (if_pos done))⟩
  case segment =>
    subst same
    exact next_of_core on (cmdSdoSegment_download (s := s.fresh) (last := false) serves takes run down rfl)
  case last =>
    subst same
    exact next_of_core on ((cmdSdoSegment_download (s := s.fresh) (last := true) serves takes run down hr).trans
      (sdoWritten_done _ fine))

end Sys2Proof.Machine
end
